-- ==== Sys2Proof/Word.lean ====
section
/-! DEFINITION. The word types of the J1280 model and the type of its sparse tables. -/
namespace Sys2Proof

/-- One byte. -/
abbrev Byte := BitVec 8
/-- A 32-bit register or word. -/
abbrev W32 := BitVec 32
/-- A 64-bit word. -/
abbrev W64 := BitVec 64
/-- A 48-bit fabric address (R15). -/
abbrev FAddr := BitVec 48

/-- A sparse table: key and value pairs, keys strictly rising in the canonical form. -/
abbrev SMap (α : Type) := List (Nat × α)

end Sys2Proof
end

