-- ==== Sys2Proof/Machine/Flags.lean ====
section
/-! DEFINITION. Integer arithmetic and flags of the Eowift instruction set at width w (R571, R578-R582), and the steps of pointers
(R515, R516). -/
namespace Sys2Proof.Machine

/-- The low `w` bits. -/
def lowBits (w v : Nat) : Nat := v % 2 ^ w
/-- A `w`-bit number taken as signed. -/
def sgn (w v : Nat) : Int := if v % 2 ^ w < 2 ^ (w - 1) then (v % 2 ^ w : Nat) else ((v % 2 ^ w : Nat) : Int) - 2 ^ w
/-- The `w` bits of a signed number. -/
def ofSgn (w : Nat) (x : Int) : Nat := (x % (2 ^ w : Int)).toNat
/-- A signed number fits in `w` bits. -/
def fits (w : Nat) (x : Int) : Bool := decide (-(2 ^ (w - 1) : Int) ≤ x ∧ x < 2 ^ (w - 1))
/-- Bit `k`. -/
def bitOf (v k : Nat) : Bool := v / 2 ^ k % 2 == 1
/-- fl from its bits. -/
def mkFl (z n c v : Bool) : BitVec 4 :=
  BitVec.ofNat 4 ((if z then 1 else 0) + (if n then 2 else 0) + (if c then 4 else 0) + (if v then 8 else 0))
/-- Z -/
def flZ (f : BitVec 4) : Bool := f.getLsbD 0
/-- N -/
def flN (f : BitVec 4) : Bool := f.getLsbD 1
/-- C -/
def flC (f : BitVec 4) : Bool := f.getLsbD 2
/-- V -/
def flV (f : BitVec 4) : Bool := f.getLsbD 3
/-- fl with Z and N of a `w`-bit result (R580). -/
def flOf (w r : Nat) (c v : Bool) : BitVec 4 := mkFl (r % 2 ^ w == 0) (bitOf r (w - 1)) c v

/-- Sum with a carry in, and its flags. -/
def addFl (w a b : Nat) (cin : Bool) : Nat × BitVec 4 :=
  let k := if cin then 1 else 0
  let s := lowBits w a + lowBits w b + k
  let r := s % 2 ^ w
  (r, flOf w r (decide (2 ^ w ≤ s)) (!fits w (sgn w a + sgn w b + k)))
/-- Difference with a borrow in, and its flags. -/
def subFl (w a b : Nat) (cin : Bool) : Nat × BitVec 4 :=
  let k : Nat := if cin then 1 else 0
  let r := ofSgn w ((lowBits w a : Int) - lowBits w b - k)
  (r, flOf w r (decide (lowBits w a < lowBits w b + k)) (!fits w (sgn w a - sgn w b - k)))
/-- The flags of a logic result. -/
def logicFl (w r : Nat) : Nat × BitVec 4 := (lowBits w r, flOf w r false false)

/-- The shifts. -/
inductive ShOp where
  | shl | shr | sar | rol
deriving DecidableEq, Repr
/-- A shift by a count that is not 0, and its flags. -/
def shiftFl (o : ShOp) (w a n : Nat) : Nat × BitVec 4 :=
  let a := lowBits w a
  match o with
  | .shl => let r := a * 2 ^ n % 2 ^ w; (r, flOf w r (bitOf a (w - n)) false)
  | .shr => let r := a / 2 ^ n; (r, flOf w r (bitOf a (n - 1)) false)
  | .sar => let r := ofSgn w (sgn w a / 2 ^ n); (r, flOf w r (bitOf a (n - 1)) false)
  | .rol => let r := (a * 2 ^ n % 2 ^ w) + a / 2 ^ (w - n); (r, flOf w r (bitOf a (w - n)) false)

/-- The low half of a product, and its flags. -/
def mulFl (w a b : Nat) : Nat × BitVec 4 :=
  let p := sgn w a * sgn w b
  let r := ofSgn w p
  let c := !fits w p
  (r, flOf w r c c)
/-- The high half of the signed product. -/
def mulhFl (w a b : Nat) : Nat × BitVec 4 := logicFl w (ofSgn w (sgn w a * sgn w b / 2 ^ w))
/-- The high half of the unsigned product. -/
def mulhuFl (w a b : Nat) : Nat × BitVec 4 := logicFl w (lowBits w a * lowBits w b / 2 ^ w)

/-- The divisions. -/
inductive DivOp where
  | div | divu | rem | remu
deriving DecidableEq, Repr
/-- A division by a number that is not 0, and its flags (R582). -/
def divFl (o : DivOp) (w a b : Nat) : Nat × BitVec 4 :=
  let most := decide (sgn w a = -(2 ^ (w - 1) : Int) ∧ sgn w b = -1)
  match o with
  | .div => let r := ofSgn w ((sgn w a).tdiv (sgn w b)); (r, flOf w r false most)
  | .rem => let r := ofSgn w ((sgn w a).tmod (sgn w b)); (r, flOf w r false most)
  | .divu => let r := lowBits w a / lowBits w b; (r, flOf w r false false)
  | .remu => let r := lowBits w a % lowBits w b; (r, flOf w r false false)

/-- Leading zero bits of a `w`-bit number. -/
def clz (w v : Nat) : Nat := ((List.range (w + 1)).find? (fun n => decide (2 ^ (w - n) ≤ 2 * lowBits w v)) |>.getD w)
/-- One bits of a `w`-bit number. -/
def popc (w v : Nat) : Nat := ((List.range w).filter (bitOf v)).length
/-- The bytes of a `w`-bit number in reverse order. -/
def bswap (w v : Nat) : Nat := ((List.range (w / 8)).map (fun k => v / 2 ^ (8 * k) % 256 * 2 ^ (w - 8 - 8 * k))).sum
/-- The flags of a count. -/
def countFl (w r : Nat) : Nat × BitVec 4 := (r, mkFl (r % 2 ^ w == 0) false false false)

/-- A pointer stepped under a mask (R515). -/
def ptrStep (p : W32) (m : BitVec 17) (s : Nat) : W32 :=
  let q := p + BitVec.ofNat 32 s
  if m = 0 then q else (p &&& ~~~(m.setWidth 32)) ||| (q &&& m.setWidth 32)
/-- What a write of a value to xm or ym stores (R516). -/
def maskOfWrite (v : BitVec 17) : BitVec 17 :=
  BitVec.ofNat 17 (if v = 0 then 0 else 2 ^ (Nat.log2 v.toNat + 1) - 1)

/-- The conditions of Bcc (R575). -/
def condHolds (k : Nat) (f : BitVec 4) : Bool :=
  match k with
  | 0 => flZ f
  | 1 => !flZ f
  | 2 => flN f != flV f
  | 3 => flN f == flV f
  | 4 => flZ f || flN f != flV f
  | 5 => !flZ f && flN f == flV f
  | 6 => flC f
  | 7 => !flC f
  | 8 => flC f || flZ f
  | 9 => !flC f && !flZ f
  | 10 => flN f
  | 11 => !flN f
  | 12 => flV f
  | _ => !flV f

/-- An accumulator shifted right arithmetically and saturated to the signed 64-bit range, with its flags (R589). -/
def rdaFl (ac : BitVec 80) (n : Nat) : Nat × BitVec 4 :=
  let x := ac.toInt / 2 ^ n
  let r := if fits 64 x then x else if x < 0 then -(2 ^ 63 : Int) else 2 ^ 63 - 1
  (ofSgn 64 r, flOf 64 (ofSgn 64 r) false (!fits 64 x))
/-- The sum of products of MACD (R594). -/
def macdSum (lane4 : Bool) (x y : Nat) : Int :=
  if lane4 then ((List.range 4).map (fun k => sgn 16 (x / 2 ^ (16 * k)) * sgn 16 (y / 2 ^ (16 * k)))).sum
  else sgn 32 x * sgn 32 y + sgn 32 (x / 2 ^ 32) * sgn 32 (y / 2 ^ 32)

end Sys2Proof.Machine
end

