-- ==== Sys2Proof/Syntax.lean ====
section
/-! DEFINITION. The commands of the J1280 block: one constructor per row of the spec's opcode table, in the table's order,
with the operands that a sender, or the world outside the modelled registers, supplies. -/
namespace Sys2Proof

/-- One Big Top transaction (R15). `len1` is the length in bytes minus one, so every value is one of 1 to 256. -/
structure Txn where
  /-- the name by which later commands speak of the transaction -/
  id : BitVec 16
  /-- requesting port (R13) -/
  port : BitVec 6
  /-- service class C0 to C3 -/
  cls : BitVec 2
  /-- tenant tag (R28) -/
  tag : BitVec 6
  /-- a write -/
  write : Bool
  /-- fabric address of the first byte -/
  addr : FAddr
  /-- length minus one -/
  len1 : BitVec 8
  /-- write data, byte k in bits [8k+7:8k] -/
  data : BitVec 2048
deriving DecidableEq, Repr

/-- A request that may be promoted by age (R26), by the arbiter at which it waits. -/
inductive AgedReq where
  /-- an outstanding fabric transaction -/
  | fabric (id : BitVec 16)
  /-- a queued flash operation -/
  | flash (id : BitVec 16)
  /-- a queued lane job, by its name -/
  | lane (id : BitVec 32)
  /-- the queued search request of a bank at a place of its queue -/
  | search (bank : BitVec 3) (k : BitVec 6)
  /-- the oldest write of a line in a DRAM write queue, by its fabric address -/
  | dramWrite (addr : FAddr)
  /-- a ticket request of another holder, by its place among the waiting ones -/
  | ticket (k : BitVec 16)
deriving DecidableEq, Repr

/-- The kinds of data descriptor of a command (R169). -/
inductive DescKind where
  /-- a PRP entry -/
  | prp
  /-- an SGL Data Block descriptor -/
  | dataBlock
  /-- an SGL Segment or Last Segment descriptor -/
  | segment (last : Bool)
  /-- an SGL Bit Bucket descriptor -/
  | bitBucket
  /-- a keyed SGL descriptor -/
  | keyed
deriving DecidableEq, Repr

/-- A data descriptor of a command: a PRP entry or an SGL descriptor, with the host address and the length it names. -/
structure Desc where
  /-- kind -/
  kind : DescKind
  /-- host address -/
  addr : W64
  /-- length in bytes -/
  len : W32
deriving DecidableEq, Repr

/-- What a command of the Computational Programs or the Subsystem Local Memory command set asks for (R107, R619-R625). -/
inductive ProgOp where
  /-- Load Program: slot, image size, offset, and the bytes of this piece -/
  | load (slot : BitVec 6) (size off : W32) (data : List Byte)
  /-- Program Activation Management -/
  | activate (slot : BitVec 6) (act : Bool)
  /-- Execute Program: slot, memory range set (base, size, write permission), transit namespace, parameters -/
  | execute (slot : BitVec 6) (ranges : List (W64 × W64 × Bool)) (transit : Option (FAddr × W32)) (params : List Byte)
  /-- Read Memory -/
  | readMem (transit : Option (FAddr × W32)) (off : W64) (len : W32)
  /-- Write Memory -/
  | writeMem (transit : Option (FAddr × W32)) (off : W64) (data : List Byte)
  /-- Memory Copy -/
  | copy (toMem : Bool) (nsid : W32) (slba : W64) (count : W32) (transit : Option (FAddr × W32)) (off : W64)
deriving DecidableEq, Repr

/-- A command as the command engine fetches it: the NVMe submission queue entry, or a local queue slot's fields. -/
structure Sqe where
  /-- opcode -/
  opc : BitVec 8
  /-- FUSE -/
  fuse : BitVec 2
  /-- command identifier, or local queue tag -/
  cid : BitVec 16
  /-- NSID -/
  nsid : W32
  /-- first LBA -/
  slba : W64
  /-- number of LBAs: NLB + 1, or the NLB of a local queue command -/
  count : W32
  /-- deallocate: DEAC of Write Zeroes, AD of Dataset Management -/
  deac : Bool
  /-- ORD of a local queue command -/
  ord : Bool
  /-- ranges of a Dataset Management: first LBA and count -/
  ranges : List (W64 × W32)
  /-- local queue buffer: window and byte offset -/
  buf : BitVec 3 × W32
  /-- in-capsule data, or the host's compare data, as offset and byte pairs -/
  data : Option (List (Nat × Byte))
  /-- the data pointer: the descriptors in their order (R169) -/
  ptrs : List Desc
  /-- a separate metadata buffer through MPTR (R169) -/
  mptr : Bool
  /-- the protection information check of read data (R171): 0 passes, 1 guard, 2 application tag, 3 reference tag -/
  pi : BitVec 2
  /-- the command of a compute or memory namespace that this is, if any -/
  prog : Option ProgOp
  /-- host memory takes its completion entry (R152) -/
  posted : Bool
deriving DecidableEq, Repr

/-- How a read of host memory for write data ends (R170, R171). -/
inductive PullRes where
  | ok | timeout | poisoned | unsupported | piGuard | piApp | piRef
deriving DecidableEq, Repr

/-- A TCP connection as its packets name it (R182-R184). -/
structure Flow where
  /-- IPv6; an IPv4 address stands in the low 32 bits -/
  v6 : Bool
  /-- source address: the peer's -/
  src : BitVec 128
  /-- destination address: the device's -/
  dst : BitVec 128
  /-- source TCP port -/
  sport : BitVec 16
  /-- destination TCP port -/
  dport : BitVec 16
  /-- VLAN ID, 0 if untagged -/
  vlan : BitVec 12
  /-- logical port 0-31: 8 * physical port + logical index -/
  lport : BitVec 5
deriving DecidableEq, Repr

/-- What a received Ethernet frame carries beside its packet (R179). -/
structure Frame where
  /-- length in bytes -/
  len : Nat
  /-- 802.1Q tags -/
  tags : Nat
  /-- destination MAC address -/
  mac : BitVec 48
  /-- the ECN field says Congestion Experienced -/
  ce : Bool
deriving DecidableEq, Repr

/-- The TCP options of a connection (R181): of its SYN what the peer offers, of a session what was agreed. -/
structure TcpOpts where
  /-- maximum segment size -/
  mss : BitVec 16
  /-- window scale -/
  wscale : Option (BitVec 4)
  /-- selective acknowledgement -/
  sack : Bool
  /-- timestamps -/
  stamps : Bool
  /-- ECN -/
  ecn : Bool
deriving DecidableEq, Repr

/-- The cipher suites of a TLS 1.3 handshake (R195). -/
inductive TlsSuite where
  | aes128GcmSha256 | aes256GcmSha384 | other
deriving DecidableEq, Repr

/-- The record keys that firmware installs in a session (R185, R195, R196). -/
structure TlsKeys where
  /-- cipher suite -/
  suite : TlsSuite
  /-- keys of the two directions: receive and transmit -/
  keys : BitVec 256 × BitVec 256
  /-- initialisation vectors of the two directions -/
  ivs : BitVec 96 × BitVec 96
  /-- sequence numbers of the next records -/
  seqs : W64 × W64
deriving DecidableEq, Repr

/-- The session that firmware resumes, and the keys of a key update (R196). -/
structure Rekey where
  /-- session number -/
  sess : BitVec 14
  /-- new keys, if any -/
  keys : Option TlsKeys
deriving DecidableEq, Repr

/-- An MCTP request on the sideband (R175, R176): the target address, the message, and its PEC. -/
structure MctpReq where
  /-- target address -/
  addr : BitVec 7
  /-- the message -/
  req : W32
  /-- packet error code -/
  pec : BitVec 8
deriving DecidableEq, Repr

/-- What a received TCP segment holds (R179-R197). -/
inductive SegKind where
  /-- an IP fragment -/
  | fragment
  /-- data or acknowledgement that hardware takes in: its sequence number, its length, and the number it acknowledges -/
  | good (seq : W32) (len : BitVec 16) (ack : W32)
  /-- a PDU whose header digest fails -/
  | badHdgst
  /-- a TLS record of another content type than application data -/
  | record (alert : Bool)
  /-- a TLS record whose authentication tag fails -/
  | badTag
  /-- a PDU that breaks the format rules -/
  | badPdu
deriving DecidableEq, Repr

/-- The fields of a media profile image whose places in it the spec leaves out (R291). -/
structure ProfBody where
  /-- blocks per die -/
  blocks : Nat
  /-- native pages per block -/
  pages : Nat
  /-- SLC pages per block -/
  pagesSlc : Nat
  /-- spare bytes of each 16 KiB page -/
  spare : Nat
  /-- MAX_RATE in MT/s -/
  maxRate : Nat
  /-- EXT_RATE -/
  ext : Bool
  /-- tR, tPROG native, tPROG SLC, tBERS: typical, in microseconds -/
  tTyp : Nat × Nat × Nat × Nat
  /-- tR, tPROG native, tPROG SLC, tBERS: maximum, in microseconds -/
  tMax : Nat × Nat × Nat × Nat
  /-- rated cycles, native and SLC -/
  endurance : Nat × Nat
  /-- READ_MW, PROG_MW, ERASE_MW -/
  mw : Nat × Nat × Nat
  /-- INRUSH_MW -/
  inrush : Nat
  /-- LDPC parity bytes per codeword -/
  parity : Nat
  /-- program suspend and erase suspend allowed -/
  suspend : Bool × Bool
  /-- SUSPEND_MAX -/
  suspendMax : Nat
  /-- RESUME_MIN in microseconds -/
  resumeMin : Nat
  /-- SPARE_DIES -/
  spares : BitVec 16
deriving DecidableEq, Repr

/-- A cartridge as a bring-up finds it (R287-R294). -/
structure Cart where
  /-- the dies that answered, in die-number order: position in the booth, unique ID, manufacturer ID, device ID bytes -/
  dies : List (BitVec 7 × BitVec 128 × BitVec 8 × BitVec 48)
  /-- for each channel of the booth, the rates in units of 100 MT/s at which training passes -/
  rates : List (BitVec 3 × List Nat)
  /-- blocks with a factory bad-block mark: position and block -/
  badBlocks : List (BitVec 7 × BitVec 12)
deriving DecidableEq, Repr

/-- How a flash operation ends at its die (R300, R314-R316). -/
inductive FlashRes where
  /-- a read whose codewords decoded: the number that decoded at rung 0, at rung 1 or 2 and at a retry rung, and the highest
  rung used -/
  | decoded (n0 n12 nr rung : Nat)
  /-- a codeword failed the ladder; whether the page's parity record, if one is read, turns out to hold an uncorrectable word (R324) -/
  | failedLadder (recordLost : Bool)
  /-- a program or erase ended with success -/
  | done
  /-- a program or erase ended with a failure status -/
  | failed
deriving DecidableEq, Repr

/-- What a lane reports at a job's end (R357): the coding itself is the lane's. -/
structure JobRes where
  /-- STATUS -/
  status : BitVec 8
  /-- TRAILING -/
  trailing : Bool
  /-- the stream ended in this job -/
  ended : Bool
  /-- IN_USED -/
  inUsed : BitVec 24
  /-- OUT_USED -/
  outUsed : BitVec 24
  /-- CRC -/
  crc : W32
  /-- output bytes written, by offset -/
  out : List (Nat × Byte)
  /-- the address whose access failed, or of the failing byte -/
  addr : FAddr
  /-- the access that failed was of the save of the slot -/
  atSave : Bool := false
  /-- PEND_N of the slot -/
  pendN : BitVec 3 := 0
  /-- PEND_BITS -/
  pendBits : BitVec 7 := 0
  /-- PEND_LEN -/
  pendLen : BitVec 9 := 0
  /-- PEND_DIST -/
  pendDist : BitVec 17 := 0
deriving DecidableEq, Repr

/-- The bytes of an Eowift instruction around its opcode (R560): the decoder reads no others; and what the world outside adds to its
execution. -/
structure Enc where
  /-- prefix bytes, first first -/
  pre : List Byte
  /-- register byte -/
  reg : Byte
  /-- mode byte -/
  mode : Byte
  /-- displacement, in its low bytes -/
  disp : W32
  /-- immediate, or branch displacement, in its low bytes -/
  imm : W64
  /-- a cached line it is fetched from shows a parity error (R524) -/
  par : Bool
  /-- words with code errors that its reads of memory beside the core meet: address, uncorrectable (R525) -/
  errs : List (FAddr × Bool)
  /-- a repeat is left open to other events after this many iterations (R603) -/
  cut : Option W32
deriving DecidableEq, Repr

--BEGIN INSTR
/-- The commands. -/
inductive Instr where
  -- register pages (chapter 2)
  | registerWrite (port tag : BitVec 6) (off : BitVec 25) (len1 : BitVec 8) (data : W64) -- REGISTER_WRITE
  | evtSet (port : BitVec 6) (page : BitVec 13) (v : W32) -- EVT_SET
  | evtClr (port : BitVec 6) (page : BitVec 13) (v : W32) -- EVT_CLR
  | evtEnWrite (port : BitVec 6) (page : BitVec 13) (v : W32) -- EVT_EN_WRITE
  | errPop (port : BitVec 6) (page : BitVec 13) -- ERR_POP
  | clrOvf (port : BitVec 6) (page : BitVec 13) -- CLR_OVF
  | unitResetSoft (port : BitVec 6) (page : BitVec 13) (key : BitVec 16) -- UNIT_RESET_SOFT
  | unitResetHard (port : BitVec 6) (page : BitVec 13) (key : BitVec 16) -- UNIT_RESET_HARD
  | unitResetRecover (port : BitVec 6) (page : BitVec 13) (key : BitVec 16) -- UNIT_RESET_RECOVER
  | lockWrite (port : BitVec 6) (page : BitVec 13) (v : W32) -- LOCK_WRITE
  | usecLoRead (port : BitVec 6) (wide : Bool) -- USEC_LO_READ
  | loHalfRead (port : BitVec 6) (off : BitVec 25) (wide : Bool) -- LO_HALF_READ
  | bar2Access (write : Bool) (off : BitVec 25) (len1 : BitVec 8) (data : W64) -- BAR2_ACCESS
  -- the Big Top (chapter 1)
  | fabricTransaction (t : Txn) (answers : Bool) (errs : List (FAddr × Bool)) -- FABRIC_TRANSACTION
  | busyReissue (id : BitVec 16) -- BUSY_REISSUE
  | btTimeout (id : BitVec 16) -- BT_TIMEOUT
  | lateResponse (id : BitVec 16) -- LATE_RESPONSE
  | agePromotion (r : AgedReq) -- AGE_PROMOTION
  | routeSubst (route : BitVec 8) -- ROUTE_SUBST
  -- the command engine (chapter 3)
  | qcCmdCopy (port : BitVec 6) -- QC_CMD_COPY
  | qcCmdWrite (port : BitVec 6) -- QC_CMD_WRITE
  | fetchStopWrite (port : BitVec 6) (stop : Bool) -- FETCH_STOP_WRITE
  | tenantReset (port : BitVec 6) (tenant : BitVec 6) (key : BitVec 16) -- TENANT_RESET
  | resetDone -- RESET_DONE
  | nsDataWrite (port : BitVec 6) (v : W32) -- NS_DATA_WRITE
  | vfBindWrite (port : BitVec 6) (t : BitVec 6) (v : W32) -- VF_BIND_WRITE
  | sqTailDoorbell (cntlid qid v : BitVec 16) -- SQ_TAIL_DOORBELL
  | cqHeadDoorbell (cntlid qid v : BitVec 16) -- CQ_HEAD_DOORBELL
  | laneFetchSlot (lane : BitVec 4) (entry : Option Sqe) -- LANE_FETCH_SLOT
  | adminFetch (cntlid : BitVec 16) (entry : Option (BitVec 16 × Bool)) -- ADMIN_FETCH
  | sequenceAssign -- SEQUENCE_ASSIGN
  | sequencerResume -- SEQUENCER_RESUME
  | commandUnblock (seq : W64) -- COMMAND_UNBLOCK
  | orderedStart (seq : W64) -- ORDERED_START
  | read (qc : BitVec 14) (e : Sqe) -- READ
  | write (qc : BitVec 14) (e : Sqe) -- WRITE
  | writeZeroes (qc : BitVec 14) (e : Sqe) -- WRITE_ZEROES
  | compare (qc : BitVec 14) (e : Sqe) -- COMPARE
  | verify (qc : BitVec 14) (e : Sqe) -- VERIFY
  | datasetManagement (qc : BitVec 14) (e : Sqe) -- DATASET_MANAGEMENT
  | flush (qc : BitVec 14) (e : Sqe) -- FLUSH
  | flushComplete (seq : W64) (posted : Bool) -- FLUSH_COMPLETE
  | orderedWrite (qc : BitVec 14) (e : Sqe) -- ORDERED_WRITE
  | orderedRead (qc : BitVec 14) (e : Sqe) -- ORDERED_READ
  | orderedFlush (qc : BitVec 14) (e : Sqe) -- ORDERED_FLUSH
  | abort (qc : BitVec 14) (cid sqid target : BitVec 16) -- ABORT
  | setFeaturesOrderedQueue (qc : BitVec 14) (cid : BitVec 16) (cdw11 : W32) -- SET_FEATURES_ORDERED_QUEUE
  | getFeaturesOrderedQueue (qc : BitVec 14) (cid : BitVec 16) (cdw11 : W32) -- GET_FEATURES_ORDERED_QUEUE
  | setFeaturesFetchSequenceReport (qc : BitVec 14) (cid : BitVec 16) (cdw11 : W32) -- SET_FEATURES_FETCH_SEQUENCE_REPORT
  | setFeaturesPowerManagement (qc : BitVec 14) (cid : BitVec 16) (ps : BitVec 5) -- SET_FEATURES_POWER_MANAGEMENT
  | interruptCoalescing (qc : BitVec 14) (cid : BitVec 16) (cdw11 : W32) -- INTERRUPT_COALESCING
  | interruptVectorConfiguration (qc : BitVec 14) (cid : BitVec 16) (cdw11 : W32) -- INTERRUPT_VECTOR_CONFIGURATION
  | doorbellBufferConfig (qc : BitVec 14) (cid : BitVec 16) -- DOORBELL_BUFFER_CONFIG
  | virtualizationManagement (qc : BitVec 14) (cid : BitVec 16) -- VIRTUALIZATION_MANAGEMENT
  | createIoSubmissionQueue (qc : BitVec 14) (cid : BitVec 16) (ctx : BitVec 14) (rec : BitVec 512) -- CREATE_IO_SUBMISSION_QUEUE
  | createIoCompletionQueue (qc : BitVec 14) (cid : BitVec 16) (ctx : BitVec 14) (rec : BitVec 512) -- CREATE_IO_COMPLETION_QUEUE
  | deleteIoSubmissionQueue (qc : BitVec 14) (cid sqid : BitVec 16) -- DELETE_IO_SUBMISSION_QUEUE
  | deleteIoCompletionQueue (qc : BitVec 14) (cid cqid : BitVec 16) -- DELETE_IO_COMPLETION_QUEUE
  | namespaceManagement (qc : BitVec 14) (cid : BitVec 16) (nsx : BitVec 10) (tenant : BitVec 6) (shift12 : Bool) (lbas : W64) (entry : BitVec 5) -- NAMESPACE_MANAGEMENT
  | firmwareCommit (qc : BitVec 14) (cid : BitVec 16) (slot : Bool) (noReset : Bool) (imageOk : Bool) (svn : BitVec 8) -- FIRMWARE_COMMIT
  | activationTimeout -- ACTIVATION_TIMEOUT
  | formatNvm (qc : BitVec 14) (cid : BitVec 16) (nsid : W32) (shift12 : Bool) (ses : BitVec 2) -- FORMAT_NVM
  | sanitize (qc : BitVec 14) (cid : BitVec 16) (act : BitVec 3) (passes : BitVec 4) (pattern : W32) (invert ndas : Bool) -- SANITIZE
  | vfFlr (vf : BitVec 6) -- VF_FLR
  | pfFlr (pfB : Bool) -- PF_FLR
  | ccEnClear (cntlid : BitVec 16) -- CC_EN_CLEAR
  | nvmSubsystemReset (pfB : Bool) -- NVM_SUBSYSTEM_RESET
  | laneCheck (lane : BitVec 4) -- LANE_CHECK
  | laneReturn (lane : BitVec 4) (pass : Bool) -- LANE_RETURN
  | laneSatWindow -- LANE_SAT_WINDOW
  | lqDoorbell (ctx : BitVec 12) (v : W32) -- LQ_DOORBELL
  | lqCompletionHead (ctx : BitVec 12) (v : W32) -- LQ_COMPLETION_HEAD
  | lqFlush (ctx : BitVec 12) (cmd : BitVec 256) -- LQ_FLUSH
  | lqWrite (ctx : BitVec 12) (cmd : BitVec 256) -- LQ_WRITE
  | lqRead (ctx : BitVec 12) (cmd : BitVec 256) -- LQ_READ
  | lqDeallocate (ctx : BitVec 12) (cmd : BitVec 256) -- LQ_DEALLOCATE
  -- the ports (chapter 4)
  | hostDataPull (seq : W64) (piece : BitVec 16) (off len : BitVec 20) (data : List (Nat × Byte)) (res : PullRes) -- HOST_DATA_PULL
  | pieceDurable (seq : W64) (piece : BitVec 16) (data : List (Nat × Byte)) (posted : Bool) -- PIECE_DURABLE
  | stagingReservation (first : BitVec 17) -- STAGING_RESERVATION
  | wpoolWait (seq : W64) (piece : BitVec 16) -- WPOOL_WAIT
  | wpoolWrite (port : BitVec 6) (v : W32) -- WPOOL_WRITE
  | perstAssert -- PERST_ASSERT
  | perstDeassert (split : Bool) -- PERST_DEASSERT
  | linkDown (l : BitVec 1) -- LINK_DOWN
  | linkUp (l : BitVec 1) (rate : BitVec 3) (width : BitVec 5) -- LINK_UP
  | l12Entry (l : BitVec 1) -- L1_2_ENTRY
  | l12Exit (l : BitVec 1) -- L1_2_EXIT
  | basicManagementCommand -- BASIC_MANAGEMENT_COMMAND
  | mctpRequest (req : MctpReq) -- MCTP_REQUEST
  | smbusReset -- SMBUS_RESET
  | syn (flow : Flow) (frame : Frame) (opts : TcpOpts) -- SYN
  | segmentReceive (flow : Flow) (frame : Frame) (kind : SegKind) -- SEGMENT_RECEIVE
  | tlsHandshake (sess : BitVec 14) (keys : Option TlsKeys) -- TLS_HANDSHAKE
  | icreq (sess : BitVec 14) (pfv : BitVec 16) (hpda : BitVec 8) (hdgst ddgst : Bool) (maxR2t : BitVec 32) -- ICREQ
  | fabricsConnect (sess : BitVec 14) (admin nqnOk : Bool) (cntlid : BitVec 16) (kato : BitVec 16) (ctx : BitVec 14) (rec : BitVec 512) -- FABRICS_CONNECT
  | propertySet (sess : BitVec 14) (cid : BitVec 16) (off : BitVec 16) (v : W32) -- PROPERTY_SET
  | commandCapsule (sess : BitVec 14) (e : Sqe) (dataLen sglLen : BitVec 21) (ddgst : W32) (formatOk : Bool) -- COMMAND_CAPSULE
  | h2cData (sess : BitVec 14) (cid : BitVec 16) (off len : BitVec 21) (data : List (Nat × Byte)) (ddgst : W32) (formatOk : Bool) -- H2CDATA
  | tlsResume (rekey : Rekey) -- TLS_RESUME
  | icreqTimeout (sess : BitVec 14) -- ICREQ_TIMEOUT
  | h2cTimeout (sess : BitVec 14) -- H2C_TIMEOUT
  | keepAliveTimeout (cntlid : BitVec 16) -- KEEP_ALIVE_TIMEOUT
  | retransmissionTimeout (sess : BitVec 14) -- RETRANSMISSION_TIMEOUT
  | connectionClose (sess : BitVec 14) -- CONNECTION_CLOSE
  | fpModeWrite (port : BitVec 6) (p : BitVec 2) (v : W32) -- FP_MODE_WRITE
  | sessionInstall (sess : BitVec 14) (flow : Flow) (opts : TcpOpts) (irs iss : W32) (tls : Bool) -- SESSION_INSTALL
  | sessionNumberReuse (sess : BitVec 14) -- SESSION_NUMBER_REUSE
  -- flash translation (chapter 5)
  | compressUnit (nsx : BitVec 10) (unit : BitVec 40) -- COMPRESS_UNIT
  | pageFillTimeout (die : BitVec 10) (block : BitVec 12) -- PAGE_FILL_TIMEOUT
  | pieceCommit (seq : W64) (piece : BitVec 16) -- PIECE_COMMIT
  | verifyBlock (die : BitVec 10) (block : BitVec 12) -- VERIFY_BLOCK
  | verifyDone (die : BitVec 10) (block : BitVec 12) (named : List (BitVec 18)) (rebuilt : Bool) -- VERIFY_DONE
  | reclaimSelect -- RECLAIM_SELECT
  | sourceErase (die : BitVec 10) (block : BitVec 12) -- SOURCE_ERASE
  | retireDie (die : BitVec 10) (readable : List (BitVec 12)) -- RETIRE_DIE
  | checkpointSegment (copiesLost : BitVec 2) -- CHECKPOINT_SEGMENT
  | mapRebuild (intact : W64) (copiesLost : BitVec 2) -- MAP_REBUILD
  | rebuildDone -- REBUILD_DONE
  | bootVerify (die : BitVec 10) (block : BitVec 12) (named : List (BitVec 18)) -- BOOT_VERIFY
  | wearSummary -- WEAR_SUMMARY
  | sanitizeStep -- SANITIZE_STEP
  | sanitizeDone (failed : List (BitVec 22)) -- SANITIZE_DONE
  -- media channels (chapter 6)
  | flashRead (die : BitVec 10) (block page : BitVec 12) (cls : BitVec 2) (rung : BitVec 5) -- FLASH_READ
  | flashProgram (die : BitVec 10) (block page : BitVec 12) (cls : BitVec 2) -- FLASH_PROGRAM
  | flashErase (die : BitVec 10) (block : BitVec 12) (cls : BitVec 2) -- FLASH_ERASE
  | rawProgram (die : BitVec 10) (block page : BitVec 12) -- RAW_PROGRAM
  | dieReset (die : BitVec 10) -- DIE_RESET
  | flashOpIssue (ch : BitVec 6) -- FLASH_OP_ISSUE
  | suspendResume (die : BitVec 10) -- SUSPEND_RESUME
  | flashOpComplete (id : W32) (res : FlashRes) -- FLASH_OP_COMPLETE
  | ladderTimeout (id : W32) (rung : BitVec 5) (recordLost : Bool) -- LADDER_TIMEOUT
  | dieTimeout (id : W32) -- DIE_TIMEOUT
  | retrainInterval (ch : BitVec 6) (rates : List Nat) -- RETRAIN_INTERVAL
  | parityGroupTimeout (id : W32) -- PARITY_GROUP_TIMEOUT
  | profileLoad (port : BitVec 6) (slot : BitVec 4) -- PROFILE_LOAD
  | profileEmpty (port : BitVec 6) (slot : BitVec 4) -- PROFILE_EMPTY
  | generate (port : BitVec 6) -- GENERATE
  | wrapOut (port : BitVec 6) -- WRAP_OUT
  | unwrap (port : BitVec 6) -- UNWRAP
  | clear (port : BitVec 6) -- CLEAR
  | keyDone -- KEY_DONE
  | keyEpochWrite (port : BitVec 6) (v : W32) -- KEY_EPOCH_WRITE
  | bringUp (port : BitVec 6) (b : BitVec 3) (key : BitVec 16) -- BRING_UP
  | drain (port : BitVec 6) (b : BitVec 3) (key : BitVec 16) -- DRAIN
  | abortDrain (port : BitVec 6) (b : BitVec 3) (key : BitVec 16) -- ABORT_DRAIN
  | powerOff (port : BitVec 6) (b : BitVec 3) (key : BitVec 16) -- POWER_OFF
  | forget (port : BitVec 6) (b : BitVec 3) (key : BitVec 16) -- FORGET
  | boothPresAssert (b : BitVec 3) -- BOOTH_PRES_ASSERT
  | presenceStable (b : BitVec 3) -- PRESENCE_STABLE
  | inrushHoldEnd (b : BitVec 3) (cart : Cart) -- INRUSH_HOLD_END
  | surpriseRemoval (b : BitVec 3) -- SURPRISE_REMOVAL
  | removed (b : BitVec 3) -- REMOVED
  | drainDone (b : BitVec 3) -- DRAIN_DONE
  -- compression (chapter 7)
  | laneJobSubmit (port : BitVec 6) (desc : BitVec 512) -- LANE_JOB_SUBMIT
  | laneJobGrant (decomp : Bool) -- LANE_JOB_GRANT
  | laneWake (decomp : Bool) (n : BitVec 6) -- LANE_WAKE
  | lanePowerGate (decomp : Bool) (n : BitVec 6) -- LANE_POWER_GATE
  | laneJobComplete (decomp : Bool) (n : BitVec 6) (res : JobRes) -- LANE_JOB_COMPLETE
  | laneFault (decomp : Bool) (n : BitVec 6) (spareOk : Bool) -- LANE_FAULT
  | tableCommit (port : BitVec 6) -- TABLE_COMMIT
  | tableEmpty (port : BitVec 6) -- TABLE_EMPTY
  | jobCmdGo (port : BitVec 6) -- JOB_CMD_GO
  -- the memory system (chapter 8)
  | dramTraining (reached : List (Option (BitVec 3))) (soft : List (BitVec 8)) -- DRAM_TRAINING
  | dramRead (t : Txn) (errs : List (FAddr × Bool)) -- DRAM_READ
  | dramWrite (t : Txn) -- DRAM_WRITE
  | partialWrite (t : Txn) (be : BitVec 256) (errs : List (FAddr × Bool)) -- PARTIAL_WRITE
  | rowIdleClose (ch : BitVec 3) (sub rank : BitVec 1) (bg : BitVec 3) (bank : BitVec 2) -- ROW_IDLE_CLOSE
  | refresh (ch : BitVec 3) (sub rank : BitVec 1) (bg : BitVec 3) (bank : BitVec 2) -- REFRESH
  | patrolScrub (errs : List (FAddr × Bool)) -- PATROL_SCRUB
  | lapOverdue -- LAP_OVERDUE
  | imbalance -- IMBALANCE
  | regionEnable (port : BitVec 6) (v : W32) -- REGION_ENABLE
  | regionDisable (port : BitVec 6) (v : W32) -- REGION_DISABLE
  | regionDone (idx : BitVec 5) -- REGION_DONE
  | msCfgWrite (port : BitVec 6) (v : W32) -- MS_CFG_WRITE
  | stBudgetWrite (port : BitVec 6) (v : W32) -- ST_BUDGET_WRITE
  | stagingAccess (t : Txn) (be : BitVec 256) (errs : List (FAddr × Bool)) -- STAGING_ACCESS
  | stagingScrub (errs : List (FAddr × Bool)) -- STAGING_SCRUB
  | stLapOverdue -- ST_LAP_OVERDUE
  -- the DMA engine (chapter 9)
  | start (port ch : BitVec 6) -- START
  | stop (port ch : BitVec 6) -- STOP
  | resume (port ch : BitVec 6) -- RESUME
  | move (ch : BitVec 6) (tmo : Option W32) -- MOVE
  | moveZjob (ch : BitVec 6) (tmo : Option W32) -- MOVE_ZJOB
  | zjobCompletion (ch : BitVec 6) (tmo : Option W32) -- ZJOB_COMPLETION
  | pacedBurst (ch : BitVec 6) (late : Bool) (tmo : Option W32) -- PACED_BURST
  | loop (ch : BitVec 6) -- LOOP
  | waitJobs (ch : BitVec 6) -- WAIT_JOBS
  | waitReq (ch : BitVec 6) -- WAIT_REQ
  | waitMemEq (ch : BitVec 6) (tmo : Option W32) -- WAIT_MEM_EQ
  | waitMemGe (ch : BitVec 6) (tmo : Option W32) -- WAIT_MEM_GE
  | waitPoll (ch : BitVec 6) (tmo : Option W32) -- WAIT_POLL
  | signal (ch : BitVec 6) (tmo : Option W32) -- SIGNAL
  | setReg (ch : BitVec 6) -- SET
  | endProg (ch : BitVec 6) (tmo : Option W32) -- END
  | channelFault (ch : BitVec 6) -- CHANNEL_FAULT
  | reqSwWrite (port : BitVec 6) (k : BitVec 3) (v : W32) -- REQ_SW_WRITE
  | reqSwcWrite (port : BitVec 6) (k : BitVec 3) (v : W32) -- REQ_SWC_WRITE
  -- the search engine (chapter 10)
  | search (port tag : BitVec 6) (req : BitVec 512) (hold : Bool) -- SEARCH
  | seWrite (port tag : BitVec 6) (req : BitVec 512) (hold : Bool) -- SE_WRITE
  | invalidate (port tag : BitVec 6) (req : BitVec 512) (hold : Bool) -- INVALIDATE
  | seRead (port tag : BitVec 6) (req : BitVec 512) (hold : Bool) -- SE_READ
  | bankSlotGrant (bank : BitVec 3) -- BANK_SLOT_GRANT
  | partitionEnable (port : BitVec 6) (bank : BitVec 3) (v : W32) -- PARTITION_ENABLE
  | partitionDisable (port : BitVec 6) (bank : BitVec 3) (v : W32) -- PARTITION_DISABLE
  | partCleared (bank : BitVec 3) (part : BitVec 6) -- PART_CLEARED
  | bankWake (bank : BitVec 3) -- BANK_WAKE
  | mirrorCheck (bank : BitVec 3) (flipped : Bool) -- MIRROR_CHECK
  | seLapOverdue (bank : BitVec 3) -- SE_LAP_OVERDUE
  | opCmdGo (port : BitVec 6) -- OP_CMD_GO
  | bankFault (bank : BitVec 3) (permanent : Bool) -- BANK_FAULT
  -- the Eowift instructions (chapter 12)
  | ewBrk (core : BitVec 7) (e : Enc) -- BRK
  | ewNop (core : BitVec 7) (e : Enc) -- NOP
  | ewSyscall (core : BitVec 7) (e : Enc) -- SYSCALL
  | ewFence (core : BitVec 7) (e : Enc) -- FENCE
  | ewRett (core : BitVec 7) (e : Enc) -- RETT
  | ewWfi (core : BitVec 7) (e : Enc) -- WFI
  | ewRet (core : BitVec 7) (e : Enc) -- RET
  | ewJmpRel8 (core : BitVec 7) (e : Enc) -- JMP_REL8
  | ewJmpRel32 (core : BitVec 7) (e : Enc) -- JMP_REL32
  | ewCall (core : BitVec 7) (e : Enc) -- CALL
  | ewJmpr (core : BitVec 7) (e : Enc) -- JMPR
  | ewCallr (core : BitVec 7) (e : Enc) -- CALLR
  | ewBeq (core : BitVec 7) (e : Enc) -- BEQ
  | ewBne (core : BitVec 7) (e : Enc) -- BNE
  | ewBlt (core : BitVec 7) (e : Enc) -- BLT
  | ewBge (core : BitVec 7) (e : Enc) -- BGE
  | ewBle (core : BitVec 7) (e : Enc) -- BLE
  | ewBgt (core : BitVec 7) (e : Enc) -- BGT
  | ewBult (core : BitVec 7) (e : Enc) -- BULT
  | ewBuge (core : BitVec 7) (e : Enc) -- BUGE
  | ewBule (core : BitVec 7) (e : Enc) -- BULE
  | ewBugt (core : BitVec 7) (e : Enc) -- BUGT
  | ewBmi (core : BitVec 7) (e : Enc) -- BMI
  | ewBpl (core : BitVec 7) (e : Enc) -- BPL
  | ewBvs (core : BitVec 7) (e : Enc) -- BVS
  | ewBvc (core : BitVec 7) (e : Enc) -- BVC
  | ewBeqRel32 (core : BitVec 7) (e : Enc) -- BEQ_REL32
  | ewBneRel32 (core : BitVec 7) (e : Enc) -- BNE_REL32
  | ewBltRel32 (core : BitVec 7) (e : Enc) -- BLT_REL32
  | ewBgeRel32 (core : BitVec 7) (e : Enc) -- BGE_REL32
  | ewBleRel32 (core : BitVec 7) (e : Enc) -- BLE_REL32
  | ewBgtRel32 (core : BitVec 7) (e : Enc) -- BGT_REL32
  | ewBultRel32 (core : BitVec 7) (e : Enc) -- BULT_REL32
  | ewBugeRel32 (core : BitVec 7) (e : Enc) -- BUGE_REL32
  | ewBuleRel32 (core : BitVec 7) (e : Enc) -- BULE_REL32
  | ewBugtRel32 (core : BitVec 7) (e : Enc) -- BUGT_REL32
  | ewBmiRel32 (core : BitVec 7) (e : Enc) -- BMI_REL32
  | ewBplRel32 (core : BitVec 7) (e : Enc) -- BPL_REL32
  | ewBvsRel32 (core : BitVec 7) (e : Enc) -- BVS_REL32
  | ewBvcRel32 (core : BitVec 7) (e : Enc) -- BVC_REL32
  | ewMov (core : BitVec 7) (e : Enc) -- MOV
  | ewAdd (core : BitVec 7) (e : Enc) -- ADD
  | ewSub (core : BitVec 7) (e : Enc) -- SUB
  | ewAdc (core : BitVec 7) (e : Enc) -- ADC
  | ewSbb (core : BitVec 7) (e : Enc) -- SBB
  | ewAnd (core : BitVec 7) (e : Enc) -- AND
  | ewOr (core : BitVec 7) (e : Enc) -- OR
  | ewXor (core : BitVec 7) (e : Enc) -- XOR
  | ewCmp (core : BitVec 7) (e : Enc) -- CMP
  | ewTst (core : BitVec 7) (e : Enc) -- TST
  | ewShl (core : BitVec 7) (e : Enc) -- SHL
  | ewShr (core : BitVec 7) (e : Enc) -- SHR
  | ewSar (core : BitVec 7) (e : Enc) -- SAR
  | ewRol (core : BitVec 7) (e : Enc) -- ROL
  | ewMul (core : BitVec 7) (e : Enc) -- MUL
  | ewMulh (core : BitVec 7) (e : Enc) -- MULH
  | ewDiv (core : BitVec 7) (e : Enc) -- DIV
  | ewDivu (core : BitVec 7) (e : Enc) -- DIVU
  | ewRem (core : BitVec 7) (e : Enc) -- REM
  | ewRemu (core : BitVec 7) (e : Enc) -- REMU
  | ewNeg (core : BitVec 7) (e : Enc) -- NEG
  | ewNot (core : BitVec 7) (e : Enc) -- NOT
  | ewClz (core : BitVec 7) (e : Enc) -- CLZ
  | ewPopc (core : BitVec 7) (e : Enc) -- POPC
  | ewBswap (core : BitVec 7) (e : Enc) -- BSWAP
  | ewMulhu (core : BitVec 7) (e : Enc) -- MULHU
  | ewMovi (core : BitVec 7) (e : Enc) -- MOVI
  | ewAddi (core : BitVec 7) (e : Enc) -- ADDI
  | ewSubi (core : BitVec 7) (e : Enc) -- SUBI
  | ewAndi (core : BitVec 7) (e : Enc) -- ANDI
  | ewOri (core : BitVec 7) (e : Enc) -- ORI
  | ewXori (core : BitVec 7) (e : Enc) -- XORI
  | ewCmpi (core : BitVec 7) (e : Enc) -- CMPI
  | ewTsti (core : BitVec 7) (e : Enc) -- TSTI
  | ewShli (core : BitVec 7) (e : Enc) -- SHLI
  | ewShri (core : BitVec 7) (e : Enc) -- SHRI
  | ewSari (core : BitVec 7) (e : Enc) -- SARI
  | ewAddi8 (core : BitVec 7) (e : Enc) -- ADDI8
  | ewCmpi8 (core : BitVec 7) (e : Enc) -- CMPI8
  | ewLd (core : BitVec 7) (e : Enc) -- LD
  | ewLds (core : BitVec 7) (e : Enc) -- LDS
  | ewSt (core : BitVec 7) (e : Enc) -- ST
  | ewLea (core : BitVec 7) (e : Enc) -- LEA
  | ewXchg (core : BitVec 7) (e : Enc) -- XCHG
  | ewXadd (core : BitVec 7) (e : Enc) -- XADD
  | ewCas (core : BitVec 7) (e : Enc) -- CAS
  | ewAddm (core : BitVec 7) (e : Enc) -- ADDM
  | ewAndm (core : BitVec 7) (e : Enc) -- ANDM
  | ewOrm (core : BitVec 7) (e : Enc) -- ORM
  | ewXorm (core : BitVec 7) (e : Enc) -- XORM
  | ewSti (core : BitVec 7) (e : Enc) -- STI
  | ewPush (core : BitVec 7) (e : Enc) -- PUSH
  | ewPop (core : BitVec 7) (e : Enc) -- POP
  | ewGet (core : BitVec 7) (e : Enc) -- GET
  | ewPut (core : BitVec 7) (e : Enc) -- PUT
  | ewAddp (core : BitVec 7) (e : Enc) -- ADDP
  | ewLdp (core : BitVec 7) (e : Enc) -- LDP
  | ewStp (core : BitVec 7) (e : Enc) -- STP
  | ewClra (core : BitVec 7) (e : Enc) -- CLRA
  | ewWra (core : BitVec 7) (e : Enc) -- WRA
  | ewRda (core : BitVec 7) (e : Enc) -- RDA
  | ewRdah (core : BitVec 7) (e : Enc) -- RDAH
  | ewWrah (core : BitVec 7) (e : Enc) -- WRAH
  | ewLda (core : BitVec 7) (e : Enc) -- LDA
  | ewSta (core : BitVec 7) (e : Enc) -- STA
  | ewMfs (core : BitVec 7) (e : Enc) -- MFS
  | ewMts (core : BitVec 7) (e : Enc) -- MTS
  | ewIcinv (core : BitVec 7) (e : Enc) -- ICINV
  | ewMacd (core : BitVec 7) (e : Enc) -- MACD
  | ewScpy (core : BitVec 7) (e : Enc) -- SCPY
  | ewSfil (core : BitVec 7) (e : Enc) -- SFIL
  | ewScmp (core : BitVec 7) (e : Enc) -- SCMP
  | ewSfnd (core : BitVec 7) (e : Enc) -- SFND
  | ewScrc (core : BitVec 7) (e : Enc) -- SCRC
  | ewBxfrLoad (core : BitVec 7) (e : Enc) -- BXFR_LOAD
  | ewBxfrStore (core : BitVec 7) (e : Enc) -- BXFR_STORE
  | ewReserved (core : BitVec 7) (esc : Bool) (e : Enc) -- RESERVED_OPCODE
  -- the Eowift core (chapter 11)
  | loadDataArrival (core : BitVec 7) -- LOAD_DATA_ARRIVAL
  | lateDataUncorr (core : BitVec 7) (tmo : Bool) -- LATE_DATA_UNCORR
  | interruptAccept (core : BitVec 7) (line : BitVec 8) (tenant : BitVec 6) -- INTERRUPT_ACCEPT
  | qtimerExpiry (core : BitVec 7) -- QTIMER_EXPIRY
  | quantum (core : BitVec 7) -- QUANTUM
  | sliceEnd (core : BitVec 7) -- SLICE_END
  | contextSwitch (core : BitVec 7) -- CONTEXT_SWITCH
  | coreCheck (core : BitVec 7) (testOk : Bool) -- CORE_CHECK
  -- the compute service (chapter 13)
  | loadProgram (qc : BitVec 14) (cid : BitVec 16) (slot : BitVec 6) (size off : W32) (data : List Byte) -- LOAD_PROGRAM
  | programActivationManagement (qc : BitVec 14) (cid : BitVec 16) (slot : BitVec 6) (act : Bool) -- PROGRAM_ACTIVATION_MANAGEMENT
  | executeProgram (qc : BitVec 14) (cid : BitVec 16) (slot : BitVec 6) (ranges : List (W64 × W64 × Bool)) (transit : Option (FAddr × W32)) (params : List Byte) -- EXECUTE_PROGRAM
  | executeWaitEnd (seq : W64) -- EXECUTE_WAIT_END
  | readMemory (qc : BitVec 14) (cid : BitVec 16) (transit : Option (FAddr × W32)) (off : W64) (len : W32) -- READ_MEMORY
  | writeMemory (qc : BitVec 14) (cid : BitVec 16) (transit : Option (FAddr × W32)) (off : W64) (data : List Byte) -- WRITE_MEMORY
  | memoryCopy (qc : BitVec 14) (cid : BitVec 16) (toMem : Bool) (nsid : W32) (slba : W64) (count : W32) (transit : Option (FAddr × W32)) (off : W64) -- MEMORY_COPY
  | exit (ctx : BitVec 12) -- EXIT
  | yield (ctx : BitVec 12) -- YIELD
  | syscallWait (ctx : BitVec 12) -- SYSCALL_WAIT
  | waitTimeout (ctx : BitVec 12) -- WAIT_TIMEOUT
  | syscallDma (ctx : BitVec 12) -- SYSCALL_DMA
  | xlate (ctx : BitVec 12) -- XLATE
  | contextReady (ctx : BitVec 12) (ev : BitVec 2) -- CONTEXT_READY
  | contextEnd (ctx : BitVec 12) -- CONTEXT_END
  | contextFree (ctx : BitVec 12) -- CONTEXT_FREE
  | dispatcherInterrupt (core : BitVec 7) -- DISPATCHER_INTERRUPT
  | searchDoorbell (ctx : BitVec 12) (v : W32) -- SEARCH_DOORBELL
  | searchResponse (ctx : BitVec 12) -- SEARCH_RESPONSE
  | searchClear (ctx : BitVec 12) (v : W32) -- SEARCH_CLEAR
  | lineDoorbell (ctx : BitVec 12) (v : W32) -- LINE_DOORBELL
  | lineStatusClear (ctx : BitVec 12) (v : W32) -- LINE_STATUS_CLEAR
  | deliveryUnit (seq : W64) (unit : BitVec 40) -- DELIVERY_UNIT
  | dlvRestart (cluster : BitVec 4) -- DLV_RESTART
  | clDlvWrite (port : BitVec 6) (cluster : BitVec 4) (v : W32) -- CL_DLV_WRITE
  | dvfsStepUp (cluster : BitVec 4) -- DVFS_STEP_UP
  | dvfsStepDown (cluster : BitVec 4) -- DVFS_STEP_DOWN
  | clusterPowerGate (cluster : BitVec 4) -- CLUSTER_POWER_GATE
  -- faults and spares (chapter 14)
  | unitFatal (page : BitVec 13) (code : BitVec 16) (again testOk spareOk : Bool) -- UNIT_FATAL
  | deviceFatal (page : BitVec 13) (code : BitVec 16) -- DEVICE_FATAL
  | khb (port : BitVec 6) (v : W32) -- KHB
  | heartbeatMiss (core : BitVec 2) -- HEARTBEAT_MISS
  | kFailover -- K_FAILOVER
  | failoverSelfTest (ok : Bool) -- FAILOVER_SELF_TEST
  | sCoreFailover -- S_CORE_FAILOVER
  | bistRotation (kind : BitVec 3) (n : BitVec 7) (ok : Bool) -- BIST_ROTATION
  | agingMeasure (slow : List (BitVec 16)) (short : List (BitVec 4)) (sent : Bool) -- AGING_MEASURE
  -- power, thermal and housekeeping (chapter 15)
  | ticketRequest (booth : Option (BitVec 3)) (id : BitVec 16) (mw : BitVec 20) (cls : BitVec 2) (refusable rcl : Bool) -- TICKET_REQUEST
  | ticketReturn (id : BitVec 16) -- TICKET_RETURN
  | redivision -- REDIVISION
  | ticketRefused (k : BitVec 16) -- TICKET_REFUSED
  | recall -- RECALL
  | wrateCapUpdate -- WRATE_CAP_UPDATE
  | crUpdate -- CR_UPDATE
  | rclStarved (b : BitVec 3) -- RCL_STARVED
  | nonOperationalWake -- NON_OPERATIONAL_WAKE
  | pllStop (p : BitVec 5) -- PLL_STOP
  | unitWake (page : BitVec 13) -- UNIT_WAKE
  | housekeepingRound (temp : BitVec 16) (chans : List (BitVec 16)) -- HOUSEKEEPING_ROUND
  | rorHoldEnd -- ROR_HOLD_END
  | inputEdge (k : BitVec 4) (level : Bool) -- INPUT_EDGE
  | inputStuck (k : BitVec 4) -- INPUT_STUCK
  | maskedClear (port : BitVec 6) -- MASKED_CLEAR
  | recordStoreUpdate -- RECORD_STORE_UPDATE
  | recordStoreReadback (ok : Bool) -- RECORD_STORE_READBACK
  | pwrfail -- PWRFAIL
  | powerLossDone -- POWER_LOSS_DONE
  | powerLossResume -- POWER_LOSS_RESUME
  | powerOn (jtagEn : Bool) -- POWER_ON
  | boot (ok0 ok1 : Bool) (bar2 : BitVec 2) (route : W32) -- BOOT
  | setPending (port : BitVec 6) (key : BitVec 16) (slot : Bool) -- SET_PENDING
  | confirm (port : BitVec 6) (key : BitVec 16) -- CONFIRM
  | clearPending (port : BitVec 6) (key : BitVec 16) -- CLEAR_PENDING
  | devReset (port : BitVec 6) (v : W32) -- DEV_RESET
  | vddAonFall -- VDD_AON_FALL
  -- the debug port (chapter 16)
  | llynReadFrame (reg : BitVec 6) (tag : BitVec 3) (hdrOk : Bool) -- LLYN_READ_FRAME
  | llynWriteFrame (reg : BitVec 6) (tag : BitVec 3) (data : W64) (hdrOk dataOk : Bool) -- LLYN_WRITE_FRAME
  | llynResync -- LLYN_RESYNC
  | challenge (tag : BitVec 3) (nonce : BitVec 256) -- CHALLENGE
  | response (tag : BitVec 3) (data : W64) -- RESPONSE
  | authCheckDone -- AUTH_CHECK_DONE
  | relock (tag : BitVec 3) -- RELOCK
  | llynDevReset (tag : BitVec 3) (key : BitVec 16) -- LLYN_DEV_RESET
  | statusW1c (tag : BitVec 3) (data : W64) -- STATUS_W1C
  | memDataAccess (tag : BitVec 3) (write : Bool) (data : W64) -- MEM_DATA_ACCESS
  | halt (tag : BitVec 3) (own : Bool) -- HALT
  | coreResume (tag : BitVec 3) -- CORE_RESUME
  | stepCore (tag : BitVec 3) -- STEP
  | coreRegWrite (tag : BitVec 3) (data : W64) -- CORE_REG_WRITE
  | breakpoint (core : BitVec 7) (k : BitVec 2) -- BREAKPOINT
  | watchpoint (core : BitVec 7) (k : BitVec 1) (addr : W64) (write : Bool) -- WATCHPOINT
  | ownedContextTrap (core : BitVec 7) -- OWNED_CONTEXT_TRAP
  | xtResume (tag : BitVec 3) (groups : BitVec 8) -- XT_RESUME
  | bypass -- BYPASS
  | idcode -- IDCODE
  | samplePreload -- SAMPLE_PRELOAD
  | extest -- EXTEST
  | clamp -- CLAMP
  | highz -- HIGHZ
  -- rows added later
  | profileLoaded (signed fabricErr : Bool) (body : ProfBody) -- PROFILE_LOADED
  | ethLinkUp (p : BitVec 2) (l : BitVec 3) -- ETH_LINK_UP
  | ethLinkDown (p : BitVec 2) (l : BitVec 3) -- ETH_LINK_DOWN
  | fecDegrade (p : BitVec 2) (l : BitVec 3) -- FEC_DEGRADE
  | cleanShutdown -- CLEAN_SHUTDOWN
  | controllerEnable (cntlid : BitVec 16) -- CONTROLLER_ENABLE
  | asyncEventRequest (qc : BitVec 14) (cid : BitVec 16) -- ASYNC_EVENT_REQUEST
  | keepAlive (qc : BitVec 14) (cid : BitVec 16) -- KEEP_ALIVE
  | setFeaturesArbitration (qc : BitVec 14) (cid : BitVec 16) (cdw11 : W32) -- SET_FEATURES_ARBITRATION
  | ageUnitElapsed (die : BitVec 10) (block : BitVec 12) -- AGE_UNIT_ELAPSED
deriving DecidableEq, Repr
--END INSTR

end Sys2Proof
end

