-- ==== Sys2Proof/Machine/Operands.lean ====
section
/-! DEFINITION. The instructions of an Eowift core, their forms, prefixes, lengths and the checks of their bytes (R560-R573 and the
instruction tables of chapter 12). -/
namespace Sys2Proof.Machine

/-! ### Instructions -/

/-- Register-register instructions of form R (R578). -/
inductive AluOp where
  | mov | add | sub | adc | sbb | and | or | xor | cmp | tst | shl | shr | sar | rol | mul | mulh | div | divu | rem | remu
  | neg | not | clz | popc | bswap | mulhu
deriving DecidableEq, Repr
/-- Immediate instructions (R579). -/
inductive ImmOp where
  | movi | addi | subi | andi | ori | xori | cmpi | tsti | shli | shri | sari | addi8 | cmpi8
deriving DecidableEq, Repr
/-- The read-modify-write instructions without a register result (R583). -/
inductive MOp where
  | addm | andm | orm | xorm
deriving DecidableEq, Repr
/-- The string and move class without MACD and BXFR (R596). -/
inductive StrOp where
  | scpy | sfil | scmp | sfnd | scrc
deriving DecidableEq, Repr
/-- Loads and exchanges of a general register (R583). -/
inductive LdOp where
  | ld | lds | xchg | xadd | cas
deriving DecidableEq, Repr
/-- Accumulator instructions without a memory operand (R589). -/
inductive AcOp where
  | clra | wra | rda | rdah | wrah
deriving DecidableEq, Repr

/-- The instructions. -/
inductive EwOp where
  | brk | nop | syscall | fence | rett | wfi | ret
  | jmp (long : Bool) | call | jmpr | callr
  | bcc (cond : Nat) (long : Bool)
  | alu (o : AluOp) | imm (o : ImmOp) | load (o : LdOp) | st | lea | rmw (o : MOp) | sti | push | pop
  | get | put | addp | ldp | stp
  | acc (o : AcOp) | lda | sta | mfs | mts
  | macd | str (o : StrOp) | bxfr
  | reserved (esc : Bool)
deriving DecidableEq, Repr

/-! ### Prefixes (R567-R569) -/

/-- The prefix groups. -/
inductive PfxGrp where
  | width | rep | access | lane
deriving DecidableEq, Repr
/-- The group of a prefix byte; none where the byte is no prefix. -/
def pfxGroup (x : Byte) : Option PfxGrp :=
  if x = 0xF0 ∨ x = 0xF1 ∨ x = 0xF2 then some .width
  else if x = 0xF4 ∨ x = 0xF5 ∨ x = 0xF6 then some .rep
  else if x = 0xF8 ∨ x = 0xF9 then some .access
  else if x = 0xFA then some .lane
  else none
/-- The operand width in bits: 64 without a width prefix. -/
def widthOf (pre : List Byte) : Nat :=
  pre.foldl (fun w x => if x = 0xF0 then 8 else if x = 0xF1 then 16 else if x = 0xF2 then 32 else w) 64
/-- The repeat prefixes. -/
inductive RepKind where
  | none | rpt | rsd | rsm
deriving DecidableEq, Repr
/-- The repeat prefix of an instruction. -/
def repOf (pre : List Byte) : RepKind :=
  if pre.contains 0xF4 then .rpt else if pre.contains 0xF5 then .rsd else if pre.contains 0xF6 then .rsm else .none
/-- FAR -/
def isFar (e : Enc) : Bool := e.pre.contains 0xF9
/-- ATOM -/
def isAtom (e : Enc) : Bool := e.pre.contains 0xF8
/-- LANE4 -/
def isLane4 (e : Enc) : Bool := e.pre.contains 0xFA

/-- The prefix bytes that the instruction tables allow on an instruction. -/
def allowedPfx (o : EwOp) : List Byte :=
  let width : List Byte := [0xF0, 0xF1, 0xF2]
  match o with
  | .ret | .call | .callr | .push | .pop => [0xF9]
  | .alu .bswap => [0xF1, 0xF2]
  | .alu _ | .imm _ | .load .ld | .load .lds | .st | .sti => width
  | .load _ | .rmw _ => width ++ [0xF8]
  | .macd => [0xF4, 0xFA]
  | .str .scmp | .str .sfnd => width ++ [0xF4, 0xF5, 0xF6]
  | .str _ => width ++ [0xF4]
  | .bxfr => [0xF4]
  | _ => []
/-- The mode byte's space: 0 X, 1 Y, 2 far, 3 scratch. -/
def modeSpace (m : Byte) : Nat := m.toNat / 64
/-- An instruction's prefixes are legal (R568, R569, R585). -/
def pfxLegal (o : EwOp) (e : Enc) : Bool :=
  let gs := e.pre.filterMap pfxGroup
  decide (e.pre.length ≤ 3) && decide (gs.eraseDups.length = gs.length) && e.pre.all (fun x => (allowedPfx o).contains x)
    && (!isAtom e || modeSpace e.mode == 3)

/-! ### Forms and lengths (R560-R573) -/

/-- The forms. -/
inductive Form where
  | z | r | ri | rm | mi | j1 | j4 | i2
deriving DecidableEq, Repr
/-- The form of an instruction. -/
def formOf : EwOp → Form
  | .brk | .nop | .fence | .rett | .wfi | .ret | .str .scpy | .str .scmp | .reserved _ => .z
  | .syscall => .i2
  | .jmp false | .bcc _ false => .j1
  | .jmp true | .bcc _ true | .call => .j4
  | .jmpr | .callr | .alu _ | .push | .pop | .get | .put | .macd | .str _ | .bxfr => .r
  | .acc .rda => .ri
  | .acc _ => .r
  | .imm _ | .addp | .mfs | .mts => .ri
  | .load _ | .st | .lea | .rmw _ | .ldp | .stp | .lda | .sta => .rm
  | .sti => .mi
/-- Bytes of an instruction's immediate or branch displacement (R572, R573). -/
def immBytes (o : EwOp) (w : Nat) : Nat :=
  match o with
  | .jmp false | .bcc _ false => 1
  | .jmp true | .bcc _ true | .call => 4
  | .syscall | .addp => 2
  | .imm .movi | .sti => w / 8
  | .imm .shli | .imm .shri | .imm .sari | .imm .addi8 | .imm .cmpi8 | .mfs | .mts | .acc .rda => 1
  | .imm _ => min (w / 8) 4
  | _ => 0
/-- Bytes of the displacement that a mode byte calls for. -/
def dispBytes (m : Byte) : Nat :=
  match m.toNat / 16 % 4 with
  | 0 => 0 | 1 => 1 | 2 => 2 | _ => 4
/-- The opcode stands on the escape page 0xE0. -/
def onEscape : EwOp → Bool
  | .bcc _ long => long
  | .alu .clz | .alu .popc | .alu .bswap | .alu .mulhu => true
  | .reserved esc => esc
  | _ => false
/-- Bytes after the opcode. -/
def tailBytes (o : EwOp) (e : Enc) : Nat :=
  let k := immBytes o (widthOf e.pre)
  match formOf o with
  | .z => 0
  | .r => 1
  | .ri => 1 + k
  | .rm => 2 + dispBytes e.mode
  | .mi => 1 + dispBytes e.mode + k
  | .j1 | .j4 | .i2 => k
/-- The decoded length of an instruction (R561). -/
def ewLen (o : EwOp) (e : Enc) : Nat := e.pre.length + (if onEscape o then 2 else 1) + tailBytes o e
/-- The bytes before the opcode are prefixes. -/
def pfxBytes (e : Enc) : Bool := e.pre.all (fun x => (pfxGroup x).isSome)

/-- The first operand field of the register byte. -/
def encA (e : Enc) : Nat := e.reg.toNat / 16
/-- The second operand field of the register byte. -/
def encB (e : Enc) : Nat := e.reg.toNat % 16
/-- The displacement, sign-extended to 64 bits (R562). -/
def dispVal (e : Enc) : W64 :=
  match dispBytes e.mode with
  | 0 => 0
  | 1 => (e.disp.setWidth 8).signExtend 64
  | 2 => (e.disp.setWidth 16).signExtend 64
  | _ => e.disp.signExtend 64
/-- The immediate's bytes as a number. -/
def immRaw (o : EwOp) (e : Enc) : Nat := e.imm.toNat % 2 ^ (8 * immBytes o (widthOf e.pre))
/-- The immediate, sign-extended from its size to a number of bits. -/
def immSext (o : EwOp) (e : Enc) (w : Nat) : Nat := ofSgn w (sgn (8 * immBytes o (widthOf e.pre)) (immRaw o e))

/-! ### Bytes that raise ILLEGAL_OPCODE (R563, R570, R584, R588-R593) -/

/-- The unused fields of the register byte are 0, and the others name what the instruction allows. -/
def fieldsLegal (o : EwOp) (e : Enc) : Bool :=
  let a := encA e
  let b := encB e
  match o with
  | .reserved _ => false
  | .jmpr | .callr | .push | .alu .neg | .alu .not | .imm _ | .load .ld | .load .lds | .load .xchg | .load .xadd | .st | .lea | .rmw _
  | .str .sfil | .str .sfnd | .str .scrc => b == 0
  | .pop => b == 0 && a != 15
  | .get => decide (b ≤ 13)
  | .put => decide (a ≤ 13)
  | .addp => b == 0 && (decide (a ≤ 7) || a == 10 || a == 11)
  | .ldp | .stp => b == 0 && decide (a ≤ 12)
  | .acc .clra | .lda | .sta => b == 0 && decide (a ≤ 3)
  | .acc .wra | .acc .wrah => decide (a ≤ 3)
  | .acc .rda => decide (b ≤ 3) && decide (immRaw o e ≤ 79)
  | .acc .rdah => decide (b ≤ 3)
  | .mfs | .mts => b == 0 && decide (immRaw o e ≤ 13)
  | .macd => !e.reg.getLsbD 1
  | .bxfr => decide (a ≤ 7) && decide (b ≤ 1)
  | _ => true
/-- Privileged instructions (R530, R574, R591). -/
def privileged : EwOp → Bool
  | .rett | .wfi | .mfs | .mts => true
  | _ => false
/-- An instruction has a memory operand given by a mode byte. -/
def hasMode (o : EwOp) : Bool := match formOf o with | .rm | .mi => true | _ => false
/-- What an Eowift-S core lacks: MACD, the banks, and their pointers and masks (R511). -/
def absentOnS (o : EwOp) (e : Enc) : Bool :=
  (hasMode o && decide (modeSpace e.mode ≤ 1)) || (match o with
    | .macd | .bxfr => true
    | .get => decide (encB e ≤ 9)
    | .put | .addp | .ldp | .stp => decide (encA e ≤ 9)
    | _ => false)

end Sys2Proof.Machine
end

