-- ==== Sys2Proof/Decode.lean ====
section
/-! DEFINITION. The table gives no row any bits, so a word spells no command. The bytes of the Eowift instructions (R560-R573 and the
instruction tables of chapter 12): a decoder, total on any bytes and rejecting by name, an encoder, and the instruction
that a command is. -/
namespace Sys2Proof
open Sys2Proof.Machine

/-- The command that a word spells by the table's bits: the table gives none. -/
def decodeTableWord (_nbits _w : Nat) : Option Instr := none

/-! ### Opcode tables -/

/-- The instruction of an opcode on the one-byte page; none where the tables leave it reserved (R570). -/
def mainOp (x : Nat) : Option EwOp :=
  match x with
  | 0x00 => some .brk | 0x01 => some .nop | 0x02 => some .syscall | 0x03 => some .fence | 0x04 => some .rett
  | 0x05 => some .wfi | 0x06 => some .ret | 0x08 => some (.jmp false) | 0x09 => some (.jmp true) | 0x0A => some .call
  | 0x0B => some .jmpr | 0x0C => some .callr
  | 0x10 => some (.bcc 0 false) | 0x11 => some (.bcc 1 false) | 0x12 => some (.bcc 2 false) | 0x13 => some (.bcc 3 false)
  | 0x14 => some (.bcc 4 false) | 0x15 => some (.bcc 5 false) | 0x16 => some (.bcc 6 false) | 0x17 => some (.bcc 7 false)
  | 0x18 => some (.bcc 8 false) | 0x19 => some (.bcc 9 false) | 0x1A => some (.bcc 10 false) | 0x1B => some (.bcc 11 false)
  | 0x1C => some (.bcc 12 false) | 0x1D => some (.bcc 13 false)
  | 0x20 => some (.alu .mov) | 0x21 => some (.alu .add) | 0x22 => some (.alu .sub) | 0x23 => some (.alu .adc)
  | 0x24 => some (.alu .sbb) | 0x25 => some (.alu .and) | 0x26 => some (.alu .or) | 0x27 => some (.alu .xor)
  | 0x28 => some (.alu .cmp) | 0x29 => some (.alu .tst) | 0x2A => some (.alu .shl) | 0x2B => some (.alu .shr)
  | 0x2C => some (.alu .sar) | 0x2D => some (.alu .rol) | 0x2E => some (.alu .mul) | 0x2F => some (.alu .mulh)
  | 0x30 => some (.alu .div) | 0x31 => some (.alu .divu) | 0x32 => some (.alu .rem) | 0x33 => some (.alu .remu)
  | 0x34 => some (.alu .neg) | 0x35 => some (.alu .not)
  | 0x40 => some (.imm .movi) | 0x41 => some (.imm .addi) | 0x42 => some (.imm .subi) | 0x43 => some (.imm .andi)
  | 0x44 => some (.imm .ori) | 0x45 => some (.imm .xori) | 0x46 => some (.imm .cmpi) | 0x47 => some (.imm .tsti)
  | 0x48 => some (.imm .shli) | 0x49 => some (.imm .shri) | 0x4A => some (.imm .sari) | 0x4B => some (.imm .addi8)
  | 0x4C => some (.imm .cmpi8)
  | 0x50 => some (.load .ld) | 0x51 => some (.load .lds) | 0x52 => some .st | 0x53 => some .lea | 0x54 => some (.load .xchg)
  | 0x55 => some (.load .xadd) | 0x56 => some (.load .cas) | 0x57 => some (.rmw .addm) | 0x58 => some (.rmw .andm)
  | 0x59 => some (.rmw .orm) | 0x5A => some (.rmw .xorm) | 0x5B => some .sti | 0x60 => some .push | 0x61 => some .pop
  | 0x70 => some .get | 0x71 => some .put | 0x72 => some .addp | 0x73 => some .ldp | 0x74 => some .stp
  | 0x78 => some (.acc .clra) | 0x79 => some (.acc .wra) | 0x7A => some (.acc .rda) | 0x7B => some (.acc .rdah)
  | 0x7C => some (.acc .wrah) | 0x7D => some .lda | 0x7E => some .sta
  | 0x80 => some .macd | 0x81 => some (.str .scpy) | 0x82 => some (.str .sfil) | 0x83 => some (.str .scmp)
  | 0x84 => some (.str .sfnd) | 0x85 => some (.str .scrc) | 0x86 => some .bxfr
  | 0x90 => some .mfs | 0x91 => some .mts
  | _ => none
/-- The instruction of a second byte on the escape page 0xE0 (R592). -/
def escapeOp (x : Nat) : Option EwOp :=
  match x with
  | 0x10 => some (.bcc 0 true) | 0x11 => some (.bcc 1 true) | 0x12 => some (.bcc 2 true) | 0x13 => some (.bcc 3 true)
  | 0x14 => some (.bcc 4 true) | 0x15 => some (.bcc 5 true) | 0x16 => some (.bcc 6 true) | 0x17 => some (.bcc 7 true)
  | 0x18 => some (.bcc 8 true) | 0x19 => some (.bcc 9 true) | 0x1A => some (.bcc 10 true) | 0x1B => some (.bcc 11 true)
  | 0x1C => some (.bcc 12 true) | 0x1D => some (.bcc 13 true)
  | 0x20 => some (.alu .clz) | 0x21 => some (.alu .popc) | 0x22 => some (.alu .bswap) | 0x2F => some (.alu .mulhu)
  | _ => none

/-- The byte that names an instruction: its opcode, or the second byte of one on the escape page. -/
def opByte : EwOp → Byte
  | .brk => 0x00 | .nop => 0x01 | .syscall => 0x02 | .fence => 0x03 | .rett => 0x04 | .wfi => 0x05 | .ret => 0x06
  | .jmp false => 0x08 | .jmp true => 0x09 | .call => 0x0A | .jmpr => 0x0B | .callr => 0x0C
  | .bcc k _ => BitVec.ofNat 8 (0x10 + k)
  | .alu .mov => 0x20 | .alu .add => 0x21 | .alu .sub => 0x22 | .alu .adc => 0x23 | .alu .sbb => 0x24 | .alu .and => 0x25
  | .alu .or => 0x26 | .alu .xor => 0x27 | .alu .cmp => 0x28 | .alu .tst => 0x29 | .alu .shl => 0x2A | .alu .shr => 0x2B
  | .alu .sar => 0x2C | .alu .rol => 0x2D | .alu .mul => 0x2E | .alu .mulh => 0x2F | .alu .div => 0x30 | .alu .divu => 0x31
  | .alu .rem => 0x32 | .alu .remu => 0x33 | .alu .neg => 0x34 | .alu .not => 0x35
  | .alu .clz => 0x20 | .alu .popc => 0x21 | .alu .bswap => 0x22 | .alu .mulhu => 0x2F
  | .imm .movi => 0x40 | .imm .addi => 0x41 | .imm .subi => 0x42 | .imm .andi => 0x43 | .imm .ori => 0x44 | .imm .xori => 0x45
  | .imm .cmpi => 0x46 | .imm .tsti => 0x47 | .imm .shli => 0x48 | .imm .shri => 0x49 | .imm .sari => 0x4A
  | .imm .addi8 => 0x4B | .imm .cmpi8 => 0x4C
  | .load .ld => 0x50 | .load .lds => 0x51 | .st => 0x52 | .lea => 0x53 | .load .xchg => 0x54 | .load .xadd => 0x55
  | .load .cas => 0x56 | .rmw .addm => 0x57 | .rmw .andm => 0x58 | .rmw .orm => 0x59 | .rmw .xorm => 0x5A | .sti => 0x5B
  | .push => 0x60 | .pop => 0x61 | .get => 0x70 | .put => 0x71 | .addp => 0x72 | .ldp => 0x73 | .stp => 0x74
  | .acc .clra => 0x78 | .acc .wra => 0x79 | .acc .rda => 0x7A | .acc .rdah => 0x7B | .acc .wrah => 0x7C | .lda => 0x7D | .sta => 0x7E
  | .macd => 0x80 | .str .scpy => 0x81 | .str .sfil => 0x82 | .str .scmp => 0x83 | .str .sfnd => 0x84 | .str .scrc => 0x85
  | .bxfr => 0x86 | .mfs => 0x90 | .mts => 0x91
  | .reserved _ => 0xFF

/-! ### Bytes -/

/-- The `n` low bytes of a number, least significant first (R562). -/
def leBytes : Nat → Nat → List Byte
  | 0, _ => []
  | n + 1, v => BitVec.ofNat 8 v :: leBytes n (v / 256)
/-- The number of `n` bytes at the front of a list, and the rest; none where there are fewer. -/
def takeLe : Nat → List Byte → Option (Nat × List Byte)
  | 0, bs => some (0, bs)
  | _ + 1, [] => none
  | n + 1, x :: bs =>
    match takeLe n bs with
    | some (v, r) => some (x.toNat + 256 * v, r)
    | none => none
/-- The prefix bytes at the front, and the rest. -/
def takePfx : List Byte → List Byte × List Byte
  | [] => ([], [])
  | x :: bs => if (pfxGroup x).isSome then ((x :: (takePfx bs).1), (takePfx bs).2) else ([], x :: bs)

/-- The register byte stands in a form. -/
def formReg : Form → Bool
  | .r | .ri | .rm => true
  | _ => false
/-- The mode byte stands in a form. -/
def formMode : Form → Bool
  | .rm | .mi => true
  | _ => false

/-- Why bytes are no instruction. -/
inductive EwReject where
  /-- the bytes end before the instruction does -/
  | short
  /-- its length exceeds 15 bytes (R561) -/
  | tooLong
deriving DecidableEq, Repr

/-- An optional byte at the front: 0 where the form has none. -/
def takeByte (has : Bool) (bs : List Byte) : Option (Byte × List Byte) :=
  match has, bs with
  | false, bs => some (0, bs)
  | true, x :: bs => some (x, bs)
  | true, [] => none
/-- The bytes after the opcode (R560, R573). -/
def takeTail (o : EwOp) (pre bs : List Byte) : Option (Enc × List Byte) :=
  match takeByte (formReg (formOf o)) bs with
  | none => none
  | some (reg, bs) =>
    match takeByte (formMode (formOf o)) bs with
    | none => none
    | some (mode, bs) =>
      match takeLe (if formMode (formOf o) then dispBytes mode else 0) bs with
      | none => none
      | some (d, bs) =>
        match takeLe (immBytes o (widthOf pre)) bs with
        | none => none
        | some (k, bs) => some (⟨pre, reg, mode, BitVec.ofNat 32 d, BitVec.ofNat 64 k, false, [], none⟩, bs)
/-- The opcode at the front, one byte or an escape byte and a second (R560, R592). -/
def takeOp : List Byte → Option (EwOp × List Byte)
  | [] => none
  | x :: bs =>
    if x.toNat / 16 = 0xE then
      match bs with
      | [] => none
      | y :: bs => some ((if x = 0xE0 then escapeOp y.toNat else none).getD (.reserved true), bs)
    else some ((mainOp x.toNat).getD (.reserved false), bs)
/-- The instruction at the front of the bytes, and the bytes after it. -/
def decodeEowift (bs : List Byte) : Except EwReject (EwOp × Enc × List Byte) :=
  let (pre, bs) := takePfx bs
  if 15 ≤ pre.length then .error .tooLong
  else match takeOp bs with
  | none => .error .short
  | some (o, bs) =>
    match takeTail o pre bs with
    | none => .error .short
    | some (e, bs) => if 15 < ewLen o e then .error .tooLong else .ok (o, e, bs)

/-- The bytes of an instruction (R560). -/
def encodeEowift (o : EwOp) (e : Enc) : List Byte :=
  e.pre ++ (if onEscape o then [0xE0] else []) ++ [opByte o] ++ (if formReg (formOf o) then [e.reg] else []) ++
    (if formMode (formOf o) then [e.mode] ++ leBytes (dispBytes e.mode) e.disp.toNat else []) ++
    leBytes (immBytes o (widthOf e.pre)) e.imm.toNat

/-! ### The instruction that a command is -/

/-- The core, the instruction and its bytes that an Eowift command stands for; none for the other commands, and for a BXFR or
ICINV command with the bytes of another instruction. -/
def ewOf (c : Instr) : Option (BitVec 7 × EwOp × Enc) :=
  match c with
  | .ewBrk c e => some (c, .brk, e)
  | .ewNop c e => some (c, .nop, e)
  | .ewSyscall c e => some (c, .syscall, e)
  | .ewFence c e => some (c, .fence, e)
  | .ewRett c e => some (c, .rett, e)
  | .ewWfi c e => some (c, .wfi, e)
  | .ewRet c e => some (c, .ret, e)
  | .ewJmpRel8 c e => some (c, .jmp false, e)
  | .ewJmpRel32 c e => some (c, .jmp true, e)
  | .ewCall c e => some (c, .call, e)
  | .ewJmpr c e => some (c, .jmpr, e)
  | .ewCallr c e => some (c, .callr, e)
  | .ewBeq c e => some (c, .bcc 0 false, e)
  | .ewBne c e => some (c, .bcc 1 false, e)
  | .ewBlt c e => some (c, .bcc 2 false, e)
  | .ewBge c e => some (c, .bcc 3 false, e)
  | .ewBle c e => some (c, .bcc 4 false, e)
  | .ewBgt c e => some (c, .bcc 5 false, e)
  | .ewBult c e => some (c, .bcc 6 false, e)
  | .ewBuge c e => some (c, .bcc 7 false, e)
  | .ewBule c e => some (c, .bcc 8 false, e)
  | .ewBugt c e => some (c, .bcc 9 false, e)
  | .ewBmi c e => some (c, .bcc 10 false, e)
  | .ewBpl c e => some (c, .bcc 11 false, e)
  | .ewBvs c e => some (c, .bcc 12 false, e)
  | .ewBvc c e => some (c, .bcc 13 false, e)
  | .ewBeqRel32 c e => some (c, .bcc 0 true, e)
  | .ewBneRel32 c e => some (c, .bcc 1 true, e)
  | .ewBltRel32 c e => some (c, .bcc 2 true, e)
  | .ewBgeRel32 c e => some (c, .bcc 3 true, e)
  | .ewBleRel32 c e => some (c, .bcc 4 true, e)
  | .ewBgtRel32 c e => some (c, .bcc 5 true, e)
  | .ewBultRel32 c e => some (c, .bcc 6 true, e)
  | .ewBugeRel32 c e => some (c, .bcc 7 true, e)
  | .ewBuleRel32 c e => some (c, .bcc 8 true, e)
  | .ewBugtRel32 c e => some (c, .bcc 9 true, e)
  | .ewBmiRel32 c e => some (c, .bcc 10 true, e)
  | .ewBplRel32 c e => some (c, .bcc 11 true, e)
  | .ewBvsRel32 c e => some (c, .bcc 12 true, e)
  | .ewBvcRel32 c e => some (c, .bcc 13 true, e)
  | .ewMov c e => some (c, .alu .mov, e)
  | .ewAdd c e => some (c, .alu .add, e)
  | .ewSub c e => some (c, .alu .sub, e)
  | .ewAdc c e => some (c, .alu .adc, e)
  | .ewSbb c e => some (c, .alu .sbb, e)
  | .ewAnd c e => some (c, .alu .and, e)
  | .ewOr c e => some (c, .alu .or, e)
  | .ewXor c e => some (c, .alu .xor, e)
  | .ewCmp c e => some (c, .alu .cmp, e)
  | .ewTst c e => some (c, .alu .tst, e)
  | .ewShl c e => some (c, .alu .shl, e)
  | .ewShr c e => some (c, .alu .shr, e)
  | .ewSar c e => some (c, .alu .sar, e)
  | .ewRol c e => some (c, .alu .rol, e)
  | .ewMul c e => some (c, .alu .mul, e)
  | .ewMulh c e => some (c, .alu .mulh, e)
  | .ewDiv c e => some (c, .alu .div, e)
  | .ewDivu c e => some (c, .alu .divu, e)
  | .ewRem c e => some (c, .alu .rem, e)
  | .ewRemu c e => some (c, .alu .remu, e)
  | .ewNeg c e => some (c, .alu .neg, e)
  | .ewNot c e => some (c, .alu .not, e)
  | .ewClz c e => some (c, .alu .clz, e)
  | .ewPopc c e => some (c, .alu .popc, e)
  | .ewBswap c e => some (c, .alu .bswap, e)
  | .ewMulhu c e => some (c, .alu .mulhu, e)
  | .ewMovi c e => some (c, .imm .movi, e)
  | .ewAddi c e => some (c, .imm .addi, e)
  | .ewSubi c e => some (c, .imm .subi, e)
  | .ewAndi c e => some (c, .imm .andi, e)
  | .ewOri c e => some (c, .imm .ori, e)
  | .ewXori c e => some (c, .imm .xori, e)
  | .ewCmpi c e => some (c, .imm .cmpi, e)
  | .ewTsti c e => some (c, .imm .tsti, e)
  | .ewShli c e => some (c, .imm .shli, e)
  | .ewShri c e => some (c, .imm .shri, e)
  | .ewSari c e => some (c, .imm .sari, e)
  | .ewAddi8 c e => some (c, .imm .addi8, e)
  | .ewCmpi8 c e => some (c, .imm .cmpi8, e)
  | .ewLd c e => some (c, .load .ld, e)
  | .ewLds c e => some (c, .load .lds, e)
  | .ewSt c e => some (c, .st, e)
  | .ewLea c e => some (c, .lea, e)
  | .ewXchg c e => some (c, .load .xchg, e)
  | .ewXadd c e => some (c, .load .xadd, e)
  | .ewCas c e => some (c, .load .cas, e)
  | .ewAddm c e => some (c, .rmw .addm, e)
  | .ewAndm c e => some (c, .rmw .andm, e)
  | .ewOrm c e => some (c, .rmw .orm, e)
  | .ewXorm c e => some (c, .rmw .xorm, e)
  | .ewSti c e => some (c, .sti, e)
  | .ewPush c e => some (c, .push, e)
  | .ewPop c e => some (c, .pop, e)
  | .ewGet c e => some (c, .get, e)
  | .ewPut c e => some (c, .put, e)
  | .ewAddp c e => some (c, .addp, e)
  | .ewLdp c e => some (c, .ldp, e)
  | .ewStp c e => some (c, .stp, e)
  | .ewClra c e => some (c, .acc .clra, e)
  | .ewWra c e => some (c, .acc .wra, e)
  | .ewRda c e => some (c, .acc .rda, e)
  | .ewRdah c e => some (c, .acc .rdah, e)
  | .ewWrah c e => some (c, .acc .wrah, e)
  | .ewLda c e => some (c, .lda, e)
  | .ewSta c e => some (c, .sta, e)
  | .ewMfs c e => some (c, .mfs, e)
  | .ewMts c e => some (c, .mts, e)
  | .ewIcinv c e => if e.imm.toNat % 256 = 0x0B then some (c, .mts, e) else none
  | .ewMacd c e => some (c, .macd, e)
  | .ewScpy c e => some (c, .str .scpy, e)
  | .ewSfil c e => some (c, .str .sfil, e)
  | .ewScmp c e => some (c, .str .scmp, e)
  | .ewSfnd c e => some (c, .str .sfnd, e)
  | .ewScrc c e => some (c, .str .scrc, e)
  | .ewBxfrLoad c e => if encB e = 1 then none else some (c, .bxfr, e)
  | .ewBxfrStore c e => if encB e = 0 then none else some (c, .bxfr, e)
  | .ewReserved c esc e => some (c, .reserved esc, e)
  | _ => none

end Sys2Proof
end

