-- ==== Sys2Proof/Config.lean ====
section
/-! DEFINITION. What one part fixes and the spec leaves open: constants with no body, about which nothing can be proved. -/
namespace Sys2Proof.Config

/-- The contents of the boot ROM (R34 gives its place and size, not its bytes). -/
opaque bootRom : Nat → BitVec 8

/-- The unicast MAC address of a logical port (R179 gives each port one and does not say which). -/
opaque portMac : Nat → BitVec 48

/-- A fresh value the spec does not state; applied to the model's own counter of free values. -/
opaque freeValue : Nat → BitVec 64

/-- The HMAC-SHA-384 of R730 over the nonce and CHIP.UID, under the device key of R729: the model does not interpret it. -/
opaque debugMac : BitVec 256 → BitVec 64 → BitVec 384

/-- The retire reserve of a new cartridge with a number of good blocks (R264 counts it and does not size it). -/
opaque retireReserve : Nat → Nat

/-- The bytes of a journal entry that sets a number of map entries (R246 bounds the journal in bytes). -/
opaque journalBytes : Nat → Nat

/-- The fabric address of the X and Y images of a context: the compute service places them, and the spec does not say where (R554). -/
opaque xySave : Nat → Nat

/-- The fabric address in staging of an extent's payload while it is delivered (R636): the spec does not say where. -/
opaque payloadAt : Nat → Nat

end Sys2Proof.Config
end

