-- ==== Sys2Proof/Machine/SMap.lean ====
section
/-! DEFINITION. Sparse tables: every addressed store of the model (registers, fabric memory, contexts, entries) is a list of
key and value pairs with strictly rising keys; a table with a default lists no entry equal to it. -/
namespace Sys2Proof.Machine

/-- The entry at a key, if one is listed. -/
def smFind {α : Type} : SMap α → Nat → Option α
  | [], _ => none
  | (j, v) :: m, k => if j = k then some v else smFind m k

/-- What a table with default `d` holds at a key. -/
def smGet {α : Type} (d : α) (m : SMap α) (k : Nat) : α := (smFind m k).getD d

/-- The table without a key. -/
def smErase {α : Type} (m : SMap α) (k : Nat) : SMap α := m.filter (fun e => e.1 != k)

/-- The table with an entry put in its place. -/
def smPut {α : Type} : SMap α → Nat → α → SMap α
  | [], k, v => [(k, v)]
  | (j, w) :: m, k, v =>
    if k < j then (k, v) :: (j, w) :: m
    else if j = k then (k, v) :: m
    else (j, w) :: smPut m k v

/-- A write to a table with default `d`: an entry equal to the default is not listed. -/
def smSet {α : Type} [DecidableEq α] (d : α) (m : SMap α) (k : Nat) (v : α) : SMap α :=
  if v = d then smErase m k else smPut m k v

/-- A change of the entry at a key, where one is listed. -/
def smMod {α : Type} (m : SMap α) (k : Nat) (f : α → α) : SMap α :=
  m.map (fun e => if e.1 = k then (e.1, f e.2) else e)

/-- The keys, strictly rising. -/
def smSorted {α : Type} : SMap α → Bool
  | [] => true
  | [_] => true
  | (j, _) :: (k, w) :: m => decide (j < k) && smSorted ((k, w) :: m)

/-- The canonical form of a table with default `d`. -/
def smWf {α : Type} [DecidableEq α] (d : α) (m : SMap α) : Bool :=
  smSorted m && m.all (fun e => decide (e.2 ≠ d))

end Sys2Proof.Machine
end

