-- ==== Sys2Proof/Machine/RegTable.lean ====
section
/-! DEFINITION. The register pages (R43-R49) and the register tables of every unit: field positions, types, reset values,
legal ranges and lock bits. -/
namespace Sys2Proof.Machine

/-- The fused variants (R2, R4). -/
inductive Variant where
  | j1280 | j0640 | j0320e
deriving DecidableEq, Repr

/-- CHIP.IDENT.VARIANT (R4). -/
def Variant.code : Variant → Nat
  | .j1280 => 1 | .j0640 => 2 | .j0320e => 3

/-- CHIP.PRESENT0 (R83). -/
def Variant.present0 : Variant → W32
  | .j1280 => 0xFFFFFFFE | .j0640 => 0x0F0FFFFE | .j0320e => 0x0F0FBF7E

/-- CHIP.PRESENT1 (R83). -/
def Variant.present1 : Variant → W32
  | .j1280 => 0x01FFFFFF | .j0640 => 0x0073303F | .j0320e => 0x00600007

/-- Unit `u` is present. -/
def Variant.hasUnit (v : Variant) (u : Nat) : Bool := decide (u < 16) && v.present0.getLsbD u
/-- Booth `b` is present. -/
def Variant.hasBooth (v : Variant) (b : Nat) : Bool := decide (b < 8) && v.present0.getLsbD (16 + b)
/-- DRAM channel `c` is present. -/
def Variant.hasDram (v : Variant) (c : Nat) : Bool := decide (c < 8) && v.present0.getLsbD (24 + c)
/-- Cluster `n` is present. -/
def Variant.hasCluster (v : Variant) (n : Nat) : Bool := decide (n < 12) && v.present1.getLsbD n
/-- Ethernet port `p` is present. -/
def Variant.hasEth (v : Variant) (p : Nat) : Bool := decide (p < 4) && v.present1.getLsbD (12 + p)
/-- Search bank `k` is present; bank 4 is the ternary bank. -/
def Variant.hasBank (v : Variant) (k : Nat) : Bool := decide (k < 5) && v.present1.getLsbD (16 + k)
/-- Compression lane group `g` is present. -/
def Variant.hasGroup (v : Variant) (g : Nat) : Bool := decide (g < 4) && v.present1.getLsbD (21 + g)
/-- The number of present DRAM channels (R2). -/
def Variant.drams : Variant → Nat
  | .j1280 => 8 | _ => 4
/-- The number of present booths (R2). -/
def Variant.booths : Variant → Nat
  | .j1280 => 8 | _ => 4
/-- The number of present clusters (R2). -/
def Variant.clusters : Variant → Nat
  | .j1280 => 12 | .j0640 => 6 | .j0320e => 3
/-- The number of present lane groups (R2). -/
def Variant.groups : Variant → Nat
  | .j1280 => 4 | _ => 2
/-- The maximum power in mW (R2). -/
def Variant.maxMw : Variant → Nat
  | .j1280 => 165000 | .j0640 => 95000 | .j0320e => 60000

/-- The kinds of register page (R44, and the register section of each chapter). -/
inductive PageClass where
  | chip | hk | paCtl | paBooth | dbg | bt | hp | fpCtl | fpPort | ceCtl | ceTenant | ft
  | fcCtl | fcCh | fcBooth | msCtl | msCh | msStg | cxCtl | cxCluster | cxCore | cxTenant
  | czCtl | czC | czD | seCtl | seBank | dmCtl | dmCh
deriving DecidableEq, Repr

/-- PAGE_ID.KIND of a class of pages. -/
inductive PageKind where
  | single | instance_ | control | tenant
deriving DecidableEq, Repr

/-- The encoding of PAGE_ID.KIND. -/
def PageKind.code : PageKind → Nat
  | .single => 1 | .instance_ => 2 | .control => 3 | .tenant => 4

/-- The kind of a class of pages. -/
def PageClass.kind : PageClass → PageKind
  | .chip | .hk | .dbg | .bt | .ft => .single
  | .paCtl | .fpCtl | .ceCtl | .fcCtl | .msCtl | .cxCtl | .czCtl | .seCtl | .dmCtl => .control
  | .ceTenant | .cxTenant => .tenant
  | .paBooth | .hp | .fpPort | .fcCh | .fcBooth | .msCh | .msStg | .cxCluster | .cxCore
  | .czC | .czD | .seBank | .dmCh => .instance_

/-- The unit code of a class of pages (R13, R43). -/
def PageClass.unit : PageClass → Nat
  | .chip => 1 | .hk => 2 | .paCtl | .paBooth => 3 | .dbg => 4 | .bt => 5 | .hp => 6
  | .fpCtl | .fpPort => 7 | .ceCtl | .ceTenant => 8 | .ft => 9
  | .fcCtl | .fcCh | .fcBooth => 10 | .msCtl | .msCh | .msStg => 11
  | .cxCtl | .cxCluster | .cxCore | .cxTenant => 12
  | .czCtl | .czC | .czD => 13 | .seCtl | .seBank => 14 | .dmCtl | .dmCh => 15

/-- The register-space offset of a unit (R43). -/
def unitBase : Nat → Nat
  | 1 => 0 | 2 => 0x100000 | 3 => 0x200000 | 4 => 0x300000 | 5 => 0x400000 | 6 => 0x500000
  | 7 => 0x600000 | 8 => 0x800000 | 9 => 0xA00000 | 10 => 0xC00000 | 11 => 0xE00000
  | 12 => 0x1000000 | 13 => 0x1400000 | 14 => 0x1600000 | 15 => 0x1800000
  | _ => 0x1C00000

/-- The first page index of a class. -/
def PageClass.firstIndex : PageClass → Nat
  | .paBooth | .fpPort | .ceTenant | .fcCh | .msCh | .cxCluster | .czC | .seBank | .dmCh => 1
  | .fcBooth => 65 | .msStg => 9 | .cxCore => 13 | .cxTenant => 17 | .czD => 33
  | _ => 0

/-- How many pages a class has on a variant. -/
def PageClass.count (v : Variant) : PageClass → Nat
  | .hp => 2
  | .paBooth | .fcBooth => v.booths
  | .fpCtl => if v.hasUnit 7 then 1 else 0
  | .fpPort => match v with | .j1280 => 4 | .j0640 => 2 | .j0320e => 0
  | .ceTenant | .cxTenant => 64
  | .fcCh => 8 * v.booths
  | .msCh => v.drams
  | .cxCluster => v.clusters
  | .cxCore => 4
  | .czC => 8 * v.groups
  | .czD => 16 * v.groups
  | .seCtl => if v.hasUnit 14 then 1 else 0
  | .seBank => if v.hasUnit 14 then 5 else 0
  | .dmCh => 64
  | _ => 1

/-- Instance `i` of a class exists on a variant. The J0640 has binary banks 0 and 1 and the ternary bank 4 (R83). -/
def PageClass.present (v : Variant) (c : PageClass) (i : Nat) : Bool :=
  match c with
  | .seBank => v.hasUnit 14 && v.hasBank i
  | _ => decide (i < c.count v)

/-- The register-space offset of page `i` of a class: instance `i`. -/
def pageBase (c : PageClass) (i : Nat) : Nat := unitBase c.unit + (c.firstIndex + i) * 0x1000

/-- The classes of one unit, with the number of page indices each may take. -/
def unitClasses : Nat → List (PageClass × Nat)
  | 1 => [(.chip, 1)] | 2 => [(.hk, 1)] | 3 => [(.paCtl, 1), (.paBooth, 8)] | 4 => [(.dbg, 1)]
  | 5 => [(.bt, 1)] | 6 => [(.hp, 2)] | 7 => [(.fpCtl, 1), (.fpPort, 4)]
  | 8 => [(.ceCtl, 1), (.ceTenant, 64)] | 9 => [(.ft, 1)]
  | 10 => [(.fcCtl, 1), (.fcCh, 64), (.fcBooth, 8)] | 11 => [(.msCtl, 1), (.msCh, 8), (.msStg, 1)]
  | 12 => [(.cxCtl, 1), (.cxCluster, 12), (.cxCore, 4), (.cxTenant, 64)]
  | 13 => [(.czCtl, 1), (.czC, 32), (.czD, 64)] | 14 => [(.seCtl, 1), (.seBank, 5)]
  | 15 => [(.dmCtl, 1), (.dmCh, 64)]
  | _ => []

/-- The unit whose range holds a register-space offset (R43). -/
def unitOf (off : Nat) : Nat :=
  if off < 0x100000 then 1 else if off < 0x200000 then 2 else if off < 0x300000 then 3
  else if off < 0x400000 then 4 else if off < 0x500000 then 5 else if off < 0x600000 then 6
  else if off < 0x800000 then 7 else if off < 0xA00000 then 8 else if off < 0xC00000 then 9
  else if off < 0xE00000 then 10 else if off < 0x1000000 then 11 else if off < 0x1400000 then 12
  else if off < 0x1600000 then 13 else if off < 0x1800000 then 14 else if off < 0x1C00000 then 15
  else 16

/-- The class and instance at a page index, by the list of a unit's classes. -/
def classAt : List (PageClass × Nat) → Nat → Option (PageClass × Nat)
  | [], _ => none
  | (c, n) :: cs, k =>
    if c.firstIndex ≤ k ∧ k < c.firstIndex + n then some (c, k - c.firstIndex) else classAt cs k

/-- The page that holds a register-space offset, whether or not the variant has it. -/
def pageAt (off : Nat) : Option (PageClass × Nat) :=
  classAt (unitClasses (unitOf off)) ((off - unitBase (unitOf off)) / 0x1000)

/-- The present page that holds a register-space offset (R45). -/
def presentPageAt (v : Variant) (off : Nat) : Option (PageClass × Nat) :=
  match pageAt off with
  | some (c, i) => if c.present v i then some (c, i) else none
  | none => none

/-- Field types (the notation of the scope chapter); `key` is a WO field that must be 0x5EED. -/
inductive FTy where
  | ro | rw | w1c | w1s | wo | rwl | key
deriving DecidableEq, Repr

/-- One field of a register. -/
structure Fld where
  /-- lowest bit -/
  lo : Nat
  /-- highest bit -/
  hi : Nat
  /-- type -/
  ty : FTy
  /-- reset value -/
  rst : Nat
  /-- lowest legal value -/
  mn : Nat
  /-- highest legal value -/
  mx : Nat
  /-- lock bit of an RWL field (R75) -/
  lk : Nat := 0
deriving DecidableEq, Repr

/-- `cnt` registers of one layout at consecutive words from page offset `off`. -/
structure Reg where
  /-- page offset of the first -/
  off : Nat
  /-- how many -/
  cnt : Nat
  /-- the fields; bits in none are reserved -/
  flds : List Fld
deriving DecidableEq, Repr

/-- The highest value of bits [hi:lo]. -/
def fullMax (lo hi : Nat) : Nat := 2 ^ (hi - lo + 1) - 1
/-- An RO field. -/
def fRo (lo hi rst : Nat) : Fld := ⟨lo, hi, .ro, rst, 0, fullMax lo hi, 0⟩
/-- An RW field with every value legal. -/
def fRw (lo hi rst : Nat) : Fld := ⟨lo, hi, .rw, rst, 0, fullMax lo hi, 0⟩
/-- An RW field with a legal range. -/
def fRwR (lo hi rst mn mx : Nat) : Fld := ⟨lo, hi, .rw, rst, mn, mx, 0⟩
/-- An RWL field of lock bit 0 with every value legal. -/
def fRwl (lo hi rst : Nat) : Fld := ⟨lo, hi, .rwl, rst, 0, fullMax lo hi, 0⟩
/-- An RWL field of lock bit 0 with a legal range. -/
def fRwlR (lo hi rst mn mx : Nat) : Fld := ⟨lo, hi, .rwl, rst, mn, mx, 0⟩
/-- A WO field with a legal range. -/
def fWo (lo hi mn mx : Nat) : Fld := ⟨lo, hi, .wo, 0, mn, mx, 0⟩
/-- A KEY field in bits [31:16]. -/
def fKey : Fld := ⟨16, 31, .key, 0, 0, 0xFFFF, 0⟩
/-- One register. -/
def reg1 (off : Nat) (f : List Fld) : Reg := ⟨off, 1, f⟩
/-- Consecutive registers of one layout. -/
def regN (off n : Nat) (f : List Fld) : Reg := ⟨off, n, f⟩
/-- Consecutive 32-bit RO registers that reset to 0. -/
def regRo (off n : Nat) : Reg := ⟨off, n, [fRo 0 31 0]⟩

/-- The common header (R49). -/
def headerRegs : List Reg :=
  [ regN 0x000 3 [fRo 0 31 0], reg1 0x00C [fRo 0 31 1], reg1 0x010 [fRo 0 31 0], reg1 0x014 [fRw 0 31 0],
    reg1 0x018 [fRo 0 31 0], reg1 0x01C [fWo 0 31 0 0xFFFFFFFF], reg1 0x020 [⟨0, 31, .w1c, 0, 0, 0xFFFFFFFF, 0⟩],
    reg1 0x024 [⟨0, 7, .rwl, 0, 0, 255, 31⟩, ⟨8, 18, .rwl, 0, 0, 2047, 31⟩, ⟨19, 24, .rwl, 0, 0, 63, 31⟩,
      ⟨25, 26, .rwl, 3, 0, 3, 31⟩],
    regN 0x030 2 [fRo 0 31 0], reg1 0x038 [fWo 0 1 0 3], regN 0x040 16 [fRo 0 31 0],
    reg1 0x080 [fWo 0 3 0 15, fKey], reg1 0x084 [⟨0, 31, .w1s, 0, 0, 0xFFFFFFFF, 0⟩] ]

/-- The registers from page offset 0x100 of the classes of the always-on domain and the fabric. -/
def aonRegs (v : Variant) : PageClass → List Reg
  | .chip =>
    [ reg1 0x100 [fRo 0 7 v.code, fRo 8 15 0xB0, fRo 16 31 0x1280], regRo 0x104 2,
      reg1 0x110 [fRo 0 31 v.present0.toNat], reg1 0x114 [fRo 0 31 v.present1.toNat],
      regRo 0x120 2, reg1 0x130 [fRo 0 24 0], regRo 0x134 1, regRo 0x138 2,
      reg1 0x140 [fRwl 0 0 0, fRwl 1 1 0], reg1 0x144 [fRo 1 15 0] ]
  | .hk =>
    [ reg1 0x100 [fRo 0 15 0, fRo 16 31 0],
      reg1 0x104 [fRwR 0 7 95 60 110, fRwlR 8 15 105 90 110, fRwlR 16 23 115 100 115, fRwlR 24 31 85 50 100],
      reg1 0x108 [fRwR 0 11 150 20 1000, fRwR 12 19 50 10 200],
      reg1 0x10C [fRwlR 0 4 2 1 10, fRo 5 5 0], reg1 0x110 [fRw 0 4 0], reg1 0x114 [fRo 0 15 0, fRo 16 16 0],
      reg1 0x118 [fRwR 0 7 10 1 255], reg1 0x120 [fRwR 0 3 0 0 14],
      reg1 0x124 [fRwR 0 7 0 1 255, fRw 8 19 0, fRw 20 25 0, fRwR 26 31 10 1 63],
      reg1 0x128 [fRo 0 0 0, fRo 1 1 0, ⟨2, 2, .w1c, 0, 0, 1, 0⟩],
      reg1 0x130 [fRo 0 0 0, fRo 1 1 0, fRo 2 4 0, fRwl 5 5 0], regRo 0x134 1,
      reg1 0x140 [fRo 0 0 0, fRo 1 1 0, fRo 2 2 0, fRo 3 3 0, fRo 4 5 0],
      reg1 0x144 [fWo 0 1 1 3, fWo 2 2 0 1, fKey], reg1 0x148 [fRo 0 7 0, fRo 8 15 0],
      reg1 0x150 [fWo 0 3 0 15, fKey], reg1 0x158 [fRwR 0 7 100 10 255, fRo 8 10 0],
      reg1 0x160 [fRwl 0 6 0x40, fRwl 7 7 1],
      reg1 0x400 [fRwl 0 0 1, fRwl 1 1 1], reg1 0x404 [fRwlR 0 9 100 20 500],
      reg1 0x408 [fWo 0 1 0 3], reg1 0x40C [fRo 0 4 0x0F, fRo 5 7 4, fRo 8 15 0],
      reg1 0x410 [fRwl 0 31 0], reg1 0x414 [fRwl 0 15 0],
      reg1 0x420 [fRwR 0 15 24 1 65535, fRw 16 16 1], regRo 0x424 1,
      reg1 0x430 [fRo 0 11 (2 ^ v.clusters - 1), fRo 12 12 1, fRo 13 13 1, fRo 14 15 2, fRo 16 18 4, fRo 19 20 2,
        fRo 21 22 2],
      reg1 0x440 [fRw 0 3 0], reg1 0x444 [fRo 0 15 0], reg1 0x448 [fRo 0 9 750, fRo 10 10 0], regRo 0x44C 1 ]
  | .paCtl =>
    let base := match v with | .j1280 => 5000 | .j0640 => 3500 | .j0320e => 2500
    let floor := match v with | .j1280 => 40 | .j0640 => 25 | .j0320e => 18
    [ reg1 0x100 [fRo 0 19 v.maxMw], reg1 0x104 [fRw 0 19 v.maxMw], reg1 0x108 [fRwl 0 19 base],
      reg1 0x10C [fRo 0 19 0, fRo 20 22 0], reg1 0x110 [fRo 0 19 0], reg1 0x114 [fRo 0 19 v.maxMw],
      reg1 0x118 [fRo 0 2 0], reg1 0x11C [fRwR 0 7 20 1 255],
      reg1 0x120 [fRwR 0 7 5 1 25, fRw 8 15 floor, fRw 16 23 64, fRwR 24 31 20 1 255],
      reg1 0x124 [fRw 0 7 64, fRwR 8 15 128 0 224, fRwR 16 24 400 1 511], reg1 0x128 [fRo 0 15 256],
      regRo 0x130 3 ]
  | .paBooth => [reg1 0x100 [fRw 0 19 20000], reg1 0x104 [fRo 0 19 0], reg1 0x108 [fRo 0 15 0, fRo 16 31 0]]
  | .dbg => [reg1 0x100 [fRo 0 0 0, fRo 1 4 0], reg1 0x104 [fRwl 0 0 1, fRwl 1 1 1, fRwl 2 2 1, fRwl 3 3 1]]
  | .bt =>
    [ reg1 0x100 [fRwlR 0 12 64 8 4096], reg1 0x104 [fRwlR 0 7 4 1 255, fRwlR 8 15 16 1 255, fRwlR 16 23 48 1 255],
      reg1 0x108 [fRwlR 0 9 256 1 1023], regRo 0x110 5, reg1 0x124 [fRo 0 3 0, fRo 4 7 8] ]
  | _ => []

/-- The registers of the host side: host and fabric ports and the command engine (R149). -/
def hostRegs (i : Nat) : PageClass → List Reg
  | .hp =>
    reg1 0x100 [fRo 0 2 0, fRo 3 7 0, fRo 8 8 0, fRo 9 9 0, fRo 10 10 0, fRwR 11 13 4 1 4] ::
    (if i = 0 then
      [ reg1 0x110 [fRwR 0 7 64 8 96, fRwR 8 15 8 1 96], reg1 0x114 [fRo 0 16 0, fRo 17 31 0], reg1 0x118 [fRo 0 15 0],
        reg1 0x120 [fRwl 0 6 0x1D, fRwl 7 7 1] ]
     else [])
  | .fpCtl =>
    [ reg1 0x100 [fRw 0 3 15, fRwR 4 7 4 1 8], reg1 0x104 [fRwR 0 7 10 1 255, fRwR 8 11 8 1 15, fRwR 12 19 20 1 255,
        fRwR 20 27 30 1 255], reg1 0x108 [fRwR 0 3 6 4 8], reg1 0x10C [fRo 0 14 0] ]
  | .fpPort => [reg1 0x100 [fRw 0 1 0, fRwR 2 3 0 0 2, fRw 4 4 1, fRw 5 12 0], reg1 0x104 [fRo 0 7 0, fRo 8 15 0]]
  | .ceCtl =>
    [ reg1 0x100 [fRw 0 0 0], reg1 0x104 [fRo 0 0 0, fRo 1 1 0], reg1 0x108 [fRo 0 16 0], regRo 0x10C 2,
      regN 0x114 2 [fRo 0 16 0], regRo 0x11C 1, reg1 0x120 [fWo 0 5 1 63, fKey], reg1 0x130 [fRw 0 13 0],
      reg1 0x134 [fWo 0 1 1 2], regN 0x140 16 [fRw 0 31 0], reg1 0x180 [fRw 0 9 0],
      reg1 0x184 [fRw 0 5 0, fRw 6 6 0, fRwR 8 11 12 9 12], regN 0x200 16 [fRo 0 15 0, fRo 16 31 0] ]
  | .ceTenant =>
    [ reg1 0x100 [fRwR 0 14 (if i = 0 then 16384 else 0) 0 16384], reg1 0x104 [fRwR 0 16 65536 1 65536],
      reg1 0x108 [fRwR 0 7 16 1 255], reg1 0x10C [fRo 0 14 0, fRo 15 15 0], reg1 0x110 [fRo 0 16 0],
      reg1 0x114 [fRw 0 5 i] ]
  | _ => []

/-- The registers of the flash side: translation (R279), media channels (R340) and compression (R382). -/
def flashRegs : PageClass → List Reg
  | .ft =>
    [ reg1 0x100 [fRo 0 2 5, fRo 3 4 0], reg1 0x104 [fRo 0 22 0], reg1 0x108 [fRwlR 0 22 16384 1024 1048576],
      reg1 0x10C [fRo 0 22 0], reg1 0x110 [fRw 0 7 32], reg1 0x114 [fRwR 0 22 2048 0 1048576],
      reg1 0x118 [fRwR 0 22 16384 0 1048576], regN 0x11C 2 [fRo 0 22 0],
      reg1 0x130 [fRw 0 7 64, fRw 8 15 8, fRw 16 23 16, fRw 24 31 32],
      reg1 0x134 [fRwR 0 7 8 1 255, fRwR 8 9 0 0 2], reg1 0x138 [fRwR 0 22 4096 0 1048576],
      reg1 0x13C [fRwR 0 22 16384 0 1048576], reg1 0x140 [fRw 0 19 32768],
      reg1 0x150 [fRwlR 0 9 320 256 1023, fRwR 10 25 500 50 65535, fRwlR 26 31 4 1 63],
      regN 0x154 2 [fRo 0 23 0], regRo 0x160 4, regRo 0x170 1, reg1 0x174 [fRo 0 14 0],
      reg1 0x180 [fRwlR 0 7 16 4 64, fRo 8 23 0], regRo 0x190 1,
      reg1 0x1A0 [fRo 0 15 0, fRo 16 17 0, fRo 18 27 0, fRo 28 28 0] ]
  | .fcCtl =>
    [ reg1 0x100 [fRw 0 31 0], reg1 0x104 [fRw 0 15 0], reg1 0x108 [fWo 0 3 0 15, fWo 4 5 1 2],
      reg1 0x10C [fRo 0 0 0, fRo 1 3 0], regN 0x110 16 [fRo 0 15 0, fRo 16 23 0, fRo 24 31 0],
      reg1 0x150 [fRw 0 9 0], reg1 0x154 [fWo 0 2 1 4], reg1 0x158 [fRo 0 0 0, fRo 1 1 0, fRo 2 2 0],
      reg1 0x15C [fRwl 0 31 0], regN 0x160 18 [fRw 0 31 0], reg1 0x1B0 [fRw 0 31 0], reg1 0x1B4 [fRw 0 15 0],
      reg1 0x1B8 [fRwR 0 15 2048 64 32768], reg1 0x1BC [fRo 0 15 0, fRo 16 31 0],
      reg1 0x1C0 [fRwR 0 15 5000 500 20000], reg1 0x1C4 [fRwR 0 15 600 10 65535, fRwR 16 23 10 2 50] ]
  | .fcCh =>
    [ reg1 0x100 [fRo 0 0 0, fRo 1 6 0, fRo 7 7 0, fRo 8 8 0], reg1 0x104 [fRo 0 15 0, fRo 16 31 0], regRo 0x110 6 ]
  | .fcBooth =>
    [ reg1 0x100 [fWo 0 3 1 5, fKey], reg1 0x104 [fRo 0 3 0, fRo 4 4 0, fRo 5 5 0, fRo 6 9 0, fRo 10 10 0],
      reg1 0x108 [fRw 0 0 1], regRo 0x110 4 ]
  | .czCtl =>
    [ reg1 0x100 [fRw 0 4 8, fRw 5 11 16], reg1 0x104 [fRwR 0 7 20 1 255, fRw 8 13 2, fRw 14 20 4],
      reg1 0x108 [fRwR 0 3 0 0 8], reg1 0x110 [fRw 0 31 0], reg1 0x114 [fRw 0 15 0], reg1 0x118 [fRwR 0 14 0 0 16384],
      reg1 0x120 [fRw 0 13 0], reg1 0x124 [fRw 0 5 0, fRo 6 7 0], reg1 0x130 [fRwR 0 3 1 1 8], reg1 0x134 [fWo 0 1 1 2],
      reg1 0x138 [fRo 0 0 0, fRo 1 2 0, fRo 3 10 0, fRo 11 22 0], regN 0x140 40 [fRw 0 31 0],
      regN 0x200 16 [fRw 0 31 0], reg1 0x240 [fWo 0 0 0 1], reg1 0x244 [fRo 0 0 0], regRo 0x260 8,
      reg1 0x280 [fRo 0 5 0, fRo 6 12 0], reg1 0x284 [fRo 0 15 0] ]
  | .czC | .czD =>
    [ reg1 0x100 [fRo 0 0 0, fRo 1 1 0, fRo 2 2 0, fRo 16 29 0], regRo 0x108 1, regRo 0x110 4 ]
  | _ => []

/-- The registers of the memory system (R427), DMA engine (R469), search engine (R507) and compute service (R645). -/
def dataRegs (v : Variant) (i : Nat) : PageClass → List Reg
  | .msCtl =>
    [ reg1 0x100 [fRwlR 0 2 5 0 5, fRwl 3 3 0, fRwl 4 4 0, fRwlR 5 6 0 0 2, fRwlR 7 10 4 0 8],
      reg1 0x104 [fRo 0 0 0, fRo 1 3 0, fRo 4 13 0], reg1 0x108 [fRw 0 7 32, fRwR 8 15 16 1 255],
      reg1 0x10C [fRwR 0 7 24 1 255, fRw 8 8 1], regRo 0x110 1, reg1 0x118 [fRwR 0 7 32 17 255],
      reg1 0x11C [fRo 0 2 0, fRo 8 15 0], reg1 0x120 [fRw 0 3 4], reg1 0x130 [fRw 0 4 0],
      reg1 0x134 [fRwR 0 19 0 0 524287], reg1 0x138 [fRwR 0 19 0 1 524288],
      reg1 0x13C [fRw 0 0 0, fRw 1 6 0, fRo 7 8 0, fWo 9 10 0 3] ]
  | .msCh => [reg1 0x100 [fRo 0 0 0, fRo 1 1 0, fRo 2 9 0], regRo 0x110 3, regRo 0x11C 1]
  | .msStg => [reg1 0x100 [fRwlR 0 6 64 8 96], reg1 0x104 [fRwR 0 15 60 1 65535, fRo 16 31 0], reg1 0x108 [fRo 0 10 0],
      regRo 0x10C 1]
  | .dmCtl =>
    [ reg1 0x100 [fRwR 0 19 4096 16 1048575], regRo 0x104 1, reg1 0x110 [fRw 0 7 0], reg1 0x114 [fRwR 0 1 0 0 2, fRw 2 7 0],
      regN 0x120 8 [⟨0, 31, .w1s, 0, 0, 0xFFFFFFFF, 0⟩], reg1 0x140 [fRo 0 1 2, fRo 2 3 2],
      regN 0x160 8 [fWo 0 31 0 0xFFFFFFFF] ]
  | .dmCh =>
    [ reg1 0x100 [fRw 0 5 0, fRw 6 6 0, fRwR 7 8 2 1 3], reg1 0x104 (if i < 48 then [fRw 0 0 0] else []),
      reg1 0x108 [fRw 0 31 0], reg1 0x10C [fRw 0 15 0], reg1 0x110 [fWo 0 1 0 3],
      reg1 0x114 [fRo 0 7 0, fRo 8 8 0, fRo 9 12 0], regRo 0x118 11 ] ++
    ((List.range 4).flatMap (fun k => [reg1 (0x150 + 8 * k) [fRw 0 31 0],
      reg1 (0x154 + 8 * k) [fRw 0 3 0, fRwR 4 9 0 0 48, fRw 10 10 0, fRw 11 11 0, fRw 12 12 0]]))
  | .seCtl =>
    [ reg1 0x100 [fRw 0 31 0], reg1 0x104 [fRw 0 15 0], reg1 0x108 [fRw 0 0 1, fRwR 1 16 10 1 65535],
      regN 0x140 16 [fRw 0 31 0], reg1 0x180 [fWo 0 0 0 1], reg1 0x184 [fRo 0 0 0], regRo 0x1C0 16 ]
  | .seBank =>
    [ reg1 0x100 [fRw 0 5 0], reg1 0x104 [fRw 0 5 0, fRo 6 7 0, fWo 8 9 0 3],
      reg1 0x108 [fRw 0 13 0, fRwR 16 30 0 0 (if i = 4 then 4096 else 16384)],
      reg1 0x10C [fRo 0 14 0], reg1 0x110 [fRo 0 14 0, fRo 15 15 1, fRo 16 22 64, fRo 23 29 0], regRo 0x114 4 ]
  | .cxCtl => [reg1 0x100 [fRw 0 31 0], reg1 0x104 [fRw 0 15 0], reg1 0x108 [fRo 0 12 0], reg1 0x10C [fRwlR 0 5 16 0 32]]
  | .cxCluster =>
    [ reg1 0x100 [fRo 0 2 0, fRo 3 15 0, fRo 16 23 0], reg1 0x104 [fRwR 0 2 4 1 4, fRwR 3 10 100 1 255],
      reg1 0x108 [fRwR 0 5 0 0 47, fRw 6 13 0, fRw 14 14 0] ]
  | .cxTenant =>
    [ reg1 0x100 [fRwR 0 12 (if i = 0 then 4096 else 0) 0 4096], reg1 0x104 [fRwR 0 7 16 1 255, fRwR 8 23 1000 10 65535],
      reg1 0x108 [fRw 0 11 (if i = 0 then 2 ^ v.clusters - 1 else 0)], regN 0x10C 2 [fRw 0 4 0, fRw 5 5 0],
      reg1 0x114 [fRo 0 12 0] ]
  | _ => []

/-- The unit registers of a page. -/
def unitRegs (v : Variant) (c : PageClass) (i : Nat) : List Reg :=
  match c with
  | .chip | .hk | .paCtl | .paBooth | .dbg | .bt => aonRegs v c
  | .hp | .fpCtl | .fpPort | .ceCtl | .ceTenant => hostRegs i c
  | .ft | .fcCtl | .fcCh | .fcBooth | .czCtl | .czC | .czD => flashRegs c
  | _ => dataRegs v i c

/-- EVT_BITS of a page: the event tables of the chapters. -/
def evtBits (c : PageClass) (i : Nat) : Nat :=
  match c with
  | .chip | .bt | .ceCtl => 5
  | .hk => 23 | .paCtl => 4 | .paBooth => 1 | .dbg => 3
  | .hp => if i = 0 then 7 else 5
  | .fpCtl => 6 | .fpPort => 3 | .ft => 10
  | .fcCtl => 5 | .fcCh => 3 | .fcBooth => 6
  | .msCtl => 4 | .msCh => 2 | .msStg => 2
  | .cxCtl => 2 | .cxCluster => 2 | .cxCore => 0 | .cxTenant => 0 | .ceTenant => 0
  | .czCtl => 6 | .czC | .czD => 1
  | .seCtl => 1 | .seBank => 5 | .dmCtl => 2 | .dmCh => 4

/-- A page has an RWL field of lock bit 0 beside EVT_ROUTE. -/
def hasLock0 (v : Variant) (c : PageClass) (i : Nat) : Bool :=
  (unitRegs v c i).any (fun r => r.flds.any (fun f => f.ty == .rwl && f.lk == 0))

/-- LOCK_BITS: bit 31 on every page, and bit 0 where the page has RWL fields of its own. DEDUCED, log entry 5. -/
def lockBits (v : Variant) (c : PageClass) (i : Nat) : Nat := if hasLock0 v c i then 2 else 1

/-- The implemented LOCK bits as a mask. -/
def lockMask (v : Variant) (c : PageClass) (i : Nat) : W32 := if hasLock0 v c i then 0x80000001 else 0x80000000

/-- The register that holds a page offset, in a list. -/
def regIn : List Reg → Nat → Option Reg
  | [], _ => none
  | r :: rs, o => if r.off ≤ o ∧ o < r.off + 4 * r.cnt then some r else regIn rs o

/-- The register at a word-aligned page offset of a page. -/
def regAtPage (v : Variant) (c : PageClass) (i : Nat) (o : Nat) : Option Reg :=
  if o < 0x100 then regIn headerRegs o else regIn (unitRegs v c i) o

/-- The register at a word-aligned register-space offset of a present page. -/
def regAt (v : Variant) (off : Nat) : Option Reg :=
  match presentPageAt v off with
  | some (c, i) => regAtPage v c i (off % 0x1000)
  | none => none

/-- Bits [hi:lo] of a word as a number. -/
def fld (w : W32) (lo hi : Nat) : Nat := (w.toNat >>> lo) % 2 ^ (hi - lo + 1)

/-- A word with bits [hi:lo] replaced. -/
def setFld (w : W32) (lo hi x : Nat) : W32 :=
  BitVec.ofNat 32 (w.toNat - (fld w lo hi) * 2 ^ lo + (x % 2 ^ (hi - lo + 1)) * 2 ^ lo)

/-- A register's reset value from its fields. -/
def resetWord (fs : List Fld) : W32 := fs.foldl (fun w f => setFld w f.lo f.hi f.rst) 0

/-- PAGE_ID of a page. -/
def pageId (c : PageClass) (i : Nat) : W32 :=
  BitVec.ofNat 32 (0x4A000000 + c.unit * 65536 + (if c.kind = .control then 0xFFF else if c = .msStg then 8 else i) * 16 + c.kind.code)

/-- PAGE_CAP of a page; UNIT_CAP is 0, since no chapter gives one (log entry 6). -/
def pageCap (v : Variant) (c : PageClass) (i : Nat) : W32 := BitVec.ofNat 32 (evtBits c i + lockBits v c i * 64)

/-- The value of the register at a register-space offset after reset. -/
def regReset (v : Variant) (off : Nat) : W32 :=
  match presentPageAt v off with
  | none => 0
  | some (c, i) =>
    let o := off % 0x1000
    if o = 0 then pageId c i
    else if o = 4 then 0x100
    else if o = 8 then pageCap v c i
    else match regAtPage v c i o with
      | some r => resetWord r.flds
      | none => 0

end Sys2Proof.Machine
end

