-- ==== Sys2Proof/Machine/State.lean ====
section
/-! DEFINITION. The state of the block as plain data, and its state after reset. -/
namespace Sys2Proof.Machine

/-- Why the block stops. -/
inductive Fault where
  /-- Raised by no meaning: the spec gives every command of the table an effect or none, and a block that receives a
  command it cannot serve answers it. Safe, since nothing ends in it. -/
  | neverRaised
deriving DecidableEq, Repr

/-- Why a command has no meaning. -/
inductive Refusal where
  /-- Raised by the dispatcher for a row that has no meaning yet. Safe: the run stops. -/
  | notModelled (mnemonic : String)
deriving DecidableEq, Repr

/-- Responses of the Big Top (R19). -/
inductive Resp where
  | ok | decode | tenant | timeout | poison | busy | offline
deriving DecidableEq, Repr

/-- Severities of an error record (R67). -/
inductive Sev where
  | corrected | deferred | contained | unitFatal | deviceFatal
deriving DecidableEq, Repr

/-- The SEVERITY encoding (R67). -/
def Sev.code : Sev → Nat
  | .corrected => 1 | .deferred => 2 | .contained => 3 | .unitFatal => 4 | .deviceFatal => 5

/-- A 64-byte error record (R67). UNIT and INSTANCE follow from the page that holds it. -/
structure ErrRec where
  /-- TIMESTAMP -/
  time : W64
  /-- UNIT -/
  unit : BitVec 8
  /-- INSTANCE -/
  inst : BitVec 12
  /-- TENANT -/
  tenant : BitVec 6
  /-- SEVERITY -/
  sev : Sev
  /-- NESTED -/
  nested : Bool
  /-- ADDR, when ADDR_VALID -/
  addr : Option FAddr
  /-- CODE -/
  code : BitVec 16
  /-- PORT, 0xFF if none -/
  port : BitVec 8
  /-- SEQ -/
  seq : W32
  /-- DETAIL, byte k in bits [8k+7:8k] -/
  detail : BitVec 192
deriving DecidableEq, Repr

/-- The error queue of a page (R61-R66). -/
structure ErrQ where
  /-- records held, oldest first -/
  recs : List ErrRec := []
  /-- ERR_OVF.LOST -/
  lost : Nat := 0
  /-- ERR_OVF.MAX_SEV -/
  maxSev : Nat := 0
  /-- SEQ of the next record -/
  seq : W32 := 0
deriving DecidableEq, Repr

/-- A fabric transaction that has had no final response (R20, R21). -/
structure OpenTxn where
  /-- the transaction -/
  txn : Txn
  /-- microsecond of its first issue: its age counts from here (R25) -/
  born : Nat
  /-- microsecond of its last issue: its timeout counts from here -/
  issued : Nat
  /-- BUSY responses in a row -/
  busy : Nat
  /-- promoted to C0 (R26) -/
  promoted : Bool
  /-- the arbiter of its target has granted it: it waits at the target, and not at the arbiter -/
  granted : Bool
  /-- the bytes of a write that are written -/
  be : BitVec 256
deriving DecidableEq, Repr

/-- The Big Top: transactions in the open, and those whose port has given up on them. -/
structure FabSt where
  /-- no final response yet; those that their arbiter has granted in the order of their grants -/
  opened : List OpenTxn := []
  /-- the requesting port that a target port's arbiter granted last, by target port (R24) -/
  last : SMap Nat := []
  /-- timed out, the target's response not yet seen -/
  dead : List (BitVec 16) := []
deriving DecidableEq, Repr

/-- Bytes by offset, default 0: the contents of a unit, a piece or a host buffer. -/
abbrev Bytes := SMap Byte

/-- An NVMe status: SCT, SC, DNR. -/
structure Stat where
  /-- status code type -/
  sct : BitVec 3
  /-- status code -/
  sc : BitVec 8
  /-- do not retry; none where the spec states no value -/
  dnr : Option Bool
deriving DecidableEq, Repr

/-- A stored extent: the header of R212 and the unit's contents; the payload's compressed bytes are not kept. -/
structure Ext where
  /-- NSX -/
  nsx : Nat
  /-- UNIT -/
  unit : Nat
  /-- RAW -/
  raw : Bool
  /-- CLEN -/
  clen : Nat
  /-- LEN in slots (R213) -/
  len : Nat
  /-- CRC -/
  crc : W32
  /-- PMASK -/
  pmask : W32
  /-- EPOCH -/
  epoch : W32
  /-- contents -/
  data : Bytes
  /-- generation of the key it was encrypted under -/
  keyGen : Nat
  /-- the source of a reclaim copy -/
  src : Option (BitVec 48)
deriving DecidableEq, Repr

/-! ### The command engine (chapter 3) -/

/-- Where a command came from: a queue context, the local queue of a compute context, or a Memory Copy, by its sequence
number (R625). -/
inductive CmdSrc where
  | queue (qc : Nat) | localQ (ctx : Nat) | internal (parent : Nat)
deriving DecidableEq, Repr

/-- What a sequenced command does. -/
inductive CmdOp where
  | read | write | zeroes (deac : Bool) | compare | verify | dealloc | flush | program
deriving DecidableEq, Repr

/-- The states of a command in flight (R126). -/
inductive CmdState where
  | fetched | writePartial | writeDurable | readMedia | readSending | flushWait
deriving DecidableEq, Repr

/-- One command in flight: fetched and sequenced, not completed. -/
structure Cmd where
  /-- sequence number (R105) -/
  seq : Nat
  /-- source -/
  src : CmdSrc
  /-- command identifier, or the local queue tag -/
  cid : Nat
  /-- owner -/
  tenant : BitVec 6
  /-- NSID of the command -/
  nsid : Nat
  /-- operation -/
  op : CmdOp
  /-- ordered (R115, ORDERED) -/
  ordered : Bool
  /-- LBA ranges: first LBA and count -/
  ranges : List (Nat × Nat)
  /-- fabric address of a local queue command's buffer -/
  buf : Nat
  /-- state (R126) -/
  st : CmdState
  /-- no longer held by R111 or R117 -/
  started : Bool
  /-- earlier commands of its queue still in flight at its fetch (R117), while still in flight -/
  preds : List Nat
  /-- one of them has failed (R118) -/
  predFailed : Bool
  /-- the writes a Flush covers (R128) -/
  covers : List Nat
  /-- the status it ends with once it starts, where its checks at the fetch give one (R98, R108, R146) -/
  fate : Option Stat
  /-- the command of a compute or memory namespace that it is, if any (R107) -/
  prog : Option ProgOp
  /-- host memory takes its completion entry (R152) -/
  posted : Bool
  /-- it has ended, and its completion waits for room in its completion queue (R113) -/
  fin : Bool
  /-- the data pointer (R169) -/
  ptrs : List Desc
  /-- in-capsule data, or the data to compare with -/
  capsule : Option Bytes
  /-- bytes of compare data that a host has yet to give -/
  owed : Nat
  /-- units whose media data has not arrived yet, or not reached a local queue buffer -/
  waits : List Nat
  /-- units that wait for delivery (R636) or decompression, with the extent where one was read and the highest rung used -/
  ready : List (Nat × Option Ext × Nat)
  /-- how the protection information check of its read data ends: 0 passes (R171) -/
  pi : Nat
  /-- staging pages of its read data, byte 0 the first byte of its first LBA; empty where it has none -/
  pages : List Nat
  /-- the Ticket Office's or a device fault's retry already used (R653) -/
  retried : Bool
deriving DecidableEq, Repr

/-- A command fetched by a lane or the local-queue input and not yet sequenced. -/
structure Fetched where
  /-- lane 0-15, or 16 for the local-queue input -/
  lane : Nat
  /-- source -/
  src : CmdSrc
  /-- the submission queue entry -/
  sqe : Sqe
  /-- ordered: its opcode, ORD, or ORDERED of its queue at its fetch (R115-R117) -/
  ordered : Bool := false
  /-- a command of its queue in flight at its fetch has failed since (R118) -/
  predFailed : Bool := false
  /-- the status it ends with, where that is settled before it is sequenced -/
  ended : Option Stat := none
deriving DecidableEq, Repr

/-- A completion on its way to a queue. -/
structure CqEntry where
  /-- submission context -/
  qc : Nat
  /-- DW0 -/
  dw0 : W32
  /-- DW1 -/
  dw1 : W32
  /-- command identifier -/
  cid : Nat
  /-- status -/
  st : Stat
  /-- host memory takes it (R152) -/
  posted : Bool
  /-- sequence number, for an I/O command -/
  seq : Option Nat
deriving DecidableEq, Repr

/-- A controller's features and state. -/
structure Ctlr where
  /-- CSTS.CFS -/
  cfs : Bool := false
  /-- CC.EN -/
  en : Bool := false
  /-- Arbitration feature: AB, LPW, MPW, HPW -/
  arb : BitVec 32 := 0
  /-- Interrupt Coalescing feature -/
  coal : BitVec 16 := 0
  /-- vectors with coalescing disabled -/
  noCoal : List Nat := []
  /-- entries posted and not yet signalled, and the microsecond of the first, by vector (R168) -/
  unsent : SMap (Nat × Nat) := []
  /-- outstanding Asynchronous Event Requests (command identifiers) -/
  aers : List Nat := []
  /-- asynchronous events not yet reported -/
  events : List Nat := []
  /-- weighted round robin credits left for high, medium and low -/
  wrr : Nat × Nat × Nat := (0, 0, 0)
  /-- Keep Alive timeout in 100 ms units, 0 off -/
  kato : Nat := 0
  /-- microsecond of the last Keep Alive -/
  kaAt : Nat := 0
deriving DecidableEq, Repr

/-- A reset of R133 that runs: the contexts in its scope, and the tenant of a tenant reset. -/
structure CtlReset where
  /-- contexts in scope -/
  qcs : List Nat
  /-- the tenant, for a tenant reset -/
  tenant : Option (BitVec 6)
  /-- microsecond of the trigger -/
  at_ : Nat
deriving DecidableEq, Repr

/-- A local queue (R141-R145). -/
structure LqSt where
  /-- fabric address of its area -/
  base : Nat
  /-- tenant of its context -/
  tenant : BitVec 6
  /-- busy tags -/
  busy : List Nat := []
  /-- next ring entry to write -/
  idx : Nat := 0
  /-- PHASE of the next entry -/
  phase : Bool := true
  /-- completion head -/
  head : Nat := 0
  /-- tags of the entries written and not passed, oldest first -/
  ring : List Nat := []
deriving DecidableEq, Repr

/-- The command engine. -/
structure CeSt where
  /-- queue context records (R92), default 0 -/
  qcs : SMap (BitVec 512) := []
  /-- namespace table words behind CE.NS_DATA, by NSID - 1; default LBA_SHIFT 12 -/
  ns : SMap W32 := []
  /-- commands in flight, oldest first -/
  cmds : List Cmd := []
  /-- fetched and not yet sequenced, oldest first -/
  lanes : List Fetched := []
  /-- the next sequence number -/
  seq : Nat := 0
  /-- the round-robin position of the sequencer, 0-16 -/
  rr : Nat := 0
  /-- the sequencer is stalled (R114) -/
  stalled : Bool := false
  /-- CE.COLL_PEAK -/
  collPeak : Nat := 0
  /-- lanes out of service -/
  laneOut : List Nat := []
  /-- commands passed in the last 100 ms: lane, microsecond and queue context, newest first -/
  laneLog : List (Nat × Nat × Nat) := []
  /-- deficit of a tenant on a lane, by lane * 64 + tenant -/
  deficit : SMap Nat := []
  /-- the tenant a lane visits -/
  laneTen : SMap Nat := []
  /-- the controller a lane served last, for a tenant, by lane * 64 + tenant -/
  lastK : SMap Nat := []
  /-- the context a lane fetched from last, for a controller, by lane * 65536 + CNTLID, and how many in its burst -/
  lastQ : SMap (Nat × Nat) := []
  /-- controllers by CNTLID -/
  ctlrs : SMap Ctlr := []
  /-- admin commands fetched for firmware: context, command identifier, and whether host memory takes the completion -/
  admin : List (Nat × Nat × Bool) := []
  /-- completions waiting for room -/
  cqWait : List CqEntry := []
  /-- resets of R133 that run -/
  resets : List CtlReset := []
  /-- a firmware activation that drains: context, command identifier, microsecond of its start, and slot -/
  activation : Option (Nat × Nat × Nat × Bool) := none
  /-- local queues by compute context -/
  lq : SMap LqSt := []
deriving DecidableEq, Repr

/-! ### The ports (chapter 4) -/

/-- The host port. -/
structure HpSt where
  /-- PCIE_BIF as read at the first PERST# deassertion after power-up -/
  split : Option Bool := none
  /-- PERST# is asserted -/
  perst : Bool := true
  /-- links in L1.2 -/
  l12 : List Nat := []
  /-- nanosecond from which the next reservation may be granted (R158) -/
  resvNs : Nat := 0
  /-- MCTP requests held during a firmware activation -/
  mctp : List (BitVec 32) := []
  /-- MAX_RATE in force at the last training, per link -/
  trained : SMap Nat := []
deriving DecidableEq, Repr

/-- An R2T outstanding on a connection. -/
structure R2t where
  /-- sequence number of the command -/
  seq : Nat
  /-- piece of the command -/
  piece : Nat
  /-- offset within the command's data -/
  off : Nat
  /-- bytes not yet received -/
  len : Nat
  /-- microsecond it was sent -/
  sent : Nat
deriving DecidableEq, Repr

/-- How far the setup of a connection has come (R185). -/
inductive ConnPhase where
  | tcp | tls | icreq | connect | ready
deriving DecidableEq, Repr

/-- What arrives on a connection: a segment that is no data, or a PDU with the fields its row gives it. -/
inductive Pdu where
  | segment (kind : SegKind) (ce : Bool)
  | icreq (pfv hpda : Nat) (hdgst ddgst : Bool) (maxR2t : Nat)
  | connect (admin nqnOk : Bool) (cntlid kato ctx : Nat) (rec : BitVec 512)
  | property (cid off : Nat) (v : W32)
  | capsule (e : Sqe) (dataLen sglLen : Nat) (ddgst : W32) (formatOk : Bool)
  | h2c (cid off len : Nat) (data : List (Nat × Byte)) (ddgst : W32) (formatOk : Bool)
deriving DecidableEq, Repr

/-- A session context of the fabric port. -/
structure Sess where
  /-- setup phase -/
  phase : ConnPhase
  /-- access-list tenant -/
  tenant : BitVec 6
  /-- addresses, ports, VLAN and logical port, as the session context holds them -/
  flow : Flow
  /-- queue context, once connected -/
  qc : Option Nat
  /-- CNTLID of the association -/
  cntlid : Nat
  /-- an admin connection -/
  isAdmin : Bool
  /-- TLS in use -/
  tls : Bool
  /-- the record keys in force (R195, R196) -/
  keys : Option TlsKeys
  /-- received data is held for firmware (R196) -/
  held : Bool
  /-- header and data digests -/
  digests : Bool × Bool
  /-- the host's MAXR2T -/
  maxR2t : Nat
  /-- R2Ts outstanding, oldest first -/
  r2ts : List R2t
  /-- microsecond at which the TCP handshake was complete (R199) -/
  since : Nat
  /-- retransmissions of the oldest unacknowledged segment, and its RTO in microseconds -/
  retries : Nat
  /-- retransmission timeout in microseconds -/
  rto : Nat
  /-- receive buffer in KiB -/
  rxKib : Nat
  /-- the TCP options and ECN as agreed (R181): DCTCP where ECN is, NewReno otherwise -/
  opts : TcpOpts
  /-- the next sequence number expected of the peer (R181) -/
  rcvNxt : W32
  /-- the oldest sequence number sent that is not acknowledged -/
  sndUna : W32
deriving DecidableEq, Repr

/-- The fabric port. -/
structure FpSt where
  /-- sessions by number -/
  sess : SMap Sess := []
  /-- session numbers not yet free for reuse: number and microsecond from which they are -/
  cooling : List (Nat × Nat) := []
  /-- IP fragments dropped (R180) -/
  frags : Nat := 0
  /-- packets for firmware dropped above the rate (R181) -/
  fwDrops : Nat := 0
  /-- packets passed to firmware in the present second, and the second -/
  fwRate : Nat × Nat := (0, 0)
  /-- capsules waiting in receive buffers, oldest first: context, command, and the status of one whose data has failed its digest -/
  capsules : List (Nat × Sqe × Option Stat) := []
  /-- SYNs recorded (access-list action 0b11) -/
  recorded : List Flow := []
  /-- connections whose SYN was accepted and which have no session yet, with the access-list tenant and the options that the peer offered
  (R181, R182, R185) -/
  accepted : List (Flow × BitVec 6 × TcpOpts) := []
  /-- what waits on a connection that firmware holds (R196), and the Connects and Property Sets that FETCH_STOP holds (R137), oldest first -/
  kept : List (Nat × Pdu) := []
deriving DecidableEq, Repr

/-! ### Flash translation (chapter 5) -/

/-- The kinds of write piece. -/
inductive PieceKind where
  | data | zero | dealloc
deriving DecidableEq, Repr

/-- A piece of a write-class command (R121), from the command's start until its commit or end. -/
structure Piece where
  /-- sequence number of its command -/
  seq : Nat
  /-- position in the command -/
  idx : Nat
  /-- namespace index -/
  nsx : Nat
  /-- owner -/
  tenant : BitVec 6
  /-- kind -/
  kind : PieceKind
  /-- first byte of the piece in the namespace -/
  off : Nat
  /-- bytes -/
  len : Nat
  /-- the command's range that it is cut from: first byte and one past the last -/
  rng : Nat × Nat
  /-- KiB of staging still reserved; none before the reservation -/
  resv : Option Nat
  /-- microsecond of the request, and whether WPOOL_WAIT was raised for it -/
  asked : Nat
  /-- WPOOL_WAIT has been raised for it -/
  waited : Bool
  /-- staging pages of its data, byte 0 the first byte of the piece -/
  pages : List Nat
  /-- bytes landed -/
  landed : Nat
  /-- bytes asked for by R2Ts -/
  r2tOff : Nat
  /-- at the durable point -/
  durable : Bool
  /-- its units are in the in-flight table, each at or past its merge -/
  placed : Bool
deriving DecidableEq, Repr

/-- How far the placing of a staged unit has come. -/
inductive PlacePhase where
  | merging | staged | compressing | coded | packed | programmed | noStore
deriving DecidableEq, Repr

/-- An entry of the in-flight table (R226). -/
structure Staged where
  /-- namespace index -/
  nsx : Nat
  /-- unit number -/
  unit : Nat
  /-- the piece that wrote it -/
  seq : Nat
  /-- the piece that wrote it -/
  idx : Nat
  /-- staging pages that hold it: those of its piece, or those of its merge -/
  pages : List Nat
  /-- offset of the unit's byte 0 in them -/
  skip : Nat
  /-- contents as they were compressed -/
  data : Bytes
  /-- poisoned LBAs -/
  pmask : W32
  /-- deallocated as a whole -/
  unmap : Bool
  /-- phase -/
  phase : PlacePhase
  /-- stored raw -/
  raw : Bool
  /-- payload bytes, once coded -/
  clen : Nat
  /-- header CRC, once coded -/
  crc : W32
  /-- the map entry it will get, once placed -/
  loc : BitVec 48
deriving DecidableEq, Repr

/-- The streams (R218). -/
inductive Stream where
  | host | reclaim | meta_ | ploss
deriving DecidableEq, Repr

/-- The life of a flash block. -/
inductive BlkSt where
  | free | opened | closed | verified | retired | bad
deriving DecidableEq, Repr

/-- A flash block. -/
structure Blk where
  /-- life -/
  st : BlkSt := .free
  /-- stream that opened it -/
  stream : Stream := .host
  /-- SLC mode -/
  slc : Bool := false
  /-- erased, and not programmed since -/
  erased : Bool := false
  /-- erase count -/
  erases : Nat := 0
  /-- correction boost (R258) -/
  boost : Nat := 0
  /-- microsecond of its closing; less than 0 where that was before the microsecond counter last restarted -/
  closedAt : Int := 0
  /-- next free slot -/
  fill : Nat := 0
  /-- pages posted to the channel -/
  posted : Nat := 0
  /-- microsecond of the last extent placed -/
  lastFill : Nat := 0
  /-- pages whose program has ended with success -/
  progDone : List Nat := []
  /-- retire when its data has moved (R263) -/
  doomed : Bool := false
  /-- a program on it or its verify has failed: its data moves as R236 and R261 give, whether it has verified or not -/
  failed : Bool := false
  /-- its read-back has been posted (R235, R244) -/
  readBack : Bool := false
  /-- pages whose read-back failed the ladder, and whether die parity gave the page back -/
  badPages : List (Nat × Bool) := []
  /-- pages that hold a raw pattern in place of slots (R308) -/
  raw : List (Nat × W32) := []
  /-- a reclaim copy of it is in progress -/
  copying : Bool := false
deriving DecidableEq, Repr

/-- A journal entry: the sequence number of its piece and the map entries it sets. -/
structure JEnt where
  /-- sequence number -/
  seq : Nat
  /-- key nsx * 2^40 + unit, and the new map entry -/
  sets : List (Nat × BitVec 48)
deriving DecidableEq, Repr

/-- The sanitize actions (R272). -/
inductive SanAct where
  | blockErase | crypto | overwrite
deriving DecidableEq, Repr

/-- A sanitize in progress. -/
structure San where
  /-- action -/
  act : SanAct
  /-- cursor (R273) -/
  cursor : Nat
  /-- pass count -/
  passes : Nat
  /-- overwrite pattern -/
  pattern : W32
  /-- invert between passes -/
  invert : Bool
  /-- cursor as last written to the record store -/
  recorded : Nat
deriving DecidableEq, Repr

/-- A format in progress or interrupted (R277). -/
structure Fmt where
  /-- namespace index -/
  nsx : Nat
  /-- target LBA shift -/
  shift : Nat
  /-- SES -/
  ses : Nat
  /-- the admin queue context and the command identifier of the Format -/
  who : Nat × Nat
deriving DecidableEq, Repr

/-- The flash translation engine. -/
structure FtSt where
  /-- the map, by nsx * 2^40 + unit; default UNMAPPED -/
  map : SMap (BitVec 48) := []
  /-- the map area of a namespace in DRAM: fabric address and units (R223), by namespace index -/
  mapAt : SMap (Nat × Nat) := []
  /-- namespace sizes in LBAs by namespace index -/
  nsze : SMap Nat := []
  /-- pieces, oldest first -/
  pieces : List Piece := []
  /-- the in-flight table, newest first -/
  staged : List Staged := []
  /-- blocks by die * 4096 + block -/
  blks : SMap Blk := []
  /-- extents by first slot: (die * 4096 + block) * 2^18 + slot -/
  exts : SMap Ext := []
  /-- open blocks of the streams: stream, die, block -/
  opens : List (Stream × Nat × Nat) := []
  /-- the die a stream fills now -/
  rots : List (Stream × Nat) := []
  /-- journal entries since the oldest checkpoint, oldest first -/
  journal : List JEnt := []
  /-- the checkpointed map -/
  ckpt : SMap (BitVec 48) := []
  /-- META copies lost: 0, 1 or 2 -/
  metaLost : Nat := 0
  /-- a power-loss end mark is on flash -/
  endMark : Bool := false
  /-- commits are frozen by R241 -/
  frozen : Bool := false
  /-- sanitize in progress -/
  san : Option San := none
  /-- the last sanitize failed -/
  sanFailed : Bool := false
  /-- format in progress -/
  fmt : Option Fmt := none
  /-- the initial retire reserve -/
  retireInit : Nat := 0
  /-- read-only end of life -/
  eol : Bool := false
  /-- SPACE_USER taken away by drains, in slots, by booth -/
  drained : SMap Nat := []
  /-- units stored by the HOST stream and 256 times their slots, by the 1 ms window of R779 in which they were stored (R785) -/
  ratio : SMap (Nat × Nat) := []
  /-- blocks whose boot verify is due -/
  bootVerify : List Nat := []
  /-- steps 2 and 3 of R248 have loaded the map since the last reset -/
  loaded : Bool := false
  /-- SEQ_DUR: the highest sequence number that reached the durable point (R698) -/
  seqDur : Nat := 0
deriving DecidableEq, Repr

/-! ### Media channels (chapter 6) -/

/-- A media profile (R291): what the array uses of it. -/
structure Profile where
  /-- PROFILE_ID -/
  id : BitVec 16
  /-- VERSION -/
  version : W32
  /-- manufacturer ID of MATCH -/
  man : BitVec 8
  /-- device ID bytes of MATCH -/
  dev : BitVec 48
  /-- match mask -/
  mask : BitVec 48
  /-- RETRY count N -/
  retries : Nat
  /-- the fields whose places in the image the spec leaves out -/
  body : ProfBody
deriving DecidableEq, Repr

/-- A die. -/
structure Die where
  /-- answered at bring-up -/
  answered : Bool := false
  /-- holds or receives data -/
  inService : Bool := false
  /-- retired (R265) -/
  retired : Bool := false
  /-- a spare that was brought in (R265) -/
  spareIn : Bool := false
  /-- stopped responding (R300) -/
  stopped : Bool := false
  /-- microseconds of its DIE_TIMEOUTs, newest first -/
  timeouts : List Nat := []
  /-- blocks of it retired -/
  retiredBlks : Nat := 0
deriving DecidableEq, Repr

/-- Operations posted to a channel (R296). -/
inductive FlashKind where
  | read | program | erase | rawProgram | dieReset
deriving DecidableEq, Repr

/-- Why an operation was posted. -/
inductive Purpose where
  /-- a unit of a host or local-queue read -/
  | unit (seq nsx unit : Nat) (loc : BitVec 48)
  /-- the old contents of a unit that a piece covers in part (R232) -/
  | merge (seq idx nsx unit : Nat) (loc : BitVec 48)
  /-- a reclaim copy of a unit, by its name (R237) -/
  | copy (key : Nat) (loc : BitVec 48)
  /-- the read-back of a block (R235, R244) -/
  | verify
  /-- another member of the parity group of the page that an operation could not read (R323) -/
  | rebuild (id : Nat)
  /-- a page of a stream -/
  | page (s : Stream)
  /-- a page of a sanitize overwrite, with its pattern (R308) -/
  | raw (pattern : W32)
  | erase | direct
deriving DecidableEq, Repr

/-- The stages of an operation. -/
inductive OpStage where
  | queued | issued | suspended
  /-- failed its ladder: the other members of its parity group are being read (R323) -/
  | rebuilding
deriving DecidableEq, Repr

/-- An operation in a die queue or at a die. -/
structure FlashOp where
  /-- name -/
  id : Nat
  /-- die -/
  die : Nat
  /-- block -/
  block : Nat
  /-- page -/
  page : Nat
  /-- kind -/
  kind : FlashKind
  /-- SLC mode -/
  slc : Bool
  /-- class 0-3 -/
  cls : Nat
  /-- microsecond of its posting -/
  born : Nat
  /-- promoted to C0 -/
  promoted : Bool
  /-- first rung of the ladder; of a page in its rebuild, the highest rung used -/
  rung : Nat
  /-- purpose -/
  why : Purpose
  /-- stage -/
  stage : OpStage
  /-- microsecond of issue -/
  issued : Nat
  /-- times suspended -/
  suspends : Nat
  /-- microsecond of the last resume -/
  resumed : Nat
  /-- the highest rung used by the other page of the same extent -/
  seen : Nat
  /-- members of its parity group that failed their ladders in its rebuild: die, block, page, and the highest rung used (R323) -/
  bad : List (Nat × Nat × Nat × Nat)
deriving DecidableEq, Repr

/-- A parity group (R318). -/
structure ParGrp where
  /-- name -/
  id : Nat
  /-- members: die, block, page -/
  members : List (Nat × Nat × Nat)
  /-- members whose transfer has completed -/
  added : List (Nat × Nat × Nat)
  /-- microsecond the first member was issued -/
  first : Nat
  /-- closed -/
  closed : Bool
  /-- PARITY_LOST -/
  lost : Bool
deriving DecidableEq, Repr

/-- A key slot: empty, or full with a generation number that stands for the key. -/
structure KeySlot where
  /-- holds a key -/
  full : Bool := false
  /-- which key -/
  gen : Nat := 0
deriving DecidableEq, Repr

/-- The media channel array. -/
structure FcSt where
  /-- page descriptors of programmed pages (R304), by (die * 4096 + block) * 4096 + page: bits [703:0] the key indices of 11 bits,
  slot n at bit 11n; bits [767:704] the mask of slots at which an extent starts -/
  descs : SMap (BitVec 768) := []
  /-- profile slots -/
  profs : SMap Profile := []
  /-- dies by number -/
  dies : SMap Die := []
  /-- operations, oldest first -/
  ops : List FlashOp := []
  /-- name of the next operation -/
  nextOp : Nat := 0
  /-- parity groups, oldest first -/
  grps : List ParGrp := []
  /-- name of the next group -/
  nextGrp : Nat := 0
  /-- HOST pages wait for parity room (R322) -/
  parityFull : Bool := false
  /-- key slots -/
  keys : SMap KeySlot := []
  /-- next key generation -/
  nextGen : Nat := 1
  /-- wrapped keys handed out: wrapped words, generation, epoch -/
  wraps : List (BitVec 576 × Nat × W32) := []
  /-- key operation in progress: slot, what it leaves there, whether an UNWRAP failed -/
  keyOp : Option (Nat × KeySlot × Option Bool) := none
  /-- kept cartridge identifiers of booths with mapped units -/
  carts : SMap W64 := []
  /-- microsecond at which BOOTH_PWREN rose in a bring-up, by booth -/
  inrush : SMap Nat := []
  /-- microsecond at which BOOTH_PRES# asserted, by booth -/
  presAt : SMap Nat := []
  /-- state a running bring-up started from, by booth -/
  bringFrom : SMap Nat := []
  /-- slot a running profile load fills -/
  profLoad : Option Nat := none
  /-- microsecond of the last training of a channel -/
  trainedAt : SMap Nat := []
  /-- diode reading at the last training of a channel, in 0.1 degrees, offset by 10000 -/
  trainedT : SMap Nat := []
deriving DecidableEq, Repr

/-! ### Compression (chapter 7) -/

/-- Who submitted a lane job. -/
inductive Submitter where
  | ftCompress (seq idx nsx unit : Nat)
  | ftDecompress (seq nsx unit : Nat) (rung : Nat)
  | ftMerge (seq idx nsx unit : Nat) (loc : BitVec 48) (rung : Nat)
  | dma (ch : Nat)
  | firmware
  | other (port : BitVec 6)
deriving DecidableEq, Repr

/-- A lane job: its 64-byte descriptor (R355). -/
structure LaneJob where
  /-- name -/
  id : Nat
  /-- descriptor, byte k in bits [8k+7:8k] -/
  desc : BitVec 512
  /-- submitter -/
  who : Submitter
  /-- microsecond of submission -/
  born : Nat
  /-- promoted -/
  promoted : Bool
deriving DecidableEq, Repr

/-- A lane: compressor n is 0-31, decompressor n is 64 + n. -/
structure Lane where
  /-- not power-gated -/
  awake : Bool := false
  /-- the job it runs -/
  job : Option LaneJob := none
  /-- the table set it codes with, as it stood at the job's start (R352) -/
  image : Option (BitVec 1280) := none
  /-- microsecond since which it has had no job -/
  idle : Nat := 0
  /-- out of service, with no spare left -/
  dead : Bool := false
deriving DecidableEq, Repr

/-- A stream slot (R367-R371). -/
structure Slot where
  /-- owner -/
  owner : BitVec 6 := 0
  /-- STATE: 0 IDLE, 1 OPEN, 2 INVALID -/
  state : Nat := 0
  /-- KIND: decompress stream -/
  decomp : Bool := false
  /-- FORMAT -/
  format : Nat := 0
  /-- TABLE -/
  table : Nat := 0
  /-- BLK_OPEN -/
  blkOpen : Bool := false
  /-- IN_TOTAL -/
  inTotal : Nat := 0
  /-- OUT_TOTAL -/
  outTotal : Nat := 0
  /-- PEND_N and PEND_BITS -/
  pend : Nat × Nat := (0, 0)
  /-- PEND_LEN and PEND_DIST -/
  pendMatch : Nat × Nat := (0, 0)
  /-- HIST_VALID -/
  hist : Nat := 0
  /-- the compressed bytes of the stream so far, for which the slot's parse state, decoder tables and CHK stand -/
  comp : List Byte := []
  /-- the uncompressed bytes of the stream so far, whose last HIST_VALID bytes are HIST -/
  plain : List Byte := []
deriving DecidableEq, Repr

/-- What fixes a compressor's output (R348): the descriptor's fields that matter, the image of its table set, the pending bits and the pending
match, the stream's history, and the input. -/
structure FinderKey where
  /-- MODE, FORMAT, FLUSH, OUT_LEN, OUT_MAX, in place -/
  desc : BitVec 512
  /-- table set -/
  image : Option (BitVec 1280)
  /-- PEND_N and PEND_BITS -/
  pend : Nat × Nat
  /-- PEND_LEN and PEND_DIST -/
  pendMatch : Nat × Nat
  /-- history -/
  hist : List Byte
  /-- input -/
  input : List Byte
deriving DecidableEq, Repr

/-- The compression engine. -/
structure CzSt where
  /-- lanes -/
  lanes : SMap Lane := []
  /-- jobs waiting, oldest first -/
  jobs : List LaneJob := []
  /-- name of the next job -/
  nextJob : Nat := 0
  /-- stream slots -/
  slots : SMap Slot := []
  /-- table sets 1-8 that hold a code: 320 nibbles, nibble n in bits [4n+3:4n] -/
  tables : SMap (BitVec 1280) := []
  /-- running jobs hold an older image of a set (R352) -/
  oldImage : List Nat := []
  /-- slots of a reset tenant that return to IDLE when their running jobs have ended (R381) -/
  idleDue : List Nat := []
  /-- what compressor lanes have reported of each job: the same job gives the same bytes on every lane (R348) -/
  finder : List (FinderKey × JobRes) := []
deriving DecidableEq, Repr

/-! ### The DMA engine (chapter 9) -/

/-- A DMA channel (R439, R460-R465). -/
structure Chan where
  /-- STATE of CH_STATUS -/
  st : Nat := 0
  /-- PC -/
  pc : Nat := 0
  /-- SRC -/
  src : Nat := 0
  /-- DST -/
  dst : Nat := 0
  /-- SRC_WRAP -/
  srcWrap : Nat := 0
  /-- DST_WRAP -/
  dstWrap : Nat := 0
  /-- LC0 and LC1 -/
  lc : W32 × W32 := (0, 0)
  /-- the running CRC in stored form -/
  crc : W64 := 0
  /-- ZJOBs outstanding: job, and where its completion goes -/
  jobs : List (Nat × Nat) := []
  /-- jobs that have ended, oldest first: where the completion goes, and its bytes -/
  ended : List (Nat × BitVec 256) := []
  /-- SPIN -/
  spin : Nat := 0
  /-- CH_MOVED -/
  moved : Nat := 0
  /-- CH_REMAIN -/
  remain : Nat := 0
  /-- an instruction has begun and is not complete -/
  mid : Bool := false
  /-- the bytes of a pattern fill, once read -/
  pat : Option (BitVec 512) := none
  /-- WAITING -/
  waiting : Bool := false
  /-- microsecond of the last read of a memory WAIT -/
  polled : Nat := 0
  /-- instructions fetched ahead: address and bytes (R451) -/
  ahead : List (Nat × BitVec 128) := []
  /-- the compute context that started it, if one did -/
  byCtx : Option Nat := none
deriving DecidableEq, Repr

/-- The DMA engine. -/
structure DmSt where
  /-- channels -/
  chans : SMap Chan := []
  /-- REQ_CFG words by line, default 0 -/
  cfg : SMap W32 := []
  /-- lines asserted -/
  lines : List Nat := []
deriving DecidableEq, Repr

/-! ### Power tickets (chapter 15) -/

/-- A power pool: the chip's, or a booth's media pool. -/
inductive Pool where
  | chip | booth (b : Nat)
deriving DecidableEq, Repr

/-- What a ticket is for. -/
inductive Holder where
  | flashOp (id : Nat) | transfer (ch : Nat) | training (ch : Nat) | softDecode (id : Nat) | inrush (b : Nat)
  | laneC (n : Nat) | laneD (n : Nat) | link (l : Nat) | eth (p i : Nat) | cluster (n step : Nat) | bank (k : Nat)
  | other (id : Nat)
deriving DecidableEq, Repr

/-- A ticket held, or a request waiting (R683). -/
structure Ticket where
  /-- pool -/
  pool : Pool
  /-- holder -/
  who : Holder
  /-- amount -/
  mw : Nat
  /-- class 0-3 -/
  cls : Nat
  /-- microsecond of the request -/
  born : Nat
  /-- refusable (R685) -/
  refusable : Bool
  /-- a RECLAIM-stream request (R686) -/
  rcl : Bool
  /-- has waited past a redivision -/
  delayed : Bool := false
  /-- promoted to C0 while it waited (R26) -/
  promoted : Bool := false
deriving DecidableEq, Repr

/-- The Ticket Office. -/
structure PaSt where
  /-- tickets held -/
  held : List Ticket := []
  /-- requests waiting, oldest first -/
  waiting : List Ticket := []
  /-- the power state in force -/
  ps : Nat := 0
  /-- the most recent operational power state -/
  lastOp : Nat := 0
  /-- chip limit of the power-loss sequence, when it runs -/
  plossMw : Option Nat := none
  /-- waits for which RCL_STARVED has been raised -/
  starved : List Holder := []
  /-- floats of the ticket windows (R684): pool, window, mW -/
  floats : List (Pool × (Nat × Nat) × Nat) := []
deriving DecidableEq, Repr

/-! ### The memory system (chapter 8) -/

/-- Where an error was met: the first byte of the 8-byte word, and whether it is uncorrectable. -/
abbrev CodeErr := FAddr × Bool

/-- STATE of a region entry (R406). -/
inductive RegionSt where
  | off | init | on
deriving DecidableEq, Repr

/-- A region entry (R406). -/
structure Region where
  /-- base in MiB -/
  base : Nat := 0
  /-- size in MiB -/
  size : Nat := 0
  /-- CODE: LIGHT -/
  light : Bool := false
  /-- owner -/
  owner : BitVec 6 := 0
  /-- STATE -/
  st : RegionSt := .off
  /-- the state INIT leads to -/
  goal : RegionSt := .off
  /-- code of the lines before the running zeroing (R409) -/
  was : Bool := false
deriving DecidableEq, Repr

/-- A DRAM row (R391). -/
structure RowLoc where
  /-- channel -/
  ch : Nat
  /-- subchannel -/
  sub : Nat
  /-- rank -/
  rank : Nat
  /-- bank group -/
  bg : Nat
  /-- bank in the group -/
  bank : Nat
  /-- row -/
  row : Nat
deriving DecidableEq, Repr

/-- A write in a subchannel's queue (R395, R396). -/
structure DramWr where
  /-- line address -/
  line : Nat
  /-- class, raised by a later write to the line -/
  cls : Nat
  /-- microsecond of its issue (R25) -/
  born : Nat
  /-- promoted to C0 (R26) -/
  promoted : Bool
deriving DecidableEq, Repr

/-- The memory system. -/
structure MsSt where
  /-- region entries, default the empty entry -/
  regions : SMap Region := []
  /-- open row of a bank, and the row hits in a run that passed an older request for another row of it (R394), by bank key -/
  openRows : SMap (Nat × Nat) := []
  /-- write queues by subchannel, oldest first -/
  wq : SMap (List DramWr) := []
  /-- microsecond at which the pause of a bank under repair ends (R415, R420): by bank key, a staging bank by 1024 + its number -/
  paused : SMap Nat := []
  /-- rows corrected in the current lap, oldest first, by subchannel (R414) -/
  seen : SMap (List RowLoc) := []
  /-- soft repairs held (R415, R416) -/
  soft : List RowLoc := []
  /-- the soft-fuse repair map of the record store -/
  repairMap : List RowLoc := []
  /-- requests of one 1 ms window, by channel (R393) -/
  reqs : SMap Nat := []
  /-- that window: the microsecond counter divided by 1,000 (R779) -/
  reqWin : Nat := 0
  /-- next line of the patrol scrubber -/
  scrubAt : Nat := 0
  /-- microsecond at which its lap began -/
  lapStart : Nat := 0
  /-- LAP_OVERDUE has been raised for this lap -/
  lapLate : Bool := false
  /-- microsecond of the last correction in a staging row, by bank * 4096 + row (R420) -/
  stSeen : SMap Nat := []
  /-- spare rows in use, by staging bank -/
  stSpare : SMap Nat := []
  /-- next line of the staging scrubber -/
  stScrubAt : Nat := 0
  /-- microsecond at which its lap began -/
  stLapStart : Nat := 0
  /-- ST_LAP_OVERDUE has been raised for this lap -/
  stLapLate : Bool := false
  /-- scrubbers, initialisation and new repairs are stopped (R426) -/
  stopped : Bool := false
deriving DecidableEq, Repr

/-! ### The search engine (chapter 10) -/

/-- An entry (R475). -/
structure SeEnt where
  /-- KEY -/
  key : BitVec 128 := 0
  /-- CARE -/
  care : BitVec 128 := 0
  /-- PRIO -/
  prio : BitVec 16 := 0
  /-- RESULT -/
  result : W32 := 0
  /-- PART -/
  part : BitVec 6 := 0
  /-- VALID -/
  valid : Bool := false
deriving DecidableEq, Repr

/-- STATE of a partition (R477). -/
inductive PartSt where
  | off | clearing | on
deriving DecidableEq, Repr

/-- A partition. -/
structure SePart where
  /-- OWNER -/
  owner : BitVec 6 := 0
  /-- BASE -/
  base : Nat := 0
  /-- SIZE -/
  size : Nat := 0
  /-- STATE -/
  st : PartSt := .off
  /-- the running clear leads to ON -/
  toOn : Bool := false
deriving DecidableEq, Repr

/-- Who sent a search request. -/
inductive SeWho where
  | port (p : BitVec 6) | ctx (c slot : Nat) | fw
deriving DecidableEq, Repr

/-- A queued request (R483). -/
structure SeReq where
  /-- the 64 bytes, byte k in bits [8k+7:8k] -/
  req : BitVec 512
  /-- tenant tag -/
  tag : BitVec 6
  /-- sender -/
  who : SeWho
  /-- microsecond of arrival -/
  born : Nat
  /-- class it arbitrates with, once raised by R494 -/
  cls : Nat
  /-- promoted to C0 (R26) -/
  promoted : Bool
deriving DecidableEq, Repr

/-- A request answered BUSY that its sender reissues (R21, R490). -/
structure SeRetry where
  /-- the request -/
  req : SeReq
  /-- requesting port -/
  port : Nat
  /-- BUSY responses in a row -/
  busy : Nat
  /-- microsecond of the last BUSY response -/
  at_ : Nat
deriving DecidableEq, Repr

/-- The search engine. -/
structure SeSt where
  /-- entries by bank * 16384 + index, default the invalid entry -/
  ents : SMap SeEnt := []
  /-- partitions by bank * 64 + number, default OFF -/
  parts : SMap SePart := []
  /-- queues by bank, oldest first -/
  queue : SMap (List SeReq) := []
  /-- requests that their senders reissue, oldest first -/
  retry : List SeRetry := []
  /-- responses on their way to a compute context: context, slot, bytes -/
  resps : List (Nat × Nat × BitVec 512) := []
  /-- dead rows, as bank * 16384 + index -/
  dead : List Nat := []
  /-- banks that are powered -/
  awake : List Nat := []
  /-- banks that wait for power, with the partitions to clear -/
  waking : SMap (List Nat) := []
  /-- next row of the mirror check, by bank -/
  mirAt : SMap Nat := []
  /-- microsecond at which a bank's lap began -/
  mirStart : SMap Nat := []
  /-- banks whose lap has raised LAP_OVERDUE -/
  mirLate : List Nat := []
  /-- rows that mismatched at their last visit -/
  mism : List Nat := []
deriving DecidableEq, Repr

/-! ### The Eowift cores (chapters 11, 12) -/

/-- A window of a context (R520, R554). -/
structure Win where
  /-- FBASE -/
  fbase : Nat
  /-- SIZE -/
  size : Nat
  /-- R -/
  r : Bool
  /-- W -/
  w : Bool
  /-- X -/
  x : Bool
  /-- PBASE -/
  pbase : Nat
deriving DecidableEq, Repr

/-- A register that a load may write. -/
inductive LDst where
  | g (n : Nat) | ac (n : Nat) | ptr (n : Nat) | xm | ym | sa | da | ct
deriving DecidableEq, Repr

/-- A load that has not reached its register (R537). -/
structure Delay where
  /-- destination -/
  dst : LDst
  /-- value -/
  val : BitVec 80
  /-- delay slots left -/
  slots : Nat
  /-- the data has arrived -/
  arrived : Bool
  /-- pc of the load -/
  pc : W64
  /-- address of the access as the program gave it -/
  addr : W64
  /-- the Big Top access it waits for: fabric address and bytes; none for memory beside the core -/
  bus : Option (Nat × Nat)
  /-- response, when not OK -/
  err : Option Resp
  /-- an instruction in a delay slot has written the register (R538) -/
  dead : Bool
deriving DecidableEq, Repr

/-- An error answer to an access whose instruction has gone on (R543). -/
structure LateErr where
  /-- pc of the load or store -/
  pc : W64
  /-- data address -/
  addr : W64
  /-- response -/
  resp : Resp
  /-- a store -/
  store : Bool
deriving DecidableEq, Repr

/-- Why a core is halted (CORE_STATUS.CAUSE). -/
inductive HaltCause where
  | request | breakpoint | watchpoint | group | ownedTrap | step
deriving DecidableEq, Repr

/-- A breakpoint or watchpoint (BP_ADDR, BP_CTL). -/
structure Bp where
  /-- address -/
  addr : W64 := 0
  /-- BP_CTL: EN [0], TRAP [1], ACC [3:2], MASK [7:4], CTX_EN [8], CTX [20:9] -/
  ctl : W64 := 0xC
deriving DecidableEq, Repr

/-- A core. Cores 0-95 are Eowift-C core c of cluster n at 8n + c, 96-99 the control cores, 100 the active S core. -/
structure Core where
  /-- g0-g15, default 0 -/
  g : SMap W64 := []
  /-- ac0-ac3 -/
  ac : SMap (BitVec 80) := []
  /-- x0-x3 as 0-3, y0-y3 as 4-7 -/
  ptr : SMap W32 := []
  /-- xm -/
  xm : BitVec 17 := 0
  /-- ym -/
  ym : BitVec 17 := 0
  /-- sa -/
  sa : W64 := 0
  /-- da -/
  da : W64 := 0
  /-- ct -/
  ct : W32 := 0
  /-- fl: Z [0], N [1], C [2], V [3] -/
  fl : BitVec 4 := 0
  /-- pc -/
  pc : W64 := 0
  /-- st -/
  st : W32 := 1
  /-- TVEC -/
  tvec : W64 := 0
  /-- TPC -/
  tpc : W64 := 0
  /-- TST -/
  tst : W32 := 0
  /-- TCAUSE -/
  tcause : W32 := 0
  /-- TADDR -/
  taddr : W64 := 0
  /-- TINFO -/
  tinfo : W64 := 0
  /-- SCRATCH0 and SCRATCH1 -/
  scratch : W64 × W64 := (0, 0)
  /-- microsecond at which QTIMER reaches 0; none while it is 0 -/
  qdue : Option Nat := none
  /-- QUANTUM is pending -/
  quantum : Bool := false
  /-- microsecond of the core's reset, from which CYCLE counts -/
  resetAt : Nat := 0
  /-- CTX -/
  ctx : W32 := 0
  /-- windows of the context on the core -/
  wins : List Win := []
  /-- XY_KIB -/
  xyKib : Nat := 0
  /-- XY_SAVE -/
  xySave : Nat := 0
  /-- SCR_BASE and SCR_SIZE -/
  scr : Nat × Nat := (0, 0)
  /-- SLICE_LEFT in microseconds, at the moment `sliceAt` -/
  slice : Nat := 0
  /-- microsecond from which SLICE_LEFT runs down: the last entry into User mode -/
  sliceAt : Nat := 0
  /-- loads that have not reached their registers, oldest first -/
  loads : List Delay := []
  /-- error answers not yet taken -/
  lates : List LateErr := []
  /-- cached lines: tenant tag and fabric address / 64, newest first -/
  icache : List (Nat × Nat) := []
  /-- iterations completed since the repeated instruction last issued -/
  iters : Nat := 0
  /-- stopped by a double trap or a failed self-check, or held in reset -/
  stopped : Bool := false
  /-- waiting in WFI -/
  wfi : Bool := false
  /-- halted by the debug port -/
  halted : Option HaltCause := none
  /-- what CORE_STATUS shows beside the cause: PL, BP, TRAP -/
  haltInfo : Bool × Nat × Nat := (false, 0, 0)
  /-- mode before the halt -/
  haltMode : Nat := 0
  /-- a halt or step waits for a boundary -/
  haltReq : Option HaltCause := none
  /-- microsecond of the halt -/
  haltAt : Nat := 0
  /-- the next instruction is not held by a breakpoint: the core has just been resumed or stepped -/
  bpSkip : Bool := false
  /-- far accesses of the last instruction or iteration: program address, write -/
  acc : List (W64 × Bool) := []
  /-- a watchpoint matched and is due at this boundary: its number 0 or 1, the address, a write -/
  watch : Option (Nat × W64 × Bool) := none
  /-- breakpoints 0-3 and watchpoints 4-5 -/
  bps : SMap Bp := []
  /-- XT: IN [7:0], OUT [15:8] -/
  xt : BitVec 16 := 0
deriving DecidableEq, Repr

/-! ### The compute service (chapter 13) -/

/-- States of a context (R611). -/
inductive CtxSt where
  | ready | running | supervisor | waiting | ending
deriving DecidableEq, Repr

/-- A context that is not FREE. -/
structure Ctx where
  /-- state -/
  st : CtxSt
  /-- owner -/
  tenant : BitVec 6
  /-- cluster it is bound to -/
  cluster : Nat
  /-- core it is on -/
  core : Option Nat
  /-- sequence number of its Execute Program -/
  seq : Nat
  /-- SCR_BASE -/
  scrBase : Nat
  /-- SCR_SIZE -/
  scrSize : Nat
  /-- slot of its program -/
  slot : Nat
  /-- the range set: fabric base, size, write permission -/
  ranges : List (Nat × Nat × Bool)
  /-- the range set names a transit namespace -/
  transit : Bool
  /-- place in the run queue: the smaller waits longer -/
  turn : Nat
  /-- the trap code and pc on which the supervisor has returned once (R641) -/
  tried : Option (Nat × W64)
  /-- WAIT: event mask -/
  mask : Nat
  /-- WAIT: microsecond of the timeout -/
  until_ : Option Nat
  /-- WAIT events pending, bits 1 and 2 -/
  events : Nat
  /-- how its Execute Program completes: DW0 and status; none where no completion is posted -/
  verdict : Option (W32 × Stat)
  /-- the debugger owns it -/
  owned : Bool
deriving DecidableEq, Repr

/-- A program slot that holds an image or part of one (R619-R622). -/
structure Prog where
  /-- bytes received -/
  got : Nat
  /-- complete and checked -/
  whole : Bool
  /-- active -/
  active : Bool
deriving DecidableEq, Repr

/-- A descriptor that a cluster has written and whose completion has not arrived (R635, R636). -/
structure Dlv where
  /-- command -/
  seq : Nat
  /-- unit -/
  nsx : Nat
  /-- unit number -/
  unit : Nat
  /-- position in the descriptor ring -/
  pos : Nat
  /-- the channel has taken the descriptor -/
  sent : Bool
  /-- the highest ladder rung used for the extent -/
  rung : Nat
deriving DecidableEq, Repr

/-- The compute service. -/
structure CxSt where
  /-- cores, default the reset state of their kind -/
  cores : SMap Core := []
  /-- contexts not FREE, by number -/
  ctxs : SMap Ctx := []
  /-- the next turn in the run queues -/
  turn : Nat := 0
  /-- credits left of a tenant in a cluster's round, by cluster * 64 + tenant -/
  credit : SMap Nat := []
  /-- tenant served last, by cluster -/
  lastTen : SMap Nat := []
  /-- program slots by tenant * 64 + slot -/
  progs : SMap Prog := []
  /-- delivery in progress, by cluster -/
  dlv : SMap (List Dlv) := []
  /-- next position of a cluster's descriptor ring -/
  dlvPos : SMap Nat := []
  /-- clusters whose CL_DLV.EN is to be cleared once no unit is in delivery (R646) -/
  dlvOff : List Nat := []
  /-- microsecond since which a cluster has had no context -/
  emptyAt : SMap Nat := []
  /-- highest step the voltage loop allows a cluster (R673), default 4 -/
  avsCap : SMap Nat := []
  /-- corrections in rows of cluster memories: microsecond, by row key (R525) -/
  rowSeen : SMap Nat := []
  /-- spare rows used, by array key -/
  rowSpare : SMap Nat := []
  /-- the sequencer's interrupt to the Eowift-S core is pending (R679) -/
  sIrq : Bool := false
  /-- firmware interrupt messages that no control core has taken, oldest first: line and tenant -/
  kInts : List (Nat × Nat) := []
deriving DecidableEq, Repr

/-! ### Faults, housekeeping and the record store (chapters 14, 15) -/

/-- The trip record (R698). -/
structure TripRec where
  /-- diode reading in 0.1 degrees -/
  temp : Int
  /-- RATE -/
  rate : Int
  /-- microsecond counter -/
  usec : Nat
  /-- SEQ_DUR -/
  seqDur : Nat
  /-- SEQ_JNL -/
  seqJnl : Nat
  /-- the power-loss sequence was running -/
  ploss : Bool
deriving DecidableEq, Repr

/-- Firmware slot state. -/
structure FwSlots where
  /-- ACTIVE -/
  active : Bool := false
  /-- PENDING -/
  pending : Bool := false
  /-- PEND_VALID -/
  pendValid : Bool := false
  /-- TRIES -/
  tries : Nat := 0
deriving DecidableEq, Repr

/-- A substitution or retirement on record (R670): kind, logical number, retired for good. -/
abbrev Subst := Nat × Nat × Bool

/-- An image of the record store (R705). -/
structure Img where
  /-- SEQ -/
  seq : W32 := 0
  /-- CLEAN -/
  clean : Bool := false
  /-- PLOSS_DONE -/
  plossDone : Bool := false
  /-- TRIP, with the trip record -/
  trip : Option TripRec := none
  /-- last DEVICE_FATAL record -/
  fatal : Option ErrRec := none
  /-- firmware slot state -/
  fw : FwSlots := {}
  /-- key epoch -/
  keyEpoch : W32 := 0
  /-- sanitize record -/
  san : Option San := none
  /-- format record -/
  fmt : Option Fmt := none
  /-- HK.LIFE -/
  life : Nat := 0
  /-- wear summary: most and least erase counts -/
  wear : Nat × Nat := (0, 0)
  /-- substitutions and retirements -/
  substs : List Subst := []
  /-- DRAM repair map -/
  repairMap : List RowLoc := []
deriving DecidableEq, Repr

/-- A board input (R700-R703). -/
structure Inp where
  /-- filtered level -/
  level : Bool := false
  /-- STUCK -/
  stuck : Bool := false
  /-- MASKED -/
  masked : Bool := false
  /-- microseconds of filtered edges, newest first -/
  edges : List Nat := []
  /-- microsecond since which its stuck limit counts -/
  since : Nat := 0
deriving DecidableEq, Repr

/-- Housekeeping. -/
structure HkSt where
  /-- banks of the record memory -/
  bank0 : Option Img := none
  /-- banks of the record memory -/
  bank1 : Option Img := none
  /-- the image that is written: into bank 1, attempt -/
  writing : Option (Img × Bool × Nat) := none
  /-- a further update waits for it -/
  more : Bool := false
  /-- what the next image holds -/
  next : Img := {}
  /-- diode readings inside the range, newest first: microsecond, reading -/
  temps : List (Nat × Int) := []
  /-- readings outside the range in a row -/
  badTemps : Nat := 0
  /-- last readings of the channels -/
  chans : SMap Nat := []
  /-- rounds in a row that a supply was out of its window -/
  supplyBad : SMap Nat := []
  /-- the last reading was at or above WARN, at or above THROTTLE -/
  above : Bool × Bool := (false, false)
  /-- the last reading was at or above HK.ROR.RATE -/
  ror : Bool := false
  /-- microsecond of the last fall of PA.TCAP by THROTTLE -/
  fellAt : Nat := 0
  /-- microsecond from which the count of a rise runs -/
  calmAt : Option Nat := none
  /-- microsecond at which a rate-of-rise hold ends -/
  hold : Option Nat := none
  /-- the trip in force -/
  tripped : Bool := false
  /-- VDD_AON is down -/
  off : Bool := false
  /-- boot has passed control to the firmware since the last core reset -/
  booted : Bool := false
  /-- inputs -/
  inputs : SMap Inp := []
  /-- IN_CFG words -/
  inCfg : SMap W32 := []
  /-- microsecond since which PWRFAIL# is deasserted with every rail in its window -/
  okSince : Option Nat := none
  /-- microsecond of the last housekeeping round -/
  roundAt : Nat := 0
  /-- boot cause of a device reset that has been taken and not yet booted -/
  cause : Option Nat := none
  /-- microsecond of the last wear summary -/
  wearAt : Nat := 0
  /-- DEVICE_FATAL is in force -/
  fatal : Bool := false
  /-- microsecond of the last heartbeat of a control core, by logical core -/
  khb : SMap Nat := []
  /-- physical core that serves a logical control core, by logical core; default the same number -/
  kphys : SMap Nat := []
  /-- a failover that runs: logical core, failed physical core, microsecond of detection -/
  failover : Option (Nat × Nat × Nat) := none
  /-- a failed control core that has not run its self-test: physical core -/
  kTest : Option Nat := none
  /-- microseconds of UNIT_FATAL records by page -/
  strikes : SMap (List Nat) := []
  /-- replacements on record, by kind and physical number -/
  replaced : SMap Nat := []
  /-- the physical instance that serves a logical number, by kind * 256 + number; default the same number -/
  phys : SMap Nat := []
  /-- the free spares of a pool, by kind * 16 + cluster; default the spares of R666 -/
  freeSp : SMap (List Nat) := []
  /-- substitutions and retirements in force -/
  substs : List Subst := []
  /-- slowdown of the monitors in 0.01 % -/
  slow : SMap Nat := []
  /-- voltage last sent to the regulator -/
  sentMv : Nat := 0
  /-- service life beyond whole hours, in milliseconds times 10^4 -/
  lifeRest : Nat := 0
  /-- LIFE_90 has been raised -/
  life90 : Bool := false
  /-- microsecond at which the BIST lap began -/
  bist : Nat := 0
  /-- instances tested in this lap: kind, number -/
  tested : List (Nat × Nat) := []
  /-- next logical number of a kind's rotation -/
  rotNext : SMap Nat := []
  /-- microsecond of a kind's last rotation -/
  rotAt : SMap Nat := []
  /-- PLLs stopped -/
  pllOff : List Nat := []
  /-- cartridges' wear summary -/
  wear : Nat × Nat := (0, 0)
  /-- the anti-rollback fuses blown -/
  fused : Nat := 0
  /-- SVN of the image in each NOR slot -/
  slotSvn : Nat × Nat := (0, 0)
deriving DecidableEq, Repr

/-! ### The debug port (chapter 16) -/

/-- The Llyn debug port. -/
structure DbgSt where
  /-- STATUS.LEVEL -/
  level : Bool := false
  /-- STATUS.CRC_ERR -/
  crcErr : Bool := false
  /-- STATUS.ACC_ERR -/
  accErr : Bool := false
  /-- STATUS.FAILS -/
  fails : Nat := 0
  /-- STATUS.LOCKOUT -/
  lockout : Bool := false
  /-- STATUS.RESP -/
  resp : Nat := 0
  /-- the nonce, until a check uses it -/
  nonce : Option (BitVec 256) := none
  /-- RESPONSE words written -/
  response : BitVec 384 := 0
  /-- a check runs: the nonce and the response it compares -/
  checking : Option (Option (BitVec 256) × BitVec 384) := none
  /-- MEM_ADDR -/
  memAddr : Nat := 0
  /-- MEM_DATA -/
  memData : W64 := 0
  /-- MEM_CTL: SIZE, INC -/
  memCtl : BitVec 2 := 3
  /-- CORE_SEL -/
  coreSel : BitVec 12 := 0
  /-- CORE_REG_SEL -/
  regSel : BitVec 9 := 0
  /-- BP_SEL -/
  bpSel : BitVec 3 := 0
  /-- the last write accepted: REG, TAG, DATA -/
  last : Option (Nat × Nat × W64) := none
  /-- the JTAG instruction in force, by code; 0 after reset of the TAP -/
  tap : Nat := 0
  /-- the JTAG_EN strap as sampled when VDD_AON rose -/
  jtagEn : Bool := false
deriving DecidableEq, Repr

--MSG BEGIN
/-- What the block sends out: the model's own record of it, newest first. -/
inductive Msg where
  /-- interrupt message to firmware (R58) -/
  | fwInt (line : BitVec 8) (tenant : BitVec 6)
  /-- MSI-X message: function (0 is PF A, 64 PF B, else the global VF), vector -/
  | msix (fn : Nat) (vec : BitVec 11)
  /-- the response to a fabric transaction, with read data and its poison mask -/
  | fabResp (id : BitVec 16) (code : Resp) (len : Nat) (data : BitVec 2048) (mask : BitVec 33)
  /-- data of a register read -/
  | regData (off : Nat) (data : W64)
  /-- a completion queue entry written to host memory: completion context, index, DW0, DW1, SQ head, SQ identifier, phase,
  command identifier, status -/
  | cqe (qc idx : Nat) (dw0 dw1 : W32) (sqhd sqid : Nat) (phase : Bool) (cid : Nat) (st : Stat)
  /-- a response capsule (R194) on a session -/
  | capsule (sess : Nat) (dw0 dw1 : W32) (sqhd cid : Nat) (st : Stat)
  /-- read data sent to the host: queue context, command identifier, bytes, and the data digest where one is negotiated (R191) -/
  | readData (qc cid : Nat) (len : Nat) (data : Bytes) (ddgst : Option W32)
  /-- an R2T PDU -/
  | r2t (sess cid off len : Nat)
  /-- a host memory read for write data is asked for: sequence number, piece -/
  | pull (seq piece : Nat)
  /-- TCP RST -/
  | rst (sess : Nat)
  /-- RST in answer to a SYN -/
  | rstSyn (lport : BitVec 5)
  /-- C2HTermReq with a fatal error status -/
  | termReq (sess fes : Nat)
  /-- TLS alert -/
  | tlsAlert (sess code : Nat)
  /-- a packet, record or request passed to firmware -/
  | toFirmware (what : Nat)
  /-- a segment sent again -/
  | resend (sess : Nat)
  /-- an acknowledgement: its number, the window it advertises, and the echo of a congestion mark -/
  | ack (sess : Nat) (number : W32) (window : Nat) (ece : Bool)
  /-- an ICResp PDU: PFV 0, CPDA 0, MAXH2CDATA, digests -/
  | icResp (sess maxh2c : Nat) (hdgst ddgst : Bool)
  /-- the answer to an SMBus request -/
  | smbus (data : BitVec 64)
  /-- the answer to an MCTP request -/
  | mctp (req : BitVec 32)
  /-- a search response to a fabric port -/
  | seResp (port : BitVec 6) (data : BitVec 512)
  /-- a search request refused with TENANT, or answered BUSY or DECODE -/
  | seCode (who : SeWho) (code : Resp)
  /-- the reply to a Llyn frame: REPLY code, ECHO, data -/
  | llyn (reply echo : Nat) (data : W64)
  /-- PMBus VOUT_COMMAND in mV -/
  | pmbus (mv : Nat)
  /-- THERMTRIP# -/
  | thermtrip
  /-- the JTAG data register selected, and what it captures -/
  | jtag (len : Nat) (data : W64)
  /-- data of a Read Memory -/
  | memData (qc cid : Nat) (data : List Byte)
deriving DecidableEq, Repr
--MSG END

/-- The fuses. -/
structure Fuses where
  /-- the fused variant; J1280 at reset of the model (DESIGN CHOICE, log entry 1) -/
  variant : Variant := .j1280
  /-- CHIP.UID -/
  uid : W64 := 0
deriving DecidableEq, Repr

/-- Everything but the command queue. -/
structure Block where
  /-- the fuses -/
  fuses : Fuses := {}
  /-- the always-on microsecond counter -/
  usec : Nat := 0
  /-- the model's count of free values given out -/
  freeCtr : Nat := 0
  /-- registers that hold their own value, by register-space offset; default regReset -/
  regs : SMap W32 := []
  /-- latched upper halves, by the offset of the HI register -/
  latches : SMap W32 := []
  /-- error queues, by page number; default the empty queue -/
  errs : SMap ErrQ := []
  /-- fabric memory by fabric address; default 0. The local memory and the banks of control core k, which no fabric address reaches,
  stand beyond the window of cluster 11 as the core operations place them. -/
  mem : SMap Byte := []
  /-- the 8-byte words that carry the poison mark, by fabric address / 8; default false -/
  poison : SMap Bool := []
  /-- messages sent, newest first -/
  outbox : List Msg := []
  /-- the Big Top -/
  fab : FabSt := {}
  /-- the command engine -/
  ce : CeSt := {}
  /-- the host port -/
  hp : HpSt := {}
  /-- the fabric port -/
  fp : FpSt := {}
  /-- flash translation -/
  ft : FtSt := {}
  /-- the media channels -/
  fc : FcSt := {}
  /-- compression -/
  cz : CzSt := {}
  /-- the DMA engine -/
  dm : DmSt := {}
  /-- the Ticket Office -/
  pa : PaSt := {}
  /-- the memory system -/
  ms : MsSt := {}
  /-- the search engine -/
  se : SeSt := {}
  /-- the cores and the compute service -/
  cx : CxSt := {}
  /-- housekeeping -/
  hk : HkSt := {}
  /-- the debug port -/
  dbg : DbgSt := {}
deriving DecidableEq, Repr

/-- The machine: the block and the commands that wait, first in first out. -/
structure State where
  /-- commands waiting, oldest first -/
  pending : List Instr := []
  /-- the block -/
  blk : Block := {}
deriving DecidableEq, Repr

/-- The state after reset: no command waits, and every field has the value the spec gives it, or the one the log names. -/
def State.reset : State := {}

end Sys2Proof.Machine
end

