-- ==== Sys2Proof/Machine/Ops.lean ====
section
/-! DEFINITION. The shared operations: register file, messages, events (R53-R60), error records (R61-R68), byte memory with
poison marks, free values and the passing of time. -/
namespace Sys2Proof.Machine


/-- The fused variant. -/
def Block.variant (b : Block) : Variant := b.fuses.variant

/-! ### Changes of one unit -/

/-- A change of the command engine. -/
def Block.onCe (b : Block) (f : CeSt → CeSt) : Block := { b with ce := f b.ce }
/-- A change of the host port. -/
def Block.onHp (b : Block) (f : HpSt → HpSt) : Block := { b with hp := f b.hp }
/-- A change of the fabric port. -/
def Block.onFp (b : Block) (f : FpSt → FpSt) : Block := { b with fp := f b.fp }
/-- A change of the flash translation engine. -/
def Block.onFt (b : Block) (f : FtSt → FtSt) : Block := { b with ft := f b.ft }
/-- A change of the media channels. -/
def Block.onFc (b : Block) (f : FcSt → FcSt) : Block := { b with fc := f b.fc }
/-- A change of the compression engine. -/
def Block.onCz (b : Block) (f : CzSt → CzSt) : Block := { b with cz := f b.cz }
/-- A change of the DMA engine. -/
def Block.onDm (b : Block) (f : DmSt → DmSt) : Block := { b with dm := f b.dm }
/-- A change of the memory system. -/
def Block.onMs (b : Block) (f : MsSt → MsSt) : Block := { b with ms := f b.ms }
/-- A change of the search engine. -/
def Block.onSe (b : Block) (f : SeSt → SeSt) : Block := { b with se := f b.se }
/-- A change of the compute service. -/
def Block.onCx (b : Block) (f : CxSt → CxSt) : Block := { b with cx := f b.cx }
/-- A change of housekeeping. -/
def Block.onHk (b : Block) (f : HkSt → HkSt) : Block := { b with hk := f b.hk }
/-- A change of the debug port. -/
def Block.onDbg (b : Block) (f : DbgSt → DbgSt) : Block := { b with dbg := f b.dbg }
/-- A change of the Ticket Office. -/
def Block.onPa (b : Block) (f : PaSt → PaSt) : Block := { b with pa := f b.pa }
/-- A change of the Big Top. -/
def Block.onFab (b : Block) (f : FabSt → FabSt) : Block := { b with fab := f b.fab }

/-! ### The register file -/

/-- The stored word at a register-space offset. -/
def Block.rd (b : Block) (off : Nat) : W32 := smGet (regReset b.variant off) b.regs off
/-- Store a word at a register-space offset. -/
def Block.wr (b : Block) (off : Nat) (v : W32) : Block := { b with regs := smSet (regReset b.variant off) b.regs off v }
/-- Bits [hi:lo] of the word at an offset. -/
def Block.rdF (b : Block) (off lo hi : Nat) : Nat := fld (b.rd off) lo hi
/-- Store into bits [hi:lo]. -/
def Block.wrF (b : Block) (off lo hi x : Nat) : Block := b.wr off (setFld (b.rd off) lo hi x)
/-- Store a number, saturating at the field's highest value. -/
def Block.wrSat (b : Block) (off lo hi x : Nat) : Block := b.wrF off lo hi (min x (fullMax lo hi))
/-- Add to a saturating counter field. -/
def Block.addSat (b : Block) (off lo hi n : Nat) : Block := b.wrSat off lo hi (b.rdF off lo hi + n)
/-- Increment a saturating 32-bit counter. -/
def Block.inc (b : Block) (off : Nat) : Block := b.addSat off 0 31 1
/-- A 64-bit value held in two adjacent registers. -/
def Block.rd64 (b : Block) (off : Nat) : Nat := (b.rd off).toNat + (b.rd (off + 4)).toNat * 2 ^ 32
/-- Store a 64-bit value in two adjacent registers. -/
def Block.wr64 (b : Block) (off n : Nat) : Block :=
  (b.wr off (BitVec.ofNat 32 n)).wr (off + 4) (BitVec.ofNat 32 (n / 2 ^ 32))

/-- Message out. -/
def Block.send (b : Block) (m : Msg) : Block := { b with outbox := m :: b.outbox }

/-- A value the spec does not state: fresh each time, and nothing can be proved of it. -/
def Block.free (b : Block) : W64 × Block := (Config.freeValue b.freeCtr, { b with freeCtr := b.freeCtr + 1 })

/-- A list folded through the block. -/
def Block.each {α : Type} (b : Block) (xs : List α) (f : Block → α → Block) : Block := xs.foldl f b

/-- A change under a condition. -/
def Block.onIf (b : Block) (c : Bool) (f : Block → Block) : Block := if c then f b else b

/-! ### Pages and events -/

/-- The CHIP page. -/
def pgChip : Nat := pageBase .chip 0
/-- The HK page. -/
def pgHk : Nat := pageBase .hk 0
/-- The page is present on this part. -/
def Block.has (b : Block) (c : PageClass) (i : Nat) : Bool := c.present b.variant i

/-- PAGE_STATE.RESET of a page. -/
def Block.pageReset (b : Block) (pg : Nat) : Nat := b.rdF (pg + 0x00C) 4 6
/-- Set PAGE_STATE.RESET. -/
def Block.setPageReset (b : Block) (pg r : Nat) : Block := b.wrF (pg + 0x00C) 4 6 r
/-- Set PAGE_STATE.POWER. -/
def Block.setPower (b : Block) (pg p : Nat) : Block := b.wrF (pg + 0x00C) 1 3 p
/-- Set PAGE_STATE.SPARED. -/
def Block.setSpared (b : Block) (pg : Nat) (s : Bool) : Block := b.wrF (pg + 0x00C) 7 7 (if s then 1 else 0)

/-- The event bits implemented on the page at a page base. -/
def Block.evtMask (b : Block) (pg : Nat) : W32 :=
  match presentPageAt b.variant pg with
  | some (c, i) => BitVec.ofNat 32 (2 ^ evtBits c i - 1)
  | none => 0

/-- One interrupt message of a page, as EVT_ROUTE directs it (R57-R60). -/
def Block.sendInt (b : Block) (pg : Nat) : Block :=
  let r := b.rd (pg + 0x024)
  let dest := fld r 25 26
  let b := b.onIf (dest == 0 || dest == 2)
    (fun b => (b.send (.fwInt (BitVec.ofNat 8 (fld r 0 7)) (BitVec.ofNat 6 (fld r 19 24)))).onCx (fun x =>
      { x with kInts := x.kInts ++ [(fld r 0 7, fld r 19 24)] }))
  b.onIf (dest == 1 || dest == 2) (fun b =>
    if b.rdF (pgChip + 0x140) 0 0 = 1 then b.send (.msix 0 (BitVec.ofNat 11 (fld r 8 18)))
    else b.inc (pgChip + 0x13C))

/-- Set EVT_RAW and EVT_EN of a page; one message if a bit of EVT_PEND rises (R54, R57). -/
def Block.setEvt (b : Block) (pg : Nat) (raw en : W32) : Block :=
  let old := b.rd (pg + 0x010) &&& b.rd (pg + 0x014)
  let b := (b.wr (pg + 0x010) raw).wr (pg + 0x014) en
  if raw &&& en &&& ~~~old = 0 then b else b.sendInt pg

/-- Events of a page occur, given as a mask (R53); those of the HK and PA pages interrupt the Eowift-S core (R679). -/
def Block.raiseMask (b : Block) (pg : Nat) (m : W32) : Block :=
  let b := b.onIf (decide (0x100000 ≤ pg ∧ pg < 0x300000)) (fun b => b.onCx (fun x => { x with sIrq := true }))
  b.setEvt pg (b.rd (pg + 0x010) ||| (m &&& b.evtMask pg)) (b.rd (pg + 0x014))

/-- A Boolean as a bit. -/
def bit (c : Bool) : Nat := if c then 1 else 0

/-- One event of a page occurs. -/
def Block.raise (b : Block) (pg bit : Nat) : Block := b.raiseMask pg (BitVec.ofNat 32 (2 ^ bit))

/-! ### Running a command -/

/-- Everything outside the always-on domain is clock-stopped: VDD_AON is down, a thermal trip is in force (R696), or the device
is in the power-fail-safe state (R709). -/
def Block.dark (b : Block) : Bool := b.hk.off || b.hk.tripped || decide (2 ≤ b.rdF (pgHk + 0x158) 8 10)
/-- A change of the always-on domain, which works while VDD_AON is held (R678). -/
def Block.aon (b : Block) (f : Block → Block) : Block := if b.hk.off then b else f b
/-- The outcome of a command of the always-on domain. -/
def State.runAon (s : State) (f : Block → Block) : Host.Outcome State Fault Refusal := .next { s with blk := s.blk.aon f }
/-- A change that clock-stopped logic does not make. -/
def Block.lit (b : Block) (f : Block → Block) : Block := if b.dark then b else f b
/-- The outcome of any other command: nothing changes while its clocks are stopped. -/
def State.run (s : State) (f : Block → Block) : Host.Outcome State Fault Refusal := .next { s with blk := s.blk.lit f }

/-! ### Error records -/

/-- What a unit says of an error; the rest of the record follows from the page and the time. -/
structure ErrIn where
  /-- CODE -/
  code : Nat
  /-- SEVERITY -/
  sev : Sev
  /-- TENANT -/
  tenant : BitVec 6 := 0
  /-- PORT -/
  port : BitVec 8 := 0xFF
  /-- ADDR -/
  addr : Option FAddr := none
  /-- DETAIL -/
  detail : BitVec 192 := 0

/-- A full set of what a unit says of an error. -/
def errOf (code : Nat) (sev : Sev) (tenant : BitVec 6) (port : BitVec 8) (addr : Nat) (detail : BitVec 192) : ErrIn :=
  ⟨code, sev, tenant, port, some (BitVec.ofNat 48 addr), detail⟩

/-- The error queue of a page. -/
def Block.errQ (b : Block) (pg : Nat) : ErrQ := smGet {} b.errs (pg / 0x1000)
/-- Store the error queue of a page. -/
def Block.setErrQ (b : Block) (pg : Nat) (q : ErrQ) : Block := { b with errs := smSet {} b.errs (pg / 0x1000) q }

/-- The record a page would write (R63, R67). -/
def Block.mkRec (b : Block) (pg : Nat) (e : ErrIn) : ErrRec :=
  let q := b.errQ pg
  { time := BitVec.ofNat 64 b.usec,
    unit := BitVec.ofNat 8 (fld (regReset b.variant pg) 16 23),
    inst := BitVec.ofNat 12 (fld (regReset b.variant pg) 4 15),
    tenant := e.tenant, sev := e.sev, nested := !q.recs.isEmpty, addr := e.addr,
    code := BitVec.ofNat 16 e.code, port := e.port, seq := q.seq, detail := e.detail }

/-- Put a record into a page's queue, or discard it on a full one (R61, R64). -/
def ErrQ.push (q : ErrQ) (r : ErrRec) : ErrQ :=
  if q.recs.length < 16 then { q with recs := q.recs ++ [r], seq := q.seq + 1 }
  else { q with lost := min (q.lost + 1) 65535, maxSev := max q.maxSev r.sev.code, seq := q.seq + 1 }

/-- A unit records an error on a page, and the CHIP page its summary events (R62-R64, R87). A bad-write record counts there whether the
queue keeps or discards it (DESIGN CHOICE, log entry 59). -/
def Block.record (b : Block) (pg : Nat) (e : ErrIn) : Block :=
  let q := b.errQ pg
  let b := b.setErrQ pg (q.push (b.mkRec pg e))
  let bad := decide (e.code = 1 ∨ e.code = 2 ∨ e.code = 3 ∨ e.code = 4 ∨ e.code = 6)
  let b := b.onIf bad (fun b => b.inc (pgChip + 0x138))
  let m : W32 := (if bad then 2 else 0)
    ||| (match e.sev with | .deferred | .contained => 4 | .unitFatal | .deviceFatal => 8 | .corrected => 0)
    ||| (if q.recs.length < 16 then 0 else 16)
  if m = 0 then b else b.raiseMask pgChip m

/-- A common refusal record (R68): CORRECTED, ADDR the register-space offset. -/
def Block.refuse (b : Block) (pg code : Nat) (port : BitVec 8) (off : Nat) : Block :=
  b.record pg { code := code, sev := .corrected, port := port, addr := some (BitVec.ofNat 48 off) }

/-- DETAIL from bytes, the first at byte 0. -/
def detailOf (xs : List (Nat × Nat)) : BitVec 192 :=
  xs.foldl (fun d x => d ||| (BitVec.ofNat 192 x.2 <<< (8 * x.1))) 0

/-! ### Memory -/

/-- The canonical form of fabric memory: addresses strictly rising, and no byte listed that is 0, as an unlisted one reads. -/
def Memory.wf (m : SMap Byte) : Bool := smWf 0 m
/-- One byte of fabric memory. -/
def Block.byte (b : Block) (a : Nat) : Byte := smGet 0 b.mem a
/-- Store one byte. -/
def Block.setByte (b : Block) (a : Nat) (v : Byte) : Block := { b with mem := smSet 0 b.mem a v }
/-- Byte `k` of a bit vector. -/
def byteOf {w : Nat} (v : BitVec w) (k : Nat) : Byte := (v >>> (8 * k)).setWidth 8
/-- Store the `n` low bytes of a value from an address, least significant first. -/
def Block.store {w : Nat} (b : Block) (a n : Nat) (v : BitVec w) : Block :=
  b.each (List.range n) (fun b k => b.setByte (a + k) (byteOf v k))
/-- The `n` bytes from an address as a number, least significant first. -/
def Block.load (b : Block) (a : Nat) : Nat → Nat
  | 0 => 0
  | n + 1 => b.load a n + (b.byte (a + n)).toNat * 2 ^ (8 * n)
/-- The `n` bytes from an address as a list. -/
def Block.bytes (b : Block) (a n : Nat) : List Byte := (List.range n).map (fun k => b.byte (a + k))
/-- Store a list of bytes from an address. -/
def Block.storeBytes (b : Block) : Nat → List Byte → Block
  | _, [] => b
  | a, x :: xs => (b.setByte a x).storeBytes (a + 1) xs
/-- The word that holds an address carries the poison mark. -/
def Block.poisoned (b : Block) (a : Nat) : Bool := smGet false b.poison (a / 8)
/-- Mark or clear the word that holds an address. -/
def Block.setPoison (b : Block) (a : Nat) (p : Bool) : Block := { b with poison := smSet false b.poison (a / 8) p }
/-- The addresses of the 8-byte words a span touches. -/
def wordsOf (a n : Nat) : List Nat := (List.range ((a + n + 7) / 8 - a / 8)).map (fun k => (a / 8 + k) * 8)
/-- Some word of a span is poisoned. -/
def Block.anyPoison (b : Block) (a n : Nat) : Bool := (wordsOf a n).any b.poisoned
/-- Mark or clear every word of a span. -/
def Block.poisonSpan (b : Block) (a n : Nat) (p : Bool) : Block := b.each (wordsOf a n) (fun b w => b.setPoison w p)

/-! ### Board inputs and PLLs -/

/-- A board input before its first edge: PERST# and PWRFAIL# asserted (R753), the pulled-up inputs high, the others low. -/
def inpReset (i : Nat) : Inp := { level := decide (2 ≤ i ∧ i ≤ 9) || decide (i = 11 ∨ i = 12) }
/-- A board input. -/
def Block.inp (b : Block) (i : Nat) : Inp := smGet (inpReset i) b.hk.inputs i
/-- Change a board input. -/
def Block.modInp (b : Block) (i : Nat) (f : Inp → Inp) : Block :=
  b.onHk (fun h => { h with inputs := smSet (inpReset i) h.inputs i (f (b.inp i)) })
/-- The level at which an input counts as active for its stuck limit (R700). -/
def activeLevel (i : Nat) : Bool := decide (i = 10)
/-- An input takes a filtered level; the stuck count starts when it becomes active. -/
def Block.setLevel (b : Block) (i : Nat) (v : Bool) : Block :=
  b.modInp i (fun x => { x with level := v, since := if x.level = v then x.since else b.usec })
/-- A PLL runs again with the unit it clocks (R681): 0 the Big Top, 1 to 6 the pairs of clusters, 7 compression, 8 search, 9 the
flash channels, 10 DRAM, 11 PCIe, 12 to 15 the Ethernet ports. -/
def Block.pllOn (b : Block) (p : Nat) : Block := b.onHk (fun h => { h with pllOff := h.pllOff.filter (· ≠ p) })

/-! ### Time -/

/-- `n` microseconds pass. -/
def Block.elapse (b : Block) (n : Nat) : Block := { b with usec := b.usec + n }
/-- Time passes until a due moment, if it lies ahead. -/
def Block.elapseTo (b : Block) (due : Nat) : Block := b.elapse (due - b.usec)

/-- The time in µs that a power-gated unit takes to run, its PLL running or stopped (R680). -/
def Block.wakeTime (b : Block) (p : Nat) : Nat := if b.hk.pllOff.contains p then 20 else 10

end Sys2Proof.Machine
end

