-- ==== Sys2Proof/Machine/Crc.lean ====
section
/-! DEFINITION. The CRCs the spec names: CRC-32C and the NVMe guard CRC-64 (R449). -/
namespace Sys2Proof.Machine

/-- One bit of a reflected CRC. -/
def crcBit {w : Nat} (poly c : BitVec w) : BitVec w := if c.getLsbD 0 then (c >>> 1) ^^^ poly else c >>> 1
/-- One byte of a reflected CRC. -/
def crcByte {w : Nat} (poly c : BitVec w) (x : Byte) : BitVec w :=
  (List.range 8).foldl (fun c _ => crcBit poly c) (c ^^^ x.setWidth w)
/-- Bits in reverse order. -/
def reflect {w : Nat} (x : BitVec w) : BitVec w := x.reverse
/-- The CRC-32C polynomial, reflected. -/
def poly32c : W32 := reflect 0x1EDC6F41
/-- The NVMe guard CRC-64 polynomial, reflected. -/
def poly64 : W64 := reflect 0xAD93D23594C93659
/-- A CRC in stored form extended over bytes. -/
def crcExtend {w : Nat} (poly stored : BitVec w) (xs : List Byte) : BitVec w := ~~~(xs.foldl (crcByte poly) (~~~stored))
/-- CRC-32C of bytes. -/
def crc32c (xs : List Byte) : W32 := crcExtend poly32c 0 xs
/-- CRC-64 of bytes. -/
def crc64 (xs : List Byte) : W64 := crcExtend poly64 0 xs

/-- The first `n` bytes of sparse contents. -/
def denseBytes (m : Bytes) (n : Nat) : List Byte := (List.range n).map (fun k => smGet 0 m k)

end Sys2Proof.Machine
end

