-- ==== Sys2Proof/Machine/Pa.lean ====
section
/-! DEFINITION. The Ticket Office (R682-R691): pools, budgets, requests, grants and returns. -/
namespace Sys2Proof.Machine

/-- The PA control page. -/
def pgPa : Nat := pageBase .paCtl 0
/-- The page of booth `b` in the PA unit. -/
def pgPaBooth (b : Nat) : Nat := pageBase .paBooth b
/-- The BT page. -/
def pgBt : Nat := pageBase .bt 0
/-- The FT page. -/
def pgFt : Nat := pageBase .ft 0

/-- The package limit in mW of a power state (R689). -/
def psLimit (v : Variant) (ps : Nat) : Nat :=
  match v, ps with
  | .j1280, 0 => 165000 | .j1280, 1 => 120000 | .j1280, 2 => 80000 | .j1280, 3 => 40000 | .j1280, _ => 10000
  | .j0640, 0 => 95000 | .j0640, 1 => 70000 | .j0640, 2 => 48000 | .j0640, 3 => 25000 | .j0640, _ => 8000
  | .j0320e, 0 => 60000 | .j0320e, 1 => 45000 | .j0320e, 2 => 32000 | .j0320e, 3 => 18000 | .j0320e, _ => 6000

/-- The media fraction in 1/256 of a power state (R689). -/
def psMedia : Nat → Nat
  | 0 => 256 | 1 => 192 | 2 => 128 | 3 => 64 | _ => 16

/-- B_CHIP (R682). -/
def Block.bChip (b : Block) : Nat :=
  min (b.pa.plossMw.getD (psLimit b.variant b.pa.ps)) (min (b.rdF (pgPa + 0x114) 0 19) (b.rdF (pgPa + 0x104) 0 19))

/-- PA.BUDGET.LIMITER: the limit that B_CHIP takes; on a tie the power state before the thermal cap before the firmware cap. -/
def Block.limiter (b : Block) : Nat :=
  let c := b.bChip
  if c = b.pa.plossMw.getD (psLimit b.variant b.pa.ps) then 0 else if c = b.rdF (pgPa + 0x114) 0 19 then 1 else 2

/-- The budget of a pool for tickets (R682). -/
def Block.poolBudget (b : Block) : Pool → Nat
  | .chip => b.bChip - b.rdF (pgPa + 0x108) 0 19
  | .booth k => b.rdF (pgPaBooth k + 0x100) 0 19 * psMedia b.pa.ps / 256

/-- The tickets held from a pool. -/
def Block.poolUsed (b : Block) (p : Pool) : Nat := ((b.pa.held.filter (·.pool = p)).map (·.mw)).sum

/-- S of R686. -/
def Block.shareS (b : Block) : Nat :=
  if b.rdF (pgFt + 0x100) 0 2 = 1 then b.rdF (pgPa + 0x124) 8 15 else b.rdF (pgPa + 0x124) 0 7

/-- The class with which a request arbitrates: C0 once its age exceeds its class limit (R26). -/
def Block.effCls (b : Block) (cls born : Nat) : Nat :=
  if cls = 0 then 0
  else if b.usec - born > b.rdF (pgBt + 0x104) (8 * (cls - 1)) (8 * (cls - 1) + 7) then 0 else cls

/-- One request is served before another: by class, then by age. -/
def Block.before (b : Block) (c1 t1 c2 t2 : Nat) : Bool :=
  b.effCls c1 t1 < b.effCls c2 t2 || (b.effCls c1 t1 == b.effCls c2 t2 && t1 < t2)

/-- The ticket window of a request: that of the unit that asks (R684). -/
def Block.window (b : Block) (t : Ticket) : Nat × Nat :=
  let ofOp := fun (id : Nat) => (0, ((b.fc.ops.find? (fun o => o.id == id)).elim 0 (fun o => o.die / 16)))
  match t.who with
  | .flashOp id | .softDecode id => ofOp id
  | .transfer ch | .training ch => (0, ch)
  | .inrush k => (1, k)
  | .laneC n => (2, n)
  | .laneD n => (3, n)
  | .link l => (4, l)
  | .eth p _ => (5, p)
  | .cluster n _ => (6, n)
  | .bank k => (7, k)
  | .other id => (8, id)
/-- The floats drawn from a pool. -/
def Block.floatSum (b : Block) (p : Pool) : Nat := ((b.pa.floats.filter (fun f => f.1 = p)).map (·.2.2)).sum
/-- A request keeps the reclaim share of its booth (R686). -/
def Block.shareKept (b : Block) (t : Ticket) : Bool :=
  let rclWaits := b.pa.waiting.any (fun w => w.pool == t.pool && w.rcl)
  let others := ((b.pa.held.filter (fun h => h.pool = t.pool && !h.rcl)).map (·.mw)).sum
  match t.pool with
  | .chip => true
  | .booth _ => t.rcl || !rclWaits || decide (others + t.mw ≤ (256 - b.shareS) * b.poolBudget t.pool / 256)
/-- A request fits what is free of its pool, the reclaim share of R686 kept. -/
def Block.ticketFits (b : Block) (t : Ticket) : Bool :=
  decide (b.poolUsed t.pool + b.floatSum t.pool + t.mw ≤ b.poolBudget t.pool) && b.shareKept t
/-- A request fits the float of its window, which is the window's own share (R684). -/
def Block.floatFits (b : Block) (t : Ticket) : Bool :=
  b.pa.floats.any (fun f => decide (f.1 = t.pool) && f.2.1 == b.window t && decide (t.mw ≤ f.2.2)) && b.shareKept t
    && decide (b.poolUsed t.pool + t.mw ≤ b.poolBudget t.pool)
/-- A grant from a window's float. -/
def Block.drawFloat (b : Block) (t : Ticket) : Block :=
  { b with pa := { b.pa with
      held := b.pa.held ++ [t]
      floats := b.pa.floats.map (fun f => if f.1 = t.pool ∧ f.2.1 = b.window t then (f.1, f.2.1, f.2.2 - t.mw) else f) } }

/-- The answer to a ticket request. -/
inductive TicketAns where
  | granted | delayed | refused
deriving DecidableEq, Repr

/-- A holder has its ticket. -/
def Block.holds (b : Block) (w : Holder) : Bool := b.pa.held.any (fun t => t.who == w)

/-- A request is refused: counted, and REFUSED raised (R685, R724). -/
def Block.countRefusal (b : Block) : Block := (b.inc (pgPa + 0x134)).raise pgPa 0

/-- A ticket request (R683-R685). -/
def Block.ticket (b : Block) (t : Ticket) : TicketAns × Block :=
  if b.holds t.who then (.granted, b)
  else if t.mw > b.poolBudget t.pool then
    (.refused, { b with pa := { b.pa with waiting := b.pa.waiting.filter (fun w => w.who ≠ t.who) } }.countRefusal)
  else if b.pa.waiting.any (fun w => w.who == t.who) then (.delayed, b)
  else if b.floatFits t then (.granted, b.drawFloat t)
  else if b.ticketFits t && !b.pa.waiting.any (fun w => w.pool == t.pool && b.before w.cls w.born t.cls t.born) then
    (.granted, { b with pa := { b.pa with held := b.pa.held ++ [t] } })
  else (.delayed, { b with pa := { b.pa with waiting := b.pa.waiting ++ [t] } })

/-- A holder returns its ticket, or withdraws its request. -/
def Block.untick (b : Block) (w : Holder) : Block :=
  { b with pa := { b.pa with held := b.pa.held.filter (fun t => t.who ≠ w),
                             waiting := b.pa.waiting.filter (fun t => t.who ≠ w),
                             starved := b.pa.starved.filter (· ≠ w) } }

/-- Insert a request in the order of service. -/
def Block.insertReq (b : Block) (t : Ticket) : List Ticket → List Ticket
  | [] => [t]
  | x :: xs => if b.before t.cls t.born x.cls x.born then t :: x :: xs else x :: b.insertReq t xs

/-- The waiting requests in the order of service (R684). -/
def Block.reqOrder (b : Block) : List Ticket := b.pa.waiting.foldl (fun acc t => b.insertReq t acc) []

/-- One waiting request at a redivision: granted if it fits, else it keeps its place and counts as delayed. -/
def Block.redivideOne (b : Block) (t : Ticket) : Block :=
  let rest := b.pa.waiting.filter (fun w => w.who ≠ t.who)
  if t.mw > b.poolBudget t.pool then b
  else if b.ticketFits t then { b with pa := { b.pa with held := b.pa.held ++ [t], waiting := rest } }
  else if t.delayed then b
  else
    let mark := fun (w : Ticket) => if w.who = t.who then { w with delayed := true } else w
    { b with pa := { b.pa with waiting := b.pa.waiting.map mark } }.inc (pgPa + 0x130)

/-- What remains of each pool is divided in equal parts as floats among the windows that still have requests waiting (R684; equal
parts are a DESIGN CHOICE, log entry 36). -/
def Block.newFloats (b : Block) : List (Pool × (Nat × Nat) × Nat) :=
  let ws := (b.pa.waiting.map (fun t => (t.pool, b.window t))).foldl (fun ws w => if ws.contains w then ws else ws ++ [w]) []
  ws.map (fun w => (w.1, w.2, (b.poolBudget w.1 - b.poolUsed w.1) / (ws.filter (fun v => v.1 = w.1)).length))
/-- A redivision (R684): the floats return to their pools, the waiting requests are granted in order as they fit, and what remains is
divided again. -/
def Block.redivide (b : Block) : Block :=
  let b := { b with pa := { b.pa with floats := [] } }.each b.reqOrder Block.redivideOne
  { b with pa := { b.pa with floats := b.newFloats } }

/-- The tickets of a booth's RECLAIM-stream requests that wait. -/
def Block.rclWaiting (b : Block) (k : Nat) : Nat :=
  (b.pa.waiting.filter (fun t => t.pool = .booth k && t.rcl)).length

end Sys2Proof.Machine
end

