-- ==== Sys2Proof/Machine/Ms.lean ====
section
/-! DEFINITION. The memory system (R385-R429): the hash, the region table, codes and poison, scrub and repair, staging. -/
namespace Sys2Proof.Machine

/-- The MS control page. -/
def pgMs : Nat := pageBase .msCtl 0
/-- The page of DRAM channel `c`. -/
def pgMsCh (c : Nat) : Nat := pageBase .msCh c
/-- The staging page. -/
def pgStg : Nat := pageBase .msStg 0

/-! ### The fitted memory -/

/-- WIDTH: x8 devices. -/
def Block.msX8 (b : Block) : Bool := b.rdF (pgMs + 0x100) 3 3 == 1
/-- RANKS: two ranks. -/
def Block.msTwo (b : Block) : Bool := b.rdF (pgMs + 0x100) 4 4 == 1
/-- Capacity of one channel in GiB for the fields WIDTH, RANKS and DENSITY (R385). -/
def chGib (x8 two : Bool) (density : Nat) : Nat := 16 * (if x8 then 1 else 2) * (if two then 2 else 1) * 2 ^ density
/-- MS.CFG names a configuration of R385 at a rate R386 allows. -/
def msCfgLegal (v : W32) : Bool :=
  decide (fld v 5 6 ≤ 2 ∧ chGib (fld v 3 3 == 1) (fld v 4 4 == 1) (fld v 5 6) ≤ 64 ∧ ¬(fld v 4 4 = 1 ∧ fld v 0 2 = 5))
/-- Installed capacity in GiB. -/
def Block.dramGib (b : Block) : Nat := b.variant.drams * chGib b.msX8 b.msTwo (b.rdF (pgMs + 0x100) 5 6)
/-- Installed capacity in bytes. -/
def Block.dramCap (b : Block) : Nat := b.dramGib * 2 ^ 30
/-- MS.STATUS.READY. -/
def Block.dramReady (b : Block) : Bool := b.rdF (pgMs + 0x104) 0 0 == 1

/-! ### From address to row (R389-R391) -/

/-- XOR of the groups of `w` bits of a number, the first group lowest. -/
def xorGroups (w : Nat) : Nat → Nat → Nat
  | 0, _ => 0
  | n + 1, a => (a % 2 ^ w) ^^^ xorGroups w n (a / 2 ^ w)

/-- log2 of the number of channels. -/
def Block.chBits (b : Block) : Nat := if b.variant.drams = 8 then 3 else 2
/-- log2 of the grain. -/
def Block.grain (b : Block) : Nat := b.rdF (pgMs + 0x100) 7 10 + 8
/-- The channel of a DRAM address (R389). -/
def Block.dramCh (b : Block) (a : Nat) : Nat := xorGroups b.chBits 16 (a % 2 ^ 39 / 2 ^ b.grain)
/-- The channel-local address (R390). -/
def Block.dramLocal (b : Block) (a : Nat) : Nat :=
  a % 2 ^ b.grain + a % 2 ^ 39 / 2 ^ (b.grain + b.chBits) * 2 ^ b.grain
/-- The row of a DRAM address (R391). -/
def Block.dramRow (b : Block) (a : Nat) : RowLoc :=
  let l := b.dramLocal a / 64
  let col := if b.msX8 then 6 else 7
  let rk := if b.msTwo then 1 else 0
  let row := l / 2 ^ (6 + col + rk)
  { ch := b.dramCh a, sub := l % 2, bg := (l / 2 % 8) ^^^ (row % 8), bank := (l / 2 ^ (4 + col) % 4) ^^^ (row / 8 % 4),
    rank := l / 2 ^ (6 + col) % 2 ^ rk, row := row }

/-- The key of a bank. -/
def bankKey (ch sub rank bg bank : Nat) : Nat := (((ch * 2 + sub) * 2 + rank) * 8 + bg) * 4 + bank
/-- The bank of a row. -/
def RowLoc.bankKey (r : RowLoc) : Nat := Machine.bankKey r.ch r.sub r.rank r.bg r.bank
/-- The subchannel of a row. -/
def RowLoc.subKey (r : RowLoc) : Nat := r.ch * 2 + r.sub
/-- Two rows of one bank group. -/
def RowLoc.sameGroup (r q : RowLoc) : Bool := r.ch == q.ch && r.sub == q.sub && r.rank == q.rank && r.bg == q.bg

/-! ### The region table (R406-R409) -/

/-- A region entry. -/
def Block.region (b : Block) (i : Nat) : Region := smGet {} b.ms.regions i
/-- Store a region entry. -/
def Block.setRegion (b : Block) (i : Nat) (r : Region) : Block :=
  b.onMs (fun m => { m with regions := smSet {} m.regions i r })
/-- The region that is not OFF and holds a DRAM address. -/
def Block.regionAt (b : Block) (a : Nat) : Option Region :=
  (b.ms.regions.find? (fun e => e.2.st ≠ .off && decide (e.2.base * 2 ^ 20 ≤ a ∧ a < (e.2.base + e.2.size) * 2 ^ 20))).map (·.2)
/-- The line that holds a DRAM address is coded LIGHT. -/
def Block.isLight (b : Block) (a : Nat) : Bool :=
  match b.regionAt a with
  | some r => r.light
  | none => false
/-- The owner of a DRAM address (R406). -/
def Block.dramOwner (b : Block) (a : Nat) : BitVec 6 :=
  match b.regionAt a with
  | some r => r.owner
  | none => 0
/-- What the memory system answers to a span of DRAM addresses under a tag, before it reads or writes (R388, R407, R409). -/
def Block.dramCode (b : Block) (tag : BitVec 6) (a n : Nat) : Resp :=
  if !b.dramReady then .offline
  else
    let ends := [a, a + n - 1]
    if ends.any (fun x => match b.regionAt x with | some r => r.st = .init | none => false) then .decode
    else if tag ≠ 0 ∧ ends.any (fun x => b.dramOwner x ≠ tag) then .tenant
    else .ok

/-- Two entries overlap. -/
def Region.overlaps (r q : Region) : Bool := decide (r.base < q.base + q.size ∧ q.base < r.base + r.size)

/-- ENABLE of an entry is refused (R408). -/
def Block.enableRefused (b : Block) (i : Nat) : Bool :=
  let r := b.region i
  r.st ≠ .off || r.size == 0 || decide ((r.base + r.size) * 2 ^ 20 > b.dramCap) ||
    b.ms.regions.any (fun e => e.1 != i && e.2.st ≠ .off && r.overlaps e.2)

/-- ENABLE or DISABLE begins (R409). -/
def Block.regionStart (b : Block) (i : Nat) (goal : RegionSt) : Block :=
  b.setRegion i { b.region i with st := .init, goal := goal, was := (b.region i).light }

/-- A write of a span codes the word at `w` afresh: it covers the word, or the whole line of a STRONG one (R400, R410). -/
def Block.wholly (b : Block) (a n w : Nat) : Bool :=
  if w < 2 ^ 39 && !b.isLight w then decide (a ≤ w / 64 * 64 ∧ w / 64 * 64 + 64 ≤ a + n) else decide (a ≤ w ∧ w + 8 ≤ a + n)
/-- The words that a unit's write of a span codes afresh lose their mark; the others keep it (R410, R419). -/
def Block.cleanWhole (b : Block) (a n : Nat) : Block := { b with poison := b.poison.filter (fun e => !b.wholly a n (e.1 * 8)) }

/-- Every byte from `lo` up to `hi` reads 0, and no word there is poisoned. -/
def Block.zeroSpan (b : Block) (lo hi : Nat) : Block :=
  let m := b.mem.filter (fun e => decide (e.1 < lo ∨ hi ≤ e.1))
  let p := b.poison.filter (fun e => decide (e.1 * 8 < lo ∨ hi ≤ e.1 * 8))
  { b with mem := m, poison := p }

/-- Zeroing finishes: every byte of the range reads 0 and no word is poisoned (R409). -/
def Block.regionEnds (b : Block) (i : Nat) : Block :=
  let r := b.region i
  if r.st ≠ .init ∨ b.ms.stopped then b
  else
    let lo := r.base * 2 ^ 20
    let hi := (r.base + r.size) * 2 ^ 20
    let b := b.zeroSpan lo hi
    (b.setRegion i { r with st := r.goal }).raise pgMs 3

/-! ### Errors and repair (R411-R417) -/

/-- DETAIL of a memory record (R429). -/
def Block.msDetail (b : Block) (a : Nat) (mask : Nat) : BitVec 192 :=
  let r := b.dramRow a
  detailOf ([(0, r.sub), (1, r.rank), (2, r.bg), (3, r.bank)]
    ++ (List.range 4).map (fun k => (4 + k, r.row / 2 ^ (8 * k) % 256)) ++ [(8, mask)])

/-- A memory system record on the page of an address's channel. -/
def Block.msRec (b : Block) (a code : Nat) (sev : Sev) (tag : BitVec 6) (port : BitVec 8) (mask : Nat) : Block :=
  b.record (pgMsCh (b.dramCh a)) (errOf code sev tag port (a / 64 * 64) (b.msDetail a mask))

/-- Bank groups with no soft repair held, over a channel's subchannels and ranks (DR_STATUS.SPPR_FREE). -/
def Block.spprFree (b : Block) (c : Nat) : Nat :=
  let groups := (if b.msTwo then 2 else 1) * 2 * 8
  groups - ((b.ms.soft.filter (·.ch = c)).map (fun r => (r.sub * 2 + r.rank) * 8 + r.bg)).eraseDups.length

/-- A bank pauses for its repair: for at most 200 µs, a free value (R415, R420). -/
def Block.pauseBank (b : Block) (key : Nat) : Block :=
  let (v, b) := b.free
  b.onMs (fun m => { m with paused := smPut m.paused key (b.usec + v.toNat % 201) })

/-- A hard fault of a row is repaired, or recorded where its bank group holds a repair already (R415, R416). -/
def Block.hardFault (b : Block) (r : RowLoc) (a : Nat) : Block :=
  if b.ms.stopped then b.onMs (fun m => { m with repairMap := m.repairMap ++ [r] })
  else if b.ms.soft.any r.sameGroup then (b.msRec a 0x105 .deferred 0 0xFF 0).raise (pgMsCh r.ch) 1
  else
    let b := (b.pauseBank r.bankKey).onMs (fun m => { m with soft := m.soft ++ [r], repairMap := m.repairMap ++ [r] })
    let b := b.onMs (fun m => { m with seen := smMod m.seen r.subKey (fun rs => rs.filter (· ≠ r)) })
    (((b.inc (pgMsCh r.ch + 0x118)).msRec a 0x104 .corrected 0 0xFF 0).raise (pgMsCh r.ch) 0)

/-- A correction in a row counts; the second in a lap is a hard fault (R414). -/
def Block.rowHit (b : Block) (a : Nat) : Block :=
  let r := b.dramRow a
  let rs := smGet [] b.ms.seen r.subKey
  if rs.contains r then b.hardFault r a
  else
    let kept := if rs.length < 64 then rs else rs.drop 1
    b.onMs (fun m => { m with seen := smPut m.seen r.subKey (kept ++ [r]) })

/-- A read corrects a line or word, writes it back and records it (R411); the symbol positions are a free value. -/
def Block.dramCorrected (b : Block) (a : Nat) (tag : BitVec 6) (port : BitVec 8) : Block :=
  let (v, b) := b.free
  ((b.inc (pgMsCh (b.dramCh a) + 0x110)).msRec a 0x101 .corrected tag port v.toNat).rowHit a

/-- Poison the line (STRONG) or the word (LIGHT) of an address. -/
def Block.dramPoison (b : Block) (a : Nat) : Block :=
  if b.isLight a then b.setPoison a true else b.poisonSpan (a / 64 * 64) 64 true

/-- The poison mask of the line or word of an address. -/
def Block.maskOf (b : Block) (a : Nat) : Nat := if b.isLight a then 2 ^ (a / 8 % 8) else 255

/-- A read finds an uncorrectable line or word: it is written back poisoned and recorded, unless it was poisoned already
(R412). -/
def Block.dramUncorr (b : Block) (a : Nat) (tag : BitVec 6) (port : BitVec 8) : Block :=
  if b.poisoned a then b
  else (b.dramPoison a).msRec a 0x102 .deferred tag port (b.maskOf a)

/-- One error met by a read of a DRAM span. -/
def Block.dramErr (tag : BitVec 6) (port : BitVec 8) (b : Block) (e : CodeErr) : Block :=
  if e.2 then b.dramUncorr e.1.toNat tag port
  else if b.poisoned e.1.toNat then b
  else b.dramCorrected e.1.toNat tag port

/-- The errors that lie in the lines a span touches. -/
def errsIn (errs : List CodeErr) (a n : Nat) : List CodeErr :=
  errs.filter (fun e => decide (a / 64 ≤ e.1.toNat / 64 ∧ e.1.toNat / 64 ≤ (a + n - 1) / 64))

/-- The errors of a read count: a LIGHT word outside the span does not. -/
def Block.readErrs (b : Block) (errs : List CodeErr) (a n : Nat) : List CodeErr :=
  (errsIn errs a n).filter (fun e => !b.isLight e.1.toNat || decide (a / 8 ≤ e.1.toNat / 8 ∧ e.1.toNat / 8 ≤ (a + n - 1) / 8))

/-- The first entry of each line. -/
def oncePerLine : List Nat → List CodeErr → List CodeErr
  | _, [] => []
  | seen, e :: es =>
    let l := e.1.toNat / 64
    if seen.contains l then oncePerLine seen es else e :: oncePerLine (l :: seen) es
/-- What a read makes of the errors it meets: first the uncorrectable ones, then one correction for each line that it corrects
(R411, R414); a word or line that is uncorrectable or poisoned is not corrected. `grain` is the size of what is coded at an address. -/
def Block.readOrder (b : Block) (grain : Nat → Nat) (es : List CodeErr) : List CodeErr :=
  let ues := es.filter (·.2)
  let lost := fun (e : CodeErr) => b.poisoned e.1.toNat ||
    ues.any (fun d => d.1.toNat / grain e.1.toNat == e.1.toNat / grain e.1.toNat)
  ues ++ oncePerLine [] (es.filter (fun e => !e.2 && !lost e))
/-- What is coded at a DRAM address: a word, or a line of a STRONG region (R400). -/
def Block.dramGrain (b : Block) (a : Nat) : Nat := if b.isLight a then 8 else 64

/-- What the decoder finds in a span it reads (R404, R411, R412). -/
def Block.dramDecode (b : Block) (errs : List CodeErr) (tag : BitVec 6) (port : BitVec 8) (a n : Nat) : Block :=
  let es := b.readOrder b.dramGrain (b.readErrs errs a n)
  let b := b.each es (Block.dramErr tag port)
  if b.anyPoison a n then b.inc (pgMsCh (b.dramCh a) + 0x114) else b

/-- The bytes of the word at `w` are all written. -/
def allOn (on : Nat → Bool) (w : Nat) : Bool := (List.range 8).all (fun k => on (w / 8 * 8 + k))
/-- One error met by the read of a LIGHT line that is written in part: a partly written word merges into poison, an untouched one is
an uncorrectable word (R410). -/
def Block.mergeErr (on : Nat → Bool) (tag : BitVec 6) (port : BitVec 8) (b : Block) (e : CodeErr) : Block :=
  let a := e.1.toNat
  if !e.2 then b.dramCorrected a tag port
  else if b.poisoned a then b
  else (b.setPoison a true).msRec a (if (List.range 8).any (fun k => on (a / 8 * 8 + k)) then 0x103 else 0x102) .deferred tag port
    (2 ^ (a / 8 % 8))

/-- A write of part of one line: a read, a merge and a write back (R410). `on` says which bytes are written. -/
def Block.mergeLine (errs : List CodeErr) (on : Nat → Bool) (tag : BitVec 6) (port : BitVec 8) (b : Block) (l : Nat) :
    Block :=
  let es := errsIn errs l 64
  if b.isLight l then
    let b := b.each (((List.range 8).map (fun k => l + 8 * k)).filter (allOn on)) (fun b w => b.setPoison w false)
    b.each (b.readOrder (fun _ => 8) (es.filter (fun e => !allOn on e.1.toNat))) (Block.mergeErr on tag port)
  else if b.poisoned l then b
  else if es.any (·.2) then (b.poisonSpan l 64 true).msRec l 0x103 .deferred tag port 255
  else if es.isEmpty then b
  else b.dramCorrected l tag port

/-- The lines that a span touches. -/
def linesOf (a n : Nat) : List Nat := (List.range ((a + n + 63) / 64 - a / 64)).map (fun k => (a / 64 + k) * 64)

/-- The bytes of a transaction that are written, as a list. -/
def wrBytes (data : BitVec 2048) (n : Nat) : List Byte := (List.range n).map (byteOf data)

/-- Store the enabled bytes of a transaction. -/
def Block.storeEnabled (b : Block) (a n : Nat) (be : BitVec 256) (data : BitVec 2048) : Block :=
  b.each (List.range n) (fun b k => if be.getLsbD k then b.setByte (a + k) (byteOf data k) else b)

/-- A DRAM write takes effect: whole lines are coded afresh, every other line is merged (R396, R410). -/
def Block.dramPut (b : Block) (errs : List CodeErr) (be : BitVec 256) (tag : BitVec 6) (port : BitVec 8) (a n : Nat)
    (data : BitVec 2048) : Block :=
  let on := fun x => decide (a ≤ x ∧ x < a + n) && be.getLsbD (x - a)
  let b := b.each (linesOf a n) (fun b l =>
    if (List.range 64).all (fun k => on (l + k)) then b.poisonSpan l 64 false else Block.mergeLine errs on tag port b l)
  b.storeEnabled a n be data

/-! ### Scheduling (R393-R399) -/

/-- The class with which an open transaction arbitrates (R24, R26). -/
def Block.txnCls (b : Block) (o : OpenTxn) : Nat := if o.promoted then 0 else b.effCls o.txn.cls.toNat o.born
/-- The length of a transaction. -/
def txnLen (t : Txn) : Nat := t.len1.toNat + 1
/-- The row of a transaction: that of its first line, by which the controller queues it whole (DESIGN CHOICE, log entry 60). -/
def Block.txnRow (b : Block) (t : Txn) : RowLoc := b.dramRow t.addr.toNat
/-- The transactions that wait at a subchannel's controller, in the order in which it received them. -/
def Block.ctlQueue (b : Block) (k : Nat) : List OpenTxn :=
  b.fab.opened.filter (fun o => o.granted && decide (o.txn.addr.toNat + txnLen o.txn ≤ b.dramCap) && (b.txnRow o.txn).subKey == k)
/-- Two transactions touch a line. -/
def shareLine (s t : Txn) : Bool :=
  decide (s.addr.toNat / 64 ≤ (t.addr.toNat + txnLen t - 1) / 64 ∧ t.addr.toNat / 64 ≤ (s.addr.toNat + txnLen s - 1) / 64)
/-- The transactions of a queue that no earlier one to the same line holds back (R396). -/
def unheld : List OpenTxn → List OpenTxn → List OpenTxn
  | _, [] => []
  | before, o :: os => if before.any (fun p => shareLine p.txn o.txn) then unheld (o :: before) os else o :: unheld (o :: before) os
/-- The open row of a bank is the one an access needs. -/
def Block.isHit (b : Block) (r : RowLoc) : Bool := (smFind b.ms.openRows r.bankKey).any (fun e => e.1 == r.row)
/-- HIT_CAP row hits have passed a request that waits for another row of its bank. -/
def Block.passedOver (b : Block) (r : RowLoc) : Bool :=
  (smFind b.ms.openRows r.bankKey).any (fun e => e.1 != r.row && decide (b.rdF (pgMs + 0x108) 8 15 ≤ e.2))
/-- The oldest of a list, the first received on a tie. -/
def oldestOf (os : List OpenTxn) : Option OpenTxn :=
  os.foldl (fun m o => match m with
    | some x => if o.born < x.born then some o else some x
    | none => some o) none
/-- The access that a controller serves next (R394): the highest class; in it a request that HIT_CAP hits have passed, then a row hit,
then the oldest. -/
def Block.ctlPick (b : Block) (k : Nat) : Option OpenTxn :=
  let os := unheld [] (b.ctlQueue k)
  let c := os.foldl (fun m o => min m (b.txnCls o)) 3
  let mine := os.filter (fun o => b.txnCls o == c)
  let late := mine.filter (fun o => b.passedOver (b.txnRow o.txn))
  let hits := mine.filter (fun o => b.isHit (b.txnRow o.txn))
  oldestOf (if !late.isEmpty then late else if !hits.isEmpty then hits else mine)

/-- The end of the 1 ms window of the requests counted: the imbalance monitor judges it (R393, R779). -/
def Block.imbWindow (b : Block) : Block :=
  let cs := List.range b.variant.drams
  let total := (cs.map (fun c => smGet 0 b.ms.reqs c)).sum
  let top := cs.foldl (fun (m : Nat × Nat) c => if m.2 < smGet 0 b.ms.reqs c then (c, smGet 0 b.ms.reqs c) else m) (0, 0)
  let high := decide (top.2 * 16 * b.variant.drams > b.rdF (pgMs + 0x118) 0 7 * total)
  let b := b.onMs (fun m => { m with reqs := [], reqWin := b.usec / 1000 })
  if high then ((b.wrF (pgMs + 0x11C) 0 2 top.1).wrF (pgMs + 0x11C) 8 15 (top.2 * 100 / total)).raise pgMs 1 else b
/-- A channel receives a request; the first one of a new window ends the one before (R393). -/
def Block.countReq (b : Block) (ch : Nat) : Block :=
  let b := if b.ms.reqWin = b.usec / 1000 then b else b.imbWindow
  b.onMs (fun m => { m with reqs := smPut m.reqs ch (smGet 0 m.reqs ch + 1) })

/-- An access opens its row (R397): a hit that passes an older request of its class for another row of the bank lengthens the run of
R394. -/
def Block.openRow (b : Block) (a cls born : Nat) : Block :=
  let r := b.dramRow a
  let older := (b.ctlQueue r.subKey).any (fun o => b.txnCls o == b.effCls cls born && decide (o.born < born) &&
    (b.txnRow o.txn).bankKey == r.bankKey && (b.txnRow o.txn).row != r.row)
  let run := match smFind b.ms.openRows r.bankKey with
    | some (row, k) => if row = r.row ∧ older then k + 1 else 0
    | none => 0
  if b.rdF (pgMs + 0x108) 0 7 = 0 then b.onMs (fun m => { m with openRows := smErase m.openRows r.bankKey })
  else b.onMs (fun m => { m with openRows := smPut m.openRows r.bankKey (r.row, run) })

/-- The class with which a queued write arbitrates. -/
def Block.wrCls (b : Block) (w : DramWr) : Nat := if w.promoted then 0 else b.effCls w.cls w.born
/-- A subchannel writes a burst, if one is due: at 24 entries, or with no read waiting at a class as high as the oldest write's. A C0
read ends it, and so does a queue of 8 (R395). -/
def Block.runBurst (b : Block) (k : Nat) : Block :=
  let q := smGet [] b.ms.wq k
  let reads := (b.ctlQueue k).filter (fun o => !o.txn.write)
  let due := decide (24 ≤ q.length) || q.head?.any (fun w => reads.all (fun o => decide (b.wrCls w < b.txnCls o)))
  if due && reads.all (fun o => b.txnCls o != 0) then
    let out := q.take (q.length - 8)
    (b.each out (fun b w => b.openRow (w.line * 64) w.cls w.born)).onMs (fun m => { m with wq := smSet [] m.wq k (q.drop (q.length - 8)) })
  else b
/-- A write enters its subchannel's queue; behind an older write to its line it raises that one's class (R396). -/
def Block.queueWrite (b : Block) (a cls born : Nat) : Block :=
  let k := (b.dramRow a).subKey
  let raised := (smGet [] b.ms.wq k).map (fun (e : DramWr) => if e.line = a / 64 then { e with cls := min e.cls cls } else e)
  (b.onMs (fun m => { m with wq := smPut m.wq k (raised ++ [⟨a / 64, cls, born, false⟩]) })).runBurst k

/-- A bank's row closes (R397, R398). -/
def Block.closeRow (b : Block) (key : Nat) : Block := b.onMs (fun m => { m with openRows := smErase m.openRows key })

/-! ### Training (R387, R388, R417) -/

/-- The present channels' pages. -/
def Block.msChans (b : Block) : List Nat := List.range b.variant.drams

/-- A channel's rows of the repair map, as many as BOOT_MAX and with resources left, receive hard repair; the others stay,
repaired softly again (R417). `soft` names the entries of the map whose bank group has no resource left. -/
def Block.bootRepairs (b : Block) (soft : List Nat) (c : Nat) : Block :=
  let mine := (b.ms.repairMap.zipIdx).filter (fun e => e.1.ch = c)
  let hard := (mine.filter (fun e => !soft.contains e.2)).take (b.rdF (pgMs + 0x120) 0 3)
  let rest := mine.filter (fun e => !hard.contains e)
  let b := b.onMs (fun m => { m with soft := m.soft.filter (·.ch ≠ c) ++ rest.map (·.1) })
  let b := b.addSat (pgMsCh c + 0x11C) 0 31 hard.length
  let b := b.addSat (pgMsCh c + 0x118) 0 31 rest.length
  if mine.isEmpty then b else b.raise (pgMsCh c) 0

/-- The rows that receive hard repair leave the map (R417). -/
def Block.bootMap (b : Block) (soft : List Nat) : Block :=
  let keep := (b.ms.repairMap.zipIdx).filter (fun e =>
    let before := (b.ms.repairMap.zipIdx).filter (fun d => d.1.ch = e.1.ch && decide (d.2 < e.2) && !soft.contains d.2)
    soft.contains e.2 || decide (b.rdF (pgMs + 0x120) 0 3 ≤ before.length))
  b.onMs (fun m => { m with repairMap := keep.map (·.1) })

/-- The channels whose training fails at 4,800 MT/s, or is said to have reached a rate above the configured one. -/
def Block.trainBad (b : Block) (reached : List (Option (BitVec 3))) : List Nat :=
  ((reached.zipIdx).filter (fun e => match e.1 with | some r => decide (b.rdF (pgMs + 0x100) 0 2 < r.toNat) | none => true)).map (·.2)
/-- Memory bring-up (R387, R388): `reached` is the highest rate at or below the configured one at which each present channel
trains, by its code; none where it fails at 4,800 MT/s. A bring-up that fails leaves READY at 0; its record is DRAM_TRAINING's. -/
def Block.trainDram (b : Block) (reached : List (Option (BitVec 3))) (soft : List Nat) : Block :=
  if b.dramReady ∨ reached.length ≠ b.variant.drams ∨ !(b.trainBad reached).isEmpty then b
  else
      let rate := b.rdF (pgMs + 0x100) 0 2
      let low := reached.foldl (fun m r => match r with | some x => min m x.toNat | none => m) rate
      let b := b.each b.msChans (fun b c => (b.wrF (pgMsCh c + 0x100) 0 0 1).wrF (pgMsCh c + 0x100) 1 1 0)
      let b := b.each b.msChans (Block.bootRepairs · soft)
      let b := b.bootMap soft
      let b := b.zeroSpan 0 (2 ^ 39)
      let b := b.onMs (fun m => { m with openRows := [], wq := [], paused := [], stopped := false })
      let b := ((b.wrF (pgMs + 0x104) 0 0 1).wrF (pgMs + 0x104) 1 3 low).wrF (pgMs + 0x104) 4 13 b.dramGib
      b.raise pgMs 0

/-! ### The patrol scrubber (R413) -/

/-- Both queues of a line's subchannel are empty when an idle-only request to it is issued: its writes have drained (R395, R399). -/
def Block.drained (b : Block) (a : Nat) : Block := b.onMs (fun m => { m with wq := smErase m.wq (b.dramRow a).subKey })
/-- The patrol scrubber reads the next line of installed DRAM, with no request waiting at its subchannel (R399); a lap ends after the
last. -/
def Block.patrol (b : Block) (errs : List CodeErr) : Block :=
  if !b.dramReady ∨ b.ms.stopped ∨ b.rdF (pgMs + 0x10C) 8 8 = 0 ∨ !(b.ctlQueue (b.dramRow (b.ms.scrubAt * 64)).subKey).isEmpty then b
  else
    let a := b.ms.scrubAt * 64
    let b := b.drained a
    let b := b.each (b.readOrder b.dramGrain (errsIn errs a 64)) (Block.dramErr 0 0xFF)
    if a + 64 < b.dramCap then b.onMs (fun m => { m with scrubAt := m.scrubAt + 1 })
    else
      let b := b.wrSat (pgMs + 0x110) 0 31 ((b.usec - b.ms.lapStart) / 1000000)
      b.onMs (fun m => { m with scrubAt := 0, lapStart := b.usec, lapLate := false, seen := [] })

/-- A lap runs longer than LAP_LIMIT hours (R413). -/
def Block.lapOverdue (b : Block) : Block :=
  if b.ms.lapLate ∨ b.ms.stopped ∨ b.rdF (pgMs + 0x10C) 8 8 = 0 then b
  else
    let b := b.elapseTo (b.ms.lapStart + b.rdF (pgMs + 0x10C) 0 7 * 3600000000 + 1)
    (b.onMs (fun m => { m with lapLate := true })).raise pgMs 2

/-! ### The imbalance monitor (R393, R779) -/

/-- A 1 ms window ends. -/
def Block.imbalance (b : Block) : Block := (b.elapseTo ((b.usec / 1000 + 1) * 1000)).imbWindow

/-! ### Staging SRAM (R418-R421) -/

/-- The fabric address of staging. -/
def stgBase : Nat := 0x010000000000
/-- The size of staging. -/
def stgSize : Nat := 0x8000000
/-- The bank of a staging offset (R418). -/
def stgBank (o : Nat) : Nat := (o / 64 % 64) ^^^ (o / 4096 % 64)
/-- The row of a staging offset in its bank: offset bits [26:15]. -/
def stgRow (o : Nat) : Nat := o / 2 ^ 15 % 4096
/-- The staging port that a transaction is recorded with, 21 to 27: port 21 (the spec lets any of the seven carry it). -/
def stgPort : Nat := 21

/-- A staging record (R429). -/
def Block.stgRec (b : Block) (a code : Nat) (sev : Sev) (tag : BitVec 6) (port : BitVec 8) (mask : Nat) : Block :=
  let row := (List.range 4).map (fun k => (4 + k, stgRow (a - stgBase) / 2 ^ (8 * k) % 256))
  b.record pgStg (errOf code sev tag port (a / 64 * 64) (detailOf ([(3, stgBank (a - stgBase))] ++ row ++ [(8, mask)])))

/-- A hard fault of a staging row takes a spare row, if its bank has one left (R420). -/
def Block.stgHard (b : Block) (a : Nat) : Block :=
  let o := a - stgBase
  let used := smGet 0 b.ms.stSpare (stgBank o)
  if used < 16 then
    let b := (b.pauseBank (1024 + stgBank o)).onMs (fun m => { m with stSpare := smPut m.stSpare (stgBank o) (used + 1) })
    let b := b.onMs (fun m => { m with stSeen := smErase m.stSeen (stgBank o * 4096 + stgRow o) })
    (((b.addSat (pgStg + 0x108) 0 10 1).stgRec a 0x108 .corrected 0 0xFF 0).raise pgStg 0)
  else b.stgRec a 0x105 .deferred 0 0xFF 0

/-- A correction in staging (R419, R420). -/
def Block.stgCorrected (b : Block) (a : Nat) (tag : BitVec 6) (port : BitVec 8) : Block :=
  let o := a - stgBase
  let k := stgBank o * 4096 + stgRow o
  let (v, b) := b.free
  let b := (b.inc (pgStg + 0x10C)).stgRec a 0x106 .corrected tag port v.toNat
  match smFind b.ms.stSeen k with
  | some t => if b.usec - t ≤ 1000000 then b.stgHard a else b.onMs (fun m => { m with stSeen := smPut m.stSeen k b.usec })
  | none => b.onMs (fun m => { m with stSeen := smPut m.stSeen k b.usec })

/-- One error met by a read of staging. -/
def Block.stgErr (tag : BitVec 6) (port : BitVec 8) (b : Block) (e : CodeErr) : Block :=
  let a := e.1.toNat
  if b.poisoned a then b
  else if e.2 then (b.setPoison a true).stgRec a 0x107 .deferred tag port (2 ^ (a / 8 % 8))
  else b.stgCorrected a tag port

/-- The errors in the words a span touches. -/
def errsWord (errs : List CodeErr) (a n : Nat) : List CodeErr :=
  errs.filter (fun e => decide (a / 8 ≤ e.1.toNat / 8 ∧ e.1.toNat / 8 ≤ (a + n - 1) / 8))

/-- One line of a write to a memory coded by words (R419 by the LIGHT rows of R410): the words overwritten whole are clean, and `f`
takes the errors of the others. -/
def Block.wordLine (errs : List CodeErr) (on : Nat → Bool) (f : Block → CodeErr → Block) (b : Block) (l : Nat) : Block :=
  let b := b.each (((List.range 8).map (fun k => l + 8 * k)).filter (allOn on)) (fun b w => b.setPoison w false)
  if (List.range 64).all (fun k => on (l + k)) then b
  else b.each (b.readOrder (fun _ => 8) ((errsIn errs l 64).filter (fun e => !allOn on e.1.toNat))) f

/-- A staging write (R419). -/
def Block.stgPut (b : Block) (errs : List CodeErr) (be : BitVec 256) (tag : BitVec 6) (port : BitVec 8) (a n : Nat)
    (data : BitVec 2048) : Block :=
  let on := fun x => decide (a ≤ x ∧ x < a + n) && be.getLsbD (x - a)
  (b.each (linesOf a n) (Block.wordLine errs on (Block.stgErr tag port))).storeEnabled a n be data

/-- The staging scrubber reads the next line (R421). -/
def Block.stgPatrol (b : Block) (errs : List CodeErr) : Block :=
  if b.ms.stopped then b
  else
    let o := b.ms.stScrubAt * 64
    let b := b.each (b.readOrder (fun _ => 8) (errsIn errs (stgBase + o) 64)) (Block.stgErr 0 0xFF)
    if o + 64 < stgSize then b.onMs (fun m => { m with stScrubAt := m.stScrubAt + 1 })
    else
      let b := b.wrSat (pgStg + 0x104) 16 31 ((b.usec - b.ms.stLapStart) / 1000)
      b.onMs (fun m => { m with stScrubAt := 0, stLapStart := b.usec, stLapLate := false })

/-- A staging lap exceeds LAP_LIMIT seconds (R421). -/
def Block.stgLapOverdue (b : Block) : Block :=
  if b.ms.stLapLate ∨ b.ms.stopped then b
  else
    let b := b.elapseTo (b.ms.stLapStart + b.rdF (pgStg + 0x104) 0 15 * 1000000 + 1)
    (b.onMs (fun m => { m with stLapLate := true })).raise pgStg 1

end Sys2Proof.Machine
end

