-- ==== Sys2Proof/Machine/Map.lean ====
section
/-! DEFINITION. The address map of the Big Top (R34), its records (R22, R23), age promotion (R26), and the accesses of hardware units to
DRAM and staging (R16, R17, R21, R28). -/
namespace Sys2Proof.Machine

/-- The BT page. -/
def pgBus : Nat := pageBase .bt 0

/-! ### The address map (R34) -/

/-- What holds a fabric address. -/
inductive Place where
  | dram
  | staging
  /-- shared memory of a cluster -/
  | shared (n : Nat)
  /-- an X or Y bank of an Eowift-C core -/
  | bank (core : Nat)
  | regs
  | rom
  | aonSram
deriving DecidableEq, Repr

/-- What a cluster window offset holds, for a span that stays inside one entry. -/
def clPlace (n o len : Nat) : Option Place :=
  if o + len ≤ 0x400000 then some (.shared n)
  else if 0x800000 ≤ o ∧ o < 0xA00000 ∧ o % 0x20000 + len ≤ 0x20000 then some (.bank (8 * n + (o - 0x800000) / 0x40000))
  else none
/-- The range that holds a span as a whole. -/
def Block.placeAt (b : Block) (a len : Nat) : Option Place :=
  if a + len ≤ 0x008000000000 then (if a + len ≤ b.dramCap then some .dram else none)
  else if 0x010000000000 ≤ a ∧ a + len ≤ 0x010008000000 then some .staging
  else if 0x020000000000 ≤ a ∧ a < 0x02000C000000 then
    let n := (a - 0x020000000000) / 0x1000000
    if b.variant.hasCluster n then clPlace n (a % 0x1000000) len else none
  else if 0x030000000000 ≤ a ∧ a + len ≤ 0x030002000000 then some .regs
  else if 0x031000000000 ≤ a ∧ a + len ≤ 0x031000080000 then some .rom
  else if 0x031100000000 ≤ a ∧ a + len ≤ 0x031100040000 then some .aonSram
  else none
/-- The port of a place (R13, R23); 0xFF for none. -/
def Block.placePort (b : Block) (p : Option Place) (a : Nat) : Nat :=
  match p with
  | none => 0xFF
  | some .dram => 13 + b.dramCh a
  | some .staging => stgPort
  | some (.shared n) => 28 + n / 2
  | some (.bank i) => 28 + i / 16
  | some .regs | some .rom | some .aonSram => 47
/-- The ports of R14. -/
def portPresent (v : Variant) (p : Nat) : Bool :=
  match v with
  | .j1280 => decide (p < 48)
  | .j0640 => decide (p ≤ 4) || decide (7 ≤ p ∧ p ≤ 10) || decide (13 ≤ p ∧ p ≤ 16) || decide (21 ≤ p ∧ p ≤ 30) || decide (34 ≤ p ∧ p ≤ 37)
      || decide (42 ≤ p ∧ p ≤ 47)
  | .j0320e => decide (p ≤ 2) || decide (7 ≤ p ∧ p ≤ 10) || decide (13 ≤ p ∧ p ≤ 16) || decide (21 ≤ p ∧ p ≤ 29)
      || decide (34 ≤ p ∧ p ≤ 37) || decide (43 ≤ p ∧ p ≤ 47)

/-! ### Requests and their checks -/

/-- A request as its target sees it. -/
structure BusReq where
  /-- requesting port -/
  port : BitVec 8
  /-- class -/
  cls : Nat
  /-- tenant tag -/
  tag : BitVec 6
  /-- fabric address -/
  addr : Nat
  /-- length in bytes -/
  len : Nat
  /-- age in microseconds -/
  age : Nat
  /-- promoted (R26) -/
  promoted : Bool
deriving DecidableEq, Repr

/-- A DECODE, TENANT or TIMEOUT response of a target port is recorded (R22, R23, R33). -/
def Block.btRecAt (b : Block) (target : Nat) (q : BusReq) (write : Bool) (code ev : Nat) : Block :=
  let d := detailOf ([(0, if code = 0x101 then 0xFF else target), (1, q.cls), (2, (if write then 1 else 0) + (if q.promoted then 2 else 0)),
    (4, q.len % 256), (5, q.len / 256)] ++ (List.range 4).map (fun k => (8 + k, q.age / 2 ^ (8 * k) % 256)))
  (b.record pgBus (errOf code .contained q.tag q.port q.addr d)).raise pgBus ev
/-- The record of a response by the place that the request names. -/
def Block.btRec (b : Block) (q : BusReq) (write : Bool) (code ev : Nat) : Block :=
  b.btRecAt (b.placePort (b.placeAt q.addr q.len) q.addr) q write code ev
/-- The record of a response that is not served. -/
def Block.btCode (b : Block) (q : BusReq) (write : Bool) (r : Resp) : Block :=
  match r with
  | .decode => b.btRec q write 0x101 2
  | .tenant => b.btRec q write 0x102 3
  | .timeout => (b.inc (pgBus + 0x110)).btRec q write 0x103 0
  | .ok | .poison | .busy | .offline => b

/-! ### DRAM and staging as a hardware unit meets them -/

/-- What DRAM or staging answers to a request. -/
def Block.memCheck (b : Block) (q : BusReq) : Resp :=
  let state := fun (pg : Nat) (r : Resp) => if b.pageReset pg = 3 then .offline else if b.pageReset pg = 2 then .busy else r
  match b.placeAt q.addr q.len with
  | some .dram => state (pgMsCh (b.dramCh q.addr)) (b.dramCode q.tag q.addr q.len)
  | some .staging => state pgStg .ok
  | _ => .decode
/-- The banks that a request uses. -/
def Block.banksOf (b : Block) (q : BusReq) : List Nat :=
  match b.placeAt q.addr q.len with
  | some .dram => (linesOf q.addr q.len).map (fun l => (b.dramRow l).bankKey)
  | some .staging => (linesOf q.addr q.len).map (fun l => 1024 + stgBank (l - stgBase))
  | _ => []
/-- Microseconds until the pauses of a request's banks have ended. -/
def Block.pauseLeft (b : Block) (q : BusReq) : Nat := ((b.banksOf q).map (fun k => smGet 0 b.ms.paused k - b.usec)).foldl max 0
/-- BT.BUSY_LIMIT.COUNT. -/
def Block.busyLimit (b : Block) : Nat := b.rdF (pgBus + 0x108) 0 9
/-- A request whose target answers BUSY for `n` microseconds is reissued each microsecond: it is served after them, or ends with OFFLINE
at the COUNTth BUSY (R21). -/
def Block.reissued (b : Block) (n : Nat) : Bool × Block :=
  if b.busyLimit ≤ n then (false, b.elapse (b.busyLimit - 1)) else (true, b.elapse n)
/-- The scheduling of a DRAM access (R393-R397). -/
def Block.dramTouch (b : Block) (q : BusReq) (write : Bool) : Block :=
  b.each (linesOf q.addr q.len) (fun b l =>
    let b := b.countReq (b.dramCh l)
    if write then b.queueWrite l q.cls (b.usec - q.age) else (b.openRow l q.cls (b.usec - q.age)).runBurst (b.dramRow l).subKey)
/-- A read of DRAM or staging that is served. -/
def Block.memServe (b : Block) (q : BusReq) (errs : List CodeErr) (p : Place) : Block :=
  match p with
  | .dram => (b.dramDecode errs q.tag q.port q.addr q.len).dramTouch q false
  | .staging => b.each (b.readOrder (fun _ => 8) (errsWord errs q.addr q.len)) (Block.stgErr q.tag q.port)
  | _ => b
/-- A unit's request reaches its target: with the answer it gets, and the block after the reissues (R20-R22). -/
def Block.memMeet (b : Block) (q : BusReq) (write : Bool) : Resp × Block :=
  match b.memCheck q with
  | .ok => match b.reissued (b.pauseLeft q) with
    | (true, b) => (.ok, b)
    | (false, b) => (.offline, b)
  | .busy => (.offline, (b.reissued b.busyLimit).2)
  | r => (r, b.btCode q write r)
/-- A unit reads DRAM or staging: the response, the data as a number, and the block after it. -/
def Block.memRead (b : Block) (q : BusReq) (errs : List CodeErr) : Resp × Nat × Block :=
  match b.memMeet q false, b.placeAt q.addr q.len with
  | (.ok, b), some p =>
    let b := b.memServe q errs p
    (if b.anyPoison q.addr q.len then .poison else .ok, b.load q.addr q.len, b)
  | (r, b), _ => (r, 0, b)
/-- A unit writes DRAM or staging. -/
def Block.memWrite (b : Block) (q : BusReq) (errs : List CodeErr) (be : BitVec 256) (data : BitVec 2048) : Resp × Block :=
  match b.memMeet q true, b.placeAt q.addr q.len with
  | (.ok, b), some .dram => (.ok, (b.dramPut errs be q.tag q.port q.addr q.len data).dramTouch q true)
  | (.ok, b), some .staging => (.ok, b.stgPut errs be q.tag q.port q.addr q.len data)
  | (r, b), _ => (r, b)

/-! ### Buffers in staging (R16, R28, R154, R422) -/

/-- Bytes [lo, hi) of contents moved to an offset. -/
def cut (m : Bytes) (lo hi at_ : Nat) : Bytes := (m.filter (fun e => decide (lo ≤ e.1 ∧ e.1 < hi))).map (fun e => (e.1 - lo + at_, e.2))
/-- The staging pages that pieces, merges and reads hold. -/
def Block.stgUsed (b : Block) : List Nat :=
  b.ft.pieces.flatMap (·.pages) ++ b.ft.staged.flatMap (·.pages) ++ b.ce.cmds.flatMap (·.pages)
/-- The first `n` pages from page `p` that are not used. -/
def freePages (used : List Nat) : Nat → Nat → Nat → List Nat
  | _, _, 0 => []
  | 0, _, _ => []
  | fuel + 1, p, n + 1 => if used.contains p then freePages used fuel (p + 1) (n + 1) else p :: freePages used fuel (p + 1) n
/-- Pages for a buffer of `n` KiB: the model hands out staging in pages of 1 KiB, the lowest free ones first (DESIGN CHOICE, log
entry 60). -/
def Block.takePages (b : Block) (n : Nat) : List Nat := freePages b.stgUsed (b.stgUsed.length + n) 0 n
/-- Pages for a piece of `n` KiB: the free ones from page `first` on, and then the lowest. -/
def Block.takePagesFrom (b : Block) (first n : Nat) : List Nat :=
  let up := freePages b.stgUsed (min (b.stgUsed.length + n) (131072 - first)) first n
  up ++ freePages (b.stgUsed ++ up) (b.stgUsed.length + n) 0 (n - up.length)
/-- The fabric address of an offset in a buffer. -/
def pageAddr (ps : List Nat) (o : Nat) : Nat := stgBase + ps.getD (o / 1024) 0 * 1024 + o % 1024
/-- The runs of a buffer's bytes [o, o + n), each inside one page: offset and length. -/
def pageRuns : Nat → Nat → Nat → List (Nat × Nat)
  | 0, _, _ => []
  | fuel + 1, o, n =>
    if n = 0 then [] else (o, min n (1024 - o % 1024)) :: pageRuns fuel (o + min n (1024 - o % 1024)) (n - min n (1024 - o % 1024))
/-- The runs of a buffer's bytes [o, o + n). -/
def bufRuns (o n : Nat) : List (Nat × Nat) := pageRuns (n / 1024 + 2) o n
/-- The bytes of memory in a span that are not 0, by offset. -/
def Block.span (b : Block) (a n : Nat) : Bytes :=
  (b.mem.filter (fun e => decide (a ≤ e.1 ∧ e.1 < a + n))).map (fun e => (e.1 - a, e.2))
/-- A span of memory takes new contents. -/
def Block.putSpan (b : Block) (a n : Nat) (m : Bytes) : Block :=
  let rest := b.mem.filter (fun e => decide (e.1 < a) || decide (a + n ≤ e.1))
  { b with mem := (m.filter (fun e => decide (e.1 < n))).foldl (fun x e => smSet 0 x (a + e.1) e.2) rest }
/-- A unit's transactions on a run of staging, taken together: each is of at most 256 bytes (R15). -/
def stgReq (port cls : Nat) (tag : BitVec 6) (a n : Nat) : BusReq := ⟨BitVec.ofNat 8 port, cls, tag, a, n, 0, false⟩
/-- A unit writes a run of staging; what its target does not serve it leaves as it was. -/
def Block.stgWrite (b : Block) (q : BusReq) (m : Bytes) : Block :=
  match b.memMeet q true with
  | (.ok, b) =>
    let on := fun x => decide (q.addr ≤ x ∧ x < q.addr + q.len)
    (b.each (linesOf q.addr q.len) (Block.wordLine [] on (Block.stgErr q.tag q.port))).putSpan q.addr q.len m
  | (_, b) => b
/-- A unit writes the bytes [o, o + n) of a buffer, which `m` gives from offset 0. -/
def Block.bufWrite (b : Block) (port cls : Nat) (tag : BitVec 6) (ps : List Nat) (o n : Nat) (m : Bytes) : Block :=
  b.each (bufRuns o n) (fun b s => b.stgWrite (stgReq port cls tag (pageAddr ps s.1) s.2) (cut m (s.1 - o) (s.1 - o + s.2) 0))
/-- The transactions of a unit that reads the bytes [o, o + n) of a buffer. -/
def Block.bufRead (b : Block) (port cls : Nat) (tag : BitVec 6) (ps : List Nat) (o n : Nat) : Block :=
  b.each (bufRuns o n) (fun b s => (b.memMeet (stgReq port cls tag (pageAddr ps s.1) s.2) false).2)
/-- The bytes [o, o + n) of a buffer, from offset 0. -/
def Block.bufData (b : Block) (ps : List Nat) (o n : Nat) : Bytes :=
  (bufRuns o n).flatMap (fun s => (b.span (pageAddr ps s.1) s.2).map (fun e => (e.1 + (s.1 - o), e.2)))
/-- The offsets, from `o`, of the poisoned words in the bytes [o, o + n) of a buffer. -/
def Block.bufPoison (b : Block) (ps : List Nat) (o n : Nat) : List Nat :=
  (bufRuns o n).flatMap (fun s =>
    let a := pageAddr ps s.1
    (b.poison.filter (fun e => decide (a / 8 ≤ e.1 ∧ e.1 ≤ (a + s.2 - 1) / 8))).map (fun e => e.1 * 8 - a + (s.1 - o)))
/-- The word at an offset of a buffer carries the poison mark from now on. -/
def Block.bufSpoil (b : Block) (ps : List Nat) (os : List Nat) : Block := b.each os (fun b o => b.setPoison (pageAddr ps o) true)

/-! ### Age promotion (R24-R26) -/

/-- The age limit of a class in microseconds (R31). -/
def Block.ageLimit (b : Block) (cls : Nat) : Nat := b.rdF (pgBus + 0x104) (8 * (cls - 1)) (8 * (cls - 1) + 7)
/-- The count of promoted requests of a class. -/
def promoReg (cls : Nat) : Nat := pgBus + 0x114 + 4 * cls
/-- The class of a lane job's descriptor (R355). -/
def jobClass (d : BitVec 512) : Nat := (d.toNat >>> 19) % 4
/-- A request that is not promoted has passed its limit. -/
def Block.aged (b : Block) (promoted : Bool) (cls born : Nat) : Bool := !promoted && cls != 0 && decide (b.ageLimit cls < b.usec - born)
/-- A ticket request that stands for no request already in a die queue or a lane queue. -/
def Holder.ownRequest : Holder → Bool
  | .flashOp _ | .transfer _ | .laneC _ | .laneD _ => false
  | _ => true
/-- The classes of the waiting requests that have passed their limits and are not promoted yet. -/
def Block.agedClasses (b : Block) : List Nat :=
  ((b.fab.opened.filter (fun o => b.aged o.promoted o.txn.cls.toNat o.born)).map (·.txn.cls.toNat))
    ++ ((b.fc.ops.filter (fun o => decide (o.stage = .queued) && b.aged o.promoted o.cls o.born)).map (·.cls))
    ++ ((b.cz.jobs.filter (fun j => b.aged j.promoted (jobClass j.desc) j.born)).map (fun j => jobClass j.desc))
    ++ (b.se.queue.flatMap (fun e => (e.2.filter (fun (q : SeReq) => b.aged q.promoted q.cls q.born)).map (fun q => q.cls)))
    ++ (b.ms.wq.flatMap (fun e => (e.2.filter (fun (w : DramWr) => b.aged w.promoted w.cls w.born)).map (fun w => w.cls)))
    ++ ((b.pa.waiting.filter (fun t => t.who.ownRequest && b.aged t.promoted t.cls t.born)).map (·.cls))
/-- Every waiting request that has passed its limit is promoted, and counted once (R26). -/
def Block.promoteAged (b : Block) : Block :=
  let cs := b.agedClasses
  if cs.isEmpty then b else
  let up := fun (p : Bool) (c t : Nat) => p || b.aged p c t
  let x := b.each cs (fun b c => b.inc (promoReg c))
  let x := x.onFab (fun f => { f with opened := f.opened.map (fun (o : OpenTxn) => { o with promoted := up o.promoted o.txn.cls.toNat o.born }) })
  let x := x.onFc (fun f => { f with ops := f.ops.map (fun (o : FlashOp) => if o.stage = .queued then { o with promoted := up o.promoted o.cls o.born } else o) })
  let x := x.onCz (fun e => { e with jobs := e.jobs.map (fun (j : LaneJob) => { j with promoted := up j.promoted (jobClass j.desc) j.born }) })
  let x := x.onSe (fun e => { e with queue := e.queue.map (fun q => (q.1, q.2.map (fun (r : SeReq) => { r with promoted := up r.promoted r.cls r.born }))) })
  let x := x.onMs (fun e => { e with wq := e.wq.map (fun q => (q.1, q.2.map (fun (w : DramWr) => { w with promoted := up w.promoted w.cls w.born }))) })
  x.onPa (fun p => { p with waiting := p.waiting.map (fun (t : Ticket) => { t with promoted := up t.promoted t.cls t.born }) })

end Sys2Proof.Machine
end

