-- ==== Sys2Proof/Machine/Ce.lean ====
section
/-! DEFINITION. The command engine (chapter 3): queue contexts and their checks, lanes, the collision table, completions,
and the end of commands. -/
namespace Sys2Proof.Machine

/-- The CE control page. -/
def pgCe : Nat := pageBase .ceCtl 0
/-- The CE page of tenant `t`. -/
def pgCeT (t : Nat) : Nat := pageBase .ceTenant t

/-! ### Statuses -/

/-- A status whose DNR the spec states. -/
def stat (sct sc : Nat) (dnr : Bool) : Stat := ⟨BitVec.ofNat 3 sct, BitVec.ofNat 8 sc, some dnr⟩
/-- A status whose DNR the spec does not state. -/
def statU (sct sc : Nat) : Stat := ⟨BitVec.ofNat 3 sct, BitVec.ofNat 8 sc, none⟩
/-- Successful completion. -/
def stOk : Stat := stat 0 0 false
/-- The status is not success. -/
def Stat.failed (s : Stat) : Bool := s.sct ≠ 0 || s.sc ≠ 0

/-! ### Queue context records (R92) -/

/-- Bits [hi:lo] of a record. -/
def qget (q : BitVec 512) (lo hi : Nat) : Nat := (q.toNat >>> lo) % 2 ^ (hi - lo + 1)
/-- A record with bits [hi:lo] replaced. -/
def qset (q : BitVec 512) (lo hi x : Nat) : BitVec 512 :=
  BitVec.ofNat 512 (q.toNat - qget q lo hi * 2 ^ lo + (x % 2 ^ (hi - lo + 1)) * 2 ^ lo)

/-- SQ_EN -/
def qSqEn (q : BitVec 512) : Bool := q.getLsbD 0
/-- SQ_TYPE -/
def qType (q : BitVec 512) : Nat := qget q 1 3
/-- TENANT -/
def qTenant (q : BitVec 512) : Nat := qget q 4 9
/-- ORDERED -/
def qOrdered (q : BitVec 512) : Bool := q.getLsbD 10
/-- PRIO -/
def qPrio (q : BitVec 512) : Nat := qget q 11 12
/-- LANE -/
def qLane (q : BitVec 512) : Nat := qget q 13 16
/-- LANE_FIX -/
def qLaneFix (q : BitVec 512) : Bool := q.getLsbD 17
/-- STATE -/
def qState (q : BitVec 512) : Nat := qget q 18 20
/-- SQID -/
def qSqid (q : BitVec 512) : Nat := qget q 32 47
/-- CNTLID -/
def qCntlid (q : BitVec 512) : Nat := qget q 48 63
/-- SQ_SIZE -/
def qSqSize (q : BitVec 512) : Nat := qget q 128 143
/-- SQ_HEAD -/
def qSqHead (q : BitVec 512) : Nat := qget q 144 159
/-- SQ_TAIL -/
def qSqTail (q : BitVec 512) : Nat := qget q 160 175
/-- CQ_CTX -/
def qCqCtx (q : BitVec 512) : Nat := qget q 176 189
/-- CQ_EN -/
def qCqEn (q : BitVec 512) : Bool := q.getLsbD 192
/-- CQ_IEN -/
def qCqIen (q : BitVec 512) : Bool := q.getLsbD 193
/-- CQ_PHASE -/
def qCqPhase (q : BitVec 512) : Bool := q.getLsbD 194
/-- CQ_VEC -/
def qCqVec (q : BitVec 512) : Nat := qget q 195 205
/-- CQ_SIZE -/
def qCqSize (q : BitVec 512) : Nat := qget q 224 239
/-- CQID -/
def qCqid (q : BitVec 512) : Nat := qget q 240 255
/-- CQ_HEAD -/
def qCqHead (q : BitVec 512) : Nat := qget q 320 335
/-- CQ_TAIL -/
def qCqTail (q : BitVec 512) : Nat := qget q 336 351
/-- INFLIGHT_MAX -/
def qInflMax (q : BitVec 512) : Nat := qget q 368 383
/-- SESSION -/
def qSession (q : BitVec 512) : Nat := qget q 416 431
/-- FSN_RPT -/
def qFsnRpt (q : BitVec 512) : Bool := q.getLsbD 432

/-- The context is in use. -/
def qUsed (q : BitVec 512) : Bool := qSqEn q || qCqEn q
/-- A PCIe type. -/
def qIsPcie (q : BitVec 512) : Bool := qType q == 1 || qType q == 2
/-- An NVMe/TCP type. -/
def qIsTcp (q : BitVec 512) : Bool := qType q == 3 || qType q == 4
/-- An admin type. -/
def qIsAdmin (q : BitVec 512) : Bool := qType q == 1 || qType q == 3

/-- The bits that firmware writes (R92). -/
def qcRw : BitVec 512 :=
  [(0, 17), (32, 143), (176, 189), (192, 193), (195, 205), (224, 319), (368, 383), (416, 432)].foldl
    (fun m r => m ||| BitVec.ofNat 512 (2 ^ (r.2 + 1) - 2 ^ r.1)) 0
/-- The bits a write may change while SQ_EN or CQ_EN is 1 (R93). -/
def qcHot : BitVec 512 :=
  [(0, 0), (10, 12), (192, 193), (368, 383)].foldl (fun m r => m ||| BitVec.ofNat 512 (2 ^ (r.2 + 1) - 2 ^ r.1)) 0

/-- A queue context record. -/
def Block.qc (b : Block) (i : Nat) : BitVec 512 := smGet 0 b.ce.qcs i
/-- Store a queue context record. -/
def Block.setQc (b : Block) (i : Nat) (q : BitVec 512) : Block := { b with ce := { b.ce with qcs := smSet 0 b.ce.qcs i q } }
/-- Store a field of a queue context record. -/
def Block.qcF (b : Block) (i lo hi x : Nat) : Block := b.setQc i (qset (b.qc i) lo hi x)
/-- The contexts listed. -/
def Block.qcList (b : Block) : List (Nat × BitVec 512) := b.ce.qcs
/-- Contexts held by a tenant (CE[t].STATE.QC_USED). -/
def Block.qcHeld (b : Block) (t : Nat) : Nat := (b.qcList.filter (fun e => qUsed e.2 && qTenant e.2 == t)).length

/-- The tenant whose VF_BIND names global VF `n` (R39); where a reset of a tenant page leaves two, the lower tenant (DESIGN CHOICE, log
entry 59). -/
def Block.vfTenant (b : Block) (n : Nat) : Option Nat :=
  ((List.range 64).filter (fun t => t ≠ 0 && b.rdF (pgCeT t + 0x114) 0 5 == n)).head?

/-! ### Namespaces (R97, R150) -/

/-- The word of a namespace behind CE.NS_DATA. -/
def Block.nsWord (b : Block) (nsx : Nat) : W32 := smGet 0xC00 b.ce.ns nsx
/-- VALID -/
def Block.nsValid (b : Block) (nsx : Nat) : Bool := (b.nsWord nsx).getLsbD 6
/-- TENANT -/
def Block.nsTenant (b : Block) (nsx : Nat) : Nat := fld (b.nsWord nsx) 0 5
/-- LBA size in bytes -/
def Block.lbaSize (b : Block) (nsx : Nat) : Nat := 2 ^ fld (b.nsWord nsx) 8 11
/-- LBAs of an indirection unit (R208). -/
def Block.lbasPerUnit (b : Block) (nsx : Nat) : Nat := 16384 / b.lbaSize nsx
/-- The NSID names a valid namespace of the tenant (R98). -/
def Block.nsidOk (b : Block) (nsid t : Nat) : Bool :=
  decide (1 ≤ nsid ∧ nsid ≤ 1024) && b.nsValid (nsid - 1) && b.nsTenant (nsid - 1) == t

/-! ### Commands in flight and the collision table (R108-R114) -/

/-- The operation is write-class. -/
def CmdOp.isWrite : CmdOp → Bool
  | .write | .zeroes _ | .dealloc => true
  | _ => false
/-- The operation is read-class. -/
def CmdOp.isRead : CmdOp → Bool
  | .read | .compare | .verify => true
  | _ => false

/-- Collision entries of a command (R98, R107, R108): none for one that its checks at the fetch end. -/
def Cmd.entries (c : Cmd) : Nat :=
  if c.fate.isSome then 0 else
  match c.op with
  | .program => 0
  | .dealloc => c.ranges.length
  | _ => 1

/-- Collision entries in use (CE.COLL). -/
def Block.coll (b : Block) : Nat := (b.ce.cmds.map Cmd.entries).sum
/-- A command in flight that has not ended. -/
def Block.cmd (b : Block) (seq : Nat) : Option Cmd := b.ce.cmds.find? (fun c => c.seq == seq && !c.fin)
/-- Change a command in flight. -/
def Block.modCmd (b : Block) (seq : Nat) (f : Cmd → Cmd) : Block :=
  { b with ce := { b.ce with cmds := b.ce.cmds.map (fun c => if c.seq = seq then f c else c) } }
/-- The unit span of an LBA range (R109). -/
def unitSpan (per : Nat) (r : Nat × Nat) : Nat × Nat := (r.1 / per, (r.1 + r.2 + per - 1) / per)
/-- Two ranges of one namespace overlap once widened. -/
def spansMeet (per : Nat) (x y : Nat × Nat) : Bool :=
  let a := unitSpan per x
  let c := unitSpan per y
  decide (a.1 < c.2 ∧ c.1 < a.2)
/-- Two commands conflict (R110). -/
def Block.conflict (b : Block) (c d : Cmd) : Bool :=
  (c.op.isWrite || d.op.isWrite) && (c.op.isWrite || c.op.isRead) && (d.op.isWrite || d.op.isRead) && c.nsid == d.nsid &&
    c.ranges.any (fun x => d.ranges.any (fun y => spansMeet (b.lbasPerUnit (c.nsid - 1)) x y))
/-- A command is blocked (R111). -/
def Block.blocked (b : Block) (c : Cmd) : Bool := b.ce.cmds.any (fun d => d.seq < c.seq && b.conflict c d)
/-- Nothing holds a command back (R111, R117). -/
def Block.startable (b : Block) (c : Cmd) : Bool := !c.started && !c.fin && !b.blocked c && (!c.ordered || c.preds.isEmpty)

/-- The owner of a command source. -/
def Block.srcTenant (b : Block) : CmdSrc → Nat
  | .queue q => qTenant (b.qc q)
  | .localQ c => (smFind b.cx.ctxs c).elim 0 (fun x => x.tenant.toNat)
  | .internal p => (b.cmd p).elim 0 (fun c => c.tenant.toNat)

/-- Commands of a source fetched and not completed, the admin commands of an admin queue among them. -/
def Block.srcInflight (b : Block) (s : CmdSrc) : Nat :=
  (b.ce.cmds.filter (fun c => c.src = s)).length + (b.ce.lanes.filter (fun f => f.src = s)).length
    + (b.ce.admin.filter (fun a => decide (s = .queue a.1))).length
/-- Commands that the lanes have fetched and the sequencer has not taken; a local queue's slots are fetched by the sequencer. -/
def Block.inLanes (b : Block) : List Fetched := b.ce.lanes.filter (fun f => f.lane != 16)
/-- Commands of a tenant in flight (CE[t].INFLIGHT). -/
def Block.tenInflight (b : Block) (t : Nat) : Nat :=
  (b.ce.cmds.filter (fun c => c.tenant.toNat = t)).length + (b.inLanes.filter (fun f => b.srcTenant f.src = t)).length
/-- Commands in flight (CE.INFLIGHT). -/
def Block.inflight (b : Block) : Nat := b.ce.cmds.length + b.inLanes.length
/-- A queue context record as CE.QC_CMD copies it, INFLIGHT included. -/
def Block.qcRead (b : Block) (i : Nat) : BitVec 512 := qset (b.qc i) 352 367 (b.srcInflight (.queue i))

/-! ### Controllers -/

/-- A controller's record. -/
def Block.ctlr (b : Block) (id : Nat) : Ctlr := smGet {} b.ce.ctlrs id
/-- Change a controller's record. -/
def Block.modCtlr (b : Block) (id : Nat) (f : Ctlr → Ctlr) : Block :=
  { b with ce := { b.ce with ctlrs := smSet {} b.ce.ctlrs id (f (b.ctlr id)) } }

/-- The DETAIL of a command engine record (R152). -/
def ceDetail (qc sq fsn : Nat) : BitVec 192 := detailOf [(0, qc % 65536), (2, sq % 65536), (4, fsn % 2 ^ 32)]

/-- A context becomes faulted: SQ_FETCH and CQ_POST of R152. -/
def Block.faultQc (b : Block) (qc code fsn : Nat) : Block :=
  let q := b.qc qc
  let b := b.record (pgCeT (qTenant q))
    { code := code, sev := .contained, tenant := BitVec.ofNat 6 (qTenant q), detail := ceDetail qc (qSqid q) fsn }
  let b := b.qcF qc 18 20 3
  let b := b.modCtlr (qCntlid q) (fun c => { c with cfs := true })
  b.raise pgCe 4

/-! ### Lanes (R99-R102) -/

/-- Commands a lane passed in the last 100 ms, in thousands per second (CE.LANE_LOAD.RATE). -/
def Block.laneRate (b : Block) (n : Nat) : Nat :=
  (b.ce.laneLog.filter (fun e => e.1 == n && b.usec < e.2.1 + 100000)).length / 100
/-- Contexts bound to a lane (CE.LANE_LOAD.QCS). -/
def Block.laneQcs (b : Block) (n : Nat) : Nat :=
  (b.qcList.filter (fun e => qSqEn e.2 && !qIsAdmin e.2 && qLane e.2 == n)).length
/-- A lane is in service. -/
def Block.laneUp (b : Block) (n : Nat) : Bool := !b.ce.laneOut.contains n
/-- The lane in service with the lowest load, the lowest number on a tie (R100). -/
def Block.lightest (b : Block) (load : Nat → Nat) : Nat :=
  let up := (List.range 16).filter b.laneUp
  up.foldl (fun best n => if load n < load best then n else best) (up.headD 0)
/-- The lane in service with the lowest RATE (R100). -/
def Block.bestLane (b : Block) : Nat := b.lightest b.laneRate
/-- Bind a context whose SQ_EN rose (R100). -/
def Block.bindLane (b : Block) (i : Nat) : Block :=
  let q := b.qc i
  if qIsAdmin q then b
  else if qLaneFix q && b.laneUp (qLane q) then b else b.qcF i 13 16 b.bestLane

/-- CE.CTL.FETCH_STOP. -/
def Block.fetchStop (b : Block) : Bool := b.rdF (pgCe + 0x100) 0 0 == 1
/-- CE.STATUS.STOPPED: FETCH_STOP is 1 and nothing is partly fetched; a fetched command leaves its lane in one step. -/
def Block.stopped (b : Block) : Bool := b.fetchStop && b.inLanes.isEmpty
/-- FETCH_STOPPED is raised if CE.STATUS.STOPPED has risen since an earlier state (R151). -/
def Block.stopRise (b old : Block) : Block := b.onIf (b.stopped && !old.stopped) (fun b => b.raise pgCe 1)
/-- CE.CTL.FETCH_STOP is set or cleared by firmware. -/
def Block.setFetchStop (b : Block) (v : Nat) : Block := (b.wrF (pgCe + 0x100) 0 0 v).stopRise b
/-- The input that the sequencer serves next: 0 to 15 the lanes, 16 the local queues, which FETCH_STOP holds (R103, R137). -/
def Block.nextInput (b : Block) : Option Nat :=
  let ins := (List.range 17).filter (fun n => b.ce.lanes.any (fun f => f.lane == n) && !(n == 16 && b.fetchStop))
  match ins.find? (fun n => decide (b.ce.rr ≤ n)) with
  | some n => some n
  | none => ins.head?
/-- The command that the sequencer takes next: the first at its next input. -/
def Block.nextFetched (b : Block) : Option Fetched := b.nextInput.bind (fun n => b.ce.lanes.find? (fun f => f.lane == n))
/-- Fetched commands that fail a test go; a stall ends with the command that stalled the sequencer. -/
def Block.keepLanes (b : Block) (p : Fetched → Bool) : Block :=
  let goes := b.nextFetched.any (fun f => !p f)
  let x := { b with ce := { b.ce with lanes := b.ce.lanes.filter p, stalled := b.ce.stalled && !goes } }
  x.stopRise b

/-! ### Writing a context (R89-R94) -/

/-- CNTLID and TENANT agree (R91). -/
def Block.qcOwnerOk (b : Block) (i : Nat) (q : BitVec 512) : Bool :=
  let n := qCntlid q
  let t := qTenant q
  if qIsTcp q then
    decide (0x41 ≤ n ∧ n ≤ 0xFFEF) &&
      !b.qcList.any (fun e => e.1 != i && qCntlid e.2 == n && qUsed e.2 && qTenant e.2 != t)
  else if qIsPcie q then
    if n = 0 ∨ n = 0x40 then t == 0 else decide (1 ≤ n ∧ n ≤ 0x3F) && b.vfTenant n == some t
  else true

/-- The record a write of `d` would leave in context `i`. -/
def Block.qcNew (b : Block) (i : Nat) (d : BitVec 512) : BitVec 512 := (b.qc i &&& ~~~qcRw) ||| (d &&& qcRw)

/-- Every check of a context write holds (R12, R89-R94). -/
def Block.qcWriteOk (b : Block) (i : Nat) (d : BitVec 512) : Bool :=
  let old := b.qc i
  let new := b.qcNew i d
  let t := qTenant new
  decide (qType new ≤ 4)
  && (!qUsed old || decide ((old ^^^ new) &&& ~~~qcHot = 0))
  && b.qcOwnerOk i new
  && (!(qIsPcie new && decide (1 ≤ qCntlid new ∧ qCntlid new ≤ 63)) || decide (qCqVec new ≤ 63))
  && (!qUsed new || (qUsed old && qTenant old == t) || decide (b.qcHeld t + 1 ≤ b.rdF (pgCeT t + 0x100) 0 14))
  && (!(qSqEn new && !qSqEn old) ||
      (if qIsPcie new then
        if qCqCtx new = i then qCqEn new
        else qCqEn (b.qc (qCqCtx new)) && qSqEn (b.qc (qCqCtx new)) && !qCqEn new
       else if qIsTcp new then qCqCtx new == i && !qCqEn old else true))

/-- A context write that passed its checks takes effect; a queue that is created starts at entry 0, phase 1,
with nothing fetched and nothing failed (log entry 57). -/
def Block.qcApply (b : Block) (i : Nat) (d : BitVec 512) : Block :=
  let old := b.qc i
  let new := b.qcNew i d
  let new := if qSqEn new && !qSqEn old then qset (qset (qset (qset (qset new 144 159 0) 160 175 0) 18 20 1) 384 415 0) 448 479 0 else new
  let new := if qSqEn old && !qSqEn new then qset new 18 20 0 else new
  let new := if qCqEn new && !qCqEn old then qset (qset (qset new 320 335 0) 336 351 0) 194 194 1 else new
  let b := b.setQc i new
  b.onIf (qSqEn new && !qSqEn old) (fun b => b.bindLane i)

/-- A context is freed: both parts unused, STATE stopped (R135). -/
def Block.qcFree (b : Block) (i : Nat) : Block :=
  b.setQc i (qset (qset (qset (b.qc i) 0 0 0) 192 192 0) 18 20 0)

/-! ### Completions -/

/-- Room in a completion queue. -/
def cqRoom (q : BitVec 512) : Bool := (qCqTail q + 1) % (qCqSize q + 1) ≠ qCqHead q

/-- The Aggregation Threshold, in entries, and the Aggregation Time, in microseconds, of Interrupt Coalescing (R168). PRESUMED, log entry 23. -/
def Ctlr.coalBy (c : Ctlr) : Nat × Nat := (c.coal.toNat % 256 + 1, c.coal.toNat / 256 * 100)
/-- A vector's interrupt is signalled, with the entries posted so far. -/
def Block.signal (b : Block) (k v : Nat) : Block :=
  (b.modCtlr k (fun c => { c with unsent := smErase c.unsent v })).send (.msix k (BitVec.ofNat 11 v))
/-- The vectors of a controller whose Aggregation Time has passed are signalled. -/
def Block.coalesced (b : Block) (k : Nat) : Block :=
  let c := b.ctlr k
  b.each (c.unsent.filter (fun e => decide (e.2.2 + c.coalBy.2 ≤ b.usec))) (fun b e => b.signal k e.1)
/-- An entry asks for an interrupt: at once for an admin queue, a vector without coalescing or a controller that sets no time or no
threshold, else with the entries it is aggregated with (R168). -/
def Block.interrupt (b : Block) (k v : Nat) (admin : Bool) : Block :=
  let c := b.ctlr k
  let old := smGet (0, b.usec) c.unsent v
  let b := b.modCtlr k (fun c => { c with unsent := smPut c.unsent v (old.1 + 1, old.2) })
  if admin || c.noCoal.contains v || decide (c.coalBy.1 ≤ old.1 + 1) || decide (old.2 + c.coalBy.2 ≤ b.usec) then b.signal k v else b

/-- Write an entry into the completion part of a context, and interrupt (R92, R168). -/
def Block.putCqe (b : Block) (sq : Nat) (dw0 dw1 : W32) (cid : Nat) (st : Stat) : Block :=
  let s := b.qc sq
  let cq := qCqCtx s
  let c := b.qc cq
  let tail := qCqTail c
  let next := (tail + 1) % (qCqSize c + 1)
  let b := b.send (.cqe cq tail dw0 dw1 (qSqHead s) (qSqid s) (qCqPhase c) cid st)
  let c := qset c 336 351 next
  let c := if next = 0 then qset c 194 194 (if qCqPhase c then 0 else 1) else c
  let b := b.setQc cq c
  b.onIf (qCqIen c) (fun b => b.interrupt (qCntlid c) (qCqVec c) (qIsAdmin s))

/-- A completion entry goes to host memory; where host memory does not take it, the submission context becomes faulted (R152; which
context of the two is a DESIGN CHOICE, log entry 59). -/
def Block.writeCqe (b : Block) (w : CqEntry) : Block :=
  if w.posted then b.putCqe w.qc w.dw0 w.dw1 w.cid w.st else b.faultQc w.qc 0x0102 (w.seq.getD 0)
/-- A completion of a PCIe queue has to wait for room, behind those that wait already. -/
def Block.cqFull (b : Block) (sq : Nat) : Bool :=
  let cq := qCqCtx (b.qc sq)
  qIsPcie (b.qc sq) && qCqEn (b.qc cq) && (!cqRoom (b.qc cq) || b.ce.cqWait.any (fun w => qCqCtx (b.qc w.qc) == cq))
/-- Post a completion of a queue: a response capsule, or an entry of its completion queue, which waits while that is full. -/
def Block.post (b : Block) (w : CqEntry) : Block :=
  let s := b.qc w.qc
  if qIsTcp s then b.send (.capsule (qSession s) w.dw0 w.dw1 (qSqHead s) w.cid w.st)
  else if !qCqEn (b.qc (qCqCtx s)) then b
  else if b.cqFull w.qc then { b with ce := { b.ce with cqWait := b.ce.cqWait ++ [w] } }
  else b.writeCqe w

/-- FAILS counts a command of a queue that ended with a non-zero status, and saturates (R92). -/
def Block.countFail (b : Block) (qc : Nat) (st : Stat) : Block :=
  b.onIf st.failed (fun b => b.qcF qc 448 479 (min (qget (b.qc qc) 448 479 + 1) (2 ^ 32 - 1)))

/-- The completion of an admin command: DW1 as the standard defines it (R106). -/
def Block.admDone (b : Block) (qc : Nat) (cid : BitVec 16) (dw0 : W32) (st : Stat) : Block :=
  let taken := (b.ce.admin.find? (fun a => a.1 == qc && a.2.1 == cid.toNat)).elim true (·.2.2)
  let b := { b with ce := { b.ce with admin := b.ce.admin.filter (fun a => !(a.1 == qc && a.2.1 == cid.toNat)) } }
  (b.countFail qc st).post ⟨qc, dw0, 0, cid.toNat, st, taken, none⟩

/-- The DNR bit of a status, a free value where the spec states none. -/
def Block.dnrBit (b : Block) (st : Stat) : Bool × Block :=
  match st.dnr with
  | some d => (d, b)
  | none => let (v, b) := b.free; (v.getLsbD 0, b)

/-- Write a local queue completion into the ring (R143, R147). -/
def Block.postLq (b : Block) (ctx tag fsn result : Nat) (st : Stat) : Block :=
  match smFind b.ce.lq ctx with
  | none => b
  | some l =>
    let (dnr, b) := b.dnrBit st
    let a := l.base + 0x400 + 16 * l.idx
    let dw2 := st.sc.toNat + st.sct.toNat * 256 + (if dnr then 2048 else 0) + tag * 65536 + (if l.phase then 2 ^ 24 else 0)
    let b := (b.store a 16 (BitVec.ofNat 128 (fsn % 2 ^ 32 + result % 2 ^ 32 * 2 ^ 32 + dw2 * 2 ^ 64))).cleanWhole a 16
    let l := { l with idx := (l.idx + 1) % 32, phase := if l.idx = 31 then !l.phase else l.phase, ring := l.ring ++ [tag] }
    { b with ce := { b.ce with lq := smPut b.ce.lq ctx l } }

end Sys2Proof.Machine
end

