-- ==== Sys2Proof/Machine/Store.lean ====
section
/-! DEFINITION. The persistent record store (R704-R707) and the spares (R666-R670). -/
namespace Sys2Proof.Machine

/-! ### The record store -/

/-- A housekeeping record (R722): DETAIL bytes 0-1 the input or channel, bytes 2-3 the diode reading. -/
def Block.hkRecord (b : Block) (code : Nat) (sev : Sev) (i : Nat) : Block :=
  b.record pgHk { code := code, sev := sev, detail := detailOf [(0, i % 65536), (2, b.rdF (pgHk + 0x100) 0 15)] }
/-- A change of what the next image holds; it waits for a write of its own (R706). -/
def Block.recUpdate (b : Block) (f : Img → Img) : Block := b.onHk (fun h => { h with next := f h.next, more := true })
/-- The bank last written: true for bank 1. -/
def Block.recBank (b : Block) : Bool := b.rdF (pgHk + 0x130) 1 1 == 1
/-- The image that a write would put down now, with the counts it carries. -/
def Block.recImage (b : Block) : Img :=
  { b.hk.next with
    seq := b.rd (pgHk + 0x134) + 1
    life := (b.rd (pgHk + 0x44C)).toNat
    wear := b.hk.wear
    substs := b.hk.substs
    san := b.ft.san
    fmt := b.ft.fmt
    keyEpoch := b.rd (pageBase .fcCtl 0 + 0x15C)
    repairMap := b.ms.repairMap }
/-- An image goes into a bank. -/
def Block.putBank (b : Block) (one : Bool) (x : Option Img) : Block :=
  b.onHk (fun h => if one then { h with bank1 := x } else { h with bank0 := x })
/-- The waiting image is written to the bank not written last (R706); the flags of one image are not those of the next. -/
def Block.recWrite (b : Block) : Block :=
  let x := b.recImage
  let one := !b.recBank
  let b := (b.putBank one (some x)).onHk (fun h => { h with
    writing := some (x, one, 0)
    more := false
    next := { h.next with seq := x.seq, clean := false, plossDone := false, trip := none } })
  ((b.wrF (pgHk + 0x130) 0 0 1).wrF (pgHk + 0x130) 1 1 (if one then 1 else 0)).wr (pgHk + 0x134) x.seq
/-- RECORD_STORE_UPDATE: a waiting image is written, unless a write or its read-back still runs. -/
def Block.recStart (b : Block) : Block := if b.hk.more && b.hk.writing.isNone then b.recWrite else b
/-- The write and its read-back are over. -/
def Block.recIdle (b : Block) : Block := (b.onHk (fun h => { h with writing := none })).wrF (pgHk + 0x130) 0 0 0
/-- RECORD_STORE_READBACK: the image is as written, or is written once more, or has failed (R706). -/
def Block.recReadback (b : Block) (ok : Bool) : Block :=
  match b.hk.writing with
  | none => b
  | some (x, one, n) =>
    let b := b.elapse 400
    if ok then b.recIdle
    else if n = 0 then (b.putBank one (some x)).onHk (fun h => { h with writing := some (x, one, 1) })
    else ((b.putBank one none).recIdle.hkRecord 0x0210 .deferred 0).raise pgHk 8
/-- A write in progress completes, its read-back is left out, and a further image is written at once (R696, R709, R719). -/
def Block.recNow (b : Block) (f : Img → Img) : Block := ((b.recIdle.recUpdate f).recWrite).recIdle

/-! ### Spares -/

/-- Kinds of spared instances; a kind's code is its place in the list. -/
inductive SpKind where
  | coreC | coreK | coreS | laneC | laneD | chanU | chanB | route
deriving DecidableEq, Repr

/-- The code of a kind. -/
def SpKind.code : SpKind → Nat
  | .coreC => 0 | .coreK => 1 | .coreS => 2 | .laneC => 3 | .laneD => 4 | .chanU => 5 | .chanB => 6 | .route => 7
/-- The pool of an instance's spares: one per cluster for the Eowift-C cores, one per kind for the others. -/
def SpKind.pool (k : SpKind) (n : Nat) : Nat := k.code * 16 + (if k = .coreC then n / 8 else 0)
/-- The physical numbers of the spares of a pool (R666). -/
def spareReset (pool : Nat) : List Nat :=
  match pool / 16 with
  | 0 => [96 + pool % 16] | 1 => [4] | 2 => [1] | 3 => [32, 33] | 4 => [64, 65, 66, 67] | 5 => [64, 65] | 6 => [66, 67] | _ => []
/-- The free spares of an instance. -/
def Block.spares (b : Block) (k : SpKind) (n : Nat) : List Nat := smGet (spareReset (k.pool n)) b.hk.freeSp (k.pool n)
/-- HK.SPARES shows the free spares of a pool. -/
def Block.showSpares (b : Block) (k : SpKind) (n left : Nat) : Block :=
  let a := pgHk + 0x430
  match k with
  | .coreC => b.wrF a (n / 8) (n / 8) (min left 1)
  | .coreK => b.wrF a 12 12 (min left 1)
  | .coreS => b.wrF a 13 13 (min left 1)
  | .laneC => b.wrF a 14 15 left
  | .laneD => b.wrF a 16 18 left
  | .chanU => b.wrF a 19 20 left
  | .chanB => b.wrF a 21 22 left
  | .route => b
/-- Store the free spares of a pool. -/
def Block.setSpares (b : Block) (k : SpKind) (n : Nat) (l : List Nat) : Block :=
  (b.onHk (fun h => { h with freeSp := smSet (spareReset (k.pool n)) h.freeSp (k.pool n) l })).showSpares k n l.length
/-- The physical instance that serves a logical number. -/
def Block.physOf (b : Block) (k : SpKind) (n : Nat) : Nat := smGet n b.hk.phys (k.code * 256 + n)
/-- Let a physical instance serve a logical number. -/
def Block.setPhys (b : Block) (k : SpKind) (n p : Nat) : Block := b.onHk (fun h => { h with phys := smSet n h.phys (k.code * 256 + n) p })
/-- How often a physical instance has been replaced. -/
def Block.replacedOf (b : Block) (k : SpKind) (p : Nat) : Nat := smGet 0 b.hk.replaced (k.code * 256 + p)
/-- UNIT_FATAL records on a page within 24 hours (R667). -/
def Block.strikes (b : Block) (pg : Nat) : Nat := ((smGet [] b.hk.strikes (pg / 0x1000)).filter (fun t => decide (b.usec < t + 86400000000))).length
/-- The strikes of an Eowift-C core, which has no page of its own, are kept beyond the pages' (R667). -/
def strikeKey (i : Nat) : Nat := (8192 + i) * 0x1000
/-- Where the strikes of a numbered instance of a kind are kept. -/
def strikePage (k : SpKind) (n pg : Nat) : Nat := if k = .coreC then strikeKey n else pg
/-- A record of R677, with the strikes counted at `at_`. -/
def Block.spareRecAt (b : Block) (code : Nat) (sev : Sev) (pg p at_ : Nat) : Block :=
  let id := regReset b.variant pg
  let inst := fld id 4 15
  let d := detailOf [(0, fld id 16 23), (1, inst % 256), (2, inst / 256), (3, p % 256), (4, p / 256 % 256), (5, b.strikes at_ % 256)]
  b.record pgHk { code := code, sev := sev, detail := d }
/-- A record of R677. -/
def Block.spareRec (b : Block) (code : Nat) (sev : Sev) (pg p : Nat) : Block := b.spareRecAt code sev pg p pg
/-- A substitution or retirement goes on record (R670). -/
def Block.noteSubst (b : Block) (k : SpKind) (n : Nat) (gone : Bool) : Block :=
  (b.onHk (fun h => { h with substs := (k.code, n, gone) :: h.substs.filter (fun s => s ≠ (k.code, n, gone)) })).recUpdate id
/-- A spare of the kind may be brought in (R666, HK.FAULT_CTL.AUTO_SPARE). -/
def Block.spareReady (b : Block) (k : SpKind) (n : Nat) : Bool := !(b.spares k n).isEmpty && b.rdF (pgHk + 0x400) 1 1 == 1
/-- A spare takes over a logical number, where one is ready: events and records of R676 and R677. -/
def Block.spareIn (b : Block) (k : SpKind) (n pg : Nat) : Block :=
  match b.spares k n with
  | [] => b
  | p :: rest =>
    let old := b.physOf k n
    let b := ((b.setSpares k n rest).setPhys k n p).setSpared pg true
    let b := b.onHk (fun h => { h with replaced := smPut h.replaced (k.code * 256 + old) (b.replacedOf k old + 1) })
    let b := ((b.noteSubst k n false).spareRecAt 0x0202 .corrected pg p (strikePage k n pg)).raise pgHk 17
    if rest.isEmpty then b.raise pgHk 18 else b
/-- A replaced instance runs its self-test, whose result is the part's own: a free value. -/
def Block.freeTest (b : Block) : Bool × Block := let (v, b) := b.free; (v.getLsbD 0, b)
/-- A replaced instance runs its self-test: it becomes the free spare, or is retired for good (R668). -/
def Block.testReplaced (b : Block) (k : SpKind) (n p pg : Nat) (ok : Bool) : Block :=
  if ok && decide (b.replacedOf k p < 2) then b.setSpares k n (b.spares k n ++ [p])
  else (b.noteSubst k p true).spareRecAt 0x0203 .corrected pg p (strikePage k n pg)

end Sys2Proof.Machine
end

