-- ==== Sys2Proof/Machine/FcBase.lean ====
section
/-! DEFINITION. The media channel array (chapter 6): booths, dies, profiles, posted operations and the lane job queue that
the flash translation engine feeds (chapter 7). -/
namespace Sys2Proof.Machine

/-- The FC control page. -/
def pgFc : Nat := pageBase .fcCtl 0
/-- The page of channel `c`. -/
def pgCh (c : Nat) : Nat := pageBase .fcCh c
/-- The FC page of booth `b`. -/
def pgBooth (b : Nat) : Nat := pageBase .fcBooth b
/-- The CZ control page. -/
def pgCz : Nat := pageBase .czCtl 0
/-- The page of a lane. -/
def pgLane (decomp : Bool) (n : Nat) : Nat := if decomp then pageBase .czD n else pageBase .czC n

/-- The channel of a die (R210). -/
def chOf (die : Nat) : Nat := die / 16
/-- The booth of a die (R210). -/
def boothOf (die : Nat) : Nat := die / 128

/-- BOOTH_STATE.STATE. -/
def Block.boothSt (b : Block) (k : Nat) : Nat := b.rdF (pgBooth k + 0x104) 0 3
/-- Change BOOTH_STATE.STATE; STATE is raised when it changes (R341). -/
def Block.setBooth (b : Block) (k st : Nat) : Block :=
  if b.boothSt k = st then b else (b.wrF (pgBooth k + 0x104) 0 3 st).raise (pgBooth k) 2
/-- BOOTH_STATE.PRES. -/
def Block.boothPres (b : Block) (k : Nat) : Bool := b.rdF (pgBooth k + 0x104) 4 4 == 1
/-- BOOTH_STATE.PWREN. -/
def Block.boothPwr (b : Block) (k : Nat) : Bool := b.rdF (pgBooth k + 0x104) 5 5 == 1
/-- Drive BOOTH_PWREN. -/
def Block.setPwr (b : Block) (k : Nat) (on : Bool) : Block :=
  let b := b.wrF (pgBooth k + 0x104) 5 5 (if on then 1 else 0)
  b.each (List.range 8) (fun b c => b.setPower (pgCh (8 * k + c)) (if on then 2 else 0))
/-- The booth is in service: SERVING or DRAINING. -/
def Block.boothUp (b : Block) (k : Nat) : Bool := b.boothSt k == 2 || b.boothSt k == 3
/-- BOOTH_STATE.BUSY: a POWER_OFF or FORGET sequence runs (R787). -/
def Block.boothBusy (b : Block) (k : Nat) : Bool := b.rdF (pgBooth k + 0x104) 10 10 == 1
/-- Set BOOTH_STATE.BUSY. -/
def Block.setBoothBusy (b : Block) (k : Nat) (v : Bool) : Block := b.wrF (pgBooth k + 0x104) 10 10 (if v then 1 else 0)
/-- The booth takes new pages: SERVING, and no power-off runs. -/
def Block.boothOpen (b : Block) (k : Nat) : Bool := b.boothSt k == 2 && !b.boothBusy k

/-- A die. -/
def Block.die (b : Block) (d : Nat) : Die := smGet {} b.fc.dies d
/-- Change a die. -/
def Block.modDie (b : Block) (d : Nat) (f : Die → Die) : Block :=
  b.onFc (fun e => { e with dies := smSet {} e.dies d (f (b.die d)) })
/-- The dies in service, in number order. -/
def Block.diesIn (b : Block) : List Nat := (b.fc.dies.filter (fun e => e.2.inService && b.boothUp (boothOf e.1))).map (·.1)

/-- A profile with every field 0: what a booth without a profile has. -/
def noProfBody : ProfBody :=
  ⟨0, 0, 0, 0, 0, false, (0, 0, 0, 0), (0, 0, 0, 0), (0, 0), (0, 0, 0), 0, 0, (false, false), 0, 0, 0⟩
/-- The profile a booth uses. -/
def Block.prof (b : Block) (k : Nat) : Option Profile := smFind b.fc.profs (b.rdF (pgBooth k + 0x104) 6 9)
/-- The profile fields for a die. -/
def Block.dieProf (b : Block) (d : Nat) : ProfBody := (b.prof (boothOf d)).elim noProfBody (·.body)
/-- The last rung of the ladder for a die (R314). -/
def Block.lastRung (b : Block) (d : Nat) : Nat := 2 + (b.prof (boothOf d)).elim 0 (·.retries)
/-- Slots of a block on a die in a mode (R209). -/
def Block.slotsOf (b : Block) (d : Nat) (slc : Bool) : Nat :=
  64 * (if slc then (b.dieProf d).pagesSlc else (b.dieProf d).pages)

/-- A key slot. -/
def Block.key (b : Block) (k : Nat) : KeySlot := smGet {} b.fc.keys k

/-- Post an operation to the channel of a die (R296). -/
def Block.postOp (b : Block) (die block page : Nat) (kind : FlashKind) (slc : Bool) (cls rung : Nat) (why : Purpose) : Block :=
  b.onFc (fun e => { e with
    nextOp := e.nextOp + 1
    ops := e.ops ++ [⟨e.nextOp, die, block, page, kind, slc, cls, b.usec, false, rung, why, .queued, 0, 0, 0, 0, []⟩] })
/-- An operation by name. -/
def Block.op (b : Block) (id : Nat) : Option FlashOp := b.fc.ops.find? (fun o => o.id == id)
/-- Change an operation. -/
def Block.modOp (b : Block) (id : Nat) (f : FlashOp → FlashOp) : Block :=
  b.onFc (fun e => { e with ops := e.ops.map (fun o => if o.id = id then f o else o) })
/-- The operation is at a die. -/
def FlashOp.out (o : FlashOp) : Bool := decide (o.stage = .issued) || decide (o.stage = .suspended)
/-- The operation transfers data, so that its channel needs a transfer ticket (R301). -/
def FlashOp.moves (o : FlashOp) : Bool := decide (o.kind ≠ .erase) && decide (o.kind ≠ .dieReset) && decide (o.stage ≠ .rebuilding)
/-- A channel returns its transfer ticket when no operation at its dies moves data, and withdraws its request when none is left that would
(R285, R301): one ticket covers the transfers of a channel, which follow one another. -/
def Block.dropTransfers (b : Block) : Block :=
  let on := fun (p : FlashOp → Bool) (t : Ticket) => match t.who with
    | .transfer ch => b.fc.ops.any (fun o => chOf o.die == ch && o.moves && p o)
    | _ => true
  b.onPa (fun p => { p with held := p.held.filter (on FlashOp.out), waiting := p.waiting.filter (on (fun _ => true)) })
/-- An operation's tickets are returned. -/
def Block.untickOp (b : Block) (id : Nat) : Block := ((b.untick (.flashOp id)).untick (.softDecode id)).dropTransfers
/-- An operation leaves its channel, and its tickets are returned. -/
def Block.dropOp (b : Block) (id : Nat) : Block := (b.onFc (fun e => { e with ops := e.ops.filter (fun o => o.id ≠ id) })).untickOp id
/-- An operation goes back to its die queue with its place and age; one whose page is being rebuilt needs its die no more. -/
def Block.requeue (b : Block) (id : Nat) : Block :=
  (b.modOp id (fun o => if o.stage = .rebuilding then o else { o with stage := .queued })).untickOp id
/-- The die is busy with a program or an erase. -/
def Block.dieBusyPE (b : Block) (d : Nat) : Bool :=
  b.fc.ops.any (fun o => o.die == d && decide (o.stage = .issued) && decide (o.kind ≠ .read))

/-- ADDR of a media record: DIE, BLOCK and PAGE (R281, R342). -/
def mediaAddr (die block page off : Nat) : FAddr :=
  BitVec.ofNat 48 (die % 1024 * 2 ^ 38 + block % 4096 * 2 ^ 26 + page % 4096 * 2 ^ 14 + off % 64 * 2 ^ 8)
/-- DETAIL of a media record (R342). -/
def fcDetail (ch booth rung key : Nat) (cart : W64) : BitVec 192 :=
  detailOf [(0, ch % 256), (1, booth % 256), (2, rung % 65536), (4, key % 65536), (6, cart.toNat)]

/-- Queue a lane job (R358). -/
def Block.queueJob (b : Block) (desc : BitVec 512) (who : Submitter) : Block :=
  b.onCz (fun e => { e with
    nextJob := e.nextJob + 1
    jobs := e.jobs ++ [⟨e.nextJob, desc, who, b.usec, false⟩] })

/-- Bits [hi:lo] of a descriptor. -/
def dget (d : BitVec 512) (lo hi : Nat) : Nat := (d.toNat >>> lo) % 2 ^ (hi - lo + 1)
/-- A descriptor from positioned values. -/
def mkDesc (xs : List (Nat × Nat)) : BitVec 512 := BitVec.ofNat 512 ((xs.map (fun x => x.2 * 2 ^ x.1)).sum)

end Sys2Proof.Machine
end

