-- ==== Sys2Proof/Machine/Ft.lean ====
section
/-! DEFINITION. Flash translation (chapter 5): map entries, capacity, the packing streams, placement, commit, reclaim and
retirement. -/
namespace Sys2Proof.Machine

/-! ### Map entries (R220, R221) -/

/-- UNMAPPED -/
def locUnmapped : BitVec 48 := BitVec.ofNat 48 (2 ^ 47)
/-- ZERO -/
def locZero : BitVec 48 := BitVec.ofNat 48 (2 ^ 47 + 2 ^ 37)
/-- POISON -/
def locPoison : BitVec 48 := BitVec.ofNat 48 (2 ^ 47 + 2 * 2 ^ 37)
/-- FLAG -/
def lFlag (e : BitVec 48) : Bool := e.getLsbD 47
/-- Bits [hi:lo] of a map entry. -/
def lGet (e : BitVec 48) (lo hi : Nat) : Nat := (e.toNat >>> lo) % 2 ^ (hi - lo + 1)
/-- DIE -/
def lDie (e : BitVec 48) : Nat := lGet e 37 46
/-- BLOCK -/
def lBlock (e : BitVec 48) : Nat := lGet e 25 36
/-- PAGE -/
def lPage (e : BitVec 48) : Nat := lGet e 13 24
/-- OFFSET -/
def lOff (e : BitVec 48) : Nat := lGet e 7 12
/-- LEN -/
def lLen (e : BitVec 48) : Nat := lGet e 0 6
/-- The entry of a stored extent. -/
def mkLoc (die block slot len : Nat) : BitVec 48 :=
  BitVec.ofNat 48 (die % 1024 * 2 ^ 37 + block % 4096 * 2 ^ 25 + slot / 64 % 4096 * 2 ^ 13 + slot % 64 * 2 ^ 7 + len % 128)
/-- First slot of the extent within its block. -/
def lSlot (e : BitVec 48) : Nat := lPage e * 64 + lOff e
/-- Name of the block of a stored extent. -/
def lBlk (e : BitVec 48) : Nat := lDie e * 4096 + lBlock e
/-- Name of the first slot of a stored extent. -/
def lKey (e : BitVec 48) : Nat := lBlk e * 2 ^ 18 + lSlot e
/-- The ADDR of a record about a map entry (R281). -/
def lAddr (e : BitVec 48) : FAddr := mediaAddr (lDie e) (lBlock e) (lPage e) (lOff e)

/-- Name of a unit. -/
def mkey (nsx unit : Nat) : Nat := nsx * 2 ^ 40 + unit
/-- The map entry of a unit. -/
def Block.mapGet (b : Block) (k : Nat) : BitVec 48 := smGet locUnmapped b.ft.map k
/-- The port of the flash translation engine (R13). -/
def ftPort : Nat := 8
/-- The fabric address of a unit's entry in its namespace's map area (R223). -/
def Block.mapAddr (b : Block) (k : Nat) : Option Nat :=
  (smFind b.ft.mapAt (k / 2 ^ 40)).bind (fun a => if k % 2 ^ 40 < a.2 then some (a.1 + 6 * (k % 2 ^ 40)) else none)
/-- The transaction on a map entry: metadata, under tag 0 (R28), in class C0. -/
def mapReq (a : Nat) : BusReq := ⟨BitVec.ofNat 8 ftPort, 0, 0, a, 6, 0, false⟩
/-- A map lookup: whether DRAM gave the entry, and the block after it. -/
def Block.mapLook (b : Block) (k : Nat) : Bool × Block :=
  match b.mapAddr k with
  | none => (true, b)
  | some a => let x := b.memRead (mapReq a) []; (decide (x.1 = .ok), x.2.2)
/-- The entry of a unit is written to its map area. -/
def Block.mapStore (b : Block) (k : Nat) (e : BitVec 48) : Block :=
  match b.mapAddr k with
  | none => b
  | some a => (b.memWrite (mapReq a) [] (BitVec.ofNat 256 63) (e.setWidth 2048)).2
/-- Write the map entry of a unit. -/
def Block.mapSet (b : Block) (k : Nat) (e : BitVec 48) : Block :=
  (b.onFt (fun f => { f with map := smSet locUnmapped f.map k e })).mapStore k e

/-! ### Blocks and capacity -/

/-- A flash block. -/
def Block.fblk (b : Block) (k : Nat) : Blk := smGet {} b.ft.blks k
/-- Change a flash block. -/
def Block.modBlk (b : Block) (k : Nat) (f : Blk → Blk) : Block :=
  b.onFt (fun t => { t with blks := smSet {} t.blks k (f (b.fblk k)) })
/-- Slots of a block in its mode. -/
def Block.blkSlots (b : Block) (k : Nat) : Nat := b.slotsOf (k / 4096) (b.fblk k).slc
/-- Units mapped to a block: name and entry. -/
def Block.mappedOn (b : Block) (k : Nat) : List (Nat × BitVec 48) :=
  b.ft.map.filter (fun e => !lFlag e.2 && lBlk e.2 == k)
/-- The valid-slot count of a block (R225). -/
def Block.validOf (b : Block) (k : Nat) : Nat := ((b.mappedOn k).map (fun e => lLen e.2)).sum
/-- FT.SPACE_VALID -/
def Block.spaceValid (b : Block) : Nat := ((b.ft.map.filter (fun e => !lFlag e.2)).map (fun e => lLen e.2)).sum
/-- Valid slots on a booth (FC[b].BOOTH_VALID). -/
def Block.boothValid (b : Block) (k : Nat) : Nat :=
  ((b.ft.map.filter (fun e => !lFlag e.2 && boothOf (lDie e.2) == k)).map (fun e => lLen e.2)).sum
/-- A booth has mapped units. -/
def Block.boothMapped (b : Block) (k : Nat) : Bool := b.ft.map.any (fun e => !lFlag e.2 && boothOf (lDie e.2) == k)
/-- A booth whose reads end as R337 gives; a running power-off counts (R336). -/
def Block.boothOffline (b : Block) (k : Nat) : Bool :=
  b.boothSt k == 5 || b.boothSt k == 6 || (b.boothSt k == 7 && b.boothMapped k) || b.boothBusy k

/-- A block holds extents of units that are not committed yet. -/
def Block.blkPending (b : Block) (k : Nat) : Bool :=
  b.ft.staged.any (fun u => (decide (u.phase = .packed) || decide (u.phase = .programmed)) && lBlk u.loc == k)
/-- A block counts as FREE: erased, or without a valid slot and awaiting erase (R251). -/
def Block.blkFree (b : Block) (k : Nat) : Bool :=
  let x := b.fblk k
  match x.st with
  | .free => true
  | .verified => !x.doomed && b.validOf k == 0 && !b.blkPending k
  | .opened | .closed | .retired | .bad => false

/-- FT.FREE -/
def Block.free_ (b : Block) : Nat :=
  let total := ((b.diesIn.map (fun d => (b.dieProf d).blocks))).sum
  let used := (b.ft.blks.filter (fun e => b.diesIn.contains (e.1 / 4096) && !b.blkFree e.1)).length
  total - used
/-- FT.RESERVE -/
def Block.reserve (b : Block) : Nat := b.rdF (pgFt + 0x108) 0 22
/-- Good blocks of the dies in service. -/
def Block.goodBlocks (b : Block) : Nat :=
  let total := ((b.diesIn.map (fun d => (b.dieProf d).blocks))).sum
  total - (b.ft.blks.filter (fun e => b.diesIn.contains (e.1 / 4096) &&
    (decide (e.2.st = .retired) || decide (e.2.st = .bad)))).length
/-- FT.RETIRE_LEFT -/
def Block.retireLeft (b : Block) : Nat := b.rdF (pgFt + 0x10C) 0 22
/-- The lowest slot count per block among the dies in service, 0 with none. -/
def Block.minSlots (b : Block) (slc : Bool) : Nat :=
  match b.diesIn.map (fun d => b.slotsOf d slc) with
  | [] => 0
  | x :: xs => xs.foldl min x
/-- FT.SPACE_USER (R267), less what drains have taken (R333). -/
def Block.spaceUser (b : Block) : Nat :=
  let slcMin := b.rdF (pgFt + 0x114) 0 22
  (b.goodBlocks - b.retireLeft - b.reserve - slcMin) * b.minSlots false + slcMin * b.minSlots true
    - ((b.ft.drained.filter (fun e => b.boothUp e.1)).map (·.2)).sum
/-- FT.SLC_USED: open and closed SLC blocks of the HOST stream (R252). -/
def Block.slcUsed (b : Block) : Nat :=
  (b.ft.blks.filter (fun e => e.2.slc && decide (e.2.stream = .host) &&
    (decide (e.2.st = .opened) || decide (e.2.st = .closed) || decide (e.2.st = .verified)))).length
/-- FT.SLC_TARGET -/
def Block.slcTarget (b : Block) : Nat := b.rdF (pgFt + 0x11C) 0 22
/-- Recompute SLC_TARGET (R251). -/
def Block.slcRetarget (b : Block) : Block :=
  let x := (b.free_ - b.reserve) * b.rdF (pgFt + 0x110) 0 7 / 256
  b.wrSat (pgFt + 0x11C) 0 22 (min (b.rdF (pgFt + 0x118) 0 22) (max (b.rdF (pgFt + 0x114) 0 22) x))

/-- Erase counts of the good blocks of the dies in service: highest and lowest. -/
def Block.peRange (b : Block) : Nat × Nat :=
  let good := b.ft.blks.filter (fun e => b.diesIn.contains (e.1 / 4096) && decide (e.2.st ≠ .retired) && decide (e.2.st ≠ .bad))
  let total := ((b.diesIn.map (fun d => (b.dieProf d).blocks))).sum
  let es := good.map (fun e => e.2.erases)
  let unlisted := decide ((b.ft.blks.filter (fun e => b.diesIn.contains (e.1 / 4096))).length < total)
  (es.foldl max 0, if unlisted then 0 else match es with | [] => 0 | x :: xs => xs.foldl min x)

/-! ### Pieces and staging (R154-R158, R226) -/

/-- A piece by command and position. -/
def Block.piece (b : Block) (seq idx : Nat) : Option Piece := b.ft.pieces.find? (fun p => p.seq == seq && p.idx == idx)
/-- Change a piece. -/
def Block.modPiece (b : Block) (seq idx : Nat) (f : Piece → Piece) : Block :=
  b.onFt (fun t => { t with pieces := t.pieces.map (fun p => if p.seq = seq ∧ p.idx = idx then f p else p) })
/-- Units a byte range touches: first, and one past the last. -/
def unitsOf (off len : Nat) : Nat × Nat := (off / 16384, (off + len + 16383) / 16384)
/-- A unit lies whole inside a byte range. -/
def wholeIn (off len u : Nat) : Bool := decide (off ≤ u * 16384 ∧ (u + 1) * 16384 ≤ off + len)
/-- The bytes of a unit that lie in a byte range: first and one past the last, in the unit. -/
def unitPart (off len u : Nat) : Nat × Nat := (max off (u * 16384) - u * 16384, min (off + len) ((u + 1) * 16384) - u * 16384)
/-- The bytes of a unit that a piece writes: for a deallocate or Write Zeroes those of its whole range (R234). -/
def Piece.part (p : Piece) (u : Nat) : Nat × Nat :=
  match p.kind with
  | .data => unitPart p.off p.len u
  | _ => unitPart p.rng.1 (p.rng.2 - p.rng.1) u
/-- A unit is written whole by a piece, or by its range for a deallocate or Write Zeroes. -/
def Piece.whole (p : Piece) (u : Nat) : Bool :=
  match p.kind with
  | .data => wholeIn p.off p.len u
  | _ => wholeIn p.rng.1 (p.rng.2 - p.rng.1) u
/-- Units of a piece. A unit that the cut of R121 divides between two pieces of a deallocate or Write Zeroes range belongs to the later
one as a whole, so that R234 holds of the range (DESIGN CHOICE, log entry 59). -/
def Piece.units (p : Piece) : List Nat :=
  let r := unitsOf p.off p.len
  let us := (List.range (r.2 - r.1)).map (· + r.1)
  match p.kind with
  | .data => us
  | _ => us.filter (fun u => decide ((u + 1) * 16384 ≤ p.off + p.len) || decide (p.off + p.len = p.rng.2))
/-- Units of a piece that store an extent in the worst case: all of a data piece, the partial ones of any other. -/
def Piece.storing (p : Piece) : List Nat :=
  match p.kind with
  | .data => p.units
  | _ => p.units.filter (fun u => !p.whole u)
/-- The worst case of R268 in slots. -/
def Piece.worst (p : Piece) : Nat := 65 * p.storing.length
/-- KiB of staging a piece reserves: its data, or its partial units (R154, R234). DESIGN CHOICE, log entry 20. -/
def Piece.kib (p : Piece) : Nat :=
  match p.kind with
  | .data => (p.len + 1023) / 1024
  | _ => 16 * p.storing.length
/-- FT.SPACE_RESV -/
def Block.spaceResv (b : Block) : Nat := ((b.ft.pieces.filter (fun p => p.resv.isSome)).map Piece.worst).sum
/-- KiB reserved from the host-write pool. -/
def Block.poolKib (b : Block) : Nat := (b.ft.pieces.map (fun p => p.resv.getD 0)).sum
/-- KiB reserved by a tenant. -/
def Block.tenantKib (b : Block) (t : BitVec 6) : Nat :=
  ((b.ft.pieces.filter (fun p => p.tenant = t)).map (fun p => p.resv.getD 0)).sum
/-- Units of which a piece that has not entered the table yet has bytes in staging. -/
def Piece.landing (p : Piece) : List Nat :=
  if p.placed || p.landed == 0 then [] else
  let r := unitsOf p.off p.landed
  (List.range (r.2 - r.1)).map (fun u => mkey p.nsx (u + r.1))
/-- Distinct units in the in-flight table: those in staging whose commit has not completed (R226, FT.INFLIGHT). -/
def Block.inflightUnits (b : Block) : Nat :=
  ((b.ft.staged.map (fun u => mkey u.nsx u.unit) ++ b.ft.pieces.flatMap Piece.landing).eraseDups).length
/-- Distinct units of the pieces that hold their reservations: each has an entry, or will have one before its piece commits. -/
def Block.grantedUnits (b : Block) : Nat :=
  (((b.ft.pieces.filter (fun p => p.resv.isSome)).flatMap (fun p => p.units.map (mkey p.nsx))).eraseDups).length
/-- The newest staged version of a unit (R227). -/
def Block.newest (b : Block) (nsx unit : Nat) : Option Staged := b.ft.staged.find? (fun u => u.nsx == nsx && u.unit == unit)
/-- Change a staged unit. -/
def Block.modStaged (b : Block) (seq idx unit : Nat) (f : Staged → Staged) : Block :=
  b.onFt (fun t => { t with staged := t.staged.map (fun u => if u.seq = seq ∧ u.idx = idx ∧ u.unit = unit then f u else u) })

/-- MODE as the present state gives it (R270): end of life first, then full, then pressure. -/
def Block.ftMode (b : Block) : Nat :=
  if b.rdF (pgFt + 0x100) 0 2 = 5 then 5
  else if b.ft.san.isSome then 4
  else if b.ft.sanFailed then 6
  else if b.ft.eol then 3
  else if b.spaceValid + b.spaceResv + 65 > b.spaceUser then 2
  else if b.free_ < b.reserve + b.rdF (pgFt + 0x138) 0 22 then 1
  else 0
/-- The typical time in µs of a program of the mode the HOST stream is opening, for a booth (R252, R688). -/
def Block.hostTprog (b : Block) (k : Nat) : Nat :=
  let t := ((b.prof k).elim noProfBody (·.body)).tTyp
  if b.slcUsed < b.slcTarget then t.2.2.1 else t.2.1
/-- Programs that a booth's budget lets run at once (R688). -/
def Block.boothProgs (b : Block) (k : Nat) : Nat :=
  let dies := (b.diesIn.filter (fun d => boothOf d == k)).length
  let mw := ((b.prof k).elim noProfBody (·.body)).mw.2.1
  if mw = 0 then dies else min dies (b.poolBudget (.booth k) * (256 - b.shareS) / 256 / mw)
/-- The rate of R688 before PA.WTHR.FREE_GBS, in whole GB/s; the sum over the booths is kept as a fraction. -/
def Block.wrate (b : Block) : Nat :=
  let ks := (List.range 8).filter (fun k => b.boothSt k == 2 && b.hostTprog k != 0)
  let s := ks.foldl (fun (q : Nat × Nat) k => (q.1 * (b.hostTprog k * 1000) + b.boothProgs k * 16384 * q.2, q.2 * (b.hostTprog k * 1000))) (0, 1)
  min (s.1 * b.rdF (pgPa + 0x128) 0 15 / (s.2 * 256)) (4096 * b.bChip / (10 * b.variant.maxMw))
/-- HP[0].WRATE.CAP follows the budgets (R688); CAP_CHANGE when it changes (R724). -/
def Block.wrateCap (b : Block) : Block :=
  let a := pageBase .hp 0 + 0x118
  let cap := if b.wrate ≥ b.rdF (pgPa + 0x124) 16 24 then 0 else max 1 b.wrate
  if b.rdF a 0 15 = cap then b else (b.wrF a 0 15 cap).raise pgPa 1
/-- The device is in a power state from now on (R690): PSTATE when the change is complete (R724). -/
def Block.setPs (b : Block) (ps : Nat) : Block :=
  let b := { b with pa := { b.pa with ps := ps, lastOp := if ps ≤ 2 then ps else b.pa.lastOp } }
  ((b.wrF (pgPa + 0x118) 0 2 ps).wrateCap).raise pgPa 3
/-- A non-operational power state gives way to the most recent operational one (R691). -/
def Block.psWake (b : Block) : Block := if 3 ≤ b.pa.ps then b.setPs b.pa.lastOp else b
/-- Bring MODE up to date; PRESSURE on entering pressure (R280), and the write rate follows (R688). -/
def Block.setMode (b : Block) (m : Nat) : Block :=
  let old := b.rdF (pgFt + 0x100) 0 2
  let b := b.wrF (pgFt + 0x100) 0 2 m
  let b := b.onIf (m != old) (fun b => b.wrateCap)
  b.onIf (m == 1 && old != 1) (fun b => b.raise pgFt 0)
/-- MODE follows the state. -/
def Block.refreshMode (b : Block) : Block := b.setMode b.ftMode

/-! ### Records -/

/-- The DETAIL of an FT record (R281). -/
def ftDetail (nsx unit n epoch : Nat) : BitVec 192 := detailOf [(0, nsx % 65536), (2, unit % 2 ^ 48), (8, n % 2 ^ 32), (12, epoch % 2 ^ 32)]
/-- A record of the FT page. -/
def Block.ftRecord (b : Block) (code : Nat) (sev : Sev) (nsx unit n epoch : Nat) (loc : BitVec 48) (md : Bool := false) : Block :=
  b.record pgFt { code := code, sev := sev, tenant := if md then 0 else BitVec.ofNat 6 (b.nsTenant nsx), addr := some (lAddr loc),
                  detail := ftDetail nsx unit n epoch }

/-- Cut a rising list of unit names into contiguous ranges: first and length. -/
def ranges : List Nat → List (Nat × Nat)
  | [] => []
  | k :: ks =>
    match ranges ks with
    | [] => [(k, 1)]
    | (f, n) :: rs => if k + 1 = f then (k, n + 1) :: rs else (k, 1) :: (f, n) :: rs

/-- Units become POISON, and UNIT_LOST is recorded for each contiguous range (R265, R323, R338). -/
def Block.loseUnits (b : Block) (ks : List Nat) : Block :=
  if ks.isEmpty then b else
  let b := b.each (ranges ks) (fun b r => b.ftRecord 0x0104 .deferred (r.1 / 2 ^ 40) (r.1 % 2 ^ 40) r.2 0 (b.mapGet r.1))
  (b.each ks (fun b k => b.mapSet k locPoison)).raise pgFt 5

/-! ### What reclaim takes next (R253-R256, R262) -/

/-- Rated cycles of a die's blocks in a mode. -/
def Block.rated (b : Block) (d : Nat) (slc : Bool) : Nat :=
  if slc then (b.dieProf d).endurance.2 else (b.dieProf d).endurance.1
/-- The erase count at which a block is retired instead of erased (R263). -/
def Block.eraseLimit (b : Block) (k : Nat) : Nat :=
  b.rated (k / 4096) (b.fblk k).slc * b.rdF (pgFt + 0x150) 0 9 / 256

/-- A unit's age term: whole AGE_UNITs since the block closed. -/
def Block.ageOf (b : Block) (x : Blk) : Nat := ((b.usec : Int) - x.closedAt).toNat / (b.rdF (pgFt + 0x134) 0 7 * 3600000000)
/-- SCORE (R254). -/
def Block.score (b : Block) (k : Nat) : Int :=
  let x := b.fblk k
  let n := b.blkSlots k
  let inv := if n = 0 then 0 else (n - b.validOf k) * 1024 / n
  let rate := b.rated (k / 4096) x.slc
  let er := if rate = 0 then 0 else x.erases * 1024 / rate
  (b.rdF (pgFt + 0x130) 0 7 * inv : Nat) + (b.rdF (pgFt + 0x130) 8 15 * min (b.ageOf x) 1023 : Nat)
    - (b.rdF (pgFt + 0x130) 16 23 * er : Nat) + (b.rdF (pgFt + 0x130) 24 31 * x.boost : Nat)
/-- Blocks that reclaim may take: closed, verified, in a booth in service, no copy in progress (R255, R337). -/
def Block.candidates (b : Block) : List Nat :=
  (b.ft.blks.filter (fun e => decide (e.2.st = .verified) && !e.2.copying && b.diesIn.contains (e.1 / 4096))).map (·.1)
/-- The best of a list by a measure, the first listed on a tie. -/
def bestBy (f : Nat → Int) : List Nat → Option Nat
  | [] => none
  | x :: xs => some (xs.foldl (fun a y => if f y > f a then y else a) x)
/-- The oldest closed SLC block, when the buffer exceeds its target (R253). -/
def Block.foldSource (b : Block) : Option Nat :=
  if b.slcUsed > b.slcTarget then
    bestBy (fun k => - (b.fblk k).closedAt) (b.candidates.filter (fun k => (b.fblk k).slc && decide ((b.fblk k).stream = .host)))
  else none
/-- The closed block of lowest erase count, when the spread is exceeded (R262). -/
def Block.levelSource (b : Block) : Option Nat :=
  if b.peRange.1 - b.peRange.2 > b.rdF (pgFt + 0x150) 10 25 then
    bestBy (fun k => - ((b.fblk k).erases : Int)) b.candidates
  else none
/-- A block that must give up its data before it is retired: a verified one (R263), or one whose program or verify has failed (R236,
R261). -/
def Block.doomedSource (b : Block) : Option Nat :=
  ((b.ft.blks.filter (fun e => e.2.doomed && !e.2.copying && decide (b.validOf e.1 > 0) &&
    (decide (e.2.st = .verified) || (decide (e.2.st = .closed) && e.2.failed)) &&
    b.diesIn.contains (e.1 / 4096))).map (·.1)).head?
/-- A verified block of a draining booth that still holds valid extents (R333). -/
def Block.drainSource (b : Block) : Option Nat :=
  (b.candidates.filter (fun k => b.boothSt (boothOf (k / 4096)) == 3 && decide (b.validOf k > 0))).head?
/-- The oldest closed, unverified HOST-stream block (R322). -/
def Block.oldestHost (b : Block) : Option Nat :=
  bestBy (fun k => - (b.fblk k).closedAt) ((b.ft.blks.filter (fun e => decide (e.2.st = .closed) && decide (e.2.stream = .host) &&
    !e.2.doomed && b.diesIn.contains (e.1 / 4096))).map (·.1))
/-- A block of a retired die whose units have not all found a place yet (R265). -/
def Block.retiredSource (b : Block) : Option Nat :=
  ((b.ft.blks.filter (fun e => (b.die (e.1 / 4096)).retired && b.boothUp (boothOf (e.1 / 4096)) && !e.2.copying &&
    decide (b.validOf e.1 > 0))).map (·.1)).head?
/-- The source reclaim takes next (R255): folding and leveling first, then what retirement and drains call for, then the highest
score. -/
def Block.reclaimSource (b : Block) : Option Nat :=
  (((b.foldSource.or b.levelSource).or b.doomedSource).or b.retiredSource).or (b.drainSource.or (bestBy b.score b.candidates))
/-- The highest score is at least FT.RCL_THRESH (R256). -/
def Block.overThresh (b : Block) : Bool := b.candidates.any (fun k => decide (b.score k ≥ (b.rdF (pgFt + 0x140) 0 19 : Int)))
/-- RCLASS: the class reclaim runs at (R256): 0 idle, 1 C3, 2 C1. -/
def Block.rclass (b : Block) : Nat :=
  let pin := b.rdF (pgFt + 0x134) 8 9
  let work := b.reclaimSource.isSome
  if b.ft.eol || b.ft.san.isSome || b.rdF (pgFt + 0x100) 0 2 == 5 then 0
  else if pin = 1 ∨ pin = 2 then (if work then pin else 0)
  else if b.free_ < b.reserve + b.rdF (pgFt + 0x138) 0 22 ∨ b.drainSource.isSome then 2
  else if b.free_ < b.reserve + b.rdF (pgFt + 0x13C) 0 22 ∨ b.overThresh ∨
    b.foldSource.isSome ∨ b.levelSource.isSome ∨ b.doomedSource.isSome ∨ b.retiredSource.isSome then 1
  else 0

/-! ### Placement (R215-R219, R252, R262) -/

/-- The free block a stream opens on a die (R262): lowest erase count for HOST, highest below the limit for RECLAIM, lowest
for the others; the lowest number on a tie. PLOSS opens only the erased blocks that R242 keeps for it, and no other stream takes
those: a free block whose stream is PLOSS is kept so. -/
def Block.pickFree (b : Block) (s : Stream) (d : Nat) : Option Nat :=
  let cands := (List.range (b.dieProf d).blocks).filter (fun i =>
    let x := b.fblk (d * 4096 + i)
    decide (x.st = .free) && (if s = .ploss then decide (x.stream = .ploss) && x.erased else decide (x.stream ≠ .ploss)))
  let best := fun (acc : Option Nat) (i : Nat) =>
    match acc with
    | none => some i
    | some j =>
      let ei := (b.fblk (d * 4096 + i)).erases
      let ej := (b.fblk (d * 4096 + j)).erases
      if s = .reclaim then if ei > ej then some i else acc
      else if ei < ej then some i else acc
  let cands := if s = .reclaim then
      cands.filter (fun i => decide ((b.fblk (d * 4096 + i)).erases < b.eraseLimit (d * 4096 + i)))
    else cands
  cands.foldl best none

/-- The mode a stream opens a block in (R218, R252). -/
def Block.openSlc (b : Block) (s : Stream) : Bool :=
  match s with
  | .host => decide (b.slcUsed < b.slcTarget)
  | .reclaim => false
  | .meta_ | .ploss => true

/-- Post a block's erase. -/
def Block.postErase (b : Block) (k : Nat) (cls : Nat) : Block :=
  b.postOp (k / 4096) (k % 4096) 0 .erase (b.fblk k).slc cls 0 .erase

/-- Blocks that a die must keep erased for power-loss copies: its share of the whole host-write pool stored raw (R242). -/
def Block.plossNeed (b : Block) (d : Nat) : Nat :=
  let units := b.rdF (pageBase .hp 0 + 0x110) 0 7 * 64
  let n := b.diesIn.length
  let per := b.slotsOf d true / 65
  if n = 0 ∨ per = 0 then 0 else ((units + n - 1) / n + per - 1) / per
/-- Blocks that a die keeps for PLOSS. -/
def Block.plossHeld (b : Block) (d : Nat) : Nat :=
  (b.ft.blks.filter (fun e => e.1 / 4096 == d && decide (e.2.st = .free) && decide (e.2.stream = .ploss))).length
/-- One more free block of a die is kept for PLOSS, and erased if it is not. -/
def Block.setAside (b : Block) (d : Nat) : Block :=
  match b.pickFree .meta_ d with
  | none => b
  | some i =>
    let k := d * 4096 + i
    let b := b.modBlk k (fun x => { x with stream := .ploss, slc := true })
    b.onIf (!(b.fblk k).erased) (fun b => b.postErase k 1)
/-- Every present die keeps its PLOSS blocks (R242). -/
def Block.keepPloss (b : Block) : Block :=
  if b.ft.frozen || b.ft.san.isSome || b.rdF (pgFt + 0x100) 0 2 == 5 then b else
  b.each b.diesIn (fun b d => b.each (List.range (b.plossNeed d - b.plossHeld d)) (fun b _ => b.setAside d))

/-- What follows an erase or a retirement: SLC_TARGET (R251) and the blocks kept for PLOSS (R242). -/
def Block.retarget (b : Block) : Block := b.slcRetarget.keepPloss

/-! ### Retirement (R263-R265, R270) -/

/-- Move commits of a retirement: one block of the retire reserve is taken, or the device enters end of life. -/
def Block.retireBlk (b : Block) (k : Nat) : Block :=
  if (b.fblk k).st = .retired then b else
  let b := b.modBlk k (fun x => { x with st := .retired, doomed := false })
  let b := b.onFt (fun t => { t with opens := t.opens.filter (fun o => decide (o.2.1 * 4096 + o.2.2 ≠ k)) })
  let b := b.modDie (k / 4096) (fun d => { d with retiredBlks := d.retiredBlks + 1 })
  let b := b.raise pgFt 3
  let b :=
    if b.retireLeft = 0 then
      if b.ft.eol then b else (b.onFt (fun t => { t with eol := true })).raise pgFt 2
    else b.wrF (pgFt + 0x10C) 0 22 (b.retireLeft - 1)
  b.retarget.refreshMode

/-! ### Open blocks -/

/-- Open a block for a stream on a die; a block that is not erased is erased first. -/
def Block.openBlk (b : Block) (s : Stream) (d : Nat) : Option (Nat × Block) :=
  match b.pickFree s d with
  | none => none
  | some i =>
    let k := d * 4096 + i
    let slc := b.openSlc s
    let erased := (b.fblk k).erased
    let b := b.modBlk k (fun x => { x with
      st := .opened, stream := s, slc := slc, fill := 0, posted := 0, progDone := [], copying := false, lastFill := b.usec
      readBack := false, badPages := [], failed := false })
    let b := b.onFt (fun t => { t with opens := t.opens ++ [(s, d, i)] })
    some (k, b.onIf (!erased) (fun b => b.postErase k 1))

/-- Post the programs of the pages of a block that are full, up to page `n`. -/
def Block.postPages (b : Block) (k : Nat) (n cls : Nat) : Block :=
  let x := b.fblk k
  let b := b.each ((List.range (n - x.posted)).map (· + x.posted))
    (fun b p => b.postOp (k / 4096) (k % 4096) p .program x.slc cls 0 (.page x.stream))
  b.modBlk k (fun y => { y with posted := max y.posted n })

/-- Close an open block: its part-filled page is padded and programmed (R215, R217). -/
def Block.closeBlk (b : Block) (k cls : Nat) : Block :=
  let b := b.postPages k (((b.fblk k).fill + 63) / 64) cls
  let b := b.modBlk k (fun x => { x with st := .closed, closedAt := (b.usec : Int), fill := b.blkSlots k })
  b.onFt (fun t => { t with opens := t.opens.filter (fun o => decide (o.2.1 * 4096 + o.2.2 ≠ k)) })

/-- The open block of a stream on a die. -/
def Block.openOn (b : Block) (s : Stream) (d : Nat) : Option Nat :=
  (b.ft.opens.find? (fun o => decide (o.1 = s) && o.2.1 == d)).map (fun o => o.2.1 * 4096 + o.2.2)

/-- The dies that may take slots of a stream, in rotation (R219); the die with a part-filled page first. -/
def Block.rotation (b : Block) (s : Stream) : List Nat :=
  let start := ((b.ft.rots.find? (fun r => decide (r.1 = s))).map (·.2)).getD 0
  let midPage := fun d => d == start && (b.openOn s d).any (fun k => (b.fblk k).fill % 64 != 0)
  let ok := b.diesIn.filter (fun d => b.boothOpen (boothOf d) && (!b.dieBusyPE d || midPage d))
  ok.filter (fun d => decide (start ≤ d)) ++ ok.filter (fun d => decide (d < start))

/-- The class of a stream's programs (DESIGN CHOICE, log entry 21); those of RECLAIM run at the class of reclaim (R256). -/
def Block.streamCls (b : Block) (s : Stream) : Nat :=
  match s with
  | .host | .meta_ => 1
  | .reclaim => if b.rclass = 2 then 1 else 3
  | .ploss => 0

/-- Put `len` slots at the fill point of block `k`; a page that this fills is posted, and the stream moves to the next die. -/
def Block.putSlots (b : Block) (s : Stream) (k len : Nat) : BitVec 48 × Block :=
  let slot := (b.fblk k).fill
  let b := b.modBlk k (fun x => { x with fill := slot + len, lastFill := b.usec })
  let crossed := decide ((slot + len) / 64 > slot / 64)
  let b := b.postPages k ((slot + len) / 64) (b.streamCls s)
  let d := k / 4096
  let b := b.onFt (fun t => { t with
    rots := (s, if crossed then d + 1 else d) :: t.rots.filter (fun r => decide (r.1 ≠ s)) })
  let b := b.onIf (decide (slot + len ≥ b.blkSlots k)) (fun b => b.closeBlk k (b.streamCls s))
  (mkLoc d (k % 4096) slot len, b)

/-- Try to put `len` slots on one die: its open block, else a fresh one; a block without room closes. -/
def Block.putOnDie (b : Block) (s : Stream) (d len : Nat) : Option (BitVec 48 × Block) :=
  match b.openOn s d with
  | some k =>
    if (b.fblk k).fill + len ≤ b.blkSlots k then some (b.putSlots s k len)
    else
      let b := b.closeBlk k (b.streamCls s)
      match b.openBlk s d with
      | some (k, b) => if len ≤ b.blkSlots k then some (b.putSlots s k len) else none
      | none => none
  | none =>
    match b.openBlk s d with
    | some (k, b) => if len ≤ b.blkSlots k then some (b.putSlots s k len) else none
    | none => none

/-- Put `len` slots on the first die of a list that takes them. -/
def Block.putOnAny (b : Block) (s : Stream) (len : Nat) : List Nat → Option (BitVec 48 × Block)
  | [] => none
  | d :: ds =>
    match b.putOnDie s d len with
    | some r => some r
    | none => b.putOnAny s len ds

/-- Place `len` slots in a stream: the die being filled first, if its page is part full and its booth still takes pages. -/
def Block.place (b : Block) (s : Stream) (len : Nat) : Option (BitVec 48 × Block) := b.putOnAny s len (b.rotation s)

/-! ### The META stream (R218, R245, R247) -/

/-- The open META blocks: die and block. -/
def Block.metaOpen (b : Block) : List (Nat × Nat) := (b.ft.opens.filter (fun o => decide (o.1 = .meta_))).map (·.2)
/-- The booths that hold a copy of the metadata. -/
def Block.metaBooths (b : Block) : List Nat := ((b.metaOpen.map (fun o => boothOf o.1)).eraseDups)
/-- Booths that a metadata copy may be on, those that have one first. -/
def Block.metaWays (b : Block) : List Nat :=
  let ok := (List.range 8).filter (fun k => b.boothOpen k && b.diesIn.any (fun d => boothOf d == k))
  b.metaBooths.filter (fun k => ok.contains k) ++ ok.filter (fun k => !b.metaBooths.contains k)
/-- META blocks are opened on a booth until it has `n`. -/
def Block.metaFill (b : Block) (k n : Nat) : Block :=
  let ds := b.diesIn.filter (fun d => boothOf d == k && !b.metaOpen.any (fun o => o.1 == d))
  let have_ := (b.metaOpen.filter (fun o => boothOf o.1 == k)).length
  b.each (ds.take (n - have_)) (fun b d => match b.openBlk .meta_ d with
    | some (_, b) => b
    | none => b)
/-- One page of metadata in each copy: in the open META block of the booth that is filled least. -/
def Block.metaPage (b : Block) : Block :=
  b.each b.metaBooths (fun b k =>
    let mine := b.metaOpen.filter (fun o => boothOf o.1 == k)
    match bestBy (fun d => - ((b.fblk ((smGet 0 mine d) + d * 4096)).fill : Int)) (mine.map (·.1)) with
    | some d => match b.putOnDie .meta_ d 64 with
      | some (_, b) => b
      | none => b
    | none => b)
/-- The META stream leaves every booth that is offline or drained, or whose die is gone, and keeps its four blocks open on two others (on
one where no second is in service); metadata that had a copy there is written again (R218, R247). -/
def Block.metaRefresh (b : Block) : Block :=
  if b.ft.frozen || b.ft.san.isSome || b.rdF (pgFt + 0x100) 0 2 == 5 then b else
  let gone := b.metaOpen.filter (fun o => !(b.boothOpen (boothOf o.1) && b.diesIn.contains o.1))
  if b.metaWays.isEmpty then b else
  let b := b.each gone (fun b o => b.closeBlk (o.1 * 4096 + o.2) 1)
  let n := b.metaOpen.length
  let b := match b.metaWays with
    | [] => b
    | [k] => b.metaFill k 4
    | k :: l :: _ => (b.metaFill k 2).metaFill l 2
  b.onIf (decide (b.metaOpen.length ≠ n) && !gone.isEmpty) Block.metaPage

/-- Record an extent at its place. -/
def Block.putExt (b : Block) (loc : BitVec 48) (x : Ext) : Block :=
  b.onFt (fun t => { t with exts := smPut t.exts (lKey loc) x })
/-- The extent at a place. -/
def Block.ext (b : Block) (loc : BitVec 48) : Option Ext := smFind b.ft.exts (lKey loc)

/-- LEN of a payload (R213). -/
def extLen (clen : Nat) : Nat := (32 + clen + 255) / 256

/-- A unit stored by the HOST stream counts in the present window of R779; windows more than 1,000 back no longer matter (R785). -/
def Block.countStored (b : Block) (len : Nat) : Block :=
  let w := b.usec / 1000
  b.onFt (fun t =>
    let x := smGet (0, 0) t.ratio w
    { t with ratio := (smPut t.ratio w (x.1 + 1, x.2 + 256 * len)).filter (fun e => decide (w ≤ e.1 + 1000)) })
/-- Place one coded staged unit through a stream; it waits where no die takes a page, or while parity has no room (R322). -/
def Block.placeUnit (b : Block) (s : Stream) (u : Staged) : Block :=
  if b.fc.parityFull && decide (s = .host) then b else
  match b.place s (extLen u.clen) with
  | none => b
  | some (loc, b) =>
    let x : Ext := { nsx := u.nsx, unit := u.unit, raw := u.raw, clen := u.clen, len := extLen u.clen, crc := u.crc, pmask := u.pmask,
                     epoch := BitVec.ofNat 32 u.seq, data := u.data, keyGen := (b.key u.nsx).gen, src := none }
    let b := b.putExt loc x
    let b := b.onIf (decide (s = .host)) (fun b => b.countStored x.len)
    b.modStaged u.seq u.idx u.unit (fun v => { v with phase := .packed, loc := loc })

/-- Place every coded unit, oldest first. -/
def Block.placeAll (b : Block) : Block :=
  b.each (b.ft.staged.reverse.filter (fun u => u.phase = .coded)) (fun b u => b.placeUnit .host u)

/-- A page of a block has been programmed, for a slot span. -/
def Block.spanDone (b : Block) (loc : BitVec 48) : Bool :=
  let first := lSlot loc / 64
  let last := (lSlot loc + lLen loc - 1) / 64
  (List.range (last + 1 - first)).all (fun i => (b.fblk (lBlk loc)).progDone.contains (first + i))

/-- Packed units whose pages have all been programmed count as programmed. -/
def Block.markDone (b : Block) : Block :=
  b.onFt (fun t => { t with staged := t.staged.map (fun u =>
    if u.phase = .packed && b.spanDone u.loc then { u with phase := .programmed } else u) })

/-- A page program has ended with success. -/
def Block.pageDone (b : Block) (k page : Nat) : Block :=
  (b.modBlk k (fun x => { x with progDone := page :: x.progDone, erased := false })).markDone

/-! ### Commit (R229-R231, R245, R246) -/

/-- The staged units of a piece. -/
def Block.stagedOf (b : Block) (seq idx : Nat) : List Staged := b.ft.staged.filter (fun u => u.seq == seq && u.idx == idx)
/-- A piece comes before another that shares a unit with it (R230). -/
def Piece.before (q p : Piece) : Bool :=
  q.nsx == p.nsx && (decide (q.seq < p.seq) || (q.seq == p.seq && decide (q.idx < p.idx))) && q.units.any (fun u => p.units.contains u)
/-- A piece may commit: durable, every unit programmed or without an extent, and no earlier piece of a unit of it uncommitted. -/
def Block.committable (b : Block) (p : Piece) : Bool :=
  p.durable && !b.ft.frozen &&
    (b.stagedOf p.seq p.idx).all (fun u => decide (u.phase = .programmed) || decide (u.phase = .noStore)) &&
    p.placed && !b.ft.pieces.any (fun q => q.before p)

/-- The journal in MiB: the bytes of an entry are the model's uninterpreted constant. -/
def Block.journalMib (b : Block) : Nat :=
  ((b.ft.journal.map (fun e => Config.journalBytes e.sets.length)).sum + 2 ^ 20 - 1) / 2 ^ 20
/-- The oldest change of the journal enters the checkpoint (R246). Closed META blocks hold nothing of use once every change is in it
(DESIGN CHOICE, log entry 39). -/
def Block.ckptOne (b : Block) : Block :=
  match b.ft.journal with
  | [] => b
  | e :: es =>
    let b := b.onFt (fun t => { t with ckpt := e.sets.foldl (fun m s => smSet locUnmapped m s.1 s.2) t.ckpt, journal := es })
    let b := b.onIf es.isEmpty (fun b => b.each ((b.ft.blks.filter (fun x => decide (x.2.st = .closed) && decide (x.2.stream = .meta_))).map (·.1))
      (fun b k => b.modBlk k (fun x => { x with st := .verified })))
    b.wrSat (pgFt + 0x180) 8 23 b.journalMib
/-- FT.JOURNAL.MAX in MiB. -/
def Block.journalMax (b : Block) : Nat := 64 * b.rdF (pgFt + 0x180) 0 7
/-- Append a journal entry. When the limit is reached JOURNAL_LONG is raised, and checkpointing brings the journal back within it
(R246, R280). -/
def Block.logEntry (b : Block) (e : JEnt) : Block :=
  let b := b.onFt (fun t => { t with journal := t.journal ++ [e] })
  let b := b.wrSat (pgFt + 0x180) 8 23 b.journalMib
  let b := b.onIf (decide (b.journalMib ≥ b.journalMax)) (fun b => b.raise pgFt 7)
  b.each b.ft.journal (fun b _ => b.onIf (decide (b.journalMib > b.journalMax)) Block.ckptOne)
/-- Apply a journal entry to the map. -/
def Block.applyEntry (b : Block) (e : JEnt) : Block := b.each e.sets (fun b s => b.mapSet s.1 s.2)

/-- Commit a piece (R229): one journal entry, its map entries, its in-flight entries and its staging. -/
def Block.commitPiece (b : Block) (p : Piece) : Block :=
  let us := b.stagedOf p.seq p.idx
  let ent : JEnt := { seq := p.seq, sets := us.map (fun u => (mkey u.nsx u.unit, u.loc)) }
  let b := (b.logEntry ent).applyEntry ent
  let b := b.onFt (fun t => { t with
    staged := t.staged.filter (fun u => decide (u.seq ≠ p.seq) || decide (u.idx ≠ p.idx))
    pieces := t.pieces.filter (fun q => decide (q.seq ≠ p.seq) || decide (q.idx ≠ p.idx)) })
  b.refreshMode

/-! ### Contents of units -/

/-- Contents with the bytes [lo, hi) replaced by those of `x`, whose offset 0 stands at `lo`. -/
def splice (m : Bytes) (lo hi : Nat) (x : Bytes) : Bytes :=
  m.filter (fun e => decide (e.1 < lo)) ++ cut x 0 (hi - lo) lo ++ m.filter (fun e => decide (hi ≤ e.1))
/-- Contents from listed pairs, in canonical form. -/
def mkBytes (xs : List (Nat × Byte)) : Bytes := xs.foldl (fun m x => smSet 0 m x.1 x.2) []

/-- Bits of PMASK for the LBAs of a unit that lie in a byte range of it. -/
def lbaBits (lba lo hi : Nat) : W32 :=
  (List.range (16384 / lba)).foldl (fun (m : W32) n =>
    if lo ≤ n * lba ∧ (n + 1) * lba ≤ hi then m ||| BitVec.ofNat 32 (2 ^ n) else m) 0
/-- Bits of PMASK for the LBAs of a unit that a byte range of it touches. -/
def lbaTouch (lba lo hi : Nat) : W32 :=
  (List.range (16384 / lba)).foldl (fun (m : W32) n =>
    if n * lba < hi ∧ lo < (n + 1) * lba then m ||| BitVec.ofNat 32 (2 ^ n) else m) 0

/-- PMASK bits of the LBAs that hold some offsets. -/
def lbaBad (lba : Nat) (os : List Nat) : W32 := os.foldl (fun (m : W32) o => m ||| BitVec.ofNat 32 (2 ^ (o / lba))) 0
/-- Contents with zeros in the LBAs that a PMASK names. -/
def zeroLbas (lba : Nat) (m : W32) (x : Bytes) : Bytes := x.filter (fun e => !m.getLsbD (e.1 / lba))
/-- The contents of a staged unit, as staging holds them. -/
def Block.stagedBytes (b : Block) (u : Staged) : Bytes := if u.phase = .noStore then [] else b.bufData u.pages u.skip 16384
/-- Its poisoned LBAs: its PMASK, and the LBAs with a word that staging has lost. -/
def Block.stagedMask (b : Block) (u : Staged) : W32 :=
  if u.phase = .noStore then 0 else u.pmask ||| lbaBad (b.lbaSize u.nsx) (b.bufPoison u.pages u.skip 16384)

/-- Units that are POISON or have a non-zero PMASK (FT.POISON). -/
def Block.poisonCount (b : Block) : Nat :=
  (b.ft.map.filter (fun e => e.2 == locPoison || (!lFlag e.2 && (b.ext e.2).any (fun x => x.pmask != 0)))).length

/-- Post the READs of an extent's pages for a purpose, from a rung. -/
def Block.postReads (b : Block) (why : Purpose) (loc : BitVec 48) (cls rung : Nat) : Block :=
  let first := lSlot loc / 64
  let last := (lSlot loc + lLen loc - 1) / 64
  b.each (List.range (last + 1 - first)) (fun b i =>
    b.postOp (lDie loc) (lBlock loc) (first + i) .read (b.fblk (lBlk loc)).slc cls rung why)

/-- An entry of the in-flight table. -/
def Block.stagedAt (b : Block) (seq idx unit : Nat) : Option Staged :=
  b.ft.staged.find? (fun u => u.seq == seq && u.idx == idx && u.unit == unit)
/-- The version of a unit before that of a piece, while it is in the table. -/
def Block.olderThan (b : Block) (u : Staged) : Option Staged :=
  (((b.ft.staged.filter (fun v => v.nsx == u.nsx && v.unit == u.unit)).dropWhile
    (fun v => !(v.seq == u.seq && v.idx == u.idx))).drop 1).head?
/-- The versions of a unit after that of a piece, oldest first. -/
def Block.newerThan (b : Block) (u : Staged) : List Staged :=
  ((b.ft.staged.filter (fun v => v.nsx == u.nsx && v.unit == u.unit)).takeWhile
    (fun v => !(v.seq == u.seq && v.idx == u.idx))).reverse

/-- The merge of a partial unit (R232-R234): the old contents and PMASK, or none where they cannot be read, with what the piece writes;
LBAs that it does not write become poisoned where the old contents are lost, and MERGE_POISON is recorded. -/
def Block.mergeOne (b : Block) (u : Staged) (old : Option (Bytes × W32)) : Block :=
  match b.piece u.seq u.idx with
  | none => b
  | some p =>
    let lba := b.lbaSize u.nsx
    let (lo, hi) := p.part u.unit
    let from_ := u.unit * 16384 + lo - p.off
    let data := decide (p.kind = .data)
    let fresh : Bytes := if data then b.bufData p.pages from_ (hi - lo) else []
    let spoilt := if data then (b.bufPoison p.pages from_ (hi - lo)).map (· + lo) else []
    let rest : W32 := ~~~(lbaBits lba lo hi) &&& BitVec.ofNat 32 (2 ^ (16384 / lba) - 1)
    let pm : W32 := match old with
      | none => rest
      | some o => o.2 &&& rest
    let b := b.onIf (old.isNone && rest != 0)
      (fun b => (b.ftRecord 0x0105 .deferred u.nsx u.unit 1 u.seq (b.mapGet (mkey u.nsx u.unit))).raise pgFt 5)
    let b := b.onIf data (fun b => b.bufRead ftPort 1 p.tenant p.pages from_ (hi - lo))
    let b := (b.bufWrite ftPort 1 p.tenant u.pages 0 16384 (splice (zeroLbas lba pm (old.elim [] (·.1))) lo hi fresh)).bufSpoil u.pages spoilt
    b.modStaged u.seq u.idx u.unit (fun v => { v with phase := .staged, pmask := pm })
/-- The poisoned LBAs of a staged unit are filled with zeros in staging; those that no merge has poisoned are recorded (R365, R423). -/
def Block.zeroPoison (b : Block) (u : Staged) (m : W32) : Block :=
  let lba := b.lbaSize u.nsx
  let tag := BitVec.ofNat 6 (b.nsTenant u.nsx)
  let b := b.onIf (m &&& ~~~u.pmask != 0)
    (fun b => (b.ftRecord 0x0105 .deferred u.nsx u.unit 1 u.seq (b.mapGet (mkey u.nsx u.unit))).raise pgFt 5)
  b.each ((List.range (16384 / lba)).filter m.getLsbD) (fun b n => b.bufWrite ftPort 1 tag u.pages (u.skip + n * lba) lba [])
/-- A merge takes its old contents from a staged version. -/
def Block.mergeFrom (b : Block) (u s : Staged) : Block := b.mergeOne u (some (b.stagedBytes s, b.stagedMask s))
/-- A merge ends, and the merges of newer versions of the unit that waited for it follow, oldest first. -/
def Block.mergeEnd (b : Block) (u : Staged) (old : Option (Bytes × W32)) : Block :=
  if u.phase ≠ .merging then b else
  (b.mergeOne u old).each (b.newerThan u) (fun b v =>
    match b.olderThan v with
    | some s => if v.phase = .merging ∧ s.phase ≠ .merging then b.mergeFrom v s else b
    | none => b)
/-- The merge of a partial unit looks for its old contents: the version before it in the table, else the map (R227, R232). An extent is
read at C1. -/
def Block.mergeStart (b : Block) (u : Staged) : Block :=
  match b.olderThan u with
  | some s => if s.phase = .merging then b else b.mergeFrom u s
  | none =>
    let k := mkey u.nsx u.unit
    let (ok, b) := b.mapLook k
    let e := b.mapGet k
    if lFlag e then b.mergeEnd u (if e = locPoison then none else some ([], 0))
    else if !ok || b.boothOffline (boothOf (lDie e)) || (b.ext e).isNone then b.mergeEnd u none
    else b.postReads (.merge u.seq u.idx u.nsx u.unit e) e 1 0

/-- A unit of a piece enters the in-flight table (R226): one written whole stands in the piece's pages, or stores nothing; a partial one
gets pages for its merge. -/
def Block.stageUnit (b : Block) (p : Piece) (u : Nat) : Block :=
  let st := fun (ps : List Nat) (skip : Nat) (ph : PlacePhase) =>
    (⟨p.nsx, u, p.seq, p.idx, ps, skip, [], 0, decide (p.kind = .dealloc) && p.whole u, ph, false, 0, 0,
      if p.kind = .dealloc then locUnmapped else locZero⟩ : Staged)
  let put := fun (b : Block) (v : Staged) => b.onFt (fun t => { t with staged := v :: t.staged })
  if p.whole u then
    if p.kind = .data then put b (st p.pages (u * 16384 - p.off) .staged) else put b (st [] 0 .noStore)
  else
    let v := st (b.takePages 16) 0 .merging
    (put b v).mergeStart v
/-- Pieces in the order of their sequence numbers. -/
def insPiece (p : Piece) : List Piece → List Piece
  | [] => [p]
  | q :: qs => if p.seq < q.seq ∨ (p.seq = q.seq ∧ p.idx < q.idx) then p :: q :: qs else q :: insPiece p qs
/-- The pieces in the order of their sequence numbers. -/
def Block.pieceOrder (b : Block) : List Piece := b.ft.pieces.foldl (fun ps p => insPiece p ps) []
/-- The durable pieces whose turn has come enter the table: every earlier piece with a unit of theirs has entered it or has ended, so
that a unit's versions follow each other in sequence-number order (R230). -/
def Block.stageReady (b : Block) : Block :=
  b.each (b.pieceOrder.filter (fun p => p.durable && !p.placed)) (fun b p =>
    if b.ft.pieces.any (fun q => !q.placed && q.before p) then b
    else (b.modPiece p.seq p.idx (fun q => { q with placed := true })).each p.units (fun b u => b.stageUnit p u))
/-- A piece reaches the durable point (R122). -/
def Block.makeDurable (b : Block) (seq idx : Nat) : Block :=
  match b.piece seq idx with
  | none => b
  | some p =>
    if p.durable then b else
    ((b.onFt (fun t => { t with seqDur := max t.seqDur seq })).modPiece seq idx
      (fun q => { q with durable := true, landed := q.len })).stageReady

/-! ### Reclaim (R237-R240, R253-R256, R260-R262) -/

/-- Copy one extent as it is stored into the RECLAIM stream (R237); it stays where it is when no die takes a page. -/
def Block.copyExt (b : Block) (k : Nat) (src : BitVec 48) : Block :=
  match b.ext src with
  | none => b
  | some x =>
    match b.place .reclaim x.len with
    | none => b
    | some (loc, b) => b.putExt loc { x with src := some src, nsx := k / 2 ^ 40, unit := k % 2 ^ 40 }

/-- The class reclaim's reads run at (R256). -/
def Block.rclCls (b : Block) : Nat := if b.rclass = 2 then 1 else 3
/-- The reads of a reclaim copy are posted; a unit in the in-flight table is left, since a newer version of it is about to commit (R227). -/
def Block.postCopy (b : Block) (k : Nat) (src : BitVec 48) (cls : Nat) : Block :=
  if (b.newest (k / 2 ^ 40) (k % 2 ^ 40)).isSome then b else b.postReads (.copy k src) src cls 0
/-- Every valid extent of a block is to be copied into the RECLAIM stream (R237). -/
def Block.copyBlk (b : Block) (k cls : Nat) : Block :=
  let b := b.modBlk k (fun x => { x with copying := true })
  b.each (b.mappedOn k) (fun b e => b.postCopy e.1 e.2 cls)
/-- Sources that no unverified copy and no read of a copy waits for may be taken again. -/
def Block.freeSources (b : Block) : Block :=
  let waits := fun (k : Nat) => b.ft.exts.any (fun e => e.2.src.any (fun l => lBlk l == k)) ||
    b.fc.ops.any (fun o => match o.why with
      | .copy _ l => lBlk l == k
      | _ => false)
  b.each ((b.ft.blks.filter (fun e => e.2.copying && !waits e.1)).map (·.1)) (fun b k => b.modBlk k (fun x => { x with copying := false }))
/-- A reclaim copy has been read: it is placed while the unit is still at its source. -/
def Block.copyRead (b : Block) (k : Nat) (src : BitVec 48) : Block :=
  (if b.mapGet k = src ∧ (b.newest (k / 2 ^ 40) (k % 2 ^ 40)).isNone then b.copyExt k src else b).freeSources

/-- The extents stored in a block: place and extent. -/
def Block.extsIn (b : Block) (k : Nat) : List (Nat × Ext) := b.ft.exts.filter (fun e => e.1 / 2 ^ 18 == k)
/-- The map entry of an extent of block `k` listed under a slot name. -/
def locOfKey (key len : Nat) : BitVec 48 := mkLoc (key / 2 ^ 30) (key / 2 ^ 18 % 4096) (key % 2 ^ 18) len

/-- After a RECLAIM-stream block has verified, its map entries move where the unit is still at its source (R239) and no newer version of
it is in the in-flight table (R227). -/
def Block.moveEntries (b : Block) (k : Nat) : Block :=
  let es := (b.extsIn k).filter (fun e => e.2.src.isSome && e.2.src == some (b.mapGet (mkey e.2.nsx e.2.unit)) &&
    (b.newest e.2.nsx e.2.unit).isNone)
  let sets := es.map (fun e => (mkey e.2.nsx e.2.unit, locOfKey e.1 e.2.len))
  let b := b.onIf (!sets.isEmpty) (fun b =>
    let ent : JEnt := { seq := 0, sets := sets }
    (b.logEntry ent).applyEntry ent)
  b.onFt (fun t => { t with exts := t.exts.map (fun e => if e.1 / 2 ^ 18 = k then (e.1, { e.2 with src := none }) else e) })

/-- A block that gave up all its data is retired if it was to be (R261, R263). -/
def Block.retireEmpty (b : Block) : Block :=
  b.each ((b.ft.blks.filter (fun e => e.2.doomed && b.validOf e.1 == 0)).map (·.1)) Block.retireBlk

/-- The copies in a RECLAIM-stream block are made again from their sources (R260, R339). -/
def Block.redoCopies (b : Block) (k : Nat) : Block :=
  let es := (b.extsIn k).filter (fun e => e.2.src.isSome && e.2.src == some (b.mapGet (mkey e.2.nsx e.2.unit)))
  let b := b.onFt (fun t => { t with exts := t.exts.filter (fun e => decide (e.1 / 2 ^ 18 ≠ k)) })
  b.each es (fun b e => b.postCopy (mkey e.2.nsx e.2.unit) (e.2.src.getD 0) b.rclCls)
/-- The same, and the block is retired (R236, R260). -/
def Block.recopy (b : Block) (k : Nat) : Block := (b.retireBlk k).redoCopies k

/-! ### Verify (R235, R244) -/

/-- The flash translation engine's background work may go on: no commit freeze, no rebuild. -/
def Block.ftRuns (b : Block) : Bool := !b.ft.frozen && b.rdF (pgFt + 0x100) 0 2 != 5
/-- No program of a closed block is outstanding. -/
def Block.blkWritten (b : Block) (k : Nat) : Bool := !b.fc.ops.any (fun o => o.die * 4096 + o.block == k && decide (o.kind = .program))
/-- A closed block of the HOST or RECLAIM stream waits for its verify. -/
def Block.verifies (b : Block) (k : Nat) : Bool :=
  let x := b.fblk k
  decide (x.st = .closed) && (decide (x.stream = .host) || decide (x.stream = .reclaim)) && !x.failed && b.blkWritten k &&
    b.ftRuns && b.ft.san.isNone
/-- Post the reads of every programmed page of a block. -/
def Block.readBack (b : Block) (k cls : Nat) : Block :=
  (b.modBlk k (fun x => { x with readBack := true, badPages := [] })).each (List.range (b.fblk k).posted |>.filter (fun p => (b.fblk k).progDone.contains p))
    (fun b p => b.postOp (k / 4096) (k % 4096) p .read (b.fblk k).slc cls 0 .verify)

/-! ### Parity groups (R318-R324) -/

/-- A held parity group has a member on a block's page. -/
def Block.grpOf (b : Block) (d blk page : Nat) : Option ParGrp := b.fc.grps.find? (fun g => g.members.contains (d, blk, page))
/-- Records of the parity area in MiB (16,512 bytes each). -/
def Block.parityMib (b : Block) : Nat := (b.fc.grps.length * 16512 + 2 ^ 20 - 1) / 2 ^ 20
/-- FC.PARITY_USED follows the groups held. -/
def Block.parityUsed (b : Block) : Block :=
  (b.wrSat (pgFc + 0x1BC) 0 15 b.parityMib).wrSat (pgFc + 0x1BC) 16 31 (b.fc.grps.filter (fun g => !g.closed)).length
/-- The parity area holds one more record. -/
def Block.parityRoom (b : Block) : Bool := decide ((b.fc.grps.length + 1) * 16512 ≤ b.rdF (pgFc + 0x1B8) 0 15 * 2 ^ 20)

/-- The pages of a HOST-stream block leave their groups' need: a group all of whose members have verified or moved is released. -/
def Block.releaseGroups (b : Block) : Block :=
  let safe := fun (m : Nat × Nat × Nat) =>
    let x := b.fblk (m.1 * 4096 + m.2.1)
    decide (x.st = .verified) || decide (x.st = .retired) || decide (x.st = .free) || b.validOf (m.1 * 4096 + m.2.1) == 0 &&
      decide (x.st = .closed)
  let b := b.onFc (fun e => { e with grps := e.grps.filter (fun (g : ParGrp) => !(g.closed && g.members.all safe)) })
  let b := b.onIf (b.fc.parityFull && b.parityRoom) (fun b => b.onFc (fun e => { e with parityFull := false }))
  b.parityUsed

/-- A HOST-stream page joins the oldest open group without a member on its channel, or opens one (R318). -/
def Block.joinGroup (b : Block) (d blk page : Nat) : Block :=
  let g := min 32 b.diesIn.length
  let fits := fun (x : ParGrp) => !x.closed && !x.members.any (fun m => chOf m.1 == chOf d)
  let b := match b.fc.grps.find? fits with
    | some x => b.onFc (fun e => { e with grps := e.grps.map (fun (y : ParGrp) =>
        if y.id = x.id then { y with members := y.members ++ [(d, blk, page)], closed := decide (y.members.length + 1 ≥ g) } else y) })
    | none =>
      let x : ParGrp := ⟨b.fc.nextGrp, [(d, blk, page)], [], b.usec, decide (1 ≥ g), false⟩
      b.onFc (fun e => { e with nextGrp := e.nextGrp + 1, grps := e.grps ++ [x] })
  b.parityUsed

/-- The place of a group's record in the parity area (R319): the groups' names go round the records that the area holds (DESIGN CHOICE, log
entry 60). -/
def Block.parityAt (b : Block) (id : Nat) : Nat :=
  b.rd64 (pgFc + 0x1B0) % 2 ^ 48 + 16512 * (id % max 1 (b.rdF (pgFc + 0x1B8) 0 15 * 2 ^ 20 / 16512))
/-- The transaction of a channel on a parity record: metadata, under tag 0 (R28), in class C1. -/
def Block.parityReq (b : Block) (d id : Nat) : BusReq := ⟨BitVec.ofNat 8 (9 + boothOf d / 2), 1, 0, b.parityAt id, 16512, 0, false⟩
/-- A page's transfer has completed: its bytes enter the record (R319). What the XOR leaves there is not interpreted. -/
def Block.addToGroup (b : Block) (d blk page : Nat) : Block :=
  let b := match b.grpOf d blk page with
    | some g => (b.memMeet (b.parityReq d g.id) true).2
    | none => b
  b.onFc (fun e => { e with grps := e.grps.map (fun (y : ParGrp) =>
    if y.members.contains (d, blk, page) then { y with added := (d, blk, page) :: y.added } else y) })

/-- A page's group is held with its record whole, and not lost (R316, R324). -/
def Block.groupHeld (b : Block) (d blk page : Nat) : Bool :=
  match b.grpOf d blk page with
  | some g => !g.lost && g.members.all (fun m => g.added.contains m)
  | none => false

/-- Units with an extent on a page. -/
def Block.unitsOnPage (b : Block) (d blk page : Nat) : List Nat :=
  ((b.mappedOn (d * 4096 + blk)).filter (fun e => decide (lSlot e.2 / 64 ≤ page ∧ page ≤ (lSlot e.2 + lLen e.2 - 1) / 64))).map (·.1)

end Sys2Proof.Machine
end

