-- ==== Sys2Proof/Machine/Cz.lean ====
section
/-! DEFINITION. The compression engine (chapter 7): descriptors, lanes and their tickets, stream slots, table sets, and how a
job ends. -/
namespace Sys2Proof.Machine

/-! ### Descriptors (R355, R356) -/

/-- OP: decompress -/
def jDecomp (d : BitVec 512) : Bool := d.getLsbD 0
/-- MODE: stream -/
def jStream (d : BitVec 512) : Bool := d.getLsbD 1
/-- FORMAT -/
def jFormat (d : BitVec 512) : Nat := dget d 2 4
/-- TABLE -/
def jTable (d : BitVec 512) : Nat := dget d 5 8
/-- FLUSH -/
def jFlush (d : BitVec 512) : Nat := dget d 9 10
/-- NEW -/
def jNew (d : BitVec 512) : Bool := d.getLsbD 11
/-- CHECK -/
def jCheck (d : BitVec 512) : Bool := d.getLsbD 12
/-- TENANT -/
def jTenant (d : BitVec 512) : Nat := dget d 13 18
/-- CLASS -/
def jClass (d : BitVec 512) : Nat := dget d 19 20
/-- SLOT -/
def jSlot (d : BitVec 512) : Nat := dget d 32 45
/-- IN_ADDR -/
def jIn (d : BitVec 512) : Nat := dget d 64 111
/-- OUT_ADDR -/
def jOut (d : BitVec 512) : Nat := dget d 128 175
/-- IN_LEN -/
def jInLen (d : BitVec 512) : Nat := dget d 192 215
/-- OUT_LEN -/
def jOutLen (d : BitVec 512) : Nat := dget d 224 247
/-- OUT_MAX -/
def jOutMax (d : BitVec 512) : Nat := dget d 256 295
/-- EXP_CRC -/
def jExpCrc (d : BitVec 512) : W32 := BitVec.ofNat 32 (dget d 320 351)
/-- COOKIE -/
def jCookie (d : BitVec 512) : Nat := dget d 352 383

/-- The reserved bits of a descriptor. -/
def jReserved : List (Nat × Nat) :=
  [(21, 31), (46, 63), (112, 127), (176, 191), (216, 223), (248, 255), (296, 319), (384, 511)]

/-- BAD_JOB (R356). -/
def Block.badJob (b : Block) (d : BitVec 512) : Bool :=
  let comp := !jDecomp d
  jReserved.any (fun r => dget d r.1 r.2 != 0)
  || decide (jFormat d > 3) || decide (jTable d > 8) || decide (jFlush d = 3)
  || decide (jInLen d > 4194304) || decide (jOutLen d = 0) || decide (jOutLen d > 4194304)
  || (comp && decide (jFormat d = 3))
  || (!comp && decide (jTable d ≠ 0))
  || (decide (jFlush d ≠ 0) && !(comp && jStream d))
  || (decide (jInLen d = 0) && !(comp && jStream d && decide (jFlush d ≠ 0)))
  || (jCheck d && !(!comp && !jStream d))
  || (!jStream d && (jNew d || decide (jSlot d ≠ 0)))
  || (jStream d && decide (jSlot d ≥ b.rdF (pgCz + 0x118) 0 14))

/-! ### Lanes (R343, R360-R362) -/

/-- The index of a lane in the table: compressor n is n, decompressor n is 64 + n. -/
def laneIx (decomp : Bool) (n : Nat) : Nat := if decomp then 64 + n else n
/-- Present lanes of a kind. -/
def Block.lanesOf (b : Block) (decomp : Bool) : Nat := (if decomp then 16 else 8) * b.variant.groups
/-- A lane. -/
def Block.lane (b : Block) (decomp : Bool) (n : Nat) : Lane := smGet {} b.cz.lanes (laneIx decomp n)
/-- Change a lane. -/
def Block.modLane (b : Block) (decomp : Bool) (n : Nat) (f : Lane → Lane) : Block :=
  b.onCz (fun e => { e with lanes := smSet {} e.lanes (laneIx decomp n) (f (b.lane decomp n)) })
/-- The port of a lane (R343). -/
def lanePort (decomp : Bool) (n : Nat) : Nat :=
  let k := if decomp then 16 else 8
  34 + 2 * (n / k) + (if n % k < k / 2 then 0 else 1)
/-- The ticket of a lane (R360). -/
def laneHolder (decomp : Bool) (n : Nat) : Holder := if decomp then .laneD n else .laneC n
/-- Lanes not power-gated (CZ.AWAKE). -/
def Block.awake (b : Block) (decomp : Bool) : Nat :=
  ((List.range (b.lanesOf decomp)).filter (fun n => (b.lane decomp n).awake)).length
/-- The free awake lane with the lowest number. -/
def Block.freeLane (b : Block) (decomp : Bool) : Option Nat :=
  (List.range (b.lanesOf decomp)).find? (fun n =>
    let l := b.lane decomp n
    l.awake && l.job.isNone && !l.dead)
/-- The gated lane with the lowest number that has no ticket request yet. -/
def Block.gatedLane (b : Block) (decomp : Bool) : Option Nat :=
  (List.range (b.lanesOf decomp)).find? (fun n =>
    let l := b.lane decomp n
    !l.awake && !l.dead && !b.holds (laneHolder decomp n) && !b.pa.waiting.any (fun t => t.who == laneHolder decomp n))

/-- The job comes from the flash translation engine. -/
def Submitter.isFt : Submitter → Bool
  | .ftCompress .. | .ftDecompress .. | .ftMerge .. => true
  | _ => false
/-- Lanes of a kind that run jobs of units other than the flash translation engine. -/
def Block.otherLanes (b : Block) (decomp : Bool) : Nat :=
  ((List.range (b.lanesOf decomp)).filter (fun n => ((b.lane decomp n).job).any (fun j => !j.who.isFt))).length
/-- The reserve of R359. -/
def Block.ftReserve (b : Block) (decomp : Bool) : Nat :=
  if decomp then b.rdF (pgCz + 0x100) 5 11 else b.rdF (pgCz + 0x100) 0 4
/-- Some lane runs a job for a slot. -/
def Block.slotRuns (b : Block) (s : Nat) : Bool :=
  b.cz.lanes.any (fun e => (e.2.job).any (fun j => jStream j.desc && jSlot j.desc == s))
/-- A job is for a slot that an earlier job still holds (R358). -/
def Block.slotHeld (b : Block) (j : LaneJob) : Bool :=
  jStream j.desc && (b.slotRuns (jSlot j.desc) ||
    b.cz.jobs.any (fun i => i.id < j.id && jStream i.desc && jSlot i.desc == jSlot j.desc))
/-- The class with which a job arbitrates. -/
def Block.jobCls (b : Block) (j : LaneJob) : Nat := if j.promoted then 0 else b.effCls (jClass j.desc) j.born
/-- A job comes before another: class, then age. -/
def Block.jobBefore (b : Block) (x y : LaneJob) : Bool :=
  b.jobCls x < b.jobCls y || (b.jobCls x == b.jobCls y && x.id < y.id)
/-- The job a free lane of a kind takes (R358, R359). -/
def Block.nextLaneJob (b : Block) (decomp : Bool) : Option LaneJob :=
  let room := decide (b.otherLanes decomp + b.ftReserve decomp < b.lanesOf decomp)
  let cands := b.cz.jobs.filter (fun j => jDecomp j.desc == decomp && !b.slotHeld j && (j.who.isFt || room))
  match cands with
  | [] => none
  | x :: xs => some (xs.foldl (fun a y => if b.jobBefore y a then y else a) x)
/-- A job leaves the queue. -/
def Block.unqueue (b : Block) (id : Nat) : Block := b.onCz (fun e => { e with jobs := e.jobs.filter (fun j => j.id ≠ id) })

/-! ### Stream slots (R367-R371) -/

/-- A stream slot. -/
def Block.slot (b : Block) (n : Nat) : Slot := smGet {} b.cz.slots n
/-- Change a stream slot. -/
def Block.modSlot (b : Block) (n : Nat) (f : Slot → Slot) : Block :=
  b.onCz (fun e => { e with slots := smSet {} e.slots n (f (b.slot n)) })
/-- The fabric address of a slot. -/
def Block.slotAddr (b : Block) (n : Nat) : Nat := b.rd64 (pgCz + 0x110) + n * 0x24000
/-- Word 0 of a slot. -/
def Slot.word (x : Slot) : W32 :=
  BitVec.ofNat 32 (x.state + (if x.decomp then 4 else 0) + x.format * 8 + x.table * 64 + (if x.blkOpen then 1024 else 0))
/-- A slot becomes INVALID: only its STATE is written (R371, R384). -/
def Block.invalidate (b : Block) (n : Nat) : Block :=
  let b := b.modSlot n (fun x => { x with state := 2 })
  (b.store (b.slotAddr n) 4 (b.slot n).word).raise pgCz 3
/-- A slot becomes IDLE. -/
def Block.idleSlot (b : Block) (n : Nat) : Block :=
  let b := b.modSlot n (fun x => { x with state := 0, blkOpen := false })
  b.store (b.slotAddr n) 4 (b.slot n).word
/-- Some slot is OPEN, or a stream job is pending or running (R383). -/
def Block.streamsBusy (b : Block) : Bool :=
  b.cz.slots.any (fun e => e.2.state == 1) || b.cz.jobs.any (fun j => jStream j.desc) ||
    b.cz.lanes.any (fun e => (e.2.job).any (fun j => jStream j.desc))
/-- A slot is OPEN, or a job for it is pending or running (R383). -/
def Block.slotBusy (b : Block) (n : Nat) : Bool :=
  (b.slot n).state == 1 || b.slotRuns n || b.cz.jobs.any (fun j => jStream j.desc && jSlot j.desc == n)

/-! ### How a job ends (R357, R378) -/

/-- The end of a job. -/
structure JobEnd where
  /-- STATUS -/
  status : Nat
  /-- lane and kind, where one ran it -/
  lane : Nat := 0
  /-- KIND -/
  decomp : Bool := false
  /-- TRAILING -/
  trailing : Bool := false
  /-- INVALID -/
  invalid : Bool := false
  /-- IN_USED -/
  inUsed : Nat := 0
  /-- OUT_USED -/
  outUsed : Nat := 0
  /-- CRC -/
  crc : W32 := 0
  /-- OUT_TOTAL -/
  outTotal : Nat := 0
deriving DecidableEq, Repr

/-- The 32-byte completion (R357). -/
def JobEnd.words (e : JobEnd) (cookie : Nat) : BitVec 256 :=
  BitVec.ofNat 256 (e.status % 256 + (if e.trailing then 256 else 0) + (if e.invalid then 512 else 0)
    + (e.lane % 128) * 2 ^ 16 + (if e.decomp then 2 ^ 23 else 0) + cookie * 2 ^ 32 + (e.inUsed % 2 ^ 24) * 2 ^ 64
    + (e.outUsed % 2 ^ 24) * 2 ^ 96 + e.crc.toNat * 2 ^ 128 + (e.outTotal % 2 ^ 40) * 2 ^ 160)

/-- The DETAIL of a CZ record (R379). -/
def czDetail (d : BitVec 512) (e : JobEnd) : BitVec 192 :=
  detailOf [(0, jCookie d), (4, jSlot d), (6, e.inUsed % 2 ^ 24), (9, e.outUsed % 2 ^ 24)]
/-- The record of a job's end, where its status writes one (R378). -/
def Block.jobRecord (b : Block) (pg : Nat) (d : BitVec 512) (e : JobEnd) (a : FAddr) : Block :=
  if e.status < 0x10 ∨ e.status = 0x26 ∨ e.status = 0x27 then b.onIf (e.status == 0x26) (fun b => b.raise pgCz 4)
  else b.record pg { code := 0x100 + e.status, sev := if e.status = 0x30 then .unitFatal else .contained,
                     tenant := BitVec.ofNat 6 (jTenant d), addr := some a, detail := czDetail d e }

/-- The checks of a job at its grant: TENANT (R370), STREAM_STATE (R369), TABLE_EMPTY (R378). -/
def Block.grantCheck (b : Block) (d : BitVec 512) : Option Nat :=
  let x := b.slot (jSlot d)
  if jStream d && decide (jTenant d ≠ 0) && decide (jTenant d ≠ x.owner.toNat) then some 0x21
  else if jStream d && !jNew d && (x.state != 1 || x.decomp != jDecomp d || x.format != jFormat d) then some 0x24
  else if !jDecomp d && decide (jTable d ≠ 0) && (smFind b.cz.tables (jTable d)).isNone then some 0x25
  else none

/-- The lane's counters at a job's end (R382). -/
def Block.laneCount (b : Block) (pg inU outU : Nat) : Block :=
  let b := b.inc (pg + 0x108)
  let b := b.wr64 (pg + 0x110) (min (b.rd64 (pg + 0x110) + inU) (2 ^ 64 - 1))
  b.wr64 (pg + 0x118) (min (b.rd64 (pg + 0x118) + outU) (2 ^ 64 - 1))

/-- The lane that ran a job is free again. -/
def Block.freeTheLane (b : Block) (decomp : Bool) (n : Nat) : Block :=
  let b := b.modLane decomp n (fun l => { l with job := none, image := none, idle := b.usec })
  b.onCz (fun e => { e with oldImage := e.oldImage.filter (· ≠ laneIx decomp n) })

/-- Every ended job but the flash translation engine's hands its completion to its submitter (R354). -/
def Block.handOver (b : Block) (j : LaneJob) (e : JobEnd) : Block :=
  let w := e.words (jCookie j.desc)
  match j.who with
  | .firmware =>
    let b := b.each (List.range 8) (fun b k => b.wr (pgCz + 0x260 + 4 * k) ((w >>> (32 * k)).setWidth 32))
    (b.wrF (pgCz + 0x244) 0 0 0).raise pgCz 0
  | .dma ch =>
    b.onDm (fun d => { d with chans := smMod d.chans ch (fun c =>
      match c.jobs.find? (fun x => x.1 == j.id) with
      | some x => { c with ended := c.ended ++ [(x.2, w)], jobs := c.jobs.filter (fun y => y.1 ≠ j.id) }
      | none => c) })
  | .ftCompress .. | .ftDecompress .. | .ftMerge .. | .other _ => b

/-! ### Table sets (R351-R353, R782) -/

/-- Nibble `n` of the code lengths. -/
def nib (t : BitVec 1280) (n : Nat) : Nat := (t.toNat >>> (4 * n)) % 16
/-- CZ.TBL_DATA0-39 as one value. -/
def Block.tblData (b : Block) : BitVec 1280 :=
  BitVec.ofNat 1280 (((List.range 40).map (fun k => (b.rd (pgCz + 0x140 + 4 * k)).toNat * 2 ^ (32 * k))).sum)
/-- The Kraft sum of nibbles [lo, hi), in units of 2^-15. -/
def kraft (t : BitVec 1280) (lo hi : Nat) : Nat := ((List.range (hi - lo)).map (fun k => 2 ^ (15 - nib t (lo + k)))).sum
/-- RESULT of a commit (R351). -/
def tblResult (t : BitVec 1280) : Nat :=
  if (List.range 316).any (fun n => nib t n == 0) || (List.range 4).any (fun n => nib t (316 + n) != 0) then 1
  else if kraft t 0 286 ≠ 2 ^ 15 ∨ kraft t 286 316 ≠ 2 ^ 15 then 2 else 0

/-- `n` bits of a number, least significant first. -/
def lsbBits (n v : Nat) : List Bool := (List.range n).map (fun k => v.testBit k)
/-- A code-length symbol in the fixed code of R782, first bit first: symbols 1-12 and 16 have length 4, the others 5. -/
def clWord (s : Nat) : List Bool :=
  if 1 ≤ s ∧ s ≤ 12 then (lsbBits 4 (s - 1)).reverse
  else if s = 16 then (lsbBits 4 12).reverse
  else (lsbBits 5 (if s = 0 then 26 else if s < 16 then s + 14 else s + 13)).reverse
/-- A run of `r` further equal lengths: symbol 16 with two extra bits while three or more are left. -/
def runWords (l : Nat) : Nat → Nat → List Bool
  | 0, r => (List.replicate r (clWord l)).flatten
  | fuel + 1, r =>
    if r ≥ 3 then clWord 16 ++ lsbBits 2 (min 6 r - 3) ++ runWords l fuel (r - min 6 r) else (List.replicate r (clWord l)).flatten
/-- The walked sequence of lengths: a length `l` that has been followed by `r` more. -/
def seqWords : List Nat → Nat → Nat → List Bool
  | [], l, r => clWord l ++ runWords l 320 r
  | x :: xs, l, r => if x = l then seqWords xs l (r + 1) else clWord l ++ runWords l 320 r ++ seqWords xs x 0
/-- The lengths of the code-length code, in the order RFC 1951 sends them. -/
def clSent : List Nat := [16, 17, 18, 0, 8, 7, 9, 6, 10, 5, 11, 4, 12, 3, 13, 2, 14, 1, 15].map (fun s => (clWord s).length)
/-- The header of a dynamic block coded with a table set (R782). -/
def setHdr (t : BitVec 1280) (last : Bool) : List Bool :=
  last :: lsbBits 2 2 ++ lsbBits 5 29 ++ lsbBits 5 29 ++ lsbBits 4 15 ++ clSent.flatMap (lsbBits 3)
    ++ seqWords ((List.range 315).map (fun k => nib t (k + 1))) (nib t 0) 0
/-- The length of that header in bits (HDR_BITS). -/
def hdrBits (t : BitVec 1280) : Nat := (setHdr t false).length
/-- A stream slot records an open block coded with a set (R353). -/
def Block.tblInUse (b : Block) (s : Nat) : Bool := b.cz.slots.any (fun e => e.2.blkOpen && e.2.state == 1 && e.2.table == s)
/-- Lanes whose running job uses a set hold its older image from now on (R352). -/
def Block.holdImage (b : Block) (s : Nat) : Block :=
  let ls := (b.cz.lanes.filter (fun e => (e.2.job).any (fun j => !jDecomp j.desc && jTable j.desc == s))).map (·.1)
  b.onCz (fun e => { e with oldImage := e.oldImage ++ ls.filter (fun x => !e.oldImage.contains x) })

end Sys2Proof.Machine
end

