-- ==== Sys2Proof/Machine/Ends.lean ====
section
/-! DEFINITION. How commands end (chapter 3): they leave the table, their pieces end or persist, and their completions are posted. -/
namespace Sys2Proof.Machine

/-- The pieces of a command that have not reached the durable point end with it; their reservations are released (R156), and pieces that
waited behind them go on (R230). -/
def Block.dropPieces (b : Block) (seq : Nat) : Block :=
  (b.onFt (fun t => { t with pieces := t.pieces.filter (fun p => p.seq ≠ seq || p.durable) })).stageReady

/-- An operation serves a command. -/
def Purpose.isFor (p : Purpose) (seq : Nat) : Bool :=
  match p with
  | .unit s _ _ _ => s == seq
  | _ => false

/-- What a command still holds goes: its pieces that are not durable, its queued media operations and its R2Ts. -/
def Block.dropWork (b : Block) (seq : Nat) : Block :=
  let b := b.dropPieces seq
  let b := b.each (b.fc.ops.filter (fun o => decide (o.stage = .queued) && o.why.isFor seq)) (fun b o => b.dropOp o.id)
  b.onFp (fun e => { e with sess := e.sess.map (fun x => (x.1, { x.2 with r2ts := x.2.r2ts.filter (fun r => r.seq ≠ seq) })) })
/-- The internal commands of a Memory Copy go with it. -/
def Block.endKids (b : Block) (p : Nat) : Block :=
  let kids := (b.ce.cmds.filter (fun c => decide (c.src = .internal p))).map (·.seq)
  let b := (b.each kids Block.dropWork).onCe (fun e => { e with cmds := e.cmds.filter (fun c => decide (c.src ≠ .internal p)) })
  b.keepLanes (fun f => decide (f.src ≠ .internal p))
/-- A command leaves the table with success or failure: its entries are free, and its followers learn of it (R113, R118). -/
def Block.leave (b : Block) (seq : Nat) (failed : Bool) : Block :=
  let src := (b.ce.cmds.find? (fun c => c.seq == seq)).map (·.src)
  let f := fun (c : Cmd) =>
    if c.preds.contains seq then { c with preds := c.preds.filter (· ≠ seq), predFailed := c.predFailed || failed } else c
  let g := fun (x : Fetched) => if src = some x.src then { x with predFailed := x.predFailed || failed } else x
  ((b.endKids seq).dropWork seq).onCe (fun e => { e with
    cmds := (e.cmds.filter (fun c => c.seq ≠ seq)).map f
    lanes := e.lanes.map g })

/-- The state of a command that has ended while its completion waits: a write is durable, and a read has sent its data (R126). -/
def Cmd.endSt (c : Cmd) (st : Stat) : CmdState :=
  if st.failed then c.st else if c.op.isWrite then .writeDurable else if c.op.isRead then .readSending else c.st
/-- A host command ends. Its completion is posted and its entries leave the table with it; while its completion queue is full it stays in
the table (R113). A completion that is lost with its connection is discarded (R201). -/
def Block.endCmd (b : Block) (c : Cmd) (qc : Nat) (dw0 : W32) (st : Stat) (posted : Bool) : Block :=
  let tcp := qIsTcp (b.qc qc)
  if tcp && !posted then b.leave c.seq true else
  let b := b.countFail qc st
  let w : CqEntry := ⟨qc, dw0, if qFsnRpt (b.qc qc) then BitVec.ofNat 32 c.seq else 0, c.cid, st, posted && c.posted, some c.seq⟩
  if b.cqFull qc then
    let b := (b.endKids c.seq).dropWork c.seq
    (b.modCmd c.seq (fun d => { d with fin := true, st := d.endSt st, pages := [], waits := [], ready := [], owed := 0 })).post w
  else (b.leave c.seq st.failed).post w

/-- An internal command of a Memory Copy is still fetched or in flight. -/
def Block.hasKids (b : Block) (p : Nat) : Bool :=
  b.ce.cmds.any (fun c => decide (c.src = .internal p)) || b.ce.lanes.any (fun f => decide (f.src = .internal p))
/-- A Memory Copy learns of the end of one of its internal commands: it ends with the first failure, or with the last. -/
def Block.childDone (b : Block) (p : Nat) (st : Stat) : Block :=
  match b.cmd p with
  | some c => match c.src with
    | .queue qc => if st.failed || !b.hasKids p then b.endCmd c qc 0 st true else b
    | _ => b
  | none => b

/-- A command ends and its completion is posted (R113); `posted` is false where host memory does not take the entry (R152) or the
connection is lost in the same clock (R201), `result` is the RESULT of a local queue completion (R143), and `dw0` is DW0 of a queue's. -/
def Block.complete (b : Block) (seq : Nat) (st : Stat) (posted : Bool := true) (result : Nat := 0) (dw0 : W32 := 0) : Block :=
  match b.cmd seq with
  | none => b
  | some c => match c.src with
    | .queue qc => b.endCmd c qc dw0 st posted
    | .localQ ctx => (b.leave seq st.failed).postLq ctx c.cid seq result st
    | .internal p => (b.leave seq st.failed).childDone p st

/-- Completions that wait for room and match a test are dropped, and their commands leave the table. -/
def Block.dropWaits (b : Block) (p : CqEntry → Bool) : Block :=
  let gone := (b.ce.cqWait.filter p).filterMap (·.seq)
  (b.onCe (fun e => { e with cqWait := e.cqWait.filter (fun w => !p w) })).each gone (fun b s => b.leave s true)
/-- One waiting completion is posted if its queue has room, and its command leaves the table. -/
def Block.drainOne (b : Block) (w : CqEntry) : Block :=
  if cqRoom (b.qc (qCqCtx (b.qc w.qc))) then
    let b := (b.onCe (fun e => { e with cqWait := e.cqWait.erase w })).writeCqe w
    match w.seq with
    | some s => b.leave s w.st.failed
    | none => b
  else b
/-- The completions that wait for room in a completion queue are posted while there is room. -/
def Block.drainCq (b : Block) (cq : Nat) : Block := b.each (b.ce.cqWait.filter (fun w => qCqCtx (b.qc w.qc) == cq)) Block.drainOne

/-- Bytes of a command's ranges. -/
def Block.cmdBytes (b : Block) (c : Cmd) : Nat := (c.ranges.map (·.2)).sum * b.lbaSize (c.nsid - 1)
/-- The Big Top port that moves a queue's host data (R13, R16): that of the Ethernet port of its session, else the first host port (DESIGN
CHOICE, log entry 59: which of ports 0-2 serves a link is not given). -/
def Block.dataPort (b : Block) (qc : Nat) : Nat :=
  if qIsTcp (b.qc qc) then 3 + ((smFind b.fp.sess (qSession (b.qc qc))).elim 0 (fun x => x.flow.lport.toNat)) / 8 else 0
/-- The data digest that goes with read data (R191): one PDU's over all of it. -/
def Block.sentDigest (b : Block) (qc : Nat) (data : Bytes) (n : Nat) : Option W32 :=
  if qIsTcp (b.qc qc) && (smFind b.fp.sess (qSession (b.qc qc))).any (·.digests.2) then some (crc32c (denseBytes data n)) else none
/-- Read data leaves staging for the host (R16, R37, R194), or for the memory a Memory Copy names. -/
def Block.sendRead (b : Block) (c : Cmd) : Block :=
  let n := b.cmdBytes c
  let data := b.bufData c.pages 0 n
  match c.src with
  | .queue qc => (b.bufRead (b.dataPort qc) 1 c.tenant c.pages 0 n).send (.readData qc c.cid n data (b.sentDigest qc data n))
  | .localQ _ => b
  | .internal _ => (b.storeBytes c.buf ((List.range n).map (smGet 0 data))).cleanWhole c.buf n

/-- A command ends without a completion, as a reset ends it (R127); a local queue posts Command Abort Requested. -/
def Block.endByReset (b : Block) (c : Cmd) : Block :=
  match c.src with
  | .queue _ | .internal _ => b.leave c.seq true
  | .localQ ctx => (b.leave c.seq true).postLq ctx c.cid c.seq 0 (statU 0 0x07)

end Sys2Proof.Machine
end

