-- ==== Sys2Proof/Machine/Flow.lean ====
section
/-! DEFINITION. How commands enter, start, move their data and end (chapters 3 to 5). -/
namespace Sys2Proof.Machine

/-! ### Entry checks -/

/-- An I/O command's operation, by opcode and transport; the ordered opcodes of R115 count as their plain ones. -/
def opOf (src : CmdSrc) (e : Sqe) : Option CmdOp :=
  if e.prog.isSome then some .program else
  match src with
  | .localQ _ => match e.opc.toNat with
    | 0x00 => some .flush | 0x01 => some .write | 0x02 => some .read | 0x09 => some .dealloc | _ => none
  | .queue _ | .internal _ => match e.opc.toNat with
    | 0x00 | 0x85 => some .flush
    | 0x01 | 0x81 => some .write
    | 0x02 | 0x82 => some .read
    | 0x05 => some .compare
    | 0x08 => some (.zeroes e.deac)
    | 0x09 => some .dealloc
    | 0x0C => some .verify
    | _ => none

/-- The opcode is one of the ordered ones (R115), or ORD of a local queue command is set. -/
def opOrdered (src : CmdSrc) (e : Sqe) : Bool :=
  match src with
  | .localQ _ => e.ord
  | .queue _ | .internal _ => e.opc == 0x81 || e.opc == 0x82 || e.opc == 0x85

/-- A data descriptor is one the host port accepts: PRPs, and Data Block, Segment and Last Segment descriptors with dword-aligned addresses
(R169; that another address ends the command too is DEDUCED, log entry 59). -/
def Desc.ok (d : Desc) : Bool :=
  match d.kind with
  | .prp => true
  | .dataBlock | .segment _ => d.addr.toNat % 4 == 0
  | .bitBucket | .keyed => false
/-- The data pointer and the metadata pointer are ones the port of the command's queue accepts (R169). -/
def Block.ptrsOk (b : Block) (src : CmdSrc) (e : Sqe) : Bool :=
  match src with
  | .queue q => if qIsPcie (b.qc q) then e.ptrs.all Desc.ok else !e.mptr
  | _ => true
/-- The operation moves data that the data pointer names. -/
def CmdOp.usesPtr : CmdOp → Bool
  | .read | .write | .compare | .dealloc => true
  | _ => false

/-- LBA ranges of a command. -/
def sqeRanges (op : CmdOp) (src : CmdSrc) (e : Sqe) : List (Nat × Nat) :=
  match op, src with
  | .flush, _ | .program, _ => []
  | .dealloc, .queue _ => e.ranges.map (fun r => (r.1.toNat, r.2.toNat))
  | _, _ => [(e.slba.toNat, e.count.toNat)]

/-- The status with which the flash translation engine's mode ends a command at its fetch (R249, R270, R273, R275, R278). -/
def Block.modeStat (b : Block) (op : CmdOp) (nsid : Nat) : Option Stat :=
  if b.ft.san.isSome then some (statU 0 0x1D)
  else if b.ft.sanFailed then some (statU 0 0x1C)
  else if b.rdF (pgFt + 0x100) 0 2 = 5 then some (stat 0 0x82 false)
  else if b.ft.fmt.any (fun f => f.nsx + 1 == nsid) then some (statU 0 0x84)
  else if b.ft.eol && op.isWrite then some (stat 2 0x80 true)
  else none

/-- A range runs past the namespace: the NVMe standard's LBA Out of Range, PRESUMED, log entry 22. -/
def Block.rangeBad (b : Block) (nsid : Nat) (r : Nat × Nat) : Bool :=
  let n := smGet 0 b.ft.nsze (nsid - 1)
  decide (n ≠ 0) && decide (r.1 + r.2 > n)

/-- The status with which a command's fields end it before it starts, if any: NSID (R98), the mode, the data pointer (R169), the range, and
the transfer limits (R165, R108). -/
def Block.entryStat (b : Block) (src : CmdSrc) (e : Sqe) (op : CmdOp) (t : Nat) : Option Stat :=
  let nsid := e.nsid.toNat
  let rs := sqeRanges op src e
  if !(b.nsidOk nsid t || (decide (op = .flush) && e.nsid == 0xFFFFFFFF)) then some (statU 0 0x0B)
  else match b.modeStat op nsid with
    | some s => some s
    | none =>
      if op.usesPtr && !b.ptrsOk src e then some (statU 0 0x02)
      else if rs.any (b.rangeBad nsid) then some (statU 0 0x80)
      else if (decide (op = .read) || decide (op = .write) || decide (op = .compare)) &&
          decide ((rs.map (·.2)).sum * b.lbaSize (nsid - 1) > 2 ^ 20) then some (statU 0 0x02)
      else if decide (op = .dealloc) && decide (rs.length > 256) then some (statU 0 0x02)
      else none

/-- The status with which a command ends once it starts, if it is settled as it is sequenced: at its fetch, by FUSE (R108), by an opcode
outside the set, by the entry checks, or as a Dataset Management without deallocate (R108). -/
def Block.fateOf (b : Block) (f : Fetched) : Option Stat :=
  if f.ended.isSome then f.ended
  else if f.sqe.fuse ≠ 0 then some (statU 0 0x02)
  else match opOf f.src f.sqe with
    | none => some (statU 0 0x01)
    | some .program => none
    | some op => match b.entryStat f.src f.sqe op (b.srcTenant f.src) with
      | some s => some s
      | none => match op, f.src with
        | .dealloc, .queue _ => if f.sqe.deac then none else some stOk
        | _, _ => none

/-! ### Reads -/

/-- The byte range of an LBA range. -/
def Block.byteRange (b : Block) (nsx : Nat) (r : Nat × Nat) : Nat × Nat := (r.1 * b.lbaSize nsx, r.2 * b.lbaSize nsx)
/-- Units a command's ranges touch. -/
def Block.cmdUnits (b : Block) (c : Cmd) : List Nat :=
  (c.ranges.flatMap (fun r =>
    let x := b.byteRange (c.nsid - 1) r
    let u := unitsOf x.1 x.2
    (List.range (u.2 - u.1)).map (· + u.1))).eraseDups
/-- The part of a unit a read covers: first byte and one past the last, in the unit. -/
def Block.readPart (b : Block) (c : Cmd) (u : Nat) : Nat × Nat :=
  match c.ranges with
  | r :: _ => let x := b.byteRange (c.nsid - 1) r; unitPart x.1 x.2 u
  | [] => (0, 0)

/-- The completion of a local queue READ that failed at a unit: RESULT counts the leading units that passed (R637). -/
def Block.leadBytes (b : Block) (c : Cmd) (u : Nat) : Nat :=
  16384 * ((b.cmdUnits c).takeWhile (fun v => decide (v ≠ u) && !c.waits.contains v)).length

/-- A unit of a read cannot be served: the command ends. -/
def Block.failUnit (b : Block) (seq u : Nat) (st : Stat) : Block :=
  match b.cmd seq with
  | none => b
  | some c => b.complete seq st true (b.leadBytes c u)

/-- The status of a failed protection information check (R171). -/
def piStat (pi : Nat) : Stat := statU 2 (0x81 + pi)
/-- The host port of a queue's function: link B for PF B and global VFs 32-63 when the port is split. -/
def Block.linkOf (b : Block) (cntlid : Nat) : Nat :=
  if b.hp.split.getD false && (cntlid == 0x40 || (decide (32 ≤ cntlid) && decide (cntlid ≤ 63))) then 1 else 0
/-- The host address of a byte of a command's data, along its PRPs or Data Block descriptors. -/
def hostAddr : List Desc → Nat → Option Nat
  | [], _ => none
  | d :: ds, off =>
    if d.kind = .prp ∨ d.kind = .dataBlock then
      if off < d.len.toNat then some (d.addr.toNat + off) else hostAddr ds (off - d.len.toNat)
    else hostAddr ds off
/-- A record of the host port (R204) about the byte at an offset of the command's data; the host address is a free value where the
descriptors given do not reach that byte. -/
def Block.hpRecord (b : Block) (qc seq off code : Nat) : Block :=
  let q := b.qc qc
  let (v, b) := b.free
  let a : W64 := match (b.cmd seq).bind (fun c => hostAddr c.ptrs off) with
    | some n => BitVec.ofNat 64 n
    | none => v
  b.record (pageBase .hp (b.linkOf (qCntlid q)))
    { code := code, sev := .contained, tenant := BitVec.ofNat 6 (qTenant q),
      detail := detailOf [(0, qc % 65536), (4, seq % 2 ^ 32), (8, a.toNat)] }

/-- Every unit of a read-class command has arrived and passed its check. A word of the buffer that staging has lost since ends the command
as a poisoned range does (DEDUCED, log entry 59). -/
def Block.finishRead (b : Block) (seq : Nat) : Block :=
  match b.cmd seq with
  | none => b
  | some c =>
    if c.owed ≠ 0 then b else
    if !(b.bufPoison c.pages 0 (b.cmdBytes c)).isEmpty then b.complete seq (stat 7 0xC2 true) else
    match c.op with
    | .read =>
      if c.pi ≠ 0 then
        let b := match c.src with
          | .queue qc => b.hpRecord qc seq 0 0x0102
          | _ => b
        b.complete seq (piStat c.pi)
      else (b.sendRead c).complete seq stOk true (b.cmdBytes c)
    | .compare => b.complete seq (if b.bufData c.pages 0 (b.cmdBytes c) = c.capsule.getD [] then stOk else statU 2 0x85)
    | _ => b.complete seq stOk

/-- A unit's contents have arrived for a read through a port: the covered part goes into its buffer in staging; POISON where a poisoned
LBA is covered (R233). -/
def Block.unitArrived (b : Block) (seq u : Nat) (data : Bytes) (pmask : W32) (port : Nat) : Block :=
  match b.cmd seq with
  | none => b
  | some c =>
    let (lo, hi) := b.readPart c u
    if pmask &&& lbaTouch (b.lbaSize (c.nsid - 1)) lo hi ≠ 0 then b.failUnit seq u (stat 7 0xC2 true)
    else
      let first := match c.ranges with
        | r :: _ => (b.byteRange (c.nsid - 1) r).1
        | [] => 0
      let b := b.onIf (!c.pages.isEmpty)
        (fun b => b.bufWrite port 1 c.tenant c.pages (u * 16384 + lo - first) (hi - lo) (cut data lo hi 0))
      let b := b.modCmd seq (fun c => { c with waits := c.waits.filter (· ≠ u) })
      b.onIf ((b.cmd seq).any (fun c => c.waits.isEmpty)) (fun b => b.finishRead seq)

/-- A unit of a local queue READ is ready for delivery (R636). -/
def Block.unitReady (b : Block) (seq u : Nat) (x : Option Ext) (rung : Nat := 0) : Block :=
  b.modCmd seq (fun c => { c with ready := c.ready ++ [(u, x, rung)] })

/-- The class of a command's media operations (R24, R147). -/
def Cmd.cls (c : Cmd) : Nat :=
  match c.src with
  | .queue _ => 1
  | .localQ _ | .internal _ => 2

/-- Serve one unit of a read (R227, R221, R337, R300): the newest staged version, once its merge has ended, else what the map names. An
entry that DRAM has lost ends the read as unrecovered (DEDUCED, log entry 59). -/
def Block.readUnit (b : Block) (seq u : Nat) : Block :=
  match b.cmd seq with
  | none => b
  | some c =>
    let nsx := c.nsid - 1
    let isLocal := match c.src with
      | .localQ _ => true
      | _ => false
    match b.newest nsx u with
    | some s =>
      if s.phase = .merging then b
      else if isLocal then b.unitReady seq u none else b.unitArrived seq u (b.stagedBytes s) (b.stagedMask s) ftPort
    | none =>
      let (ok, b) := b.mapLook (mkey nsx u)
      let e := b.mapGet (mkey nsx u)
      if !ok then b.failUnit seq u (statU 2 0x81)
      else if lFlag e then
        if e = locPoison then b.failUnit seq u (stat 7 0xC2 true)
        else if isLocal then b.unitReady seq u none else b.unitArrived seq u [] 0 ftPort
      else if b.boothOffline (boothOf (lDie e)) then b.failUnit seq u (stat 7 0xC5 false)
      else if !((b.die (lDie e)).inService || (b.die (lDie e)).retired || (b.die (lDie e)).stopped) then b.failUnit seq u (statU 2 0x81)
      else b.postReads (.unit seq nsx u e) e c.cls 0
/-- The reads that wait for a unit's merge are served. -/
def Block.serveReads (b : Block) (nsx u : Nat) : Block :=
  b.each (b.ce.cmds.filter (fun c => c.started && c.op.isRead && c.nsid == nsx + 1 && c.waits.contains u)) (fun b c => b.readUnit c.seq u)
/-- A merge has its old contents, or none (R232). -/
def Block.mergeDone (b : Block) (seq idx nsx u : Nat) (old : Option (Bytes × W32)) : Block :=
  match b.stagedAt seq idx u with
  | some s => (b.mergeEnd s old).serveReads nsx u
  | none => b

/-! ### Writes -/

/-- Cut a byte range into pieces of 256 KiB (R121), given room for `n` pieces. -/
def cutPieces : Nat → Nat → Nat → List (Nat × Nat)
  | 0, _, _ => []
  | n + 1, off, len => if len = 0 then [] else (off, min len 262144) :: cutPieces n (off + 262144) (len - 262144)
/-- The pieces of a command's ranges, each with the range it is cut from. -/
def Block.piecesOf (b : Block) (c : Cmd) : List ((Nat × Nat) × Nat × Nat) :=
  c.ranges.flatMap (fun r =>
    let x := b.byteRange (c.nsid - 1) r
    (cutPieces (x.2 / 262144 + 1) x.1 x.2).map (fun p => (p, x.1, x.1 + x.2)))
/-- The kind of piece an operation makes. -/
def CmdOp.pieceKind : CmdOp → PieceKind
  | .zeroes deac => if deac then .dealloc else .zero
  | .dealloc => .dealloc
  | _ => .data
/-- A write-class command asks for its pieces (R121, R154); one without a piece completes. -/
def Block.askPieces (b : Block) (c : Cmd) : Block :=
  let ps := (b.piecesOf c).zipIdx.map (fun x =>
    (⟨c.seq, x.2, c.nsid - 1, c.tenant, c.op.pieceKind, x.1.1.1, x.1.1.2, x.1.2, none, b.usec, false, [], 0, 0, false, false⟩ : Piece))
  if ps.isEmpty then b.complete c.seq stOk else b.onFt (fun t => { t with pieces := t.pieces ++ ps })

/-- Every piece of a write-class command is durable: it completes (R122). -/
def Block.afterDurable (b : Block) (seq : Nat) (posted : Bool := true) : Block :=
  let ps := b.ft.pieces.filter (fun p => p.seq == seq)
  if ps.all (·.durable) then (b.modCmd seq (fun c => { c with st := .writeDurable })).complete seq stOk posted
  else b.modCmd seq (fun c => { c with st := .writePartial })

/-- The first byte of a command's data in its namespace. -/
def Block.cmdStart (b : Block) (c : Cmd) : Nat := (c.ranges.head?).elim 0 (fun r => (b.byteRange (c.nsid - 1) r).1)

/-- R2Ts of a piece that holds its reservation, in offset order, within the limits of R189. -/
def Block.issueR2ts (b : Block) (sess seq idx : Nat) : Nat → Block
  | 0 => b
  | n + 1 =>
    match smFind b.fp.sess sess, b.piece seq idx, b.cmd seq with
    | some s, some p, some c =>
      let out := (s.r2ts.filter (fun r => r.seq == seq)).length
      let limit := min (s.maxR2t + 1) (b.rdF (pageBase .fpCtl 0 + 0x100) 4 7)
      if p.r2tOff ≥ p.len ∨ out ≥ limit then b
      else
        let len := min (p.len - p.r2tOff) ((b.rdF (pageBase .fpCtl 0 + 0x100) 0 3 + 1) * 4096)
        let off := p.off - b.cmdStart c + p.r2tOff
        let b := b.send (.r2t sess c.cid off len)
        let b := b.onFp (fun f => { f with sess := smMod f.sess sess (fun x => { x with r2ts := x.r2ts ++ [⟨seq, idx, off, len, b.usec⟩] }) })
        (b.modPiece seq idx (fun q => { q with r2tOff := q.r2tOff + len })).issueR2ts sess seq idx n
    | _, _, _ => b

/-- R2Ts of every piece of a command that holds its reservation, in offset order (R189). -/
def Block.issueAll (b : Block) (sess seq : Nat) : Block :=
  b.each (b.ft.pieces.filter (fun p => p.seq == seq && p.resv.isSome)) (fun b p => b.issueR2ts sess seq p.idx 8)

/-- Data lands in the staging pages of a piece through a port (R16); the last byte brings it to the durable point. -/
def Block.land (b : Block) (port seq idx off len : Nat) (data : Bytes) (posted : Bool := true) (bad : List Nat := []) : Block :=
  match b.piece seq idx with
  | none => b
  | some p =>
    let b := (b.bufWrite port 1 p.tenant p.pages off len data).bufSpoil p.pages bad
    let b := b.modPiece seq idx (fun p => { p with landed := min p.len (p.landed + len) })
    if p.len ≤ p.landed + len then (b.makeDurable seq idx).afterDurable seq posted
    else b.modCmd seq (fun c => { c with st := .writePartial })

/-- The poisoned words of a span of memory, by offset. -/
def Block.poisonIn (b : Block) (a n : Nat) : List Nat :=
  (b.poison.filter (fun e => decide (a / 8 ≤ e.1 ∧ e.1 * 8 < a + n))).map (fun e => e.1 * 8 - a)

/-- A piece's reservation is made: it gets its pages, from page `first` on, and its data may move (R154). A local command's data is copied
with its poison marks (R423). -/
def Block.granted (b : Block) (first : Nat) (p : Piece) : Block :=
  let ps := if p.kind = .data then b.takePagesFrom first p.kib else []
  let b := b.modPiece p.seq p.idx (fun q => { q with resv := some q.kib, pages := ps })
  match p.kind with
  | .zero | .dealloc => (b.makeDurable p.seq p.idx).afterDurable p.seq
  | .data =>
    match b.cmd p.seq with
    | none => b
    | some c =>
      let start := b.cmdStart c
      match c.src with
      | .localQ _ | .internal _ =>
        let a := c.buf + (p.off - start)
        b.land 7 p.seq p.idx 0 p.len (mkBytes ((b.bytes a p.len).zipIdx.map (fun x => (x.2, x.1)))) true (b.poisonIn a p.len)
      | .queue qc =>
        match c.capsule with
        | some d => b.land (b.dataPort qc) p.seq p.idx 0 p.len (cut d (p.off - start) (p.off - start + p.len) 0)
        | none =>
          if qIsTcp (b.qc qc) then b.issueAll (qSession (b.qc qc)) p.seq
          else b.send (.pull p.seq p.idx)

/-- A waiting piece must merge a unit on an offline booth (R337). -/
def Block.mergeOffline (b : Block) (p : Piece) : Bool :=
  p.units.any (fun u => !p.whole u && (b.newest p.nsx u).isNone &&
    (let e := b.mapGet (mkey p.nsx u); !lFlag e && b.boothOffline (boothOf (lDie e))))

/-- KiB of staging that a granted piece fills: its data, and the merges of its partial units. -/
def Piece.footprint (p : Piece) : Nat := (if p.kind = .data then p.kib else 0) + 16 * (p.units.filter (fun u => !p.whole u)).length
/-- `n` KiB more find room in staging beside the granted pieces and the buffers of reads (DESIGN CHOICE, log entry 60). -/
def Block.stgFits (b : Block) (n : Nat) : Bool :=
  decide (((b.ft.pieces.filter (·.resv.isSome)).map Piece.footprint).sum + (b.ce.cmds.map (fun c => c.pages.length)).sum + n ≤ 131072)

/-- The first piece of a list in fetch order: by sequence number, then by its place in its command. -/
def firstPiece (ps : List Piece) : Option Piece :=
  ps.foldl (fun o p => match o with
    | none => some p
    | some q => if p.seq < q.seq ∨ (p.seq = q.seq ∧ p.idx < q.idx) then some p else o) none
/-- The waiting piece that R157 considers: the first in fetch order whose tenant is below its limit. -/
def Block.nextPiece (b : Block) : Option Piece :=
  let wpool := pageBase .hp 0 + 0x110
  firstPiece (b.ft.pieces.filter (fun p => p.resv.isNone &&
    decide (b.tenantKib p.tenant + p.kib ≤ b.rdF wpool 8 15 * 1024)))

/-- One step of the reservation of staging (R157, R158, R228, R257, R268, R337); `first` is the page from which the pool looks for room. -/
def Block.reserveStep (b : Block) (first : Nat) : Block :=
  match b.nextPiece with
  | none => b
  | some p =>
    if b.mergeOffline p then b.complete p.seq (stat 7 0xC5 false)
    else if decide (p.worst ≠ 0) && decide (b.spaceValid + b.spaceResv + p.worst > b.spaceUser) then
      ((b.complete p.seq (stat 0 0x81 false)).raise pgFt 1).refreshMode
    else if b.poolKib + p.kib > b.rdF (pageBase .hp 0 + 0x110) 0 7 * 1024 then b
    else if b.free_ ≤ b.reserve then b
    else if b.grantedUnits + p.units.length > 16384 || !b.stgFits p.footprint then b
    else
      let cap := b.rdF (pageBase .hp 0 + 0x118) 0 15
      let b := b.elapseTo ((b.hp.resvNs + 999) / 1000)
      let b := b.onIf (decide (cap ≠ 0)) (fun b => b.onHp (fun h => { h with
        resvNs := max h.resvNs (b.usec * 1000) + (p.kib * 1024 + cap - 1) / cap }))
      (b.granted first p).refreshMode

/-! ### Starting -/

/-- KiB of staging that a command's read data needs: a host read, a Compare, or a read of a Memory Copy (R16). -/
def Block.readKib (b : Block) (c : Cmd) : Nat :=
  match c.op, c.src with
  | .read, .localQ _ => 0
  | .read, _ | .compare, _ => (b.cmdBytes c + 1023) / 1024
  | _, _ => 0
/-- A command that nothing holds back any more starts (R111, R117, R118). -/
def Block.start (b : Block) (seq : Nat) : Block :=
  match b.cmd seq with
  | none => b
  | some c =>
    let b := b.modCmd seq (fun c => { c with started := true })
    if c.ordered && c.predFailed then b.complete seq (stat 7 0xC4 false) else
    match c.fate with
    | some st => b.complete seq st
    | none =>
    match c.op with
    | .read | .compare | .verify =>
      let us := b.cmdUnits c
      let ps := b.takePages (b.readKib c)
      let b := b.modCmd seq (fun c => { c with st := .readMedia, waits := us, pages := ps })
      let b := b.onIf (c.owed != 0) (fun b => b.send (.pull seq 0))
      if us.isEmpty then b.finishRead seq else b.each us (fun b u => b.readUnit seq u)
    | .write | .zeroes _ | .dealloc => b.askPieces c
    | .flush => b.modCmd seq (fun c => { c with st := .flushWait })
    | .program => b

/-- A command starts if nothing holds it back and its read data has room. -/
def Block.tryStart (b : Block) (seq : Nat) : Block :=
  match b.cmd seq with
  | some c => if b.startable c && b.stgFits (b.readKib c) then b.start seq else b
  | none => b

/-- The writes a Flush covers (R128). -/
def Block.flushCovers (b : Block) (t : Nat) (nsid : W32) : List Nat :=
  (b.ce.cmds.filter (fun c => c.op.isWrite && c.tenant.toNat == t && (nsid == 0xFFFFFFFF || c.nsid == nsid.toNat))).map (·.seq)

/-- The next sequence number is taken. -/
def Block.takeSeq (b : Block) : Nat × Block := (b.ce.seq, b.onCe (fun e => { e with seq := (e.seq + 1) % 2 ^ 64 }))

/-- Bytes of compare data that host memory has yet to give: a Compare of a PCIe queue whose data has not come with it. -/
def Block.owedOf (b : Block) (f : Fetched) (op : CmdOp) : Nat :=
  match f.src with
  | .queue q => if op = .compare ∧ f.sqe.data.isNone ∧ qIsPcie (b.qc q) then f.sqe.count.toNat * b.lbaSize (f.sqe.nsid.toNat - 1) else 0
  | _ => 0
/-- The record of a command as it enters the table. -/
def Block.mkCmd (b : Block) (f : Fetched) (seq buf : Nat) : Cmd :=
  let e := f.sqe
  let t := b.srcTenant f.src
  let op := (opOf f.src e).getD .program
  let fate := b.fateOf f
  { seq := seq, src := f.src, cid := e.cid.toNat, tenant := BitVec.ofNat 6 t, nsid := e.nsid.toNat, op := op, ordered := f.ordered,
    ranges := if fate.isSome then [] else sqeRanges op f.src e, buf := buf, st := .fetched, started := false,
    preds := if f.ordered then (b.ce.cmds.filter (fun c => c.src = f.src)).map (·.seq) else [], predFailed := f.predFailed,
    covers := if op = .flush then b.flushCovers t e.nsid else [],
    fate := fate, prog := e.prog, posted := e.posted, fin := false, ptrs := e.ptrs, capsule := e.data.map mkBytes, owed := b.owedOf f op,
    waits := [], ready := [], pages := [], pi := e.pi.toNat, retried := false }

/-- Bookkeeping of a fetch: LAST_FSN of the queue. -/
def Block.noteFetch (b : Block) (src : CmdSrc) (seq : Nat) : Block :=
  match src with
  | .queue q => b.qcF q 384 415 seq
  | _ => b

/-- A fetched command takes the next sequence number and enters the table with its entries (R103, R108); it starts if nothing holds it
back, and one whose checks end it ends then. -/
def Block.enter (b : Block) (f : Fetched) (buf : Nat) : Block :=
  let (seq, b) := b.takeSeq
  let c := b.mkCmd f seq buf
  let b := (b.noteFetch f.src seq).onCe (fun x => { x with cmds := x.cmds ++ [c] })
  (b.onCe (fun x => { x with collPeak := max x.collPeak b.coll })).tryStart seq

/-- The collision entries a fetched command needs. -/
def Block.entriesOf (b : Block) (f : Fetched) : Nat :=
  if (b.fateOf f).isSome then 0
  else match opOf f.src f.sqe, f.src with
    | some .program, _ | none, _ => 0
    | some .dealloc, .queue _ => f.sqe.ranges.length
    | some _, _ => 1
/-- The collision table has room for `n` entries (R114). -/
def Block.collRoom (b : Block) (n : Nat) : Bool := decide (b.coll + n ≤ 65536)

/-- The sequencer stalls on the command at an input, which it serves next (R114). -/
def Block.stall (b : Block) (n : Nat) : Block :=
  let b := b.onCe (fun e => { e with rr := n })
  if b.ce.stalled then b else ((b.onCe (fun e => { e with stalled := true })).inc (pgCe + 0x11C)).raise pgCe 0

end Sys2Proof.Machine
end

