-- ==== Sys2Proof/Machine/FcOps.lean ====
section
/-! DEFINITION. The media channels at work (chapter 6): the read ladder and what follows it, issue and end of operations,
training, profiles, keys, and the booth sequences. -/
namespace Sys2Proof.Machine

/-! ### A unit's data off the media -/

/-- A record of a channel page (R342). -/
def Block.chRecord (b : Block) (code : Nat) (sev : Sev) (die blk page rung key : Nat) (tenant : BitVec 6 := 0) : Block :=
  b.record (pgCh (chOf die))
    { code := code, sev := sev, tenant := tenant, addr := some (mediaAddr die blk page 0),
      detail := fcDetail (chOf die) (boothOf die) rung key 0 }

/-- The extent of a unit came back but failed its check: read again from the next rung, or end with 0xC1 (R317). -/
def Block.retryUnit (b : Block) (seq nsx u : Nat) (loc : BitVec 48) (rung : Nat) : Block :=
  match b.cmd seq with
  | none => b
  | some c =>
    if rung < b.lastRung (lDie loc) then b.postReads (.unit seq nsx u loc) loc c.cls (rung + 1)
    else b.failUnit seq u (stat 7 0xC1 true)

/-- The key index that the page descriptor of an extent's first slot holds (R304, R305). -/
def Block.slotKey (b : Block) (loc : BitVec 48) : Nat :=
  ((smGet 0 b.fc.descs (lBlk loc * 4096 + lPage loc)).toNat >>> (11 * lOff loc)) % 2048
/-- What the check of an extent that has been read finds (R212, R307). -/
inductive ExtCheck where
  | passed | failed | keyEmpty
deriving DecidableEq, Repr
/-- The check of an extent: its key slot holds a key, the one the extent was encrypted under, and its header names the unit. -/
def Block.extCheck (b : Block) (loc : BitVec 48) (x : Ext) (nsx u : Nat) : ExtCheck :=
  let k := b.key (b.slotKey loc)
  if !k.full then .keyEmpty
  else if k.gen ≠ x.keyGen ∨ x.nsx ≠ nsx ∨ x.unit ≠ u then .failed
  else .passed
/-- The job that decompresses an extent (R365). -/
def ftDecompJob (tenant : BitVec 6) (cls : Nat) (x : Ext) : BitVec 512 :=
  mkDesc [(0, 1 + 4096 + tenant.toNat * 2 ^ 13 + cls * 2 ^ 19), (192, x.clen), (224, 16384), (256, 16384), (320, x.crc.toNat)]
/-- The port of the channels of a booth (R13). -/
def fcPort (booth : Nat) : Nat := 9 + booth / 2

/-- A unit's extent has been read (R307, R213, R365, R636): decompress it, or take it as it is. -/
def Block.unitRead (b : Block) (seq nsx u : Nat) (loc : BitVec 48) (rung : Nat) : Block :=
  match b.cmd seq, b.ext loc with
  | some c, some x =>
    match b.extCheck loc x nsx u with
    | .keyEmpty =>
      (b.chRecord 0x0109 .contained (lDie loc) (lBlock loc) (lPage loc) rung (b.slotKey loc) c.tenant).retryUnit seq nsx u loc rung
    | .failed => b.retryUnit seq nsx u loc rung
    | .passed =>
      let (lo, hi) := b.readPart c u
      if x.pmask &&& lbaTouch (b.lbaSize nsx) lo hi ≠ 0 then b.failUnit seq u (stat 7 0xC2 true)
      else match c.src with
        | .localQ _ => b.unitReady seq u (some x) rung
        | _ =>
          if x.raw then b.unitArrived seq u x.data x.pmask (fcPort (boothOf (lDie loc)))
          else
            let b := b.modCmd seq (fun c => { c with ready := c.ready.filter (fun r => r.1 ≠ u) ++ [(u, some x, rung)] })
            b.queueJob (ftDecompJob c.tenant c.cls x) (.ftDecompress seq nsx u rung)
  | _, _ => b

/-- The old contents of a merge failed their check: read again from the next rung, or they are lost (R232, R317). -/
def Block.retryMerge (b : Block) (seq idx nsx u : Nat) (loc : BitVec 48) (rung : Nat) : Block :=
  if rung < b.lastRung (lDie loc) then b.postReads (.merge seq idx nsx u loc) loc 1 (rung + 1)
  else b.mergeDone seq idx nsx u none
/-- A merge starts over: the place of its old contents has changed, or a refused read is asked for again. -/
def Block.mergeAgain (b : Block) (seq idx nsx u : Nat) : Block :=
  match b.stagedAt seq idx u with
  | some s => if s.phase = .merging then (b.mergeStart s).serveReads nsx u else b
  | none => b
/-- The old extent of a merge has been read (R232). -/
def Block.mergeRead (b : Block) (seq idx nsx u : Nat) (loc : BitVec 48) (rung : Nat) : Block :=
  if b.mapGet (mkey nsx u) ≠ loc then b.mergeAgain seq idx nsx u
  else match b.ext loc with
  | none => b.mergeDone seq idx nsx u none
  | some x =>
    match b.extCheck loc x nsx u with
    | .keyEmpty =>
      (b.chRecord 0x0109 .contained (lDie loc) (lBlock loc) (lPage loc) rung (b.slotKey loc)
        (BitVec.ofNat 6 (b.nsTenant nsx))).retryMerge seq idx nsx u loc rung
    | .failed => b.retryMerge seq idx nsx u loc rung
    | .passed =>
      if x.raw then b.mergeDone seq idx nsx u (some (x.data, x.pmask))
      else b.queueJob (ftDecompJob (BitVec.ofNat 6 (b.nsTenant nsx)) 1 x) (.ftMerge seq idx nsx u loc rung)
/-- The pages of an extent have been read: what they were read for goes on. -/
def Block.extRead (b : Block) (why : Purpose) (rung : Nat) : Block :=
  match why with
  | .unit seq nsx u loc => b.unitRead seq nsx u loc rung
  | .merge seq idx nsx u loc => b.mergeRead seq idx nsx u loc rung
  | .copy k loc => b.copyRead k loc
  | _ => b
/-- One page of an extent has been read; the extent follows when its other page has too. -/
def Block.pageRead (b : Block) (o : FlashOp) (rung : Nat) : Block :=
  match o.why with
  | .unit .. | .merge .. | .copy .. =>
    if b.fc.ops.any (fun p => decide (p.why = o.why)) then
      b.onFc (fun e => { e with ops := e.ops.map (fun (p : FlashOp) => if p.why = o.why then { p with seen := max p.seen (max rung o.seen) } else p) })
    else b.extRead o.why (max rung o.seen)
  | _ => b
/-- The other reads of an extent whose read has ended without its data. -/
def Block.dropReads (b : Block) (why : Purpose) : Block :=
  b.each (b.fc.ops.filter (fun p => decide (p.why = why))) (fun b p => b.onIf (decide (p.stage = .queued)) (fun b => b.dropOp p.id))
/-- An extent cannot be read, or its read ends otherwise with a status: a host or local-queue read ends, a merge goes on without the old
contents (R232), and a copy leaves its unit at the source. -/
def Block.extFails (b : Block) (why : Purpose) (st : Stat) : Block :=
  match why with
  | .unit seq _ u _ => b.failUnit seq u st
  | .merge seq idx nsx u _ => (b.dropReads why).mergeDone seq idx nsx u none
  | .copy .. => (b.dropReads why).freeSources
  | _ => b

/-- The boost a read adds to its block (R258, R314). -/
def boostOf (rung : Nat) : Nat := if rung = 0 then 0 else if rung ≤ 2 then 1 else 8
/-- A page was read at a highest rung: its block's boost, and its retirement if that is the last rung (R263, R315). -/
def Block.noteRung (b : Block) (o : FlashOp) (rung : Nat) : Block :=
  b.modBlk (o.die * 4096 + o.block) (fun x => { x with
    boost := min 1023 (x.boost + boostOf rung)
    doomed := x.doomed || decide (rung = b.lastRung o.die) })

/-- A page that a read-back could not read is on record for the verify of its block. -/
def Block.badPage (b : Block) (o : FlashOp) (rebuilt : Bool) : Block :=
  match o.why with
  | .verify => b.modBlk (o.die * 4096 + o.block) (fun x => { x with badPages := x.badPages ++ [(o.page, rebuilt)] })
  | _ => b
/-- A READ ends without its data because its cartridge has left or its ticket was refused; a read-back starts over. -/
def Block.readGone (b : Block) (o : FlashOp) (st : Stat) : Block :=
  match o.why with
  | .copy .. => (b.dropReads o.why).freeSources
  | .verify => b.modBlk (o.die * 4096 + o.block) (fun x => { x with readBack := false, badPages := [] })
  | why => b.extFails why st
/-- The rebuild of a page has read every other member of its group (R323): the page is there, or some member failed its ladder too. During a
boot verify the units are treated as R244 gives. -/
def Block.rebuildEnds (b : Block) (o : FlashOp) : Block :=
  let b := b.dropOp o.id
  if o.bad.isEmpty then ((b.chRecord 0x0102 .corrected o.die o.block o.page o.rung 0).badPage o true).pageRead o (b.lastRung o.die)
  else
    let b := (b.chRecord 0x0101 .deferred o.die o.block o.page o.rung 0).badPage o false
    let b := b.each o.bad (fun b m => b.chRecord 0x0101 .deferred m.1 m.2.1 m.2.2.1 m.2.2.2 0)
    if b.ft.bootVerify.contains (o.die * 4096 + o.block) then b.extFails o.why (stat 7 0xC2 true) else
    let ks := ((o.die, o.block, o.page, o.rung) :: o.bad).flatMap (fun m => b.unitsOnPage m.1 m.2.1 m.2.2.1)
    let b := b.onIf (decide (o.why = .verify)) (fun b => b.modBlk (o.die * 4096 + o.block) (fun x => { x with doomed := true, failed := true }))
    (b.loseUnits ks.eraseDups).extFails o.why (stat 7 0xC2 true)
/-- A rebuild goes on when one of its reads has ended. -/
def Block.rebuildStep (b : Block) (id : Nat) : Block :=
  match b.op id with
  | some o => if o.stage = .rebuilding ∧ ¬ b.fc.ops.any (fun p => decide (p.why = .rebuild id)) then b.rebuildEnds o else b
  | none => b
/-- A parity record holds an uncorrectable word: its group is PARITY_LOST, and the verify of its members' blocks goes to C1 (R324). -/
def Block.groupLost (b : Block) (o : FlashOp) (rung id : Nat) : Block :=
  let b := (b.record pgFc { code := 0x0103, sev := .deferred, addr := some (mediaAddr o.die o.block o.page 0),
                            detail := fcDetail (chOf o.die) (boothOf o.die) rung 0 0 }).raise pgFc 4
  b.onFc (fun e => { e with
    grps := e.grps.map (fun (g : ParGrp) => if g.id = id then { g with lost := true } else g)
    ops := e.ops.map (fun (p : FlashOp) =>
      if p.why = .verify ∧ e.grps.any (fun g => g.id == id && g.members.any (fun m => m.1 == p.die && m.2.1 == p.block))
      then { p with cls := min p.cls 1 } else p) })
/-- The other members of a page's group can be read: their booths are in service. -/
def Block.matesUp (b : Block) (o : FlashOp) (g : ParGrp) : Bool :=
  g.members.all (fun m => m == (o.die, o.block, o.page) || (b.boothUp (boothOf m.1) && !b.boothBusy (boothOf m.1)))
/-- A page starts its rebuild: the other members of its group are read at its class, each through its own ladder (R323). -/
def Block.rebuild (b : Block) (o : FlashOp) (rung : Nat) (g : ParGrp) : Block :=
  let b := (b.modOp o.id (fun p => { p with stage := .rebuilding, rung := rung })).untickOp o.id
  let b := b.each (g.members.filter (· ≠ (o.die, o.block, o.page))) (fun b m =>
    b.postOp m.1 m.2.1 m.2.2 .read (b.fblk (m.1 * 4096 + m.2.1)).slc o.cls 0 (.rebuild o.id))
  b.rebuildStep o.id
/-- A READ failed the ladder, with `rung` the highest rung used: its page is rebuilt from parity where its group is held and its record can be read, and else it ends
UNCORR (R316, R323, R324). -/
def Block.ladderFail (b : Block) (o : FlashOp) (rung : Nat) (recordLost : Bool) : Block :=
  let b := b.inc (pgCh (chOf o.die) + 0x11C)
  let uncorr := fun (b : Block) =>
    (((b.dropOp o.id).chRecord 0x0101 .deferred o.die o.block o.page rung 0).badPage o false).extFails o.why (statU 2 0x81)
  match o.why with
  | .rebuild id => ((b.dropOp o.id).modOp id (fun p => { p with bad := p.bad ++ [(o.die, o.block, o.page, rung)] })).rebuildStep id
  | _ =>
    match b.grpOf o.die o.block o.page with
    | none => uncorr b
    | some g =>
      if (b.fblk (o.die * 4096 + o.block)).stream = .host && b.groupHeld o.die o.block o.page && b.matesUp o g then
        let q := b.parityReq o.die g.id
        let (r, b) := b.memMeet q false
        if recordLost || decide (r ≠ .ok) || b.anyPoison q.addr q.len then uncorr (b.groupLost o rung g.id) else b.rebuild o rung g
      else uncorr b

/-! ### Programs and erases that end -/

/-- A HOST-stream or RECLAIM-stream program failed (R260, R261). -/
def Block.progFail (b : Block) (o : FlashOp) : Block :=
  let k := o.die * 4096 + o.block
  let b := b.dropOp o.id
  let loc := mkLoc o.die o.block (o.page * 64) 1
  let b := b.ftRecord 0x0101 .corrected 0 0 0 0 loc true
  let s := match o.why with
    | .page s => s
    | _ => (b.fblk k).stream
  if o.kind = .rawProgram then b.retireBlk k else
  match s with
  | .reclaim => (b.recopy k).raise pgFt 6
  | .host =>
    let b := b.modBlk k (fun x => { x with st := .closed, doomed := true, failed := true, closedAt := (b.usec : Int) })
    let b := b.onFt (fun t => { t with opens := t.opens.filter (fun p => decide (p.2.1 * 4096 + p.2.2 ≠ k)) })
    let hit := fun (u : Staged) => decide (u.phase = .packed) && lBlk u.loc == k &&
      decide (lSlot u.loc / 64 ≤ o.page ∧ o.page ≤ (lSlot u.loc + lLen u.loc - 1) / 64)
    let us := b.ft.staged.filter hit
    let b := b.onFt (fun t => { t with staged := t.staged.map (fun u => if hit u then { u with phase := .coded } else u) })
    let b := b.each us.reverse (fun b u =>
      match b.putOnAny .host (extLen u.clen) ((b.rotation .host).filter (· ≠ o.die)) with
      | some (loc, b) =>
        let x : Ext := ⟨u.nsx, u.unit, u.raw, u.clen, extLen u.clen, u.crc, u.pmask, BitVec.ofNat 32 u.seq, u.data, (b.key u.nsx).gen, none⟩
        (b.putExt loc x).modStaged u.seq u.idx u.unit (fun v => { v with phase := .packed, loc := loc })
      | none => b)
    (if (b.fblk k).copying then b else b.copyBlk k b.rclCls).retireEmpty.releaseGroups
  | .meta_ => (b.retireBlk k).metaRefresh.metaPage
  | .ploss => b.retireBlk k

/-- An erase failed: the block is retired at once (R260, R263). -/
def Block.eraseFail (b : Block) (o : FlashOp) : Block :=
  let k := o.die * 4096 + o.block
  let b := b.dropOp o.id
  let b := b.ftRecord 0x0102 .corrected 0 0 0 0 (mkLoc o.die o.block 0 1) true
  if (b.fblk k).st ≠ .opened then b.retireBlk k
  else if (b.fblk k).stream = .reclaim then (b.recopy k).raise pgFt 6
  else
    let mine := b.fc.ops.filter (fun p => p.die * 4096 + p.block == k && decide (p.kind = .program))
    let b := (b.each mine (fun b p => b.dropOp p.id)).retireBlk k
    b.onFt (fun t => { t with staged := t.staged.map (fun (u : Staged) =>
      if u.phase = .packed ∧ lBlk u.loc = k then { u with phase := .coded } else u) })

/-- An erase ended with success. -/
def Block.eraseDone (b : Block) (o : FlashOp) : Block :=
  let k := o.die * 4096 + o.block
  let b := b.dropOp o.id
  let b := b.modBlk k (fun x => { x with
    erased := true, erases := x.erases + 1, boost := 0, progDone := []
    st := if x.st = .opened then .opened else .free
    slc := if x.st = .opened then x.slc else decide (x.st = .free) && decide (x.stream = .ploss)
    stream := if x.st = .opened ∨ (x.st = .free ∧ x.stream = .ploss) then x.stream else .host
    fill := if x.st = .opened then x.fill else 0
    copying := false, doomed := false, failed := false, readBack := false, badPages := [], raw := [] })
  let b := b.onIf (decide ((b.fblk k).st = .free)) (fun b =>
    b.onFt (fun t => { t with exts := t.exts.filter (fun e => decide (e.1 / 2 ^ 18 ≠ k)) }))
  let b := b.onFc (fun e => { e with descs := e.descs.filter (fun d => decide (d.1 / 4096 ≠ k)) })
  b.releaseGroups.retarget.refreshMode

/-- A power-off whose last operation has ended lowers BOOTH_PWREN (R336 steps 3 and 4). -/
def Block.boothTickets (b : Block) (k : Nat) : Block :=
  b.onPa (fun p => { p with held := p.held.filter (fun t => t.pool ≠ .booth k), waiting := p.waiting.filter (fun t => t.pool ≠ .booth k), floats := p.floats.filter (fun f => f.1 ≠ .booth k) })

/-- What is known of a booth's cartridge goes when nothing is mapped to it. -/
def Block.forgetCart (b : Block) (k : Nat) : Block :=
  let on := fun (d : Nat) => boothOf d == k
  let b := b.onFc (fun e => { e with
    dies := e.dies.filter (fun x => !on x.1), carts := smErase e.carts k
    grps := e.grps.filter (fun (g : ParGrp) => !g.members.any (fun m => on m.1)) })
  let b := b.onFt (fun t => { t with
    blks := t.blks.filter (fun x => !on (x.1 / 4096)), exts := t.exts.filter (fun x => !on (x.1 / 2 ^ 30))
    opens := t.opens.filter (fun o => !on o.2.1), drained := smErase t.drained k })
  b.parityUsed

/-- The booth's page after it has lost power: the cartridge ID reads 0 with no cartridge known. -/
def Block.boothDark (b : Block) (k : Nat) : Block :=
  let b := (b.setPwr k false).boothTickets k
  let b := b.onFc (fun e => { e with inrush := smErase e.inrush k })
  b.each (List.range 8) (fun b i => (b.wr (pgCh (8 * k + i) + 0x100) 0).wr (pgCh (8 * k + i) + 0x104) 0)

/-- Where a booth goes once it is off: OFFLINE_DATA with mapped units, else EMPTY. -/
def Block.boothRest (b : Block) (k : Nat) : Block :=
  if b.boothMapped k then b.setBooth k 5 else (b.forgetCart k).setBooth k 0

/-- The end of a POWER_OFF, when no operation is outstanding on the booth. -/
def Block.powerOffEnds (b : Block) (k : Nat) : Block :=
  if b.boothBusy k && !b.fc.ops.any (fun o => boothOf o.die == k) then
    (((b.boothDark k).setBoothBusy k false).boothRest k).retarget.refreshMode
  else b

/-- Every booth whose power-off may now end. -/
def Block.powerOffAll (b : Block) : Block := b.each (List.range 8) Block.powerOffEnds

/-- An operation's data has moved on and its die is free: placements that waited go on. -/
def Block.afterOp (b : Block) : Block := b.placeAll.powerOffAll

/-- The page descriptor that a program writes (R304, R305): for each slot the key index of its extent's namespace, 1,024 where no extent
lies; and the slots at which extents start. -/
def Block.descOf (b : Block) (k page : Nat) : BitVec 768 :=
  let es := (b.extsIn k).map (fun e => (e.1 % 2 ^ 18, e.2.len, e.2.nsx))
  let key := fun (n : Nat) => ((es.find? (fun e => decide (e.1 ≤ page * 64 + n ∧ page * 64 + n < e.1 + e.2.1))).map (fun e => e.2.2)).getD 1024
  let start := fun (n : Nat) => if es.any (fun e => e.1 == page * 64 + n) then 1 else 0
  BitVec.ofNat 768 (((List.range 64).map (fun n => key n % 2048 * 2 ^ (11 * n) + start n * 2 ^ (704 + n))).sum)
/-- A page holds a descriptor from now on (R303). -/
def Block.putDesc (b : Block) (k page : Nat) : Block :=
  let d := b.descOf k page
  b.onFc (fun e => { e with descs := smPut e.descs (k * 4096 + page) d })
/-- A page program ended with success. -/
def Block.progDone (b : Block) (o : FlashOp) : Block :=
  let b := (b.dropOp o.id).putDesc (o.die * 4096 + o.block) o.page
  let b := b.pageDone (o.die * 4096 + o.block) o.page
  match o.why with
  | .page .host => b.addToGroup o.die o.block o.page
  | _ => b

/-- A READ whose ticket is refused ends, with the command that needed it (R302). Work that no command waits for asks again later (DESIGN
CHOICE, log entry 59). -/
def Block.refuseWhy (b : Block) (o : FlashOp) : Block :=
  match o.why with
  | .unit seq _ u _ => b.failUnit seq u (stat 7 0xC6 false)
  | .merge seq idx nsx u _ => (b.dropReads o.why).mergeAgain seq idx nsx u
  | .copy .. => (b.dropReads o.why).freeSources
  | .verify => b.postOp o.die o.block o.page .read o.slc o.cls o.rung .verify
  | _ => b
/-- The same, and a rebuild whose read is refused ends with its READ. -/
def Block.refuseRead (b : Block) (o : FlashOp) : Block :=
  let b := b.dropOp o.id
  match o.why with
  | .rebuild id => match b.op id with
    | some p => (b.dropOp id).refuseWhy p
    | none => b
  | _ => b.refuseWhy o
/-- A soft decoder's ticket (R301); the decode is over when the operation is, so that the ticket returns at once. -/
def Block.softTicket (b : Block) (o : FlashOp) : TicketAns × Block :=
  let (a, b) := b.ticket ⟨.chip, .softDecode o.id, 300, o.cls, o.born, true, false, false, false⟩
  (a, if a = .granted then b.untick (.softDecode o.id) else b)
/-- A raw program ended with success: the pattern fills the page, which holds no extent and no descriptor (R308). -/
def Block.rawDone (b : Block) (o : FlashOp) : Block :=
  match o.why with
  | .raw v =>
    let k := o.die * 4096 + o.block
    let gone := fun (e : Nat × Ext) => decide (e.1 / 2 ^ 18 = k ∧ e.1 % 2 ^ 18 / 64 ≤ o.page ∧ o.page ≤ (e.1 % 2 ^ 18 + e.2.len - 1) / 64)
    let b := (b.dropOp o.id).modBlk k (fun x => { x with raw := (o.page, v) :: x.raw.filter (fun r => r.1 != o.page), erased := false })
    let b := b.onFt (fun t => { t with exts := t.exts.filter (fun e => !gone e) })
    b.onFc (fun e => { e with descs := smErase e.descs (k * 4096 + o.page) })
  | _ => b.dropOp o.id
/-- An operation that a die has finished (R17, R300, R301, R314-R316). A read whose soft decoder waits for its ticket stays where it is, and
its die reports again. -/
def Block.opEnds (b : Block) (o : FlashOp) (res : FlashRes) : Block :=
  let pg := pgCh (chOf o.die)
  match o.kind, res with
  | .read, .decoded n0 n12 nr rung =>
    let (a, b) := if rung = 0 then (TicketAns.granted, b) else b.softTicket o
    match a with
    | .granted =>
      let b := ((b.addSat (pg + 0x110) 0 31 n0).addSat (pg + 0x114) 0 31 n12).addSat (pg + 0x118) 0 31 nr
      let rung := min rung (b.lastRung o.die)
      let b := (b.noteRung o rung).dropOp o.id
      match o.why with
      | .rebuild id => b.rebuildStep id
      | _ => b.pageRead o rung
    | .delayed => b
    | .refused => b.refuseRead o
  | .read, .failedLadder lost =>
    let (a, b) := b.softTicket o
    match a with
    | .granted => (b.noteRung o (b.lastRung o.die)).ladderFail o (b.lastRung o.die) lost
    | .delayed => b
    | .refused => b.refuseRead o
  | .program, .done => b.progDone o
  | .program, .failed => b.progFail o
  | .erase, .done => b.eraseDone o
  | .erase, .failed => b.eraseFail o
  | .rawProgram, .done => b.rawDone o
  | .rawProgram, .failed => b.progFail o
  | .dieReset, .done => b.dropOp o.id
  | _, _ => b

/-- The result fits the kind of operation. -/
def resFits : FlashKind → FlashRes → Bool
  | .read, .decoded .. | .read, .failedLadder .. | .program, .done | .program, .failed | .erase, .done | .erase, .failed
  | .rawProgram, .done | .rawProgram, .failed | .dieReset, .done => true
  | _, _ => false

/-- An operation for a die that has stopped ends without reaching it (R300). -/
def Block.opStopped (b : Block) (o : FlashOp) : Block :=
  match o.kind with
  | .read => if o.stage = .rebuilding then b else b.ladderFail o o.rung false
  | .program | .rawProgram => b.progFail o
  | .erase => b.eraseFail o
  | .dieReset => b.dropOp o.id
/-- A die no longer answers: every operation for it ends at once (R300). -/
def Block.dieStops (b : Block) (d : Nat) : Block :=
  let b := b.modDie d (fun x => { x with inService := false, stopped := true })
  b.each (b.fc.ops.filter (fun o => o.die == d)) Block.opStopped

/-- The longest time of an operation in µs (R291). -/
def Block.opMax (b : Block) (o : FlashOp) : Nat :=
  let t := (b.dieProf o.die).tMax
  match o.kind with
  | .read | .dieReset => t.1
  | .program | .rawProgram => if o.slc then t.2.2.1 else t.2.1
  | .erase => t.2.2.2

/-- An operation passes twice its longest time (R300). -/
def Block.opTimeout (b : Block) (o : FlashOp) : Block :=
  let b := b.elapseTo (o.issued + 2 * b.opMax o)
  let b := ((b.chRecord 0x0104 .contained o.die o.block o.page 0 0).raise (pgCh (chOf o.die)) 2).inc (pgCh (chOf o.die) + 0x120)
  let b := b.modDie o.die (fun x => { x with timeouts := b.usec :: x.timeouts })
  let b := b.opStopped o
  let b := b.postOp o.die 0 0 .dieReset false 0 0 .direct
  let recent := ((b.die o.die).timeouts.filter (fun t => decide (b.usec < t + 10000000))).length
  if recent ≥ 3 then b.dieStops o.die else b

/-! ### Issue (R297, R298, R301, R302, R318, R322) -/

/-- The order of kinds between operations of equal class and age. -/
def FlashKind.rank : FlashKind → Nat
  | .read => 0 | .program => 1 | .rawProgram => 1 | .erase => 2 | .dieReset => 0
/-- The class an operation arbitrates with. -/
def Block.opCls (b : Block) (o : FlashOp) : Nat := if o.promoted then 0 else b.effCls o.cls o.born
/-- One operation goes before another. -/
def Block.opBefore (b : Block) (x y : FlashOp) : Bool :=
  let cx := b.opCls x
  let cy := b.opCls y
  decide (cx < cy) || (cx == cy && (decide (x.born < y.born) || (x.born == y.born && (decide (x.kind.rank < y.kind.rank) ||
    (x.kind.rank == y.kind.rank && decide (x.id < y.id))))))
/-- A running program or erase of a die may be suspended for a READ (R298). -/
def Block.canSuspend (b : Block) (r o : FlashOp) : Bool :=
  let p := b.dieProf o.die
  decide (b.opCls r ≤ 1) && decide (o.stage = .issued) &&
    (match o.kind with | .program => p.suspend.1 | .erase => p.suspend.2 | _ => false) &&
    decide (o.suspends < p.suspendMax) && (o.suspends == 0 || decide (b.usec ≥ o.resumed + p.resumeMin))
/-- A queued operation may be issued as far as its die is concerned. -/
def Block.dieReady (b : Block) (o : FlashOp) : Bool :=
  let same := b.fc.ops.filter (fun p => p.die == o.die && p.id != o.id)
  let running := same.filter (fun p => decide (p.stage = .issued))
  let blockErases := same.any (fun p => decide (p.kind = .erase) && p.block == o.block)
  let blockPages := same.any (fun p => decide (p.kind = .program) && p.block == o.block)
  let suspended := same.any (fun p => decide (p.stage = .suspended))
  (match o.kind with
   | .read => running.all (fun p => b.canSuspend o p)
   | .program | .rawProgram => running.isEmpty && !suspended && !blockErases && !b.ft.frozen
   | .erase => running.isEmpty && !suspended && !blockPages && !b.ft.frozen
   | .dieReset => running.isEmpty)
/-- A HOST-stream page may be issued: its group or a fresh one has a record (R318, R322). -/
def Block.pageRoom (b : Block) (o : FlashOp) : Bool :=
  match o.why with
  | .page .host => b.fc.grps.any (fun g => !g.closed && !g.members.any (fun m => chOf m.1 == chOf o.die)) || b.parityRoom
  | _ => true
/-- Insert an operation in the order of grants. -/
def Block.insertOp (b : Block) (o : FlashOp) : List FlashOp → List FlashOp
  | [] => [o]
  | x :: xs => if b.opBefore o x then o :: x :: xs else x :: b.insertOp o xs
/-- The operations that a channel may issue, in the order of grants (R297). -/
def Block.opOrder (b : Block) (ch : Nat) : List FlashOp :=
  (b.fc.ops.filter (fun o => chOf o.die == ch && decide (o.stage = .queued) && b.dieReady o)).foldl (fun a o => b.insertOp o a) []
/-- The media ticket of an operation in mW (R301). -/
def Block.opMw (b : Block) (o : FlashOp) : Nat :=
  let p := b.dieProf o.die
  match o.kind with
  | .read => p.mw.1 | .program | .rawProgram => p.mw.2.1 | .erase => p.mw.2.2 | .dieReset => 0
/-- The transfer ticket in mW at a channel's rate in units of 100 MT/s, rounded up (R301). -/
def transferMw (rate : Nat) : Nat := (450 * rate + 47) / 48

/-- An operation whose tickets are held starts; one that it suspends waits at its die (R298, R318). -/
def Block.startOp (b : Block) (o : FlashOp) : Block :=
  let b := b.onFc (fun e => { e with ops := e.ops.map (fun (p : FlashOp) =>
    if p.id = o.id then { p with stage := .issued, issued := b.usec }
    else if p.die = o.die ∧ p.stage = .issued then { p with stage := .suspended, suspends := p.suspends + 1 } else p) })
  let suspends := (b.fc.ops.filter (fun p => p.die == o.die && decide (p.stage = .suspended) && decide (p.id ≠ o.id))).length
  let b := b.onIf (decide (o.kind = .read) && decide (suspends > 0)) (fun b => b.inc (pgCh (chOf o.die) + 0x124))
  match o.why with
  | .page .host => b.joinGroup o.die o.block o.page
  | _ => b
/-- An operation asks for its tickets (R301, R302): it starts, ends refused, or waits in its die queue; the answer says whether the
channel is done. -/
def Block.askOp (b : Block) (o : FlashOp) : Bool × Block :=
  let isRead := decide (o.kind = .read)
  let rcl := decide (o.why = .page .reclaim)
  let (a1, b) := b.ticket ⟨.booth (boothOf o.die), .flashOp o.id, b.opMw o, o.cls, o.born, isRead, rcl, false, false⟩
  let (a2, b) := if o.kind = .erase ∨ o.kind = .dieReset then (TicketAns.granted, b)
    else b.ticket ⟨.chip, .transfer (chOf o.die), transferMw (b.rdF (pgCh (chOf o.die) + 0x100) 1 6), o.cls, o.born, isRead, false, false, false⟩
  if a1 = .refused ∨ a2 = .refused then (if isRead then (true, b.refuseRead o) else (false, b))
  else if a1 = .granted ∧ a2 = .granted then (true, b.startOp o)
  else (false, b)
/-- PARITY_FULL: a HOST-stream page finds no room for its record, and the verify of the oldest HOST-stream block goes to C1 (R322). -/
def Block.noRoom (b : Block) : Block :=
  if b.fc.parityFull then b
  else
    let b := (b.onFc (fun e => { e with parityFull := true })).raise pgFc 3
    match b.oldestHost with
    | some k => b.onFc (fun e => { e with ops := e.ops.map (fun (o : FlashOp) =>
        if o.die * 4096 + o.block = k ∧ o.kind = .read ∧ o.why = .verify then { o with cls := min o.cls 1 } else o) })
    | none => b
/-- A channel grants and issues the first operation of its order that can start; of a die whose operation waits for a ticket, none
goes before it. A channel that is out of service issues none. -/
def Block.issueFrom (b : Block) (waiting : List Nat) : List FlashOp → Block
  | [] => b
  | o :: os =>
    if waiting.contains o.die then b.issueFrom waiting os
    else if (b.die o.die).stopped then b.opStopped o
    else if b.pageReset (pgCh (chOf o.die)) ≠ 0 then b.issueFrom waiting os
    else if !b.pageRoom o then b.noRoom.issueFrom waiting os
    else
      match b.askOp o with
      | (true, b) => b
      | (false, b) => b.issueFrom (o.die :: waiting) os
/-- A channel issues its next operation. -/
def Block.issueNext (b : Block) (ch : Nat) : Block := b.issueFrom [] (b.opOrder ch)

/-! ### Training (R288-R290) -/

/-- The rate a profile allows, in units of 100 MT/s (R288). -/
def topRate (p : ProfBody) : Nat := min p.maxRate (if p.ext then 4800 else 3600) / 100
/-- Train a channel, given the rates at which its training passes. -/
def Block.trainCh (b : Block) (ch : Nat) (p : ProfBody) (rates : List Nat) : Block :=
  let top := topRate p
  let tries := top :: [36, 24, 16].filter (· < top)
  let pg := pgCh ch
  let b := b.onFc (fun e => { e with
    trainedAt := smPut e.trainedAt ch b.usec
    trainedT := smPut e.trainedT ch (b.rdF (pageBase .hk 0 + 0x100) 0 15) })
  match tries.find? (fun r => rates.contains r) with
  | some r =>
    let b := ((b.wrF (pg + 0x100) 1 6 r).wrF (pg + 0x100) 7 7 1).wrF (pg + 0x100) 8 8 (if r < top then 1 else 0)
    b.onIf (decide (r < top)) (fun b => b.raise pg 0)
  | none =>
    let b := ((b.wrF (pg + 0x100) 1 6 0).wrF (pg + 0x100) 7 7 0).wrF (pg + 0x100) 8 8 0
    let b := (b.record pg { code := 0x0107, sev := .corrected, detail := fcDetail ch (ch / 8) 0 0 0 }).raise pg 1
    b.each (List.range 16) (fun b i => b.modDie (16 * ch + i) (fun x => { x with inService := false }))

/-- CH_DIES of a channel follows its dies. -/
def Block.chDies (b : Block) (ch : Nat) : Block :=
  let bits := fun (f : Die → Bool) =>
    ((List.range 16).map (fun i => if f (b.die (16 * ch + i)) then 2 ^ i else 0)).sum
  b.wr (pgCh ch + 0x104) (BitVec.ofNat 32 (bits (·.answered) + 2 ^ 16 * bits (·.inService)))

/-! ### Profiles (R291-R294) -/

/-- A booth uses a profile slot. -/
def Block.slotUsed (b : Block) (slot : Nat) : Bool := (List.range 8).any (fun k => b.rdF (pgFc + 0x110 + 4 * slot) 16 23 / 2 ^ k % 2 == 1)
/-- PROF_STATUS. -/
def Block.profStatus (b : Block) (busy : Bool) (result : Nat) : Block :=
  b.wr (pgFc + 0x10C) (BitVec.ofNat 32 ((if busy then 1 else 0) + result * 2))
/-- A slot's profile register follows the slot. -/
def Block.profReg (b : Block) (slot : Nat) : Block :=
  let p := smFind b.fc.profs slot
  let b := b.wrF (pgFc + 0x110 + 4 * slot) 0 15 (p.elim 0 (·.id.toNat))
  b.wrF (pgFc + 0x110 + 4 * slot) 24 31 (p.elim 0 (·.version.toNat))
/-- The spare bytes hold four codewords' descriptor share and parity: 4 × (24 + parity) (R303). -/
def spareOk (p : ProfBody) : Bool := decide (p.spare ≥ 4 * (24 + p.parity))
/-- The array's read of a span of a profile image: whether it was answered OK, and the block after it (R292). It goes out through port 9
under tag 0, in class C2 (DESIGN CHOICE, log entry 59). -/
def Block.profRead (b : Block) (a n : Nat) : Bool × Block :=
  let q : BusReq := ⟨9, 2, 0, a, n, 0, false⟩
  let (r, b) := b.memMeet q false
  (decide (r = .ok) && !b.anyPoison a n, b)
/-- RESULT of a load: the first check of R292 that fails. `fabricErr` stands for an answer other than OK that the memory alone does not
give. -/
def Block.profResult (b : Block) (signed fabricErr : Bool) (p : ProfBody) : Nat × Block :=
  let a := b.rd64 (pgFc + 0x100) % 2 ^ 48
  let len := b.load (a + 0x0C) 4
  let (ok, b) := b.profRead a 0x300
  if fabricErr || !ok then (6, b)
  else if b.load a 4 ≠ 0x4A4D5046 ∨ b.load (a + 6) 2 ≠ 1 ∨ len < 0x360 ∨ len > 65536 then (2, b)
  else
    let (ok, b) := b.profRead (a + 0x300) (len - 0x300)
    (if !ok then 6
     else if !signed then 1
     else if b.load (a + 4) 2 = 0 ∨ (b.byte (a + 0x100)).toNat > 15 ∨ ¬ (p.parity = 256 ∨ p.parity = 384 ∨ p.parity = 512) ∨
       b.load (a + 0x1D) 3 ≠ 0 then 2
     else if p.blocks > 4096 ∨ p.pages > 4096 ∨ p.pagesSlc > 4096 then 3
     else if p.maxRate > 4800 then 4
     else if !spareOk p then 5
     else 0, b)
/-- The profile a load leaves in its slot. -/
def Block.profOf (b : Block) (p : ProfBody) : Profile :=
  let a := b.rd64 (pgFc + 0x100) % 2 ^ 48
  { id := BitVec.ofNat 16 (b.load (a + 4) 2), version := BitVec.ofNat 32 (b.load (a + 8) 4), man := b.byte (a + 0x10),
    dev := BitVec.ofNat 48 (b.load (a + 0x11) 6), mask := BitVec.ofNat 48 (b.load (a + 0x17) 6),
    retries := (b.byte (a + 0x100)).toNat, body := p }
/-- A running load ends. -/
def Block.loadEnds (b : Block) (slot : Nat) (signed fabricErr : Bool) (p : ProfBody) : Block :=
  let (r, b) := b.profResult signed fabricErr p
  let b := b.onFc (fun e => { e with profLoad := none })
  if r = 0 then
    let q := b.profOf p
    (((b.onFc (fun e => { e with profs := smPut e.profs slot q })).profReg slot).profStatus false 0).raise pgFc 0
  else
    let b := ((b.onFc (fun e => { e with profs := smErase e.profs slot })).profReg slot).profStatus false r
    (b.record pgFc { code := 0x0106, sev := .corrected }).raise pgFc 1

/-- A die fits a profile (R294). -/
def Profile.fits (p : Profile) (man : BitVec 8) (dev : BitVec 48) : Bool := p.man == man && (p.dev &&& p.mask) == (dev &&& p.mask)
/-- The slot a cartridge's reference die takes: highest VERSION, then lowest number. -/
def Block.pickProf (b : Block) (man : BitVec 8) (dev : BitVec 48) : Option Nat :=
  let c := b.fc.profs.filter (fun e => e.2.fits man dev)
  match c with
  | [] => none
  | x :: xs => some (xs.foldl (fun a y => if y.2.version.toNat > a.2.version.toNat then y else a) x).1

/-! ### Keys (R309-R313) -/

/-- KEY_STATUS. -/
def Block.keyStatus (b : Block) (busy : Bool) : Block := b.wrF (pgFc + 0x158) 0 0 (if busy then 1 else 0)
/-- A key operation starts; `failed` is how an UNWRAP ends. -/
def Block.keyStart (b : Block) (slot : Nat) (k : KeySlot) (failed : Option Bool) : Block :=
  (b.onFc (fun e => { e with keyOp := some (slot, k, failed) })).keyStatus true
/-- The words of FC.KEY_WRAP. -/
def Block.wrapWords (b : Block) : BitVec 576 :=
  BitVec.ofNat 576 (((List.range 18).map (fun k => (b.rd (pgFc + 0x160 + 4 * k)).toNat * 2 ^ (32 * k))).sum)
/-- Set the words of FC.KEY_WRAP. -/
def Block.setWrap (b : Block) (w : BitVec 576) : Block :=
  b.each (List.range 18) (fun b k => b.wr (pgFc + 0x160 + 4 * k) ((w >>> (32 * k)).setWidth 32))
/-- A fresh wrapped key: what AES key wrap gives is not interpreted. -/
def Block.freshWrap (b : Block) : BitVec 576 × Block :=
  (List.range 9).foldl (fun (x : BitVec 576 × Block) k =>
    let (v, b) := x.2.free
    (x.1 ||| ((v.setWidth 576) <<< (64 * k)), b)) (0, b)
/-- GENERATE -/
def Block.keyGenerate (b : Block) : Block :=
  let n := b.fc.nextGen
  (b.onFc (fun e => { e with nextGen := n + 1 })).keyStart (b.rdF (pgFc + 0x150) 0 9) ⟨true, n⟩ none
/-- CLEAR -/
def Block.keyClear (b : Block) : Block := b.keyStart (b.rdF (pgFc + 0x150) 0 9) {} none
/-- WRAP_OUT; an empty slot has no key to wrap and leaves the words alone. -/
def Block.keyWrapOut (b : Block) : Block :=
  let s := b.rdF (pgFc + 0x150) 0 9
  let k := b.key s
  let b := if k.full then
      let (w, b) := b.freshWrap
      (b.setWrap w).onFc (fun e => { e with wraps := (w, k.gen, b.rd (pgFc + 0x15C)) :: e.wraps })
    else b
  b.keyStart s k none
/-- UNWRAP: the words must be ones wrapped under the present epoch. -/
def Block.keyUnwrap (b : Block) : Block :=
  let w := b.wrapWords
  let s := b.rdF (pgFc + 0x150) 0 9
  let ep := b.rd (pgFc + 0x15C)
  match b.fc.wraps.find? (fun x => x.1 == w && x.2.2 == ep) with
  | some x => (b.setWrap 0).keyStart s ⟨true, x.2.1⟩ (some false)
  | none => (b.setWrap 0).keyStart s {} (some true)
/-- A key operation ends. -/
def Block.keyEnds (b : Block) : Block :=
  match b.fc.keyOp with
  | none => b
  | some (s, k, failed) =>
    let b := (b.onFc (fun e => { e with keyOp := none, keys := smSet {} e.keys s k })).keyStatus false
    let b := b.onIf (failed == some true) (fun b => b.record pgFc { code := 0x0108, sev := .corrected, detail := fcDetail 0 0 0 s 0 })
    (failed.elim b (fun f => b.wrF (pgFc + 0x158) 2 2 (if f then 1 else 0))).raise pgFc 2

/-! ### Booths (R325-R339, R780, R781, R787) -/

/-- A record of a booth page. -/
def Block.boothRecord (b : Block) (k code : Nat) (sev : Sev) : Block :=
  b.record (pgBooth k) { code := code, sev := sev, detail := fcDetail 0 k 0 0 ((smFind b.fc.carts k).getD 0) }
/-- Close the open HOST and RECLAIM blocks of a booth with padding. -/
def Block.closeBooth (b : Block) (k : Nat) : Block :=
  b.each (b.ft.opens.filter (fun o => boothOf o.2.1 == k)) (fun b o => b.closeBlk (o.2.1 * 4096 + o.2.2) 1)
/-- A bring-up starts. -/
def Block.bringUp (b : Block) (k : Nat) : Block :=
  let st := b.boothSt k
  (b.onFc (fun e => { e with bringFrom := smPut e.bringFrom k st })).setBooth k 1
/-- A booth no longer uses its profile slot. -/
def Block.dropProfUse (b : Block) (k : Nat) : Block :=
  let slot := b.rdF (pgBooth k + 0x104) 6 9
  let u := b.rdF (pgFc + 0x110 + 4 * slot) 16 23
  b.wrF (pgFc + 0x110 + 4 * slot) 16 23 (if u / 2 ^ k % 2 = 1 then u - 2 ^ k else u)
/-- A bring-up fails. -/
def Block.bringFails (b : Block) (k : Nat) (noProfile : Bool) : Block :=
  let b := b.onIf noProfile (fun b => b.raise (pgBooth k) 4)
  ((b.boothDark k).dropProfUse k).setBooth k 7
/-- The largest INRUSH_MW among the profiles held (R780). -/
def Block.inrushMw (b : Block) : Nat := (b.fc.profs.map (fun e => e.2.body.inrush)).foldl max 0
/-- BOOTH_PWREN rises. -/
def Block.powerRise (b : Block) (k : Nat) : Block :=
  ((b.setPwr k true).pllOn 9).onFc (fun e => { e with inrush := smPut e.inrush k b.usec })
/-- Step 2 of R328: the inrush ticket is asked for. -/
def Block.inrushAsk (b : Block) (k : Nat) : Block :=
  if b.fc.profs.isEmpty then b.bringFails k true
  else
    let (a, b) := b.ticket ⟨.booth k, .inrush k, b.inrushMw, 1, b.usec, false, false, false, false⟩
    match a with
    | .granted => b.powerRise k
    | .delayed => b
    | .refused => (b.boothRecord k 0x010C .corrected).bringFails k true
/-- Booths whose delayed inrush ticket has been granted power up. -/
def Block.inrushGranted (b : Block) : Block :=
  b.each (List.range 8) (fun b k => b.onIf (b.boothSt k == 1 && b.holds (.inrush k) && !b.boothPwr k) (fun b => b.powerRise k))

/-- The cartridge ID (R329). -/
def cartId (uids : List (BitVec 128)) : W64 := crc64 (uids.flatMap (fun u => (List.range 16).map (fun k => byteOf u k)))

/-- The dies of a cartridge take their places; dies at spare positions are held back until they are brought in (R265, R295). -/
def Block.placeDies (b : Block) (k : Nat) (cart : Cart) (p : ProfBody) : Block :=
  b.each cart.dies (fun b d => b.modDie (128 * k + d.1.toNat) (fun x => { x with
    answered := true, inService := (x.spareIn || !p.spares.getLsbD (d.1.toNat % 16)) && !x.retired, stopped := false }))

/-- Blocks of a cartridge that stays: one that was open counts as closed, to be verified. -/
def Block.reopen (b : Block) (k : Nat) : Block :=
  b.onFt (fun t => { t with
    blks := t.blks.map (fun x =>
      if boothOf (x.1 / 4096) = k ∧ x.2.st = .opened then (x.1, { x.2 with st := .closed, closedAt := (b.usec : Int) }) else x)
    opens := t.opens.filter (fun o => boothOf o.2.1 ≠ k) })

/-- A new cartridge's bad blocks, and its share of the retire reserve; a cartridge that brings blocks for it ends read-only end of life (R270;
DESIGN CHOICE, log entry 59). -/
def Block.newBlocks (b : Block) (k : Nat) (cart : Cart) (p : ProfBody) : Block :=
  let b := b.each cart.badBlocks (fun b x => b.modBlk ((128 * k + x.1.toNat) * 4096 + x.2.toNat) (fun y => { y with st := .bad }))
  let dies := (cart.dies.filter (fun d => !p.spares.getLsbD (d.1.toNat % 16))).length
  let n := Config.retireReserve (dies * p.blocks - cart.badBlocks.length)
  (b.wrSat (pgFt + 0x10C) 0 22 (b.retireLeft + n)).onFt (fun t => { t with
    retireInit := t.retireInit + n
    eol := t.eol && n == 0 })

/-- Insert a die in die-number order. -/
def insDie (d : BitVec 7 × BitVec 128 × BitVec 8 × BitVec 48) :
    List (BitVec 7 × BitVec 128 × BitVec 8 × BitVec 48) → List (BitVec 7 × BitVec 128 × BitVec 8 × BitVec 48)
  | [] => [d]
  | x :: xs => if d.1.toNat ≤ x.1.toNat then d :: x :: xs else x :: insDie d xs
/-- A returning cartridge: the blocks that its metadata lists as open or unverified are verified at C1 (R328). -/
def Block.reverify (b : Block) (k : Nat) : Block :=
  let b := b.reopen k
  b.each ((b.ft.blks.filter (fun e => boothOf (e.1 / 4096) == k && b.verifies e.1 && !e.2.readBack)).map (·.1)) (fun b x => b.readBack x 1)
/-- Steps 3 to 7 of R328. The channels train one after another under one training ticket (R301): while it is delayed, the bring-up stands
before step 5 and the die reports are given again. -/
def Block.bringRest (b : Block) (k : Nat) (cart : Cart) : Block :=
  let cart := { cart with dies := cart.dies.foldr insDie [] }
  let from_ := (smFind b.fc.bringFrom k).getD 0
  let id := cartId (cart.dies.map (fun d => d.2.1))
  let kept := b.boothMapped k
  let b := b.wr64 (pgBooth k + 0x110) id.toNat
  if kept && from_ != 0 && smFind b.fc.carts k != some id then (b.boothDark k).setBooth k 6 |>.raise (pgBooth k) 3
  else match cart.dies with
  | [] => b.bringFails k true
  | ref :: _ =>
    match b.pickProf ref.2.2.1 ref.2.2.2 with
    | none => b.bringFails k true
    | some slot =>
      match smFind b.fc.profs slot with
      | none => b.bringFails k true
      | some p =>
        if !cart.dies.all (fun d => p.fits d.2.2.1 d.2.2.2) then b.bringFails k true
        else
          let (a, b) := b.ticket ⟨.chip, .training (8 * k), 450, 1, b.usec, false, false, false, false⟩
          if a ≠ .granted then b.onFc (fun e => { e with inrush := smPut e.inrush k (b.usec - 20000) }) else
          let b := (b.untick (.training (8 * k))).onIf (!kept) (fun b => b.forgetCart k)
          let b := b.wrF (pgBooth k + 0x104) 6 9 slot
          let b := b.wrF (pgFc + 0x110 + 4 * slot) 16 23 (b.rdF (pgFc + 0x110 + 4 * slot) 16 23 ||| 2 ^ k)
          let b := b.placeDies k cart p.body
          let chs := (List.range 8).filter (fun c => cart.dies.any (fun d => d.1.toNat / 16 == c))
          let spareOnly := chs.any (fun c => !(List.range 16).any (fun i => (b.die (128 * k + 16 * c + i)).inService))
          let b := b.each chs (fun b c =>
            b.trainCh (8 * k + c) p.body ((cart.rates.find? (fun r => r.1.toNat == c)).elim [] (·.2)))
          let b := b.each (List.range 8) (fun b c => b.chDies (8 * k + c))
          let dead := chs.any (fun c => !(List.range 16).any (fun i => (b.die (128 * k + 16 * c + i)).inService))
          if dead then b.bringFails k spareOnly
          else
            let b := (b.onFc (fun e => { e with carts := smPut e.carts k id })).onFt (fun t => { t with drained := smErase t.drained k })
            let b := b.setBooth k 2
            let b := if kept then b.reverify k else b.newBlocks k cart p.body
            (b.metaRefresh).retarget.refreshMode

/-- The free native capacity of the other booths in service, less FT.RESERVE, in slots (R333). -/
def Block.drainRoom (b : Block) (k : Nat) : Nat :=
  let dies := b.diesIn.filter (fun d => boothOf d ≠ k && b.boothOpen (boothOf d))
  let per := fun (d : Nat) => (b.dieProf d).blocks -
    (b.ft.blks.filter (fun e => e.1 / 4096 == d && !b.blkFree e.1)).length
  ((dies.map (fun d => per d * b.slotsOf d false)).sum) - b.reserve * b.minSlots false
/-- A booth's share of the user capacity: its good blocks, at the slots per block of R267. -/
def Block.boothShare (b : Block) (k : Nat) : Nat :=
  let dies := b.diesIn.filter (fun d => boothOf d == k)
  ((dies.map (fun d => (b.dieProf d).blocks)).sum -
    (b.ft.blks.filter (fun e => dies.contains (e.1 / 4096) && (decide (e.2.st = .retired) || decide (e.2.st = .bad)))).length) * b.minSlots false

/-- DRAIN (R333). -/
def Block.drain (b : Block) (k : Nat) : Block :=
  if b.boothValid k > b.drainRoom k then b.boothRecord k 0x010A .corrected
  else
    let share := b.boothShare k
    let b := b.onFt (fun t => { t with drained := smPut t.drained k share })
    let b := (b.setBooth k 3).closeBooth k
    let ks := (b.ft.blks.filter (fun e => boothOf (e.1 / 4096) == k && decide (e.2.st = .verified) && !e.2.copying &&
      decide (b.validOf e.1 > 0))).map (·.1)
    ((b.each ks (fun b x => b.copyBlk x 1)).metaRefresh).refreshMode
/-- ABORT_DRAIN (R335). -/
def Block.abortDrain (b : Block) (k : Nat) : Block :=
  ((b.onFt (fun t => { t with drained := smErase t.drained k })).setBooth k 2).refreshMode
/-- POWER_OFF (R336). -/
def Block.powerOff (b : Block) (k : Nat) : Block :=
  let serving := b.boothSt k == 2
  let b := b.onIf serving (fun b => b.closeBooth k)
  let b := b.setBoothBusy k true
  let b := b.onIf serving Block.metaRefresh
  (b.dropProfUse k).powerOffEnds k
/-- FORGET (R338). -/
def Block.forget (b : Block) (k : Nat) : Block :=
  let ks := (b.ft.map.filter (fun e => !lFlag e.2 && boothOf (lDie e.2) == k)).map (·.1)
  let b := (b.loseUnits ks).forgetCart k
  ((b.boothDark k).dropProfUse k).setBooth k 0 |>.retarget |>.refreshMode

/-- BOOTH_PRES# asserts (R327). -/
def Block.presAssert (b : Block) (k : Nat) : Block :=
  let b := ((b.wrF (pgBooth k + 0x104) 4 4 1).raise (pgBooth k) 0).setLevel (2 + k) false
  let b := b.onFc (fun e => { e with presAt := smPut e.presAt k b.usec })
  b.onIf (b.rdF (pgBooth k + 0x108) 0 0 == 1 && (b.boothSt k == 0 || b.boothSt k == 5)) (fun b => b.bringUp k)

/-- The operations of a booth that lost its cartridge end (R339). -/
def Block.endBoothOps (b : Block) (k : Nat) : Block :=
  let ops := b.fc.ops.filter (fun o => boothOf o.die == k)
  let b := b.onFc (fun e => { e with ops := e.ops.filter (fun o => boothOf o.die ≠ k) })
  let b := b.each ops (fun b o => b.untickOp o.id)
  let b := b.onFt (fun t => { t with staged := t.staged.map (fun (u : Staged) =>
    if u.phase = .packed ∧ boothOf (lDie u.loc) = k then { u with phase := .coded } else u) })
  let b := b.each ops (fun b o =>
    match o.why with
    | .rebuild id => match b.op id with
      | some p => (b.dropOp id).readGone p (stat 7 0xC5 false)
      | none => b
    | _ => b.readGone o (stat 7 0xC5 false))
  let dest := (b.ft.blks.filter (fun e => boothOf (e.1 / 4096) == k && decide (e.2.stream = .reclaim) &&
    (decide (e.2.st = .opened) || decide (e.2.st = .closed)))).map (·.1)
  let src := (b.ft.blks.filter (fun e => boothOf (e.1 / 4096) == k && e.2.copying)).map (·.1)
  let b := b.each src (fun b x => b.modBlk x (fun y => { y with copying := false }))
  b.each dest Block.redoCopies

/-- BOOTH_PRES# deasserts in BRINGUP, SERVING or DRAINING (R339). -/
def Block.surprise (b : Block) (k : Nat) : Block :=
  let b := ((b.wrF (pgBooth k + 0x104) 4 4 0).raise (pgBooth k) 1).setLevel (2 + k) true
  let b := b.boothRecord k 0x0105 .deferred
  let b := (b.boothDark k).setBoothBusy k false
  let off := if b.boothMapped k then 5 else 0
  let b := (b.setBooth k off).reopen k
  let b := (b.endBoothOps k).dropProfUse k
  let b := b.onIf (off == 0) (fun b => b.forgetCart k)
  b.placeAll.metaRefresh.retarget.refreshMode

/-- BOOTH_PRES# deasserts in any other state (R781). -/
def Block.removedIn (b : Block) (k : Nat) : Block :=
  let b := ((b.wrF (pgBooth k + 0x104) 4 4 0).raise (pgBooth k) 1).setLevel (2 + k) true
  match b.boothSt k with
  | 4 => ((b.boothDark k).dropProfUse k).forgetCart k |>.setBooth k 0
  | 6 => b.setBooth k 5
  | 7 => (b.dropProfUse k).boothRest k
  | _ => b

end Sys2Proof.Machine
end

