-- ==== Sys2Proof/Machine/CzOps.lean ====
section
/-! DEFINITION. The compression engine at work (chapter 7): submission, grant, wake and gating of lanes, and the end of jobs for
every submitter. -/
namespace Sys2Proof.Machine

/-- A staged unit has been coded; its header's CRC is that of its 16,384 bytes, with poisoned LBAs taken as zeros (R212, R213, R365). -/
def Block.unitCoded (b : Block) (seq idx unit : Nat) (raw : Bool) (clen : Nat) : Block :=
  (b.modStaged seq idx unit (fun u => { u with phase := .coded, raw := raw, clen := clen, crc := crc32c (denseBytes u.data 16384) })).placeAll

/-- The flash translation engine takes the end of one of its jobs (R362, R365, R380, R317). -/
def Block.ftJobEnds (b : Block) (j : LaneJob) (e : JobEnd) : Block :=
  match j.who with
  | .ftCompress seq idx _ unit =>
    if e.status = 0 then b.unitCoded seq idx unit false e.outUsed
    else if e.status = 1 then b.unitCoded seq idx unit true 16384
    else b.modStaged seq idx unit (fun u => { u with phase := .staged })
  | .ftDecompress seq nsx unit rung =>
    match b.cmd seq with
    | none => b
    | some c =>
      match c.ready.find? (fun r => r.1 == unit) with
      | some (_, some x, _) =>
        let loc := b.mapGet (mkey nsx unit)
        if e.status = 0 ∧ e.outUsed = 16384 then b.unitArrived seq unit x.data x.pmask (lanePort true e.lane)
        else if e.status = 0x26 then b.failUnit seq unit (stat 7 0xC6 false)
        else if e.status = 0x30 ∨ e.status = 0x27 then b.queueJob j.desc j.who
        else b.retryUnit seq nsx unit loc rung
      | _ => b
  | .ftMerge seq idx nsx unit loc rung =>
    match b.ext loc with
    | none => b.mergeDone seq idx nsx unit none
    | some x =>
      if e.status = 0 ∧ e.outUsed = 16384 then b.mergeDone seq idx nsx unit (some (x.data, x.pmask))
      else if e.status = 0x26 ∨ e.status = 0x30 ∨ e.status = 0x27 then b.queueJob j.desc j.who
      else b.retryMerge seq idx nsx unit loc rung
  | _ => b

/-- The running job of a slot whose owner has been reset has ended: the slot returns to IDLE (R381). -/
def Block.slotDue (b : Block) (n : Nat) : Block :=
  if b.cz.idleDue.contains n && !b.slotRuns n then (b.onCz (fun e => { e with idleDue := e.idleDue.filter (· ≠ n) })).idleSlot n else b
/-- A job ends: its record, its completion, and what its submitter does with it. -/
def Block.jobEnds (b : Block) (pg : Nat) (j : LaneJob) (e : JobEnd) (a : FAddr) : Block :=
  let b := (b.jobRecord pg j.desc e a).onIf (jStream j.desc) (fun b => b.slotDue (jSlot j.desc))
  if j.who.isFt then b.ftJobEnds j e else b.handOver j e

/-- A job that ends before a lane has it (R356, R362, R381). -/
def Block.jobEndsEarly (b : Block) (j : LaneJob) (status : Nat) : Block :=
  let d := j.desc
  let e : JobEnd := { status := status, decomp := jDecomp d, outTotal := if jStream d then (b.slot (jSlot d)).outTotal else 0 }
  (b.unqueue j.id).jobEnds pgCz j e (BitVec.ofNat 48 (jIn d))

/-- A job is submitted; one that breaks R356 ends at once. -/
def Block.submitJob (b : Block) (d : BitVec 512) (who : Submitter) : Block :=
  let id := b.cz.nextJob
  let b := b.queueJob d who
  match b.cz.jobs.find? (fun j => j.id == id) with
  | some j => if b.badJob d then b.jobEndsEarly j 0x20 else b
  | none => b

/-- What a refused ticket does to the waiting jobs of a kind, when no lane of it is awake (R362): a ticket that the pool can never
grant is refused for every one of them; one that waited too long is refused for the host read of its age. -/
def Block.refuseJobs (b : Block) (decomp : Bool) (late : Option Nat) : Block :=
  if b.awake decomp > 0 then b else
  b.each (b.cz.jobs.filter (fun j => jDecomp j.desc == decomp &&
    (match j.who with
     | .ftCompress .. | .ftMerge .. => false
     | .ftDecompress .. => late.all (fun t => j.born == t)
     | _ => late.isNone))) (fun b j => b.jobEndsEarly j 0x26)

/-- Ask for the ticket of one gated lane (R360, R362). -/
def Block.askLane (b : Block) (decomp : Bool) : Block :=
  match b.gatedLane decomp with
  | none => b
  | some n =>
    let j := b.nextLaneJob decomp
    let cls := j.elim 3 (fun j => jClass j.desc)
    let born := j.elim b.usec (·.born)
    let refusable := j.any (fun j => match j.who with | .ftDecompress .. => true | _ => false)
    let (a, b) := b.ticket ⟨.chip, laneHolder decomp n, if decomp then 250 else 450, cls, born, refusable, false, false, false⟩
    match a with
    | .refused => b.refuseJobs decomp none
    | _ => b

/-- A free awake lane takes the next job of its kind, or a gated lane is asked for. -/
def Block.grantLane (b : Block) (decomp : Bool) : Block :=
  match b.nextLaneJob decomp with
  | none => b
  | some j =>
    match b.freeLane decomp with
    | none => b.askLane decomp
    | some n =>
      match b.grantCheck j.desc with
      | some st => b.jobEndsEarly j st
      | none => (b.unqueue j.id).modLane decomp n (fun l => { l with
        job := some j
        image := smFind b.cz.tables (jTable j.desc) })

/-- A lane is awake, its wake time after the grant having passed (R361, R680). -/
def Block.wakeLane (b : Block) (decomp : Bool) (n : Nat) : Block :=
  if b.holds (laneHolder decomp n) && !(b.lane decomp n).awake && decide (n < b.lanesOf decomp) then
    let b := (b.elapse (b.wakeTime 7)).pllOn 7
    b.modLane decomp n (fun l => { l with awake := true, idle := b.usec })
  else b

/-- A lane without a job for IDLE_US is power-gated, the warm lanes kept (R361). -/
def Block.gateLane (b : Block) (decomp : Bool) (n : Nat) : Block :=
  let l := b.lane decomp n
  let warm := if decomp then b.rdF (pgCz + 0x104) 14 20 else b.rdF (pgCz + 0x104) 8 13
  if l.awake && l.job.isNone && decide (b.awake decomp > warm) then
    let b := b.elapseTo (l.idle + b.rdF (pgCz + 0x104) 0 7)
    (b.modLane decomp n (fun l => { l with awake := false })).untick (laneHolder decomp n)
  else b

/-- A running job ends without its lane's report: LANE_FAULT or ABORTED. -/
def Block.stopJob (b : Block) (decomp : Bool) (n status : Nat) : Block :=
  match (b.lane decomp n).job with
  | none => b
  | some j =>
    let e : JobEnd := { status := status, lane := n, decomp := decomp
                        outTotal := if jStream j.desc && !jNew j.desc then (b.slot (jSlot j.desc)).outTotal else 0 }
    (b.freeTheLane decomp n).jobEnds (pgLane decomp n) j e (BitVec.ofNat 48 (jIn j.desc))

/-- The kind of a lane. -/
def laneKind (decomp : Bool) : SpKind := if decomp then .laneD else .laneC

/-- Abort the jobs of a filter: those queued, and those that run if `running` says so (R381). -/
def Block.abortJobs (b : Block) (f : LaneJob → Bool) (running : Bool) : Block :=
  let b := b.each (b.cz.jobs.filter f) (fun b j => b.jobEndsEarly j 0x27)
  if !running then b else
  let ls := (b.cz.lanes.filter (fun e => (e.2.job).any f)).map (·.1)
  b.each ls (fun b i => b.stopJob (decide (64 ≤ i)) (i % 64) 0x27)

/-- A tenant reset's part in this unit (R381). -/
def Block.czTenantReset (b : Block) (t : Nat) : Block :=
  let b := b.abortJobs (fun j => jTenant j.desc == t) false
  b.each ((b.cz.slots.filter (fun e => e.2.owner.toNat == t)).map (·.1)) (fun b n =>
    if b.slotRuns n then b.onCz (fun e => { e with idleDue := n :: e.idleDue.filter (· ≠ n) }) else b.idleSlot n)

end Sys2Proof.Machine
end

