-- ==== Sys2Proof/Machine/DmCtl.lean ====
section
/-! DEFINITION. The DMA channels from outside (chapter 9): commands, states, halts, request lines, resets. -/
namespace Sys2Proof.Machine

/-- The DM control page. -/
def pgDm : Nat := pageBase .dmCtl 0
/-- The page of channel `n`. -/
def pgDmCh (n : Nat) : Nat := pageBase .dmCh n

/-- A channel. -/
def Block.chan (b : Block) (n : Nat) : Chan := smGet {} b.dm.chans n
/-- Store a channel. -/
def Block.setChan (b : Block) (n : Nat) (c : Chan) : Block := b.onDm (fun d => { d with chans := smSet {} d.chans n c })
/-- Change a channel. -/
def Block.modChan (b : Block) (n : Nat) (f : Chan → Chan) : Block := b.setChan n (f (b.chan n))

/-- CH_GRANT.TENANT. -/
def Block.chTenant (b : Block) (n : Nat) : Nat := b.rdF (pgDmCh n + 0x100) 0 5
/-- CH_GRANT.EN. -/
def Block.chEn (b : Block) (n : Nat) : Bool := b.rdF (pgDmCh n + 0x100) 6 6 == 1
/-- CH_GRANT.CLASS. -/
def Block.chCls (b : Block) (n : Nat) : Nat := b.rdF (pgDmCh n + 0x100) 7 8
/-- The Big Top port of a channel (R430). -/
def chPort (n : Nat) : BitVec 6 := BitVec.ofNat 6 (43 + n % 4)
/-- A utility channel. -/
def isUtil (n : Nat) : Bool := decide (n < 48)
/-- Bytes per clock of a channel. -/
def chWidth (n : Nat) : Nat := if n < 48 then 8 else 64

/-! ### Request lines (R455-R459) -/

/-- REQ_CFG of a line. -/
def Block.lineCfg (b : Block) (l : Nat) : W32 := smGet 0 b.dm.cfg l
/-- SOURCE of a line. -/
def Block.lineSrc (b : Block) (l : Nat) : Nat := fld (b.lineCfg l) 0 1
/-- Owner of a line. -/
def Block.lineTenant (b : Block) (l : Nat) : Nat := fld (b.lineCfg l) 2 7
/-- A line is asserted; a line with no source never is. -/
def Block.lineUp (b : Block) (l : Nat) : Bool := b.lineSrc l != 0 && b.dm.lines.contains l
/-- Assert a line. -/
def Block.lineSet (b : Block) (l : Nat) : Block :=
  if b.dm.lines.contains l then b else b.onDm (fun d => { d with lines := d.lines ++ [l] })
/-- Deassert a line. -/
def Block.lineClr (b : Block) (l : Nat) : Block := b.onDm (fun d => { d with lines := d.lines.filter (· ≠ l) })

/-! ### Events and halts -/

/-- A channel event reaches the context that started it (R629, bit 2). -/
def Block.chWakes (b : Block) (n : Nat) : Block :=
  match (b.chan n).byCtx with
  | some c => b.onCx (fun x => { x with ctxs := smMod x.ctxs c (fun t => { t with events := t.events ||| 4 }) })
  | none => b

/-- DETAIL of a channel record: PC, opcode, CH_MOVED, CH_REMAIN, line. -/
def chDetail (c : Chan) (op line : Nat) : BitVec 192 :=
  detailOf ((List.range 6).map (fun k => (k, c.pc / 2 ^ (8 * k) % 256)) ++ [(6, op)]
    ++ (List.range 4).map (fun k => (8 + k, c.moved / 2 ^ (8 * k) % 256))
    ++ (List.range 4).map (fun k => (12 + k, c.remain / 2 ^ (8 * k) % 256)) ++ [(16, line)])

/-- A channel halts with a status of R465. -/
def Block.chHalt (b : Block) (n st op line addr : Nat) : Block :=
  let c := b.chan n
  let b := b.setChan n { c with st := st, waiting := false, ahead := [] }
  let sev := if st = 0x18 then Sev.unitFatal else Sev.contained
  let port := (chPort n).setWidth 8
  let b := b.record (pgDmCh n) (errOf (0x100 + st) sev (BitVec.ofNat 6 (b.chTenant n)) port addr (chDetail c op line))
  (b.raise (pgDmCh n) 2).chWakes n

/-- The instruction boundary of a channel told to stop: it stops once its jobs have ended (R461). -/
def Block.chBoundary (b : Block) (n : Nat) : Block :=
  let c := b.chan n
  if c.st = 3 ∧ c.mid = false ∧ c.jobs = [] ∧ c.ended = [] then
    ((b.setChan n { c with st := 4, waiting := false, ahead := [] }).raise (pgDmCh n) 3).chWakes n
  else b

/-! ### Commands (R460) -/

/-- The stored CH_PC. -/
def Block.chPcReg (b : Block) (n : Nat) : Nat := b.rd64 (pgDmCh n + 0x108) % 2 ^ 48

/-- The command is accepted in the channel's state; a channel that is out of service starts no program. -/
def Block.chAccepts (b : Block) (n op : Nat) : Bool :=
  let st := (b.chan n).st
  let up := b.chEn n && b.pageReset (pgDmCh n) == 0
  match op with
  | 1 => up && (st == 0 || st == 2 || st == 4 || st == 5 || decide (0x10 ≤ st))
  | 2 => st == 1
  | 3 => up && (st == 4 || decide (0x10 ≤ st ∧ st ≤ 0x17))
  | _ => false

/-- An accepted command: START, STOP or RESUME. `who` is the context that sent it. -/
def Block.chCommand (b : Block) (n op : Nat) (who : Option Nat) : Block :=
  match op with
  | 1 => b.setChan n { st := 1, pc := b.chPcReg n, byCtx := who }
  | 2 => (b.modChan n (fun c => { c with st := 3, waiting := c.mid && c.waiting })).chBoundary n
  | 3 => b.modChan n (fun c => { c with st := 1, spin := 0 })
  | _ => b

/-- A command refused to a context of another tenant (R436, R472). -/
def Block.startRefused (b : Block) (n ctx : Nat) (t : BitVec 6) : Block :=
  b.record (pgDmCh n) ⟨0x120, .contained, t, 0xFF, none, detailOf [(0, ctx % 256), (1, ctx / 256)]⟩

/-! ### Resets (R463, R464) -/

/-- A channel ends at once; its jobs end as R381 gives, and nothing further is issued. -/
def Block.chKill (b : Block) (n st : Nat) : Block :=
  let live := decide ((b.chan n).st = 1 ∨ (b.chan n).st = 3)
  let b := b.abortJobs (fun j => decide (j.who = .dma n)) true
  let b := b.modChan n (fun c => { c with st := st, jobs := [], ended := [], waiting := false, mid := c.mid, ahead := [] })
  if live ∨ st = 5 then (b.raise (pgDmCh n) 3).chWakes n else b

/-- A tenant reset's part in this unit (R464). -/
def Block.dmTenantReset (b : Block) (t : Nat) : Block :=
  b.each ((List.range 64).filter (fun n => b.chTenant n = t)) (fun b n => b.chKill n 5)

/-- A channel fails its self-check: it leaves service, and a spare takes its number with PC, CH_MOVED and CH_REMAIN as they
stood (R431, R468). -/
def Block.chFault (b : Block) (n : Nat) : Block :=
  let b := b.abortJobs (fun j => decide (j.who = .dma n)) true
  let b := b.modChan n (fun c => { c with jobs := [], ended := [] })
  let b := b.chHalt n 0x18 0 0 (b.chan n).pc
  let k : SpKind := if isUtil n then .chanU else .chanB
  if b.spareReady k n then
    let old := b.physOf k n
    let (ok, b) := (b.spareIn k n (pgDmCh n)).freeTest
    (b.testReplaced k n old (pgDmCh n) ok).raise pgDm 1
  else ((b.setPageReset (pgDmCh n) 3).spareRec 0x0204 .unitFatal (pgDmCh n) (b.physOf k n)).raise pgHk 20

end Sys2Proof.Machine
end

