-- ==== Sys2Proof/Machine/Se.lean ====
section
/-! DEFINITION. The search engine (R473-R509): requests, slots, partitions, the shadow and the mirror check, spare rows. -/
namespace Sys2Proof.Machine

/-- The SE control page. -/
def pgSe : Nat := pageBase .seCtl 0
/-- The page of bank `k`. -/
def pgSeB (k : Nat) : Nat := pageBase .seBank k
/-- Entries of a bank (R473). -/
def bankSize (k : Nat) : Nat := if k = 4 then 4096 else 16384
/-- The key of an entry. -/
def entKey (k i : Nat) : Nat := k * 16384 + i
/-- An entry. -/
def Block.seEnt (b : Block) (k i : Nat) : SeEnt := smGet {} b.se.ents (entKey k i)
/-- Store an entry. -/
def Block.setEnt (b : Block) (k i : Nat) (e : SeEnt) : Block := b.onSe (fun s => { s with ents := smSet {} s.ents (entKey k i) e })
/-- A partition. -/
def Block.sePart (b : Block) (k p : Nat) : SePart := smGet {} b.se.parts (k * 64 + p)
/-- Store a partition. -/
def Block.setPart (b : Block) (k p : Nat) (x : SePart) : Block := b.onSe (fun s => { s with parts := smSet {} s.parts (k * 64 + p) x })
/-- The partitions of a bank that are not OFF. -/
def Block.livePartsOf (b : Block) (k : Nat) : List (Nat × SePart) :=
  (b.se.parts.filter (fun e => e.1 / 64 = k && e.2.st ≠ .off)).map (fun e => (e.1 % 64, e.2))
/-- The listed entries of a bank, with their indices. -/
def Block.entsOf (b : Block) (k : Nat) : List (Nat × SeEnt) :=
  (b.se.ents.filter (fun e => e.1 / 16384 = k)).map (fun e => (e.1 % 16384, e.2))
/-- A row is dead. -/
def Block.deadRow (b : Block) (k i : Nat) : Bool := b.se.dead.contains (entKey k i)

/-! ### Requests and responses (R483-R486) -/

/-- Bits [hi:lo] of a message. -/
def mget (d : BitVec 512) (lo hi : Nat) : Nat := (d.toNat >>> lo) % 2 ^ (hi - lo + 1)
/-- OP. -/
def qOp (d : BitVec 512) : Nat := mget d 0 2
/-- BANK. -/
def qBank (d : BitVec 512) : Nat := mget d 3 5
/-- PART. -/
def qPart (d : BitVec 512) : Nat := mget d 6 11
/-- CLASS. -/
def qCls (d : BitVec 512) : Nat := mget d 12 13
/-- INDEX. -/
def qIx (d : BitVec 512) : Nat := mget d 16 31
/-- KEY. -/
def qKey (d : BitVec 512) : BitVec 128 := (d >>> 128).setWidth 128
/-- MASK, or CARE of a WRITE. -/
def qMask (d : BitVec 512) : BitVec 128 := (d >>> 256).setWidth 128
/-- COOKIE. -/
def qCookie (d : BitVec 512) : Nat := mget d 384 447

/-- The fields of a request that are reserved for its OP and bank. -/
def qReserved (d : BitVec 512) : List (Nat × Nat) :=
  [(14, 15), (48, 63), (96, 127), (448, 511)] ++
  match qOp d with
  | 1 => [(16, 31), (32, 47), (64, 95)]
  | 2 => if qBank d = 4 then [] else [(256, 383)]
  | _ => [(32, 47), (64, 95), (128, 255), (256, 383)]

/-- BAD_REQ (R486). -/
def Block.badReq (b : Block) (d : BitVec 512) : Bool :=
  qOp d == 0 || decide (4 < qOp d) || !b.variant.hasBank (qBank d) || (qReserved d).any (fun r => mget d r.1 r.2 != 0) ||
    (qOp d != 1 && decide (bankSize (qBank d) ≤ qIx d))

/-- A response from its fields. -/
def seRsp (d : BitVec 512) (status : Nat) (rest : List (Nat × Nat)) : BitVec 512 :=
  rest.foldl (fun r x => r ||| (BitVec.ofNat 512 x.2 <<< x.1))
    (BitVec.ofNat 512 (status + (if qOp d = 1 then 0 else qIx d * 2 ^ 32) + qCookie d * 2 ^ 128))

/-- A response reaches its requester. -/
def Block.seAnswer (b : Block) (who : SeWho) (r : BitVec 512) : Block :=
  match who with
  | .port p => b.send (.seResp p r)
  | .ctx c s => b.onSe (fun e => { e with resps := e.resps ++ [(c, s, r)] })
  | .fw =>
    let b := b.each (List.range 16) (fun b k => b.wr (pgSe + 0x1C0 + 4 * k) ((r >>> (32 * k)).setWidth 32))
    (b.wrF (pgSe + 0x184) 0 0 0).raise pgSe 0

/-- A request ends with a status and nothing else. -/
def Block.seStatus (b : Block) (q : SeReq) (status : Nat) : Block := b.seAnswer q.who (seRsp q.req status [])

/-! ### The shadow (R498) -/

/-- SE.SHADOW_BASE. -/
def Block.shadowBase (b : Block) : Nat := b.rd64 (pgSe + 0x100)
/-- The shadow line of an entry. -/
def Block.shadowAt (b : Block) (k i : Nat) : Nat := b.shadowBase + k * 0x100000 + i * 64
/-- The shadow line's bits of an entry. -/
def SeEnt.bits (e : SeEnt) : BitVec 512 :=
  e.key.setWidth 512 ||| (e.care.setWidth 512 <<< 128) ||| (e.result.setWidth 512 <<< 256) ||| (e.prio.setWidth 512 <<< 288)
    ||| (e.part.setWidth 512 <<< 304) ||| (if e.valid then 1 <<< 310 else 0)
/-- The entry a shadow line holds. -/
def entOf (d : BitVec 512) : SeEnt :=
  ⟨d.setWidth 128, (d >>> 128).setWidth 128, (d >>> 288).setWidth 16, (d >>> 256).setWidth 32, (d >>> 304).setWidth 6,
    d.getLsbD 310⟩
/-- How DRAM answers an access of tag 0 to a line. -/
def Block.lineCode (b : Block) (a : Nat) : Resp := if a + 64 ≤ b.dramCap then b.dramCode 0 a 64 else .decode
/-- Write a shadow line. -/
def Block.putShadow (b : Block) (k i : Nat) (e : SeEnt) : Block :=
  let a := b.shadowAt k i
  (b.store a 64 e.bits).poisonSpan a 64 false
/-- Read a shadow line. -/
def Block.getShadow (b : Block) (k i : Nat) : SeEnt := entOf (BitVec.ofNat 512 (b.load (b.shadowAt k i) 64))

/-- A search engine record (R509). -/
def Block.seRec (b : Block) (k i code : Nat) (sev : Sev) (tag : BitVec 6) (part cookie port : Nat) : Block :=
  let d := detailOf ([(0, i % 256), (1, i / 256), (2, part)] ++ (List.range 8).map (fun j => (3 + j, cookie / 2 ^ (8 * j) % 256))
    ++ [(11, port % 256), (12, port / 256)])
  b.record (pgSeB k) (errOf code sev tag (BitVec.ofNat 8 port) (b.shadowAt k i) d)

/-! ### Slots (R487-R494) -/

/-- An entry matches a search (R476). -/
def SeEnt.matches_ (e : SeEnt) (k : Nat) (d : BitVec 512) : Bool :=
  e.valid && e.part.toNat == qPart d && decide ((e.key ^^^ qKey d) &&& qMask d &&& (if k = 4 then e.care else BitVec.allOnes 128) = 0)

/-- The winner of matching entries: the largest PRIO, the lowest index on a tie (R487). -/
def winner : List (Nat × SeEnt) → Option (Nat × SeEnt)
  | [] => none
  | x :: xs => match winner xs with
    | some y => if x.2.prio < y.2.prio then some y else some x
    | none => some x

/-- The matching entries of a search, in rising index order. -/
def Block.hits (b : Block) (k : Nat) (d : BitVec 512) : List (Nat × SeEnt) :=
  (b.entsOf k).filter (fun e => !b.deadRow k e.1 && e.2.matches_ k d)

/-- The response of a search (R487, R488). -/
def Block.searchRsp (b : Block) (k : Nat) (d : BitVec 512) : BitVec 512 :=
  let hs := b.hits k d
  let slots := (List.range 8).map (fun j => (192 + 16 * j, match hs[j]? with | some h => h.1 | none => 0xFFFF))
  match winner hs with
  | none => seRsp d 0 slots
  | some (i, e) =>
    seRsp d 0 (slots ++ [(8, 1), (9, if 1 < hs.length then 1 else 0), (16, min hs.length 255), (32, i), (48, e.prio.toNat),
      (64, e.result.toNat)])

/-- The response of a READ. -/
def readRsp (d : BitVec 512) (e : SeEnt) : BitVec 512 :=
  seRsp d 0 ([(24, e.part.toNat), (30, if e.valid then 1 else 0), (48, e.prio.toNat), (64, e.result.toNat), (192, e.key.toNat)]
    ++ if qBank d = 4 then [(320, e.care.toNat)] else [])

/-- The entry a WRITE stores (R479). -/
def writeEnt (d : BitVec 512) : SeEnt :=
  ⟨qKey d, if qBank d = 4 then qMask d else 0, BitVec.ofNat 16 (mget d 32 47), BitVec.ofNat 32 (mget d 64 95),
    BitVec.ofNat 6 (qPart d), true⟩

/-- A request takes its bank slot. -/
def Block.seSlot (b : Block) (q : SeReq) : Block :=
  let d := q.req
  let k := qBank d
  match qOp d with
  | 1 => (b.inc (pgSeB k + 0x118)).seAnswer q.who (b.searchRsp k d)
  | 2 => ((b.inc (pgSeB k + 0x11C)).setEnt k (qIx d) (writeEnt d)).seAnswer q.who (seRsp d 0 [])
  | 3 => ((b.inc (pgSeB k + 0x11C)).setEnt k (qIx d) {}).seAnswer q.who (seRsp d 0 [])
  | _ => b.seAnswer q.who (readRsp d (b.seEnt k (qIx d)))

/-- A queue of a bank. -/
def Block.seQueue (b : Block) (k : Nat) : List SeReq := smGet [] b.se.queue k
/-- Store a queue. -/
def Block.setSeQueue (b : Block) (k : Nat) (q : List SeReq) : Block := b.onSe (fun s => { s with queue := smSet [] s.queue k q })

/-- The next request of a queue: by class, then age (R490). -/
def Block.seNext (b : Block) : List SeReq → Option SeReq
  | [] => none
  | q :: qs => match b.seNext qs with
    | some r => if b.before r.cls r.born q.cls q.born then some r else some q
    | none => some q

/-- A bank grants its next slot. -/
def Block.seGrant (b : Block) (k : Nat) : Block :=
  match b.seNext (b.seQueue k) with
  | none => b
  | some q =>
    let first := ((b.seQueue k).find? (fun r => qOp q.req != 1 && qOp r.req != 1 && qIx r.req == qIx q.req)).getD q
    (b.setSeQueue k ((b.seQueue k).erase first)).seSlot first

/-- A request waits for its slot; it raises the earlier ones that name its index (R494). -/
def Block.seEnqueue (b : Block) (k : Nat) (q : SeReq) : Block :=
  let up := fun (r : SeReq) => if qOp q.req != 1 && qOp r.req != 1 && qIx r.req == qIx q.req then { r with cls := min r.cls q.cls } else r
  b.setSeQueue k ((b.seQueue k).map up ++ [q])

/-- The bank serves: it is in service and awake. -/
def Block.bankServes (b : Block) (k : Nat) : Bool := b.pageReset (pgSeB k) == 0

/-- The tag may use the partition (R478). -/
def Block.seAdmits (b : Block) (tag : BitVec 6) (d : BitVec 512) : Bool :=
  tag == 0 || (qBank d != 4 && (b.sePart (qBank d) (qPart d)).owner == tag)

/-- How the checks before a slot end a request, if they do (R479, R481, R486). -/
def Block.seEarly (b : Block) (d : BitVec 512) : Option Nat :=
  let k := qBank d
  let p := b.sePart k (qPart d)
  if b.badReq d then some 1
  else if !b.bankServes k then some 7
  else if p.st ≠ .on then some 3
  else if qOp d ≠ 1 ∧ (qIx d < p.base ∨ p.base + p.size ≤ qIx d) then some 2
  else if (qOp d = 2 ∨ qOp d = 4) ∧ b.deadRow k (qIx d) then some 4
  else none

/-- A search request as the Big Top records it (R22), its target the search engine's port 42: the address of its bank's page stands for the engine, which takes
messages and has no other fabric address (DESIGN CHOICE, log entry 60). -/
def seBus (q : SeReq) (port : Nat) : BusReq :=
  ⟨BitVec.ofNat 8 port, q.cls, q.tag, 0x030000000000 + pgSeB (qBank q.req), 64, 0, false⟩
/-- A request that its bank takes has its slot, or waits for it (R487-R494). `hold` says that another request has the bank's slot. -/
def Block.seTake (b : Block) (q : SeReq) (hold : Bool) : Block :=
  let d := q.req
  let k := qBank d
  let upd := qOp d = 2 ∨ qOp d = 3
  if upd ∧ b.lineCode (b.shadowAt k (qIx d)) ≠ .ok then b.seStatus q 5
  else
    let b := if upd then b.putShadow k (qIx d) (if qOp d = 2 then writeEnt d else {}) else b
    if hold || !(b.seQueue k).isEmpty then b.seEnqueue k q else b.seSlot q
/-- A request that its sender reissues: the bank's queue has room by now, or it gets a BUSY response for each microsecond that has
passed, and ends with OFFLINE at the limit (R21). -/
def Block.seReissue (b : Block) (r : SeRetry) : Block :=
  let rest := fun (b : Block) => b.onSe (fun s => { s with retry := s.retry.erase r })
  let n := b.usec - r.at_
  if n = 0 then b
  else match b.seEarly r.req.req with
  | some st => (rest b).seStatus r.req st
  | none =>
    if (b.seQueue (qBank r.req.req)).length < 64 then (rest b).seTake r.req true
    else if b.busyLimit ≤ r.busy + n then (rest b).send (.seCode r.req.who .offline)
    else b.onSe (fun s => { s with retry := s.retry.map (fun x => if x = r then { x with busy := x.busy + n, at_ := b.usec } else x) })
/-- Every request that its sender reissues, oldest first. -/
def Block.seReissues (b : Block) : Block := b.each b.se.retry Block.seReissue
/-- A request arrives (R478-R494). -/
def Block.seRequest (b : Block) (who : SeWho) (tag : BitVec 6) (port : Nat) (d : BitVec 512) (hold : Bool) : Block :=
  let b := b.seReissues
  let k := qBank d
  let q : SeReq := ⟨d, tag, who, b.usec, qCls d, false⟩
  if !b.variant.hasUnit 14 then (b.btRecAt 42 (seBus q port) (qOp d != 1 && qOp d != 4) 0x101 2).send (.seCode who .decode)
  else if b.variant.hasBank k && !b.seAdmits tag d then
    let b := b.seRec k (qIx d) 0x105 .contained tag (qPart d) (qCookie d) port
    (b.btRecAt 42 (seBus q port) (qOp d != 1 && qOp d != 4) 0x102 3).send (.seCode who .tenant)
  else match b.seEarly d with
    | some st => b.seStatus q st
    | none =>
      if 64 ≤ (b.seQueue k).length ∧ who ≠ .fw then
        (b.onSe (fun s => { s with retry := s.retry ++ [⟨q, port, 1, b.usec⟩] })).send (.seCode who .busy)
      else b.seTake q hold

/-- The queued requests of a bank that a filter names end with a status. -/
def Block.seEnd (b : Block) (k status : Nat) (f : SeReq → Bool) : Block :=
  let gone := (b.seQueue k).filter f
  (b.setSeQueue k ((b.seQueue k).filter (fun q => !f q))).each gone (fun b q => b.seStatus q status)

/-! ### Partitions (R480-R482) -/

/-- ENABLE of a partition is refused. -/
def Block.partRefused (b : Block) (k p : Nat) : Bool :=
  let x := b.sePart k p
  x.st ≠ .off || x.size == 0 || decide (bankSize k < x.base + x.size) ||
    (b.livePartsOf k).any (fun e => e.1 != p && decide (x.base < e.2.base + e.2.size ∧ e.2.base < x.base + x.size))

/-- A clear begins; the partition's queued requests end with PART_OFF. -/
def Block.startClear (b : Block) (toOn : Bool) (k p : Nat) : Block :=
  (b.setPart k p { b.sePart k p with st := .clearing, toOn := toOn }).seEnd k 3 (fun q => decide (qPart q.req = p))

/-- ENABLE: a gated bank first asks for its ticket (R482). -/
def Block.partEnable (b : Block) (k p : Nat) : Block :=
  if b.se.awake.contains k then b.startClear true k p
  else
    let (a, b) := b.ticket ⟨.chip, .bank k, 1500, 2, b.usec, false, false, false, false⟩
    let ps := smGet [] b.se.waking k
    match a with
    | .refused => b
    | _ => b.onSe (fun s => { s with waking := smPut s.waking k (ps ++ [p]) })

/-- A bank has its ticket and is awake: its waiting partitions begin to clear (R482). -/
def Block.bankWakes (b : Block) (k : Nat) : Block :=
  if b.holds (.bank k) && !b.se.awake.contains k then
    let ps := smGet [] b.se.waking k
    let b := (b.elapse (b.wakeTime 8)).pllOn 8
    let b := b.onSe (fun s => { s with awake := s.awake ++ [k], waking := smErase s.waking k })
    let b := (b.wrF (pgSeB k + 0x110) 15 15 0).setPower (pgSeB k) 2
    b.each ps (fun b p => if b.partRefused k p then b else b.startClear true k p)
  else b

/-- A bank with no partition that is not OFF gates itself and returns its ticket. -/
def Block.bankGates (b : Block) (k : Nat) : Block :=
  if (b.livePartsOf k).isEmpty && b.se.awake.contains k then
    let b := b.onSe (fun s => { s with awake := s.awake.filter (· ≠ k) })
    ((b.wrF (pgSeB k + 0x110) 15 15 1).setPower (pgSeB k) 0).untick (.bank k)
  else b

/-- Every index of a range and its shadow hold an invalid entry. -/
def Block.clearRange (b : Block) (k base size : Nat) : Block :=
  let lo := entKey k base
  let b := b.onSe (fun s => { s with ents := s.ents.filter (fun e => decide (e.1 < lo ∨ lo + size ≤ e.1)) })
  b.zeroSpan (b.shadowAt k base) (b.shadowAt k base + 64 * size)

/-- A partition clear finishes (R480). -/
def Block.partCleared (b : Block) (k p : Nat) : Block :=
  let x := b.sePart k p
  if x.st ≠ .clearing then b
  else
    let b := b.clearRange k x.base x.size
    let b := b.setPart k p { x with st := if x.toOn then .on else .off, toOn := false }
    (b.raise (pgSeB k) 4).bankGates k

/-! ### Mirror check and spare rows (R499-R504) -/

/-- The partition whose range holds an index, or the entry's own where none does. -/
def Block.partOver (b : Block) (k i : Nat) : Nat :=
  match (b.livePartsOf k).find? (fun e => decide (e.2.base ≤ i ∧ i < e.2.base + e.2.size)) with
  | some e => e.1
  | none => (b.seEnt k i).part.toNat

/-- A row must be replaced: a spare takes it, or it becomes dead (R503, R504). -/
def Block.replaceRow (b : Block) (k i : Nat) : Block :=
  let part := b.partOver k i
  let left := b.rdF (pgSeB k + 0x110) 16 22
  if 0 < left then
    let b := b.wrF (pgSeB k + 0x110) 16 22 (left - 1)
    (b.seRec k i 0x102 .corrected 0 part 0 0xFF).raise (pgSeB k) 1
  else
    let b := b.onSe (fun s => { s with dead := s.dead ++ [entKey k i] })
    let b := b.addSat (pgSeB k + 0x110) 23 29 1
    (b.seRec k i 0x103 .deferred (b.sePart k part).owner part 0 0xFF).raise (pgSeB k) 2

/-- The mirror check moves on; after the last row a lap ends. -/
def Block.mirrorNext (b : Block) (k : Nat) : Block :=
  let i := smGet 0 b.se.mirAt k
  if i + 1 < bankSize k then b.onSe (fun s => { s with mirAt := smPut s.mirAt k (i + 1) })
  else
    let b := b.wrSat (pgSeB k + 0x114) 0 31 (b.usec - smGet 0 b.se.mirStart k)
    let b := b.onSe (fun s => { s with mirAt := smPut s.mirAt k 0, mirStart := smPut s.mirStart k b.usec })
    b.onSe (fun s => { s with mirLate := s.mirLate.filter (· ≠ k) })

/-- The mirror check visits the next row, in a slot that no queued request wants (R490, R499-R501). -/
def Block.mirrorVisit (b : Block) (k : Nat) (flipped : Bool) : Block :=
  let i := smGet 0 b.se.mirAt k
  let row := b.seEnt k i
  let a := b.shadowAt k i
  if b.rdF (pgSe + 0x108) 0 0 = 0 ∨ !b.bankServes k ∨ !b.se.awake.contains k then b
  else if !(b.seQueue k).isEmpty then b
  else if b.deadRow k i ∨ b.lineCode a ≠ .ok then b.mirrorNext k
  else if b.anyPoison a 64 then ((b.putShadow k i row).seRec k i 0x104 .deferred 0 (b.partOver k i) 0 0xFF).mirrorNext k
  else if flipped ∨ row ≠ b.getShadow k i then
    let twice := b.se.mism.contains (entKey k i)
    let b := (b.setEnt k i (b.getShadow k i)).inc (pgSeB k + 0x120)
    let b := (b.seRec k i 0x101 .corrected 0 (b.partOver k i) 0 0xFF).raise (pgSeB k) 0
    let b := b.onSe (fun s => { s with mism := s.mism.filter (· ≠ entKey k i) })
    if twice then (b.replaceRow k i).mirrorNext k
    else (b.onSe (fun s => { s with mism := s.mism ++ [entKey k i] })).mirrorNext k
  else (b.onSe (fun s => { s with mism := s.mism.filter (· ≠ entKey k i) })).mirrorNext k

/-- A lap exceeds LAP_LIMIT seconds (R502). -/
def Block.seLapLate (b : Block) (k : Nat) : Block :=
  if b.se.mirLate.contains k ∨ b.rdF (pgSe + 0x108) 0 0 = 0 then b
  else
    let b := b.elapseTo (smGet 0 b.se.mirStart k + b.rdF (pgSe + 0x108) 1 16 * 1000000 + 1)
    (b.onSe (fun s => { s with mirLate := s.mirLate ++ [k] })).raise (pgSeB k) 3

/-! ### Resets and faults (R505, R506, R659) -/

/-- Reload every row from its shadow; a row whose shadow cannot be read stays. -/
def Block.reload (b : Block) (k : Nat) : Block :=
  b.each (List.range (bankSize k)) (fun b i =>
    let a := b.shadowAt k i
    if b.lineCode a = .ok ∧ !b.anyPoison a 64 ∧ b.seEnt k i ≠ b.getShadow k i then b.setEnt k i (b.getShadow k i) else b)

/-- A SOFT reset of a bank. -/
def Block.bankSoft (b : Block) (k : Nat) : Block :=
  let b := b.seEnd k 6 (fun _ => true)
  if (b.livePartsOf k).isEmpty then b else b.reload k

/-- A HARD reset of a bank: every partition returns to OFF and its range is cleared. -/
def Block.bankHard (b : Block) (k : Nat) : Block :=
  let b := b.seEnd k 6 (fun _ => true)
  let b := b.each (b.livePartsOf k) (fun b e => b.clearRange k e.2.base e.2.size)
  let b := b.onSe (fun s => { s with parts := s.parts.filter (fun e => e.1 / 64 ≠ k), waking := smErase s.waking k })
  if b.se.awake.contains k then b.bankGates k else b.untick (.bank k)

/-- A tenant reset ends the tenant's queued requests (R505). -/
def Block.seTenantReset (b : Block) (t : Nat) : Block :=
  b.each (List.range 5) (fun b k => b.seEnd k 6 (fun q => q.tag.toNat == t))

/-- The free indices of a partition. -/
def Block.freeIx (b : Block) (k p : Nat) : List Nat :=
  let x := b.sePart k p
  ((List.range x.size).map (· + x.base)).filter (fun i => !(b.seEnt k i).valid && !b.deadRow k i)

/-- The binary bank in service whose partition 0 is ON and has the most free indices, the lowest on a tie (R495). -/
def Block.roomiest (b : Block) : Option Nat :=
  let ks := (List.range 4).filter (fun k => b.variant.hasBank k && b.bankServes k && (b.sePart k 0).st = .on && !(b.freeIx k 0).isEmpty)
  ks.foldl (fun m k => match m with
    | some j => if (b.freeIx j 0).length < (b.freeIx k 0).length then some k else m
    | none => some k) none

/-- Write an entry and its shadow, in a slot. -/
def Block.putEntry (b : Block) (k i : Nat) (e : SeEnt) : Block := ((b.putShadow k i e).setEnt k i e).inc (pgSeB k + 0x11C)

/-- A bank that has gone offline copies partition 0 to the other banks; the entries of its other partitions are lost (R659). -/
def Block.migrate (b : Block) (k : Nat) : Block :=
  let own := (b.entsOf k).filter (fun e => e.2.valid && e.2.part == 0)
  let b := if (b.sePart k 0).st = .on then
      b.each own (fun b e => match b.roomiest with
        | some j => match (b.freeIx j 0).head? with
          | some i => b.putEntry j i (b.getShadow k e.1)
          | none => b
        | none => b)
    else b
  b.each ((b.livePartsOf k).filter (fun e => e.1 ≠ 0)) (fun b e =>
    b.seRec k e.2.base 0x103 .deferred e.2.owner e.1 0 0xFF)

end Sys2Proof.Machine
end

