-- ==== Sys2Proof/Machine/Queues.lean ====
section
/-! DEFINITION. Queues at work (chapters 3 and 4): fetching, the sequencer, resets of controllers, links and connections. -/
namespace Sys2Proof.Machine

/-- The HP page of link `l`. -/
def pgHp (l : Nat) : Nat := pageBase .hp l
/-- The FP control page. -/
def pgFp : Nat := pageBase .fpCtl 0
/-- The FP page of port `p`. -/
def pgFpP (p : Nat) : Nat := pageBase .fpPort p

/-! ### Contexts by name -/

/-- The contexts in use that a property names. -/
def Block.qcsWhere (b : Block) (p : BitVec 512 → Bool) : List Nat := (b.qcList.filter (fun e => qUsed e.2 && p e.2)).map (·.1)
/-- The submission context of a controller's queue. -/
def Block.sqOf (b : Block) (cntlid sqid : Nat) : Option Nat :=
  (b.qcsWhere (fun q => qSqEn q && qCntlid q == cntlid && qSqid q == sqid)).head?
/-- The completion context of a controller's queue. -/
def Block.cqOf (b : Block) (cntlid cqid : Nat) : Option Nat :=
  (b.qcsWhere (fun q => qCqEn q && qCntlid q == cntlid && qCqid q == cqid)).head?
/-- The admin submission context of a controller. -/
def Block.adminQc (b : Block) (cntlid : Nat) : Option Nat :=
  (b.qcsWhere (fun q => qSqEn q && qIsAdmin q && qCntlid q == cntlid)).head?
/-- A context is an admin queue in use. -/
def Block.isAdminQc (b : Block) (qc : Nat) : Bool := qSqEn (b.qc qc) && qIsAdmin (b.qc qc)

/-! ### Asynchronous events and completion queues -/

/-- A controller reports an asynchronous event: DW0 of its completion (R166). -/
def Block.asyncEvent (b : Block) (cntlid dw0 : Nat) : Block :=
  match (b.ctlr cntlid).aers, b.adminQc cntlid with
  | cid :: rest, some qc =>
    (b.modCtlr cntlid (fun c => { c with aers := rest })).admDone qc (BitVec.ofNat 16 cid) (BitVec.ofNat 32 dw0) stOk
  | _, _ => b.modCtlr cntlid (fun c => { c with events := c.events ++ [dw0] })

/-- DW0 of the Error event Invalid Doorbell Write Value: type 0, information 1, log page 1. PRESUMED, log entry 23. -/
def evBadDoorbell : Nat := 0x00010100

/-- A submission queue tail doorbell (R166). -/
def Block.sqTail (b : Block) (cntlid qid v : Nat) : Block :=
  match b.sqOf cntlid qid with
  | some i => if v ≤ qSqSize (b.qc i) ∧ qIsPcie (b.qc i) then b.qcF i 160 175 v else b.asyncEvent cntlid evBadDoorbell
  | none => b.asyncEvent cntlid evBadDoorbell
/-- A completion queue head doorbell (R166). -/
def Block.cqHead (b : Block) (cntlid qid v : Nat) : Block :=
  match b.cqOf cntlid qid with
  | some i => if v ≤ qCqSize (b.qc i) ∧ qIsPcie (b.qc i) then (b.qcF i 320 335 v).drainCq i else b.asyncEvent cntlid evBadDoorbell
  | none => b.asyncEvent cntlid evBadDoorbell

/-! ### Lanes and arbitration (R99-R102) -/

/-- CE[t].STATE.RESETTING. -/
def Block.resetting (b : Block) (t : Nat) : Bool := b.rdF (pgCeT t + 0x10C) 15 15 == 1
/-- The queue holds an unfetched entry: an entry below the tail, or a capsule. -/
def Block.hasEntry (b : Block) (i : Nat) : Bool :=
  if qIsTcp (b.qc i) then b.fp.capsules.any (fun c => c.1 == i) else qSqHead (b.qc i) != qSqTail (b.qc i)
/-- A lane may fetch from a context (R96, R102). -/
def Block.eligible (b : Block) (lane i : Nat) : Bool :=
  let q := b.qc i
  qSqEn q && (qType q == 2 || qType q == 4) && qLane q == lane && qState q == 1 && b.hasEntry i
    && (qInflMax q == 0 || decide (b.srcInflight (.queue i) < qInflMax q))
    && decide (b.tenInflight (qTenant q) < b.rdF (pgCeT (qTenant q) + 0x104) 0 16)
    && !b.resetting (qTenant q) && !b.fetchStop && b.laneUp lane && !b.ce.stalled
/-- The contexts a lane may fetch from, in rising order. -/
def Block.eligibles (b : Block) (lane : Nat) : List Nat := (b.qcList.map (·.1)).filter (b.eligible lane)

/-- The first of a rising list after a position, or the first of all. -/
def nextAfter (xs : List Nat) (p : Option Nat) : Option Nat :=
  match p with
  | none => xs.head?
  | some k => match xs.find? (fun x => decide (k < x)) with
    | some x => some x
    | none => xs.head?

/-- The tenants that a list of contexts belongs to, in number order. -/
def Block.tenantsOf (b : Block) (qs : List Nat) : List Nat := (List.range 64).filter (fun t => qs.any (fun i => qTenant (b.qc i) == t))
/-- The tenant whose queue a lane fetches from, with the deficits as the choice leaves them (R102). -/
def Block.pickTenant (b : Block) (lane : Nat) (qs : List Nat) : Option (Nat × Block) :=
  let ts := b.tenantsOf qs
  let cur := smFind b.ce.laneTen lane
  let def_ := fun t => smGet 0 b.ce.deficit (lane * 64 + t)
  let stay := match cur with
    | some t => if ts.contains t && decide (1 ≤ def_ t) then some t else none
    | none => none
  match stay with
  | some t => some (t, b.onCe (fun e => { e with deficit := smSet 0 e.deficit (lane * 64 + t) (def_ t - 1) }))
  | none =>
    match nextAfter ts cur with
    | none => none
    | some t =>
      let b := match cur with
        | some c => if ts.contains c then b else b.onCe (fun e => { e with deficit := smSet 0 e.deficit (lane * 64 + c) 0 })
        | none => b
      let credit := smGet 0 b.ce.deficit (lane * 64 + t) + b.rdF (pgCeT t + 0x108) 0 7 - 1
      some (t, b.onCe (fun e => { e with laneTen := smPut e.laneTen lane t, deficit := smSet 0 e.deficit (lane * 64 + t) credit }))

/-- The weights of a controller's Arbitration feature: high, medium and low, counted from 1. -/
def Ctlr.weights (c : Ctlr) : Nat × Nat × Nat := (fld c.arb 24 31 + 1, fld c.arb 16 23 + 1, fld c.arb 8 15 + 1)
/-- The Arbitration Burst: 2^AB commands, or no limit. -/
def Ctlr.burst (c : Ctlr) : Option Nat := if fld c.arb 0 2 = 7 then none else some (2 ^ fld c.arb 0 2)
/-- The class that NVMe arbitration serves, and the credits it leaves: urgent first, then weighted round robin. -/
def wrrPick (w : Nat × Nat × Nat) (cr : Nat × Nat × Nat) (has : Nat → Bool) : Nat × (Nat × Nat × Nat) :=
  if has 0 then (0, cr)
  else
    let spent := !((has 1 && decide (0 < cr.1)) || (has 2 && decide (0 < cr.2.1)) || (has 3 && decide (0 < cr.2.2)))
    let cr := if spent then w else cr
    if has 1 && decide (0 < cr.1) then (1, (cr.1 - 1, cr.2))
    else if has 2 && decide (0 < cr.2.1) then (2, (cr.1, cr.2.1 - 1, cr.2.2))
    else (3, (cr.1, cr.2.1, cr.2.2 - 1))

/-- The queue of a controller that a lane fetches from; a controller's weighted-round-robin credits are shared by all lanes (R102; DESIGN
CHOICE, log entry 59). -/
def Block.pickQueue (b : Block) (lane k : Nat) (qs : List Nat) : Option (Nat × Block) :=
  let c := b.ctlr k
  let mine := qs.filter (fun i => qCntlid (b.qc i) == k)
  let (cls, cr) := wrrPick c.weights c.wrr (fun p => mine.any (fun i => qPrio (b.qc i) == p))
  let cand := mine.filter (fun i => qPrio (b.qc i) == cls)
  let key := lane * 65536 + k
  let last := smFind b.ce.lastQ key
  let b := b.modCtlr k (fun c => { c with wrr := cr })
  let stay := match last, c.burst with
    | some (q, n), some m => if cand.contains q && decide (n < m) then some (q, n + 1) else none
    | some (q, n), none => if cand.contains q then some (q, n + 1) else none
    | none, _ => none
  match stay with
  | some (q, n) => some (q, b.onCe (fun e => { e with lastQ := smPut e.lastQ key (q, n) }))
  | none => match nextAfter cand (last.map (·.1)) with
    | none => none
    | some q => some (q, b.onCe (fun e => { e with lastQ := smPut e.lastQ key (q, 1) }))

/-- The context that a lane's fetch slot takes (R102), with the arbitration state after it. -/
def Block.pickFetch (b : Block) (lane : Nat) : Option (Nat × Block) :=
  let qs := b.eligibles lane
  match b.pickTenant lane qs with
  | none => none
  | some (t, b) =>
    let mine := qs.filter (fun i => qTenant (b.qc i) == t)
    let ks := ((mine.map (fun i => qCntlid (b.qc i))).eraseDups).mergeSort (fun x y => decide (x ≤ y))
    match nextAfter ks (smFind b.ce.lastK (lane * 64 + t)) with
    | none => none
    | some k => (b.onCe (fun e => { e with lastK := smPut e.lastK (lane * 64 + t) k })).pickQueue lane k mine

/-- The head of a queue moves past a fetched entry. -/
def Block.advanceHead (b : Block) (i : Nat) : Block := b.qcF i 144 159 ((qSqHead (b.qc i) + 1) % (qSqSize (b.qc i) + 1))

/-- One fetched command is passed by its lane. -/
def Block.passLane (b : Block) (i : Nat) (e : Sqe) (ended : Option Stat := none) : Block :=
  let lane := qLane (b.qc i)
  let f : Fetched := ⟨lane, .queue i, e, opOrdered (.queue i) e || qOrdered (b.qc i), false, ended⟩
  (b.psWake.advanceHead i).onCe (fun c => { c with
    lanes := c.lanes ++ [f]
    laneLog := (lane, b.usec, i) :: c.laneLog.filter (fun x => decide (b.usec < x.2.1 + 100000)) })

/-- A slot fetches nothing: the visit of the lane ends, and its tenant keeps no credit (R102). -/
def Block.endVisit (b : Block) (lane : Nat) : Block :=
  match smFind b.ce.laneTen lane with
  | some c => b.onCe (fun e => { e with deficit := smSet 0 e.deficit (lane * 64 + c) 0 })
  | none => b
/-- A fetch slot of a lane: the entry as host memory gave it, or none where the read failed (R102, R152). -/
def Block.fetchSlot (b : Block) (lane : Nat) (entry : Option Sqe) : Block :=
  match b.pickFetch lane with
  | none => if b.laneUp lane && !b.ce.stalled then b.endVisit lane else b
  | some (i, b) =>
    if qIsTcp (b.qc i) then
      match b.fp.capsules.find? (fun c => c.1 == i) with
      | some c => (b.onFp (fun f => { f with capsules := f.capsules.erase c })).passLane i c.2.1 c.2.2
      | none => b
    else match entry with
      | some e => b.passLane i e
      | none => b.faultQc i 0x0101 0

/-- The admin path fetches a command of a controller (R101). -/
def Block.fetchAdmin (b : Block) (cntlid : Nat) (entry : Option (BitVec 16 × Bool)) : Block :=
  match b.adminQc cntlid with
  | none => b
  | some i =>
    let q := b.qc i
    if qState q ≠ 1 ∨ b.fetchStop ∨ !b.hasEntry i then b
    else if qIsTcp q then
      match b.fp.capsules.find? (fun c => c.1 == i) with
      | some c => ((b.onFp (fun f => { f with capsules := f.capsules.erase c })).advanceHead i).onCe
          (fun e => { e with admin := e.admin ++ [(i, c.2.1.cid.toNat, true)] })
      | none => b
    else match entry with
      | some (cid, posted) => (b.advanceHead i).onCe (fun e => { e with admin := e.admin ++ [(i, cid.toNat, posted)] })
      | none => b.faultQc i 0x0101 0

/-! ### Lanes that fail -/

/-- Commands per second, in thousands, that a lane passed over the last 100 ms for some contexts. -/
def Block.rateFor (b : Block) (lane : Nat) (qs : List Nat) : Nat :=
  (b.ce.laneLog.filter (fun e => e.1 == lane && qs.contains e.2.2 && b.usec < e.2.1 + 100000)).length / 100
/-- Rebind one context of lane `n`, which left service: a lane's load is its RATE with what lane `n` passed for the contexts
rebound to it before (R100). -/
def Block.rebind (b : Block) (n : Nat) (moved : List (Nat × Nat)) (i : Nat) : Nat × Block :=
  let l := b.lightest (fun k => b.laneRate k + b.rateFor n ((moved.filter (fun m => m.2 == k)).map (·.1)))
  (l, b.qcF i 13 16 l)
/-- The contexts of a lane that left service are rebound one at a time, by ascending context index (DESIGN CHOICE, log entry 59). -/
def Block.rebindAll (b : Block) (n : Nat) : List (Nat × Nat) → List Nat → Block
  | _, [] => b
  | moved, i :: is =>
    let (l, b) := b.rebind n moved i
    b.rebindAll n (moved ++ [(i, l)]) is
/-- A lane fails its self-check (R152): its contexts are rebound by ascending index (R100; DESIGN CHOICE, log entry 59). -/
def Block.laneCheck (b : Block) (n : Nat) : Block :=
  if !b.laneUp n then b else
  let b := b.record pgCe { code := 0x0105, sev := .corrected, detail := detailOf [(0, n)] }
  let b := b.onCe (fun e => { e with laneOut := e.laneOut ++ [n] })
  b.rebindAll n [] (b.qcsWhere (fun q => qSqEn q && !qIsAdmin q && qLane q == n))
/-- The end of a 1 ms window: lanes that filled every slot (R151, R779). -/
def Block.laneSat (b : Block) : Block :=
  let w := b.usec / 1000
  let b := b.elapseTo ((w + 1) * 1000)
  let full := (List.range 16).any (fun n =>
    decide (12500 ≤ (b.ce.laneLog.filter (fun e => e.1 == n && e.2.1 / 1000 == w)).length))
  b.onIf full (fun b => b.raise pgCe 3)

/-! ### Resets (R133-R135, R162, R172) -/

/-- A command is in the scope of a reset, itself or through its Memory Copy. -/
def Block.inScope (b : Block) (qcs : List Nat) (s : CmdSrc) : Bool :=
  match s with
  | .queue q => qcs.contains q
  | .localQ _ => false
  | .internal p => (b.cmd p).any (fun c => match c.src with | .queue q => qcs.contains q | _ => false)

/-- The commands of a set of contexts end without completions (R127). -/
def Block.endQueues (b : Block) (qcs : List Nat) : Block :=
  let cs := b.ce.cmds.filter (fun c => b.inScope qcs c.src)
  let b := b.each cs Block.endByReset
  let b := b.keepLanes (fun f => !b.inScope qcs f.src)
  let b := (b.onCe (fun e => { e with admin := e.admin.filter (fun a => !qcs.contains a.1) })).dropWaits (fun w => qcs.contains w.qc)
  b.onFp (fun f => { f with capsules := f.capsules.filter (fun c => !qcs.contains c.1) })

/-- A reset of R133 begins: its commands end, and its contexts drain. -/
def Block.resetStart (b : Block) (qcs : List Nat) (tenant : Option (BitVec 6)) : Block :=
  let b := (b.endQueues qcs).each qcs (fun b q => b.qcF q 18 20 2)
  b.onCe (fun e => { e with resets := e.resets ++ [⟨qcs, tenant, b.usec⟩] })

/-- The oldest reset that runs completes (R135). -/
def Block.resetDone (b : Block) : Block :=
  match b.ce.resets with
  | [] => b
  | r :: rs =>
    let b := (b.onCe (fun e => { e with resets := rs })).each r.qcs Block.qcFree
    let b := match r.tenant with
      | some t => if rs.any (fun x => x.tenant == some t) then b else b.wrF (pgCeT t.toNat + 0x10C) 15 15 0
      | none => b
    b.raise pgCe 2

/-- A controller is reset: CC.EN is 0, and its contexts are in the scope. -/
def Block.ctlrReset (b : Block) (ids : List Nat) : Block :=
  let b := b.each ids (fun b k => b.modCtlr k (fun c => { c with en := false, cfs := false, aers := [], events := [], unsent := [] }))
  b.resetStart (b.qcsWhere (fun q => ids.contains (qCntlid q))) none

/-- The global VFs of a PF (R161, R162). -/
def Block.vfsOf (b : Block) (pfB : Bool) : List Nat :=
  if b.hp.split.getD false then if pfB then (List.range 32).map (· + 32) else (List.range 31).map (· + 1)
  else if pfB then [] else (List.range 63).map (· + 1)
/-- A Function Level Reset of a PF. -/
def Block.pfFlr (b : Block) (pfB : Bool) : Block := b.ctlrReset ((if pfB then 0x40 else 0) :: b.vfsOf pfB)

/-! ### Connections (R184-R201) -/

/-- A session. -/
def Block.sess (b : Block) (n : Nat) : Option Sess := smFind b.fp.sess n
/-- Change a session. -/
def Block.modSess (b : Block) (n : Nat) (f : Sess → Sess) : Block := b.onFp (fun p => { p with sess := smMod p.sess n f })

/-- A record of the fabric port about a session (R207). -/
def Block.fpRecord (b : Block) (n code fsn : Nat) : Block :=
  match b.sess n with
  | none => b
  | some x =>
    b.record pgFp { code := code, sev := .contained, tenant := x.tenant,
                    detail := detailOf [(0, n % 65536), (2, x.qc.getD 0 % 65536), (4, fsn % 2 ^ 32), (8, x.flow.lport.toNat)] }

/-- The entries of the binary banks that name a session leave (R497). -/
def Block.uninstall (b : Block) (n : Nat) : Block :=
  b.each (List.range 4) (fun b k =>
    b.each ((b.entsOf k).filter (fun e => e.2.valid && e.2.part == 0 && e.2.result.toNat == n)) (fun b e => b.putEntry k e.1 {}))

/-- A session ends: its entry is invalidated, and its number is free again 1 ms later. -/
def Block.dropSess (b : Block) (n : Nat) : Block :=
  (b.uninstall n).onFp (fun p => { p with
    sess := smErase p.sess n
    cooling := p.cooling ++ [(n, b.usec + 1000)]
    kept := p.kept.filter (fun x => x.1 != n) })

/-- An association ends as an NVMe/TCP controller reset: its connections close with it (R133, R199, R200). -/
def Block.endAssoc (b : Block) (cntlid : Nat) : Block :=
  let ns := (b.fp.sess.filter (fun e => e.2.cntlid == cntlid && decide (e.2.phase = .ready))).map (·.1)
  (b.ctlrReset [cntlid]).each ns Block.dropSess

/-- A connection closes or fails (R200): of an admin connection, with its whole association. -/
def Block.closeSess (b : Block) (n : Nat) : Block :=
  match b.sess n with
  | none => b
  | some x =>
    if x.isAdmin && decide (x.phase = .ready) then b.endAssoc x.cntlid
    else
      let b := match x.qc with
        | some q => (b.endQueues [q]).qcFree q
        | none => b
      b.dropSess n

/-- A completion that is lost with its connection: the connection closes (R201). -/
def Block.lostWith (b : Block) (c : Cmd) (posted : Bool) : Block :=
  match c.src with
  | .queue q => if posted || !qIsTcp (b.qc q) then b else b.closeSess (qSession (b.qc q))
  | _ => b

/-- A PDU format error closes a connection (R187, R190, R207); `fsn` is that of the command it belongs to. -/
def Block.pduError (b : Block) (n : Nat) (fsn : Nat := 0) : Block := (b.fpRecord n 0x0104 fsn).closeSess n

/-- A packet for firmware passes, or is dropped above 1,000,000 in the second (R181). -/
def Block.toFw (b : Block) (what : Nat) : Block :=
  let sec := b.usec / 1000000
  let n := if b.fp.fwRate.2 = sec then b.fp.fwRate.1 else 0
  if n < 1000000 then (b.onFp (fun p => { p with fwRate := (n + 1, sec) })).send (.toFirmware what)
  else b.onFp (fun p => { p with fwDrops := p.fwDrops + 1 })

/-- A lookup of a key in partition 0 of a bank, all bits compared; it takes a search slot. -/
def Block.lookup (b : Block) (k : Nat) (key : BitVec 128) : Option (Nat × SeEnt) × Block :=
  if b.variant.hasBank k && b.bankServes k && decide ((b.sePart k 0).st = .on) then
    let hs := (b.entsOf k).filter (fun e => !b.deadRow k e.1 && e.2.valid && e.2.part == 0 &&
      decide ((e.2.key ^^^ key) &&& (if k = 4 then e.2.care else BitVec.allOnes 128) = 0))
    (winner hs, b.inc (pgSeB k + 0x118))
  else (none, b)
/-- The access-list key of a SYN (R182). -/
def aclKey (f : Flow) : BitVec 128 :=
  let addr : W64 := if f.v6 then (f.src >>> 64).setWidth 64 else 0xFFFFFFFF00000000 ||| (f.src.setWidth 32).setWidth 64
  addr ++ f.dport ++ f.vlan ++ f.lport ++ (0 : BitVec 31)
/-- Bytes of an address, the most significant first. -/
def addrBytes (a : BitVec 128) : List Byte := (List.range 16).map (fun k => (a >>> (8 * (15 - k))).setWidth 8)
/-- The key of a connection (R183): the addresses, or their CRC-64 for IPv6, both TCP ports, the VLAN and the logical port. Their places in
the key are a DESIGN CHOICE, log entry 59. -/
def connKey (f : Flow) : BitVec 128 :=
  let addrs : W64 := if f.v6 then crc64 (addrBytes f.src ++ addrBytes f.dst) else f.src.setWidth 32 ++ f.dst.setWidth 32
  addrs ++ f.dport ++ f.vlan ++ f.lport ++ f.sport ++ (0 : BitVec 15)
/-- The session a segment's key names: the lowest bank that hits (R183, R496). -/
def Block.sessOf (b : Block) (key : BitVec 128) : Option Nat × Block :=
  (List.range 4).foldl (fun (x : Option Nat × Block) k =>
    let (h, b) := x.2.lookup k key
    (match x.1 with | some n => some n | none => h.map (fun e => e.2.result.toNat), b)) (none, b)

/-- A session number is free (R497, R198). -/
def Block.sessFree (b : Block) : Bool := decide (b.fp.sess.length + b.fp.cooling.length < 16384)
/-- A queue context with both parts free exists. -/
def Block.qcFreeOne (b : Block) : Bool := decide ((b.qcList.filter (fun e => qUsed e.2)).length < 16384)

/-! ### Links (R160, R173, R174) -/

/-- The two x8 links are in use. -/
def Block.isSplit (b : Block) : Bool := b.hp.split.getD false
/-- The rate that a link's ticket is for: MAX_RATE, as it stood when a link that is up was trained (R173, R202). -/
def Block.linkRate (b : Block) (l : Nat) : Nat :=
  let top := b.rdF (pgHp l + 0x100) 11 13
  if b.rdF (pgHp l + 0x100) 9 9 = 1 then smGet top b.hp.trained l else top
/-- The ticket of a PCIe link in mW (R173). -/
def Block.linkMw (b : Block) (l : Nat) : Nat := (if b.isSplit then 4000 else 7500) / (if b.linkRate l = 4 then 1 else 2)
/-- Ask for a link's ticket; one held or asked for at another rate is given back first. -/
def Block.linkTicket (b : Block) (l : Nat) : TicketAns × Block :=
  let other := fun (t : Ticket) => t.who == .link l && t.mw != b.linkMw l
  let b := b.onIf (b.pa.held.any other || b.pa.waiting.any other) (fun b => b.untick (.link l))
  b.ticket ⟨.chip, .link l, b.linkMw l, 1, b.usec, false, false, false, false⟩
/-- The link may exist in the present mode. -/
def Block.linkOn (b : Block) (l : Nat) : Bool := !b.hp.perst && (l == 0 || b.isSplit)
/-- HP[l].LINK.UP. -/
def Block.linkIsUp (b : Block) (l : Nat) : Bool := b.rdF (pgHp l + 0x100) 9 9 == 1
/-- A link goes down: its page says so, its ticket returns, and its PF is reset (R172). -/
def Block.linkDown (b : Block) (l : Nat) : Block :=
  let b := b.onIf (b.linkIsUp l) (fun b => (b.wrF (pgHp l + 0x100) 0 9 0).raise (pgHp l) 1)
  let b := (b.onHp (fun h => { h with l12 := h.l12.filter (· ≠ l) })).untick (.link l)
  b.pfFlr (l == 1)

/-- The ticket of an Ethernet logical port in mW, by SPLIT (R173). -/
def ethMw : Nat → Nat
  | 0 => 6000 | 1 => 3100 | 2 => 1600 | _ => 850
/-- FP[p].MODE has been written: enabled logical ports ask for tickets, disabled ones return theirs and go down (R205). -/
def Block.fpTickets (b : Block) (p : Nat) : Block :=
  b.each (List.range 8) (fun b i =>
    if b.rdF (pgFpP p + 0x100) (5 + i) (5 + i) = 1 then
      (b.ticket ⟨.chip, .eth p i, ethMw (b.rdF (pgFpP p + 0x100) 0 1), 1, b.usec, false, false, false, false⟩).2
    else
      let b := (b.untick (.eth p i)).wrF (pgFpP p + 0x104) (8 + i) (8 + i) 0
      if b.rdF (pgFpP p + 0x104) i i = 1 then (b.wrF (pgFpP p + 0x104) i i 0).raise (pgFpP p) 1 else b)

end Sys2Proof.Machine
end

