-- ==== Sys2Proof/Machine/CoreOps.lean ====
section
/-! DEFINITION. The Eowift cores seen as machines (chapter 11): their reset state, windows, trap entry and return, and the
switch of contexts. -/
namespace Sys2Proof.Machine

/-- The CX control page. -/
def pgCx : Nat := pageBase .cxCtl 0
/-- The page of cluster `n`. -/
def pgCl (n : Nat) : Nat := pageBase .cxCluster n
/-- The page of control core `k`. -/
def pgKc (k : Nat) : Nat := pageBase .cxCore k
/-- The CX page of tenant `t`. -/
def pgCxT (t : Nat) : Nat := pageBase .cxTenant t

/-- Kinds of core (R510). -/
inductive CoreKind where
  | c | k | s
deriving DecidableEq, Repr

/-- Core `i`: 0 to 95 are Eowift-C core `i % 8` of cluster `i / 8`, 96 to 99 the control cores, 100 the active Eowift-S core. -/
def coreKind (i : Nat) : CoreKind := if i < 96 then .c else if i < 100 then .k else .s
/-- A core at its reset (R513, R711): the K cores are held in reset until the boot releases them. -/
def coreReset (i : Nat) : Core :=
  match coreKind i with
  | .c => {}
  | .k => { pc := 0x031000040000, stopped := true }
  | .s => { pc := 0x031000000000, st := 2 }
/-- A core. -/
def Block.core (b : Block) (i : Nat) : Core := smGet (coreReset i) b.cx.cores i
/-- Store a core. -/
def Block.setCore (b : Block) (i : Nat) (c : Core) : Block := b.onCx (fun x => { x with cores := smSet (coreReset i) x.cores i c })
/-- Change a core. -/
def Block.modCore (b : Block) (i : Nat) (f : Core → Core) : Block := b.setCore i (f (b.core i))
/-- The core is on this part. -/
def Block.hasCore (b : Block) (i : Nat) : Bool := if i < 96 then b.variant.hasCluster (i / 8) else decide (i ≤ 100)
/-- CORE_ID (R533, R534). -/
def coreId (i : Nat) : W32 :=
  match coreKind i with
  | .c => BitVec.ofNat 32 (i % 8 * 16 + i / 8 * 256)
  | .k => BitVec.ofNat 32 (1 + (i - 96) * 16)
  | .s => 2
/-- The page that records a core's errors (R559, R645). -/
def corePage (i : Nat) : Nat :=
  match coreKind i with
  | .c => pgCl (i / 8)
  | .k => pgKc (i - 96)
  | .s => pgHk

/-! ### st (R517) -/

/-- MODE -/
def Core.mode (c : Core) : Nat := fld c.st 0 1
/-- IE -/
def Core.ie (c : Core) : Bool := c.st.getLsbD 2
/-- TH -/
def Core.th (c : Core) : Bool := c.st.getLsbD 4
/-- QE -/
def Core.qe (c : Core) : Bool := c.st.getLsbD 5
/-- TS -/
def Core.ts (c : Core) : Bool := c.st.getLsbD 6
/-- User mode. -/
def Core.user (c : Core) : Bool := c.mode == 0
/-- The context on the core (CTX). -/
def Core.onCtx (c : Core) : Option Nat := if c.ctx.getLsbD 31 then some (fld c.ctx 0 11) else none
/-- st as it reads: PL is 1 while a load delay is pending. -/
def Core.stRead (c : Core) : W32 := if c.loads.isEmpty then c.st else c.st ||| 8
/-- The mode a trap enters. -/
def handlerMode (i : Nat) : Nat := if coreKind i = .s then 2 else 1

/-- A general register. -/
def Core.getG (c : Core) (n : Nat) : W64 := smGet 0 c.g n
/-- Store a general register. -/
def Core.setG (c : Core) (n : Nat) (v : W64) : Core := { c with g := smSet 0 c.g n v }
/-- An accumulator. -/
def Core.getAc (c : Core) (n : Nat) : BitVec 80 := smGet 0 c.ac n
/-- Store an accumulator. -/
def Core.setAc (c : Core) (n : Nat) (v : BitVec 80) : Core := { c with ac := smSet 0 c.ac n v }
/-- A bank pointer: x0 to x3 are 0 to 3, y0 to y3 are 4 to 7. -/
def Core.getPtr (c : Core) (n : Nat) : W32 := smGet 0 c.ptr n
/-- Store a bank pointer. -/
def Core.setPtr (c : Core) (n : Nat) (v : W32) : Core := { c with ptr := smSet 0 c.ptr n v }

/-! ### Contexts on cores -/

/-- A context that is not FREE. -/
def Block.ctx (b : Block) (c : Nat) : Option Ctx := smFind b.cx.ctxs c
/-- Change a context. -/
def Block.modCtx (b : Block) (c : Nat) (f : Ctx → Ctx) : Block := b.onCx (fun x => { x with ctxs := smMod x.ctxs c f })
/-- The tenant of the context on a core, or 0. -/
def Block.coreTenant (b : Block) (i : Nat) : BitVec 6 :=
  match (b.core i).onCtx with
  | some c => (b.ctx c).elim 0 (·.tenant)
  | none => 0
/-- The tag of a core's accesses (R529, R531). -/
def Block.coreTag (b : Block) (i : Nat) : BitVec 6 := if (b.core i).user then b.coreTenant i else 0

/-- A core's record (R559). -/
def Block.coreRec (b : Block) (i code : Nat) (sev : Sev) (trap : Nat) : Block :=
  let c := b.core i
  let id := (coreId i).toNat % 4096
  let d := detailOf ((List.range 8).map (fun k => (k, c.pc.toNat / 2 ^ (8 * k) % 256))
    ++ [(8, id % 256), (9, id / 256), (10, fld c.ctx 0 7), (11, fld c.ctx 8 11), (12, trap)])
  b.record (corePage i) ⟨code, sev, b.coreTenant i, 0xFF, none, d⟩

/-- SLICE_LEFT now: it runs down while the context is in User mode (R558). -/
def Block.sliceLeft (b : Block) (i : Nat) : Nat :=
  let c := b.core i
  if c.user then c.slice - (b.usec - c.sliceAt) else c.slice

/-! ### Halts that end (R717, R743) -/

/-- DBG.ALLOW lets a core be halted (R744): HALT_C, HALT_K and HALT_S by its kind. -/
def Block.mayHalt (b : Block) (i : Nat) : Bool :=
  let k := match coreKind i with | .c => 0 | .k => 1 | .s => 2
  b.rdF (pageBase .dbg 0 + 0x104) k k == 1
/-- Mode bits of st. -/
def Core.setMode (c : Core) (m : Nat) : Core := { c with st := (c.st &&& ~~~3) ||| BitVec.ofNat 32 m }
/-- Cores that a debugger can select. -/
def Block.coreList (b : Block) : List Nat := (List.range 101).filter b.hasCore
/-- A halted core runs again: its timers go on, no breakpoint holds its next instruction, and a repeat issues anew (R604). -/
def Block.unhalt (b : Block) (i : Nat) (req : Option HaltCause) : Block :=
  let c := b.core i
  match c.halted with
  | none => b
  | some _ =>
    let c' := { c with
      halted := none
      haltReq := req
      haltInfo := (false, 0, 0)
      bpSkip := true
      iters := 0
      sliceAt := b.usec
      qdue := c.qdue.map (fun q => q + (b.usec - c.haltAt)) }
    b.setCore i (c'.setMode c.haltMode)
/-- Every halt ends (R743). -/
def Block.endHalts (b : Block) : Block := b.each b.coreList (fun b i => b.unhalt i none)
/-- A core after its reset; its breakpoints and its groups are registers of the debug port (R717, R733). -/
def Core.renew (c : Core) (i : Nat) : Core := { coreReset i with bps := c.bps, xt := c.xt }
/-- The cores after a reset of all but some. -/
def renewCores (keep : Nat → Bool) (cs : SMap Core) : SMap Core :=
  cs.foldl (fun m e => smSet (coreReset e.1) m e.1 (if keep e.1 then e.2 else e.2.renew e.1)) []

/-! ### Windows (R520) -/

/-- What a translation gives: a fabric address, no window, or a window without the permission. -/
inductive Xl where
  | ok (a : Nat) | none | perm
deriving DecidableEq, Repr

/-- The kinds of access: read, write, fetch, as TINFO encodes them. -/
inductive Acc where
  | rd | wr | ex
deriving DecidableEq, Repr

/-- The encoding of an access in TINFO. -/
def Acc.code : Acc → Nat
  | .rd => 0 | .wr => 1 | .ex => 2

/-- A window allows an access. -/
def Win.allows (w : Win) : Acc → Bool
  | .rd => w.r | .wr => w.w | .ex => w.x

/-- Translate a program address through windows: the lowest-numbered that matches counts. -/
def translate (ws : List Win) (p : Nat) (k : Acc) : Xl :=
  match ws.find? (fun w => w.size != 0 && decide (w.pbase ≤ p ∧ p < w.pbase + 2 ^ w.size)) with
  | some w => if w.allows k then .ok (w.fbase + (p - w.pbase)) else .perm
  | none => .none

/-! ### Traps (R545-R552) -/

/-- What a trap writes beside its code. -/
structure TrapIn where
  /-- CODE; 0 for an interrupt -/
  code : Nat
  /-- TPC -/
  tpc : W64
  /-- TADDR -/
  taddr : W64 := 0
  /-- TINFO -/
  tinfo : W64 := 0
  /-- RESP -/
  resp : Nat := 0
  /-- LATE -/
  late : Bool := false
  /-- STORE -/
  store : Bool := false
  /-- IN_RPT -/
  inRpt : Bool := false
  /-- PL of TST -/
  pl : Bool := false
  /-- an interrupt -/
  intr : Bool := false
deriving DecidableEq, Repr

/-- TCAUSE of a trap. -/
def TrapIn.cause (t : TrapIn) : W32 :=
  BitVec.ofNat 32 (t.code + (if t.intr then 256 else 0) + (if t.late then 512 else 0) + (if t.store then 1024 else 0)
    + (if t.inRpt then 2048 else 0) + t.resp * 4096)

/-- The state of a core as trap entry leaves it (R548, R549). -/
def Core.entered (c : Core) (i : Nat) (t : TrapIn) (left : Nat) : Core :=
  { c with
    tpc := t.tpc, tst := if t.pl then c.st ||| 8 else c.st &&& ~~~8, tcause := t.cause, taddr := t.taddr, tinfo := t.tinfo
    st := (c.st &&& 0x20) ||| 0x10 ||| BitVec.ofNat 32 (handlerMode i)
    pc := c.tvec + BitVec.ofNat 64 (if t.intr then 0x400 else t.code * 0x40)
    slice := left, iters := 0 }

/-- Trap entry; a synchronous trap while TH is 1 stops the core (R548-R551). -/
def Block.trap (b : Block) (i : Nat) (t : TrapIn) : Block :=
  let c := b.core i
  if c.th && !t.intr then
    (b.coreRec i 0x180 .unitFatal t.code).modCore i (fun c => { c with stopped := true })
  else
    let left := b.sliceLeft i
    let b := b.setCore i (c.entered i t left)
    match c.onCtx with
    | some k => b.modCtx k (fun x => { x with st := if x.st = .running then .supervisor else x.st })
    | none => b

/-- RETT: pc from TPC, st from TST with PL cleared (R550). -/
def Block.rett (b : Block) (i : Nat) : Block :=
  let c := b.core i
  let b := b.setCore i { c with pc := c.tpc, st := c.tst &&& 0x77, sliceAt := b.usec }
  match c.onCtx with
  | some k =>
    if fld c.tst 0 1 = 0 then b.modCtx k (fun x => { x with st := if x.st = .supervisor then .running else x.st }) else b
  | none => b

/-! ### The context record (R554-R557) -/

/-- CX.CTX_BASE. -/
def Block.ctxBase (b : Block) : Nat := b.rd64 (pgCx + 0x100)
/-- The record of a context. -/
def Block.ctxAt (b : Block) (c : Nat) : Nat := b.ctxBase + c * 512
/-- The fabric address of a cluster's window (R34). -/
def clBase (n : Nat) : Nat := 0x020000000000 + n * 0x1000000
/-- The fabric address of the X bank of Eowift-C core `i`. -/
def xBank (i : Nat) : Nat := clBase (i / 8) + 0x800000 + i % 8 * 0x40000
/-- The fabric address of the Y bank of Eowift-C core `i`. -/
def yBank (i : Nat) : Nat := xBank i + 0x20000

/-- A window as a record holds it. -/
def Block.recWin (b : Block) (c k : Nat) : Win :=
  let a := b.ctxAt c + 0x140 + 16 * k
  let w := b.load a 8
  { fbase := w % 2 ^ 48, size := w / 2 ^ 48 % 64, r := w / 2 ^ 54 % 2 == 1, w := w / 2 ^ 55 % 2 == 1, x := w / 2 ^ 56 % 2 == 1,
    pbase := b.load (a + 8) 8 }
/-- A window that R557 turns off. -/
def Win.bad (w : Win) : Bool :=
  w.size != 0 && (decide (w.size < 12) || decide (48 < w.size) || w.fbase % 2 ^ w.size != 0 || w.pbase % 2 ^ w.size != 0)
/-- A window that is off. -/
def winOff : Win := ⟨0, 0, false, false, false, 0⟩
/-- The windows of a context, those that R557 turns off being off. -/
def Block.ctxWins (b : Block) (c : Nat) : List Win :=
  (List.range 8).map (fun k => let w := b.recWin c k; if w.bad then winOff else w)

/-- Copy bytes. -/
def Block.copy (b : Block) (src dst n : Nat) : Block :=
  let p := (List.range ((n + 7) / 8)).map (fun k => b.poisoned (src + 8 * k))
  let b := b.storeBytes dst (b.bytes src n)
  b.each p.zipIdx (fun b x => b.setPoison (dst + 8 * x.2) x.1)

/-- The registers of a core written into a record (bytes 0x000 to 0x10F). -/
def Block.saveRegs (b : Block) (a : Nat) (c : Core) (left : Nat) : Block :=
  let b := b.each (List.range 16) (fun b n => b.store (a + 8 * n) 8 (c.getG n))
  let b := b.each (List.range 4) (fun b n => b.store (a + 0x80 + 16 * n) 16 (c.getAc n))
  let b := b.each (List.range 8) (fun b n => b.store (a + 0xC0 + 4 * n) 4 (c.getPtr n))
  let b := ((b.store (a + 0xE0) 4 c.xm).store (a + 0xE4) 4 c.ym).store (a + 0xE8) 8 c.sa
  let b := ((b.store (a + 0xF0) 8 c.da).store (a + 0xF8) 4 c.ct).store (a + 0xFC) 4 c.fl
  let b := (b.store (a + 0x100) 8 c.pc).store (a + 0x108) 4 c.st
  (b.store (a + 0x10C) 4 (BitVec.ofNat 32 left)).poisonSpan a 0x110 false

/-- The core after a record has been read into it; st as R556 gives. -/
def Block.loadRegs (b : Block) (a : Nat) (c : Core) : Core :=
  let c := (List.range 16).foldl (fun (c : Core) n => c.setG n (BitVec.ofNat 64 (b.load (a + 8 * n) 8))) c
  let c := (List.range 4).foldl (fun (c : Core) n => c.setAc n (BitVec.ofNat 80 (b.load (a + 0x80 + 16 * n) 10))) c
  let c := (List.range 8).foldl (fun (c : Core) n => c.setPtr n (BitVec.ofNat 32 (b.load (a + 0xC0 + 4 * n) 4))) c
  { c with
    xm := BitVec.ofNat 17 (b.load (a + 0xE0) 4), ym := BitVec.ofNat 17 (b.load (a + 0xE4) 4)
    sa := BitVec.ofNat 64 (b.load (a + 0xE8) 8), da := BitVec.ofNat 64 (b.load (a + 0xF0) 8)
    ct := BitVec.ofNat 32 (b.load (a + 0xF8) 4), fl := BitVec.ofNat 4 (b.load (a + 0xFC) 1)
    pc := BitVec.ofNat 64 (b.load (a + 0x100) 8), st := (BitVec.ofNat 32 (b.load (a + 0x108) 4) &&& 0x60) ||| 4
    xyKib := (b.byte (a + 0x110)).toNat, xySave := b.load (a + 0x118) 8 % 2 ^ 48
    scr := (b.load (a + 0x120) 4 % 2 ^ 22, b.load (a + 0x124) 4 % 2 ^ 23), iters := 0 }

/-- A core without a context stands in the supervisor's idle loop, whose code the spec does not give: Supervisor mode with
interrupts accepted, the pc a free value. -/
def Block.idleCore (b : Block) (i : Nat) : Block :=
  let (v, b) := b.free
  b.modCore i (fun c => { c with ctx := c.ctx &&& 0xFFF, st := 5, pc := v, wins := [], xyKib := 0, scr := (0, 0), slice := 0, iters := 0 })

/-- CL_STATUS.BUSY of a core's cluster. -/
def Block.setBusy (b : Block) (i : Nat) (on : Bool) : Block := b.wrF (pgCl (i / 8) + 0x100) (16 + i % 8) (16 + i % 8) (if on then 1 else 0)

/-- Switch-out: the record and the images are written, and the core is idle (R553-R555). -/
def Block.switchOut (b : Block) (i c : Nat) : Block :=
  let r := b.core i
  let b := b.saveRegs (b.ctxAt c) r (b.sliceLeft i)
  let n := r.xyKib * 1024
  let b := (b.copy (xBank i) r.xySave n).copy (yBank i) (r.xySave + n) n
  ((b.modCtx c (fun x => { x with core := none })).setBusy i false).idleCore i

/-- Switch-in: the record and the images are read, and the context runs in User mode (R554-R557). -/
def Block.switchIn (b : Block) (i c : Nat) : Block :=
  match b.ctx c with
  | none => b
  | some x =>
    let r := b.loadRegs (b.ctxAt c) (b.core i)
    let r := { r with ctx := BitVec.ofNat 32 (2 ^ 31 + c), wins := b.ctxWins c, sliceAt := b.usec,
                      slice := b.rdF (pgCxT x.tenant.toNat + 0x104) 8 23 }
    let n := r.xyKib * 1024
    let b := ((b.setCore i r).copy r.xySave (xBank i) n).copy (r.xySave + n) (yBank i) n
    let b := (b.modCtx c (fun x => { x with st := .running, core := some i })).setBusy i true
    if (List.range 8).any (fun k => (b.recWin c k).bad) then b.coreRec i 0x184 .contained 0 else b

/-- Every line of a core's instruction cache goes (R523). -/
def Block.icinv (b : Block) (i : Nat) : Block := b.modCore i (fun c => { c with icache := [] })

end Sys2Proof.Machine
end

