-- ==== Sys2Proof/Machine/Cx.lean ====
section
/-! DEFINITION. The compute service (chapter 13): program slots, contexts, scheduling, the service area, delivery and endings. -/
namespace Sys2Proof.Machine

/-! ### Clusters (R608, R609) -/

/-- CL_STATUS.STEP. -/
def Block.clStep (b : Block) (n : Nat) : Nat := b.rdF (pgCl n + 0x100) 0 2
/-- Set CL_STATUS.STEP; the event STEP when it changes (R647). -/
def Block.setStep (b : Block) (n k : Nat) : Block :=
  if b.clStep n = k then b
  else
    let b := b.onIf (k != 0) (fun b => b.pllOn (1 + n / 2))
    ((b.wrF (pgCl n + 0x100) 0 2 k).setPower (pgCl n) (if k = 0 then 0 else 2)).raise (pgCl n) 1
/-- What a step's ticket adds to the step below, in mW (R609). -/
def stepMw : Nat → Nat
  | 1 => 1700 | 2 => 1100 | 3 => 1400 | _ => 1800
/-- Ask for the ticket of a cluster's step. -/
def Block.stepTicket (b : Block) (n k : Nat) : TicketAns × Block := b.ticket ⟨.chip, .cluster n k, stepMw k, 2, b.usec, false, false, false, false⟩
/-- Contexts of a cluster in a set of states. -/
def Block.ctxsIn (b : Block) (n : Nat) (f : CtxSt → Bool) : List (Nat × Ctx) := b.cx.ctxs.filter (fun e => e.2.cluster == n && f e.2.st)
/-- READY contexts of a cluster. -/
def Block.readyOn (b : Block) (n : Nat) : List (Nat × Ctx) := b.ctxsIn n (fun s => decide (s = .ready))
/-- CL_STATUS.READY follows the contexts. -/
def Block.showReady (b : Block) (n : Nat) : Block := b.wrF (pgCl n + 0x100) 3 15 (b.readyOn n).length
/-- A cluster is present and in service. -/
def Block.clUp (b : Block) (n : Nat) : Bool := b.has .cxCluster n && b.pageReset (pgCl n) == 0
/-- A cluster is present and in service or recovering (R614). -/
def Block.clHope (b : Block) (n : Nat) : Bool := b.has .cxCluster n && (b.pageReset (pgCl n) == 0 || b.pageReset (pgCl n) == 1 || b.pageReset (pgCl n) == 2)
/-- The clusters of a tenant's mask. -/
def Block.maskOfT (b : Block) (t : Nat) : List Nat := (List.range 12).filter (fun n => b.rdF (pgCxT t + 0x108) n n == 1)

/-- DVFS_STEP_UP: a cluster with a READY context asks for the next step, and takes it once granted. -/
def Block.stepUp (b : Block) (n : Nat) : Block :=
  let k := b.clStep n
  let top := min (b.rdF (pgCl n + 0x104) 0 2) (smGet 4 b.cx.avsCap n)
  if !b.clUp n || decide (top ≤ k) || (b.readyOn n).isEmpty then b
  else
    let (a, b) := b.stepTicket n (k + 1)
    if a = .granted then b.setStep n (k + 1) else b
/-- DVFS_STEP_DOWN: the step below, and the difference returns. -/
def Block.stepDown (b : Block) (n : Nat) : Block :=
  let k := b.clStep n
  if k ≤ 1 then b else (b.untick (.cluster n k)).setStep n (k - 1)
/-- CLUSTER_POWER_GATE: no context for GATE_US. -/
def Block.clGate (b : Block) (n : Nat) : Block :=
  if b.clStep n = 0 ∨ b.cx.ctxs.any (fun e => e.2.cluster == n) ∨ !b.has .cxCluster n then b
  else
    let b := b.elapseTo (smGet 0 b.cx.emptyAt n + b.rdF (pgCl n + 0x104) 3 10)
    (b.each [1, 2, 3, 4] (fun b k => b.untick (.cluster n k))).setStep n 0

/-! ### Namespaces and program slots (R619-R623) -/

/-- The region that a tenant's T_PROG (0x10C) or T_SLM (0x110) names: fabric base and size. -/
def Block.cxRegion (b : Block) (t reg : Nat) : Option (Nat × Nat) :=
  if b.rdF (pgCxT t + reg) 5 5 = 1 then
    let r := b.region (b.rdF (pgCxT t + reg) 0 4)
    some (r.base * 2 ^ 20, r.size * 2 ^ 20)
  else none
/-- The fabric address of a program slot: slots of 16 MiB from the first multiple of 16 MiB in the region (log entry 30). -/
def Block.slotPlace (b : Block) (t slot : Nat) : Option Nat :=
  (b.cxRegion t 0x10C).map (fun r => (r.1 + 0xFFFFFF) / 0x1000000 * 0x1000000 + slot * 0x1000000)
/-- A program slot. -/
def Block.prog (b : Block) (t slot : Nat) : Option Prog := smFind b.cx.progs (t * 64 + slot)
/-- Store a program slot. -/
def Block.setProg (b : Block) (t slot : Nat) (p : Option Prog) : Block :=
  b.onCx (fun x => { x with progs := match p with | some p => smPut x.progs (t * 64 + slot) p | none => smErase x.progs (t * 64 + slot) })
/-- A context runs a slot. -/
def Block.slotRunning (b : Block) (t slot : Nat) : Bool := b.cx.ctxs.any (fun e => e.2.tenant.toNat == t && e.2.slot == slot)
/-- The header of R620 holds. -/
def Block.headerOk (b : Block) (a size : Nat) : Bool :=
  decide (32 ≤ size) && b.load a 4 == 0x4A455750 && b.load (a + 4) 2 == 1 && decide ((b.byte (a + 6)).toNat ≤ 128)
    && decide (13 ≤ (b.byte (a + 7)).toNat ∧ (b.byte (a + 7)).toNat ≤ 21) && b.load (a + 8) 4 == size
    && decide (size ≤ 2 ^ 24) && decide (b.load (a + 12) 4 < size) && b.load (a + 16) 16 == 0

/-- A fetched command that ends before the sequencer takes it takes its sequence number as it ends. -/
def Block.quick (b : Block) (qc : Nat) (e : Sqe) (st : Stat) : Block :=
  let (seq, b) := b.takeSeq
  let b := b.noteFetch (.queue qc) seq
  let b := b.countFail qc st
  b.post ⟨qc, 0, if qFsnRpt (b.qc qc) then BitVec.ofNat 32 seq else 0, e.cid.toNat, st, e.posted, none⟩

/-- An I/O submission queue in use. -/
def Block.isIoQc (b : Block) (qc : Nat) : Bool := qSqEn (b.qc qc) && !qIsAdmin (b.qc qc)

/-- Load Program (R621, R622, R623): the state after it, and the status it ends with. -/
def Block.loadProgram (b : Block) (t slot size off : Nat) (data : List Byte) : Block × Stat :=
  match b.slotPlace t slot with
  | none => (b, statU 0 0x0B)
  | some a =>
    let p := (b.prog t slot).getD ⟨0, false, false⟩
    let got := if p.whole then 0 else p.got
    if p.active || b.slotRunning t slot then (b, statU 0 0x0C)
    else if (off ≠ 0 ∧ off ≠ got) ∨ size > 2 ^ 24 ∨ off + data.length > size then (b, statU 0 0x02)
    else
      let b := (b.storeBytes (a + off) data).cleanWhole (a + off) data.length
      if off + data.length < size then (b.setProg t slot (some ⟨off + data.length, false, false⟩), stOk)
      else if b.headerOk a size then
        let b := b.setProg t slot (some ⟨size, true, false⟩)
        (b.each ((List.range 96).filter b.hasCore) Block.icinv, stOk)
      else
        let b := (b.setProg t slot none).record pgCx { code := 0x0104, sev := .corrected, tenant := BitVec.ofNat 6 t }
        (b.raise pgCx 0, statU 0 0x02)

/-- Program Activation Management (R622). -/
def Block.activate (b : Block) (t slot : Nat) (act : Bool) : Block × Stat :=
  match b.prog t slot with
  | none => (b, statU 0 0x02)
  | some p =>
    if !p.whole then (b, statU 0 0x02)
    else if b.slotRunning t slot then (b, statU 0 0x0C)
    else (b.setProg t slot (some { p with active := act }), stOk)

/-! ### Creating contexts (R610-R618) -/

/-- Contexts of a tenant that are not FREE (T_USED). -/
def Block.ctxHeld (b : Block) (t : Nat) : Nat := (b.cx.ctxs.filter (fun e => e.2.tenant.toNat == t)).length
/-- The memory namespace of a tenant: the transit namespace given, which lies in staging and is no larger than what CX.XMEM keeps for
transit (R639), or T_SLM (R619). -/
def Block.memNs (b : Block) (t : Nat) (transit : Option (FAddr × W32)) : Option (Nat × Nat) :=
  match transit with
  | some x =>
    if stgBase ≤ x.1.toNat ∧ x.1.toNat + x.2.toNat ≤ stgBase + stgSize ∧ x.2.toNat ≤ b.rdF (pgCx + 0x10C) 0 5 * 2 ^ 20 then
      some (x.1.toNat, x.2.toNat)
    else none
  | none => b.cxRegion t 0x110
/-- log2 of a power of two from 4 KiB to 2^40. -/
def pow2Log (n : Nat) : Option Nat := (List.range 41).find? (fun k => decide (12 ≤ k) && n == 2 ^ k)
/-- A memory range set keeps R618: base and size are offsets in its memory namespace. -/
def rangesOk (rs : List (W64 × W64 × Bool)) (size : Nat) : Bool :=
  decide (rs.length ≤ 6) && rs.all (fun r => (pow2Log r.2.1.toNat).isSome && r.1.toNat % r.2.1.toNat == 0 &&
    decide (r.1.toNat + r.2.1.toNat ≤ size))
/-- A scratch range overlaps one in use in its cluster. -/
def Block.scrBusy (b : Block) (n base size : Nat) : Bool :=
  b.cx.ctxs.any (fun e => e.2.cluster == n && decide (base < e.2.scrBase + e.2.scrSize ∧ e.2.scrBase < base + size))
/-- The lowest free scratch range of a size above the delivery area (R608, R617; log entry 31). -/
def Block.freeScr (b : Block) (n size : Nat) : Option Nat :=
  ((List.range (0x400000 / size)).map (· * size)).find? (fun a => decide (0x4000 ≤ a) && !b.scrBusy n a size)
/-- The lowest context number that is FREE (log entry 31). -/
def Block.freeCtx (b : Block) : Option Nat := (List.range 4096).find? (fun c => (b.ctx c).isNone)
/-- A cluster's READY and RUNNING contexts. -/
def Block.clLoad (b : Block) (n : Nat) : Nat := (b.ctxsIn n (fun s => decide (s = .ready) || decide (s = .running))).length
/-- Insert a cluster by its load, the lower number first on a tie. -/
def Block.byLoad (b : Block) (n : Nat) : List Nat → List Nat
  | [] => [n]
  | m :: ms => if b.clLoad n < b.clLoad m then n :: m :: ms else m :: b.byLoad n ms

/-- A window's 16 bytes in a record. -/
def Block.putWin (b : Block) (c k fbase size flags pbase : Nat) : Block :=
  let a := b.ctxAt c + 0x140 + 16 * k
  (b.store a 8 (BitVec.ofNat 64 (fbase + size * 2 ^ 48 + flags * 2 ^ 54))).store (a + 8) 8 (BitVec.ofNat 64 pbase)

/-- The record of a new context (R615, R616, R617). -/
def Block.newRecord (b : Block) (c n img scrBase scrLog : Nat) (ranges : List (Nat × Nat × Bool)) (transit : Bool) (params : List Byte) :
    Block :=
  let a := b.ctxAt c
  let b := (b.each (List.range 512) (fun b k => b.setByte (a + k) 0)).poisonSpan a 512 false
  let b := b.store (a + 8) 8 (BitVec.ofNat 64 params.length)
  let b := (b.store (a + 16) 8 (BitVec.ofNat 64 (scrBase + 0x1000))).store (a + 24) 8 (BitVec.ofNat 64 c)
  let b := b.store (a + 120) 8 (BitVec.ofNat 64 (scrBase + 2 ^ scrLog))
  let b := b.store (a + 0x100) 8 (BitVec.ofNat 64 (b.load (img + 12) 4))
  let b := b.setByte (a + 0x110) (b.byte (img + 6))
  let b := b.store (a + 0x118) 8 (BitVec.ofNat 64 (Config.xySave c % 2 ^ 36 * 4096))
  let b := (b.store (a + 0x120) 4 (BitVec.ofNat 32 scrBase)).store (a + 0x124) 4 (BitVec.ofNat 32 (2 ^ scrLog))
  let b := (b.putWin c 0 img 24 5 0).putWin c 1 (clBase n + scrBase) scrLog 3 (2 ^ 48)
  let b := if transit then b else
    b.each ranges.zipIdx (fun b r =>
      b.putWin c (r.2 + 2) r.1.1 ((pow2Log r.1.2.1).getD 0) (if r.1.2.2 then 3 else 1) ((r.2 + 2) * 2 ^ 48))
  let p := clBase n + scrBase + 0x1000
  (b.storeBytes p params).cleanWhole p params.length

/-- A context is made for the Execute Program with a sequence number, on a cluster. -/
def Block.makeCtx (b : Block) (seq slot : Nat) (ranges : List (Nat × Nat × Bool)) (transit : Bool) (params : List Byte)
    (t n c scr scrLog img : Nat) : Block :=
  let b := b.newRecord c n img scr scrLog ranges transit params
  let x : Ctx := ⟨.ready, BitVec.ofNat 6 t, n, none, seq, scr, 2 ^ scrLog, slot, ranges, transit, b.cx.turn, none, 0, none, 0, none, false⟩
  let b := b.onCx (fun e => { e with ctxs := smPut e.ctxs c x, turn := e.turn + 1 })
  let b := b.onCe (fun e => { e with lq := smPut e.lq c { base := clBase n + scr, tenant := BitVec.ofNat 6 t } })
  (b.modCmd seq (fun k => { k with st := .readMedia })).showReady n

/-- Ask clusters in turn for their lowest ticket: the first that is awake or gets or waits for it. -/
def Block.askClusters (b : Block) : List Nat → Option Nat × Block
  | [] => (none, b)
  | n :: ns =>
    if b.clStep n ≠ 0 then (some n, b)
    else
      let (a, b) := b.stepTicket n 1
      match a with
      | .refused => b.askClusters ns
      | .granted => (some n, b.setStep n 1)
      | .delayed => (some n, b)

/-- The first cluster of a list with room for a scratch range, with that range. -/
def Block.roomOn (b : Block) (size : Nat) (ns : List Nat) : List Nat := ns.filter (fun n => (b.freeScr n size).isSome)

/-- An Execute Program goes on as far as its tenant's limits and clusters let it (R612-R618, R642). -/
def Block.progGo (b : Block) (c : Cmd) (slot : Nat) (ranges : List (W64 × W64 × Bool)) (transit : Option (FAddr × W32)) (params : List Byte) :
    Block :=
  let t := c.tenant.toNat
  let ends := fun (b : Block) (st : Stat) => b.complete c.seq st
  let ns := b.memNs t transit
  let base := ns.elim 0 (·.1)
  if decide (params.length > 4096) || !(match ns with | some x => rangesOk ranges x.2 | none => ranges.isEmpty) then ends b (statU 0 0x02)
  else if b.rdF (pgCxT t + 0x100) 0 12 = 0 ∨ !(b.maskOfT t).any b.clHope then ends b (stat 0 0x02 true)
  else if b.ctxHeld t ≥ b.rdF (pgCxT t + 0x100) 0 12 then b
  else
    match b.slotPlace t slot, b.prog t slot with
    | some img, some p =>
      if !p.active then ends b (statU 0 0x02)
      else
        let scrLog := (b.byte (img + 7)).toNat
        let up := (b.maskOfT t).filter b.clUp
        let order := b.roomOn (2 ^ scrLog) (up.foldl (fun ns n => b.byLoad n ns) [])
        if order.isEmpty then b
        else
          let (r, b) := b.askClusters order
          match r with
          | none => ends b (stat 7 0xC6 false)
          | some n => match b.freeCtx, b.freeScr n (2 ^ scrLog) with
            | some k, some scr =>
              b.makeCtx c.seq slot (ranges.map (fun r => (base + r.1.toNat, r.2.1.toNat, r.2.2))) transit.isSome params t n k scr scrLog img
            | _, _ => b
    | _, _ => ends b (statU 0 0x02)

/-! ### Memory namespaces (R625, R639) -/

/-- Read Memory. -/
def Block.readMem (b : Block) (c : Cmd) (qc : Nat) (transit : Option (FAddr × W32)) (off len : Nat) : Block × Stat :=
  match b.memNs c.tenant.toNat transit with
  | none => (b, statU 0 0x0B)
  | some (base, size) =>
    if off + len > size then (b, statU 0 0x02)
    else if len ≠ 0 ∧ b.anyPoison (base + off) len then (b, stat 7 0xC2 true)
    else (b.send (.memData qc c.cid (b.bytes (base + off) len)), stOk)
/-- Write Memory. -/
def Block.writeMem (b : Block) (c : Cmd) (transit : Option (FAddr × W32)) (off : Nat) (data : List Byte) : Block × Stat :=
  match b.memNs c.tenant.toNat transit with
  | none => (b, statU 0 0x0B)
  | some (base, size) =>
    if off + data.length > size then (b, statU 0 0x02)
    else ((b.storeBytes (base + off) data).cleanWhole (base + off) data.length, stOk)

/-- Cut a range of LBAs into parts of at most `per` LBAs. -/
def cutLbas : Nat → Nat → Nat → Nat → List (Nat × Nat)
  | 0, _, _, _ => []
  | n + 1, per, s, c => if c = 0 then [] else (s, min c per) :: cutLbas n per (s + per) (c - per)
/-- An internal command of a Memory Copy: a read or a write of one part of its range. -/
def Cmd.kid (c : Cmd) (lane : Nat) (toMem : Bool) (nsid : W32) (p : Nat × Nat) : Fetched :=
  { lane := lane, src := .internal c.seq
    sqe := { opc := if toMem then 0x02 else 0x01, fuse := 0, cid := BitVec.ofNat 16 c.cid, nsid := nsid, slba := BitVec.ofNat 64 p.1,
             count := BitVec.ofNat 32 p.2, deac := false, ord := false, ranges := [], buf := (0, 0), data := none, ptrs := [], mptr := false,
             pi := 0, prog := none, posted := true } }
/-- An internal command enters from its lane while the Memory Copy goes on and the table has room; one that finds no room waits there for
the sequencer (R114, R625). -/
def Block.kidEnters (b : Block) (slba base lba : Nat) (f : Fetched) : Block :=
  if b.ce.lanes.contains f && !b.ce.stalled && b.collRoom (b.entriesOf f) then
    (b.keepLanes (fun g => g != f)).enter f (base + (f.sqe.slba.toNat - slba) * lba)
  else b
/-- Memory Copy: internal reads or writes of at most 256 KiB each (R625). -/
def Block.memCopy (b : Block) (c : Cmd) (lane : Nat) (toMem : Bool) (nsid : W32) (slba count : Nat) (transit : Option (FAddr × W32)) (off : Nat) :
    Block :=
  match b.memNs c.tenant.toNat transit with
  | none => b.complete c.seq (statU 0 0x0B)
  | some (base, size) =>
    let lba := b.lbaSize (nsid.toNat - 1)
    if off + count * lba > size then b.complete c.seq (statU 0 0x02)
    else
      let kids := (cutLbas (count + 1) (262144 / lba) slba count).map (c.kid lane toMem nsid)
      if kids.isEmpty then b.complete c.seq stOk
      else
        let b := (b.modCmd c.seq (fun d => { d with st := .readMedia, buf := base + off })).onCe (fun e => { e with lanes := e.lanes ++ kids })
        b.each kids (fun b f => b.kidEnters slba (base + off) lba f)

/-- A compute command that has started does its work: at once, or, for an Execute Program, as soon as it has a context. -/
def Block.progRun (b : Block) (seq : Nat) : Block :=
  match b.cmd seq with
  | none => b
  | some c =>
    let ends := fun (r : Block × Stat) => r.1.complete seq r.2
    match c.prog, c.src with
    | some p, .queue qc =>
      if !c.started || decide (c.st ≠ .fetched) then b
      else match p with
        | .load slot size off data => ends (b.loadProgram c.tenant.toNat slot.toNat size.toNat off.toNat data)
        | .activate slot act => ends (b.activate c.tenant.toNat slot.toNat act)
        | .execute slot ranges transit params => b.progGo c slot.toNat ranges transit params
        | .readMem transit off len => ends (b.readMem c qc transit off.toNat len.toNat)
        | .writeMem transit off data => ends (b.writeMem c transit off.toNat data)
        | .copy toMem nsid slba count transit off =>
          b.memCopy c (qLane (b.qc qc)) toMem nsid slba.toNat count.toNat transit off.toNat
    | _, _ => b
/-- A command starts if nothing holds it back, and a compute command that has started goes on. -/
def Block.goOn (b : Block) (seq : Nat) : Block := (b.tryStart seq).progRun seq
/-- The command is an Execute Program that waits for a context or a cluster (R612, R642). -/
def Cmd.execWaits (c : Cmd) : Bool :=
  c.started && !c.fin && decide (c.st = .fetched) && (match c.prog with | some (.execute _ _ _ _) => true | _ => false)
/-- EXECUTE_WAIT_END: a waiting Execute Program proceeds. -/
def Block.progRetry (b : Block) (seq : Nat) : Block := b.onIf ((b.cmd seq).any Cmd.execWaits) (fun b => b.progRun seq)

/-! ### Scheduling (R631-R633) -/

/-- The next READY context of a cluster: deficit round robin over tenants, first in first out within one. -/
def Block.pickCtx (b : Block) (n : Nat) : Option (Nat × Block) :=
  let rs := b.readyOn n
  let ts := (List.range 64).filter (fun t => rs.any (fun e => e.2.tenant.toNat == t))
  let cur := smFind b.cx.lastTen n
  let cr := fun t => smGet 0 b.cx.credit (n * 64 + t)
  let stay := match cur with
    | some t => if ts.contains t && decide (1 ≤ cr t) then some t else none
    | none => none
  let chosen := match stay with
    | some t => some (t, cr t - 1)
    | none => (nextAfter ts cur).map (fun t => (t, cr t + b.rdF (pgCxT t + 0x104) 0 7 - 1))
  match chosen with
  | none => none
  | some (t, left) =>
    let mine := rs.filter (fun e => e.2.tenant.toNat == t)
    let first := mine.foldl (fun (m : Option (Nat × Ctx)) e => match m with
      | some x => if e.2.turn < x.2.turn then some e else some x
      | none => some e) none
    first.map (fun e => (e.1, b.onCx (fun x => { x with lastTen := smPut x.lastTen n t, credit := smSet 0 x.credit (n * 64 + t) left })))

/-- A context joins the end of its run queue. -/
def Block.makeReady (b : Block) (c : Nat) : Block :=
  match b.ctx c with
  | none => b
  | some x => ((b.modCtx c (fun y => { y with st := .ready, turn := b.cx.turn })).onCx (fun e => { e with turn := e.turn + 1 })).showReady x.cluster

/-- A core may be given work: in service, powered, not stopped or halted. -/
def Block.coreLive (b : Block) (i : Nat) : Bool :=
  b.hasCore i && !(b.core i).stopped && (b.core i).halted.isNone &&
    (coreKind i != .c || (b.clUp (i / 8) && b.clStep (i / 8) != 0))

/-- The cluster's dispatcher interrupts a core: one without work while a context is READY, or one whose context ends (R632). -/
def Block.dispDue (b : Block) (i : Nat) : Bool :=
  coreKind i == .c && (match (b.core i).onCtx with
    | some k => (b.ctx k).any (fun x => decide (x.st = .ending))
    | none => !(b.readyOn (i / 8)).isEmpty)
/-- CONTEXT_SWITCH: a core without a context takes the next; a context whose slice has ended gives way to another READY one (R553,
R558, R631, R632). -/
def Block.ctxSwitch (b : Block) (i : Nat) : Block :=
  let c := b.core i
  if coreKind i ≠ .c ∨ !b.coreLive i then b
  else match c.onCtx with
  | none =>
    if !c.loads.isEmpty then b
    else match b.pickCtx (i / 8) with
      | some (k, b) => (b.switchIn i k).showReady (i / 8)
      | none => b
  | some k =>
    if !c.user || !c.loads.isEmpty || !c.lates.isEmpty || c.watch.isSome || b.sliceLeft i != 0 || c.quantum || (b.dispDue i && c.ie) then b
    else match b.pickCtx (i / 8) with
      | some (m, b) => (((b.switchOut i k).makeReady k).switchIn i m).showReady (i / 8)
      | none => b.modCore i (fun c => { c with slice := b.rdF (pgCxT (b.coreTenant i).toNat + 0x104) 8 23, sliceAt := b.usec })
/-- SLICE_END: SLICE_LEFT reaches 0; the core switches, or reloads the slice (R558). -/
def Block.sliceEnd (b : Block) (i : Nat) : Block :=
  let c := b.core i
  if coreKind i ≠ .c ∨ c.onCtx.isNone ∨ !c.user ∨ !b.coreLive i then b else (b.elapse (b.sliceLeft i)).ctxSwitch i

/-! ### Events of a context (R629) -/

/-- The service area of a context: the fabric address of its scratch range. -/
def Block.svc (b : Block) (c : Nat) : Nat := (b.ctx c).elim 0 (fun x => clBase x.cluster + x.scrBase)
/-- A word of the service area. -/
def Block.svcWord (b : Block) (c off : Nat) : W32 := BitVec.ofNat 32 (b.load (b.svc c + off) 4)
/-- Store a word of the service area. -/
def Block.setSvc (b : Block) (c off : Nat) (v : W32) : Block := b.store (b.svc c + off) 4 v
/-- The pending WAIT events: an unread completion, a waiting response, a channel event. -/
def Block.pendEvents (b : Block) (c : Nat) : Nat :=
  (if (smFind b.ce.lq c).any (fun l => !l.ring.isEmpty) then 1 else 0)
    + (if fld (b.svcWord c 0xC04) 8 15 ≠ 0 then 2 else 0)
    + (if (b.ctx c).any (fun x => x.events / 4 % 2 == 1) then 4 else 0)
/-- The channel event has been read. -/
def Block.clearEvents (b : Block) (c : Nat) : Block := b.modCtx c (fun x => { x with events := 0 })
/-- A WAITING context becomes READY; WAIT returns the events in g1. -/
def Block.wakeCtx (b : Block) (c ev : Nat) : Block :=
  ((b.store (b.ctxAt c + 8) 8 (BitVec.ofNat 64 ev)).clearEvents c).makeReady c
/-- CONTEXT_READY: an event of a masked kind makes a WAITING context READY (R633). -/
def Block.ctxReady (b : Block) (c ev : Nat) : Block :=
  match b.ctx c with
  | some x =>
    let p := b.pendEvents c
    if x.st = .waiting ∧ p / 2 ^ ev % 2 = 1 ∧ x.mask / 2 ^ ev % 2 = 1 then b.wakeCtx c p else b
  | none => b
/-- WAIT_TIMEOUT. -/
def Block.waitTimeout (b : Block) (c : Nat) : Block :=
  match b.ctx c with
  | some x => match x.st, x.until_ with
    | .waiting, some u => let b := b.elapseTo u; b.wakeCtx c (b.pendEvents c + 8)
    | _, _ => b
  | none => b

/-! ### Syscalls (R629, R630) -/

/-- The core on which a context stands in the supervisor's handler for a SYSCALL with an immediate. -/
def Block.inSyscall (b : Block) (c imm : Nat) : Option Nat :=
  match b.ctx c with
  | some x => match x.st, x.core with
    | .supervisor, some i => if (b.core i).tcause = 0x0D ∧ (b.core i).tinfo.toNat = imm then some i else none
    | _, _ => none
  | none => none
/-- YIELD. -/
def Block.sysYield (b : Block) (c : Nat) : Block :=
  match b.inSyscall c 1 with
  | some i => ((b.rett i).switchOut i c).makeReady c
  | none => b
/-- WAIT. -/
def Block.sysWait (b : Block) (c : Nat) : Block :=
  match b.inSyscall c 2 with
  | none => b
  | some i =>
    let mask := ((b.core i).getG 1).toNat % 8
    let tmo := ((b.core i).getG 2).toNat
    let p := b.pendEvents c
    if p &&& mask ≠ 0 then ((b.modCore i (fun k => k.setG 1 (BitVec.ofNat 64 p))).clearEvents c).rett i
    else
      let b := (b.rett i).switchOut i c
      b.modCtx c (fun x => { x with st := .waiting, mask := mask, until_ := if tmo = 0 then none else some (b.usec + tmo) })
/-- A channel window (R434). -/
def Block.chWin (b : Block) (n k fbase size flags : Nat) : Block :=
  let a := pgDmCh n + 0x150 + 8 * k
  let base := fbase / 4096
  (b.wr a (BitVec.ofNat 32 base)).wr (a + 4) (BitVec.ofNat 32 (base / 2 ^ 32 % 16 + size % 64 * 16 + flags * 1024))
/-- The windows of a channel before a START (R630). -/
def Block.chWindows (b : Block) (n c i : Nat) (x : Ctx) : Block :=
  let ws := (b.core i).wins
  let w1 := ws[1]?.getD winOff
  let b := b.chWin n 0 w1.fbase w1.size 7
  if x.transit then
    b.each (List.range 3) (fun b k => match x.ranges[k]? with
      | some r => b.chWin n (k + 1) r.1 ((pow2Log r.2.1).getD 0) (if r.2.2 then 3 else 1)
      | none => b.chWin n (k + 1) 0 0 0)
  else
    let _ := c
    b.each (List.range 3) (fun b k =>
      let w := ws[k + 2]?.getD winOff
      b.chWin n (k + 1) w.fbase w.size ((if w.r then 1 else 0) + (if w.w then 2 else 0)))
/-- DMA: the command to a channel; g1 returns 0 if accepted. -/
def Block.sysDma (b : Block) (c : Nat) : Block :=
  match b.inSyscall c 3, b.ctx c with
  | some i, some x =>
    let r := b.core i
    let n := (r.getG 1).toNat
    let op := (r.getG 2).toNat
    let answer := fun (b : Block) (v : W64) => (b.modCore i (fun k => k.setG 1 v)).rett i
    if 64 ≤ n then answer b 1
    else if b.chTenant n ≠ x.tenant.toNat then answer (b.startRefused n c x.tenant) 1
    else
      let pc := match r.wins[1]? with
        | some w => translate [w] (r.getG 3).toNat .rd
        | none => .none
      if op = 1 then
        match pc with
        | .ok a =>
          if b.chAccepts n 1 && a % 16 == 0 then
            let b := (b.chWindows n c i x).wr64 (pgDmCh n + 0x108) a
            answer (b.chCommand n 1 (some c)) 0
          else answer b 1
        | _ => answer b 1
      else if b.chAccepts n op then answer (b.chCommand n op (some c)) 0 else answer b 1
  | _, _ => b
/-- XLATE. -/
def Block.sysXlate (b : Block) (c : Nat) : Block :=
  match b.inSyscall c 4 with
  | none => b
  | some i =>
    let r := b.core i
    let v : W64 := match translate r.wins (r.getG 1).toNat (if r.getG 2 = 0 then .rd else .wr) with
      | .ok a => BitVec.ofNat 64 a
      | _ => BitVec.allOnes 64
    (b.modCore i (fun k => k.setG 1 v)).rett i

/-! ### Endings (R641-R644) -/

/-- A compute service record (R648). -/
def Block.cxRec (b : Block) (c code : Nat) (sev : Sev) (trap : Nat) (pc : W64) : Block :=
  match b.ctx c with
  | none => b
  | some x =>
    let d := detailOf ([(0, c % 256), (1, c / 256), (2, trap)] ++ (List.range 8).map (fun k => (3 + k, pc.toNat / 2 ^ (8 * k) % 256))
      ++ [(11, x.seq % 2 ^ 32)])
    (b.record (pgCl x.cluster) ⟨code, sev, x.tenant, 0xFF, none, d⟩).raise pgCx 1
/-- The search requests of a context end without responses. -/
def Block.dropSearch (b : Block) (c : Nat) : Block :=
  let mine := fun (w : SeWho) => match w with | .ctx d _ => d == c | _ => false
  b.onSe (fun s => { s with
    queue := (s.queue.map (fun e => (e.1, e.2.filter (fun (q : SeReq) => !mine q.who)))).filter (fun e => !e.2.isEmpty)
    retry := s.retry.filter (fun q => !mine q.req.who)
    resps := s.resps.filter (fun r => r.1 ≠ c) })
/-- A context enters ENDING: its Execute Program completes, or not (R642, R643). A context that runs in User mode leaves its core
when the dispatcher interrupts it. -/
def Block.ctxEnd (b : Block) (c : Nat) (v : Option (W32 × Stat)) : Block :=
  match b.ctx c with
  | none => b
  | some x =>
    if x.st = .ending then b
    else
      let b := match v with
        | some r => b.complete x.seq r.2 true 0 r.1
        | none => b
      let b := (b.dropSearch c).onCe (fun e => { e with lq := smErase e.lq c })
      let b := b.modCtx c (fun y => { y with st := .ending, verdict := v })
      let b := match x.core with
        | some i => if x.st = CtxSt.supervisor then
            ((b.modCtx c (fun y => { y with core := none })).setBusy i false).modCore i (fun k => { k with ctx := k.ctx &&& 0xFFF })
          else b
        | none => b
      b.showReady x.cluster
/-- Local queue commands of a context in flight. -/
def Block.lqBusy (b : Block) (c : Nat) : Bool := decide (b.srcInflight (.localQ c) ≠ 0)
/-- CONTEXT_FREE: the last local queue command of an ENDING context has completed (R643). -/
def Block.ctxFree (b : Block) (c : Nat) : Block :=
  match b.ctx c with
  | some x =>
    if x.st = .ending ∧ !b.lqBusy c ∧ x.core = none then
      let b := b.onCx (fun e => { e with ctxs := smErase e.ctxs c })
      if b.cx.ctxs.any (fun e => e.2.cluster == x.cluster) then b
      else b.onCx (fun e => { e with emptyAt := smPut e.emptyAt x.cluster b.usec })
    else b
  | none => b
/-- EXIT. -/
def Block.sysExit (b : Block) (c : Nat) : Block :=
  match b.inSyscall c 0 with
  | none => b
  | some i =>
    let r := b.core i
    let code := r.getG 2
    if code = 0 then b.ctxEnd c (some ((r.getG 1).setWidth 32, stOk))
    else if code = 1 then b.ctxEnd c (some (0, stat 7 0xC1 true))
    else (b.cxRec c 0x0101 .contained 0 r.taddr).ctxEnd c (some (0, stat 7 0xC3 false))
/-- The immediate of a SYSCALL is listed in R629. -/
def listedCall (imm : Nat) : Bool := decide (imm ≤ 4)
/-- CONTEXT_END: a context whose queue has been reset, or whose trap the supervisor does not resolve (R641, R642). -/
def Block.ctxEnds (b : Block) (c : Nat) : Block :=
  match b.ctx c with
  | none => b
  | some x =>
    if (b.cmd x.seq).isNone then b.ctxEnd c none
    else match x.st, x.core with
    | .supervisor, some i =>
      let r := b.core i
      let code := fld r.tcause 0 7
      if r.tcause.getLsbD 8 ∨ code = 0x0C ∨ (code = 0x0D ∧ listedCall r.tinfo.toNat) then b
      else if (code = 9 ∨ code = 10 ∨ code = 11) ∧ x.owned then b
      else if r.tst.getLsbD 3 ∧ x.tried ≠ some (code, r.tpc) then
        (b.modCtx c (fun y => { y with tried := some (code, r.tpc) })).rett i
      else
        let b := b.cxRec c 0x0101 .contained code r.tpc
        if code = 4 ∨ code = 5 then b.ctxEnd c (some (0, stat 7 0xC2 true))
        else b.ctxEnd c (some (BitVec.ofNat 32 code, stat 7 0xC3 false))
    | _, _ => b
/-- A tenant reset's part in the compute service (R644). -/
def Block.cxTenantReset (b : Block) (t : Nat) : Block :=
  b.each ((b.cx.ctxs.filter (fun e => e.2.tenant.toNat == t)).map (·.1)) (fun b c => b.ctxEnd c none)
/-- An Abort of an Execute Program (R642). -/
def Block.abortProgram (b : Block) (seq : Nat) : Block :=
  match b.cx.ctxs.find? (fun e => e.2.seq == seq && decide (e.2.st ≠ .ending)) with
  | some e => b.ctxEnd e.1 (some (0, statU 0 0x07))
  | none => b.complete seq (statU 0 0x07)

/-! ### The local queue (R141-R147, R634) -/

/-- A local queue command is one R142, R146 and R634 allow from slot `n` of a context. -/
def Block.lqOk (b : Block) (c n : Nat) (d : BitVec 256) : Bool :=
  let f := fun lo hi => (d.toNat >>> lo) % 2 ^ (hi - lo + 1)
  let op := f 0 7
  let lba := b.lbaSize (f 32 63 - 1)
  let nlb := f 128 159
  let w := b.recWin c (f 16 18)
  f 8 12 == n && [0, 1, 2, 9].contains op && f 14 15 == 0 && f 19 31 == 0 && f 192 255 == 0 && f 160 165 == 0
    && (if op = 0 then nlb == 0 else decide (1 ≤ nlb) && decide (nlb * lba ≤ 2 ^ 20))
    && (!(op == 1 || op == 2) || (w.size != 0 && !w.bad && decide (f 160 191 + nlb * lba ≤ 2 ^ w.size) && (if op = 2 then w.w else w.r)))
    && (op != 2 || (f 64 127 % (16384 / lba) == 0 && nlb % (16384 / lba) == 0))
/-- A local queue command as the sequencer takes it: one that R146 or R634 refuses ends with Invalid Field in Command. -/
def Block.lqFetched (b : Block) (c n : Nat) (d : BitVec 256) : Fetched :=
  { lane := 16, src := .localQ c
    sqe := { opc := d.setWidth 8, fuse := 0, cid := BitVec.ofNat 16 n, nsid := (d >>> 32).setWidth 32, slba := (d >>> 64).setWidth 64,
             count := (d >>> 128).setWidth 32, deac := true, ord := d.getLsbD 13, ranges := [],
             buf := ((d >>> 16).setWidth 3, (d >>> 160).setWidth 32), data := none, ptrs := [], mptr := false, pi := 0, prog := none, posted := true }
    ordered := d.getLsbD 13
    ended := if b.lqOk c n d then none else some (stat 0 0x02 true) }
/-- A doorbell store is refused (R145). -/
def LqSt.refuses (l : LqSt) (v : W32) : Bool := decide (32 ≤ v.toNat) || l.busy.contains v.toNat
/-- A doorbell store is accepted: its slot is submitted (R141, R144). -/
def Block.lqSubmit (b : Block) (c n : Nat) (d : BitVec 256) : Block :=
  b.onCe (fun e => { e with lq := smMod e.lq c (fun l => { l with busy := l.busy ++ [n] }), lanes := e.lanes ++ [b.lqFetched c n d] })
/-- A refused doorbell is recorded (R152); DETAIL bytes 0-1 name the compute context, since a local queue has no queue context (DESIGN
CHOICE, log entry 59). -/
def Block.lqRefused (b : Block) (c n : Nat) : Block :=
  let t := (b.ctx c).elim 0 (·.tenant)
  b.record (pgCeT t.toNat) ⟨0x0103, .contained, t, 0xFF, none, ceDetail c n 0⟩
/-- A store to the completion head frees the tags whose entries it passes (R144); a value above 31 counts modulo 32 (DESIGN CHOICE, log
entry 59). -/
def Block.lqHead (b : Block) (c v : Nat) : Block :=
  match smFind b.ce.lq c with
  | none => b
  | some l =>
    let n := min ((v % 32 + 32 - l.head) % 32) l.ring.length
    let freed := l.ring.take n
    b.onCe (fun e => { e with lq := smPut e.lq c { l with head := v % 32, ring := l.ring.drop n, busy := l.busy.filter (fun t => !freed.contains t) } })

/-- The memory of a fetched command's data: a local queue buffer, or the part of a Memory Copy. -/
def Block.bufOf (b : Block) (f : Fetched) : Nat :=
  match f.src with
  | .localQ c => (b.recWin c f.sqe.buf.1.toNat).fbase + f.sqe.buf.2.toNat
  | .queue _ => 0
  | .internal p => match b.cmd p with
    | some c => match c.prog with
      | some (.copy _ nsid slba _ _ _) => c.buf + (f.sqe.slba.toNat - slba.toNat) * b.lbaSize (nsid.toNat - 1)
      | _ => c.buf
    | none => 0
/-- The sequencer takes a fetched command (R103). -/
def Block.sequence (b : Block) (f : Fetched) : Block := (b.enter f (b.bufOf f)).progRun b.ce.seq
/-- SEQUENCE_ASSIGN: one command is sequenced, or the sequencer stalls (R103, R114). -/
def Block.seqAssign (b : Block) : Block :=
  match b.nextFetched with
  | none => b
  | some f =>
    if !b.collRoom (b.entriesOf f) then b.stall f.lane
    else
      let x := b.onCe (fun e => { e with lanes := e.lanes.erase f, rr := (f.lane + 1) % 17, stalled := false })
      (x.sequence f).stopRise b
/-- The sequencer takes a fetched command if it is the one it serves next. -/
def Block.seqIf (b : Block) (f : Fetched) : Block := b.onIf (decide (b.nextFetched = some f)) (fun b => b.seqAssign)

/-! ### The service area's other doorbells (R626-R628) -/

/-- A search doorbell store. -/
def Block.searchBell (b : Block) (c : Nat) (v : W32) : Block :=
  match b.ctx c with
  | none => b
  | some x =>
    let st := b.svcWord c 0xC04
    let n := v.toNat
    if 8 ≤ n ∨ st.getLsbD n then b.setSvc c 0xC04 (st ||| 0x10000)
    else
      let b := b.setSvc c 0xC04 (st ||| BitVec.ofNat 32 (2 ^ n))
      let d := b.load (b.svc c + 0x800 + 64 * n) 64
      let d := d - d / 2 ^ 12 % 4 * 2 ^ 12 + 2 * 2 ^ 12
      let d := d - d / 2 ^ 384 % 2 ^ 64 * 2 ^ 384 + n * 2 ^ 384
      b.seRequest (.ctx c n) x.tenant (28 + x.cluster / 2) (BitVec.ofNat 512 d) false
/-- A search response arrives. -/
def Block.searchArrives (b : Block) (c : Nat) : Block :=
  match b.se.resps.find? (fun r => r.1 == c), b.ctx c with
  | some (_, n, d), some _ =>
    let b := b.onSe (fun s => { s with resps := s.resps.erase (c, n, d) })
    let a := b.svc c + 0xA00 + 64 * n
    let b := (b.store a 64 d).poisonSpan a 64 false
    b.setSvc c 0xC04 (b.svcWord c 0xC04 ||| BitVec.ofNat 32 (2 ^ (8 + n)))
  | _, _ => b
/-- A store to the search clear word. -/
def Block.searchClear (b : Block) (c : Nat) (v : W32) : Block :=
  if (b.ctx c).isNone then b
  else
    let ns := (List.range 8).filter (fun n => v.getLsbD (8 + n))
    let off := ns.foldl (fun m n => m ||| BitVec.ofNat 32 (2 ^ n + 2 ^ (8 + n))) (if v.getLsbD 16 then (0x10000 : W32) else 0)
    b.setSvc c 0xC04 (b.svcWord c 0xC04 &&& ~~~off)
/-- A line doorbell store. -/
def Block.lineBell (b : Block) (c : Nat) (v : W32) : Block :=
  match b.ctx c with
  | none => b
  | some x =>
    let l := fld v 0 7
    if v.toNat ≥ 512 ∨ b.lineSrc l ≠ 2 ∨ b.lineTenant l ≠ x.tenant.toNat then b.setSvc c 0xC14 (b.svcWord c 0xC14 ||| 1)
    else if v.getLsbD 8 then b.lineClr l else b.lineSet l
/-- A store to the line status word. -/
def Block.lineOk (b : Block) (c : Nat) : Block := if (b.ctx c).isNone then b else b.setSvc c 0xC14 0

/-! ### Delivery of read data (R635-R638) -/

/-- CL_DLV.EN. -/
def Block.dlvOn (b : Block) (n : Nat) : Bool := b.rdF (pgCl n + 0x108) 14 14 == 1
/-- The delivery channel of a cluster. -/
def Block.dlvCh (b : Block) (n : Nat) : Nat := b.rdF (pgCl n + 0x108) 0 5
/-- The delivery line of a cluster. -/
def Block.dlvLine (b : Block) (n : Nat) : Nat := b.rdF (pgCl n + 0x108) 6 13
/-- Descriptors outstanding. -/
def Block.dlvOut (b : Block) (n : Nat) : List Dlv := smGet [] b.cx.dlv n
/-- Store the descriptors outstanding. -/
def Block.setDlv (b : Block) (n : Nat) (ds : List Dlv) : Block := b.onCx (fun x => { x with dlv := smSet [] x.dlv n ds })
/-- The delivery program (R635). -/
def Block.dlvProgram (b : Block) (n : Nat) : Block :=
  let a := clBase n
  let ins := fun (op reg : Nat) (v : Nat) => BitVec.ofNat 128 (op + reg * 256 + v * 2 ^ 64)
  let ws : List (BitVec 128) := [ins 5 0 (a + 0x2000), ins 5 2 13, ins 5 1 (a + 0x1000), ins 5 3 12,
    BitVec.ofNat 128 (1 + 0x47 * 2 ^ 8 + b.dlvLine n * 2 ^ 16 + 64 * 2 ^ 32 + 64 * 2 ^ 64),
    BitVec.ofNat 128 (2 + 2 * 2 ^ 8 + (2 ^ 32 - 1) * 2 ^ 32)]
  (b.each ws.zipIdx (fun b w => b.store (a + 16 * w.2) 16 w.1)).poisonSpan a 96 false

/-- A unit of a local queue READ has been written and has passed (R637). -/
def Block.unitPassed (b : Block) (seq u : Nat) : Block :=
  let b := b.modCmd seq (fun c => { c with waits := c.waits.filter (· ≠ u) })
  b.onIf ((b.cmd seq).any (fun c => c.waits.isEmpty)) (fun b => b.finishRead seq)
/-- A unit's contents are written to a READ's buffer by the cluster (R636). -/
def Block.copyUnit (b : Block) (seq u out : Nat) (data : Bytes) : Block :=
  let b := (b.storeBytes out (denseBytes data 16384)).cleanWhole out 16384
  b.unitPassed seq u
/-- The descriptor of a compressed unit (R636). -/
def dlvDesc (c tag k a clen : Nat) (crc : W32) (out : Nat) : BitVec 512 :=
  mkDesc [(0, 1), (12, 1), (19, 2), (64, a % 2 ^ 48), (128, out % 2 ^ 48), (192, clen), (224, 16384), (256, 16384), (320, crc.toNat),
    (352, (c + tag * 4096 + k * 131072) % 2 ^ 32)]
/-- A compressed unit's descriptor is written to the ring, and the line asserted. -/
def Block.dlvPut (b : Block) (n ctx tag k : Nat) (seq nsx u rung : Nat) (x : Ext) (out : Nat) : Block :=
  if !b.dlvOn n ∨ (b.dlvOut n).length ≥ 128 then b
  else
    let pos := smGet 0 b.cx.dlvPos n
    let at_ := clBase n + 0x2000 + 64 * pos
    let src := stgBase + Config.payloadAt (mkey nsx u) % stgSize
    let b := (b.store at_ 64 (dlvDesc ctx tag k src x.clen x.crc out)).poisonSpan at_ 64 false
    let b := b.setDlv n (b.dlvOut n ++ [⟨seq, nsx, u, pos, false, rung⟩])
    let b := b.onCx (fun e => { e with dlvPos := smPut e.dlvPos n ((pos + 1) % 128) })
    (b.modCmd seq (fun c => { c with ready := c.ready.filter (fun r => r.1 ≠ u) })).lineSet (b.dlvLine n)
/-- DELIVERY_UNIT: a ready unit of a local queue READ is delivered by copy, zeros or a job (R636). -/
def Block.deliver (b : Block) (seq u : Nat) : Block :=
  match b.cmd seq with
  | none => b
  | some c => match c.src, c.ready.find? (fun r => r.1 == u) with
    | .localQ ctx, some (_, xo, rung) =>
      let nsx := c.nsid - 1
      let k := u - (c.ranges.head?).elim 0 (fun r => (unitsOf (b.byteRange nsx r).1 (b.byteRange nsx r).2).1)
      let out := c.buf + 16384 * k
      let b' := b.modCmd seq (fun c => { c with ready := c.ready.filter (fun r => r.1 ≠ u) })
      match b.newest nsx u with
      | some s =>
        if b.stagedMask s ≠ 0 then b'.failUnit seq u (stat 7 0xC2 true) else b'.copyUnit seq u out (b.stagedBytes s)
      | none => match xo with
        | some x =>
            if x.raw then
              if crc32c (denseBytes x.data 16384) = x.crc then b'.copyUnit seq u out x.data
              else b'.retryUnit seq nsx u (b.mapGet (mkey nsx u)) rung
            else (b.ctx ctx).elim (b'.copyUnit seq u out x.data) (fun y => b.dlvPut y.cluster ctx c.cid k seq nsx u rung x out)
        | none =>
          let e := b.mapGet (mkey nsx u)
          if e = locPoison then b'.failUnit seq u (stat 7 0xC2 true)
          else if lFlag e then b'.copyUnit seq u out [] else b'.readUnit seq u
    | _, _ => b
/-- A clear of CL_DLV.EN takes effect once no unit of the cluster is in delivery (R646). -/
def Block.dlvClose (b : Block) (n : Nat) : Block :=
  if b.cx.dlvOff.contains n && (b.dlvOut n).isEmpty then
    (b.onCx (fun x => { x with dlvOff := x.dlvOff.filter (· ≠ n) })).wrF (pgCl n + 0x108) 14 14 0
  else b
/-- The channel has written the completion of a descriptor at a ring position: the unit passes, or the ladder climbs (R317, R636). -/
def Block.dlvDone (b : Block) (n pos status : Nat) : Block :=
  match (b.dlvOut n).find? (fun d => d.pos == pos) with
  | none => b
  | some d =>
    let b := (b.setDlv n ((b.dlvOut n).filter (fun e => e.pos ≠ pos))).dlvClose n
    if (b.cmd d.seq).isNone then b
    else if status = 0 then b.unitPassed d.seq d.unit
    else if status = 0x26 then b.failUnit d.seq d.unit (stat 7 0xC6 false)
    else b.retryUnit d.seq d.nsx d.unit (b.mapGet (mkey d.nsx d.unit)) d.rung
/-- The channel has taken a descriptor; the line stays asserted while another is unconsumed (R635). -/
def Block.dlvTaken (b : Block) (ch : Nat) : Block :=
  b.each (List.range 12) (fun b n =>
    if b.dlvOn n && b.dlvCh n == ch then
      let ds := b.dlvOut n
      let b := match ds.find? (fun d => !d.sent) with
        | some d => b.setDlv n (ds.map (fun (e : Dlv) => if e.pos = d.pos then { e with sent := true } else e))
        | none => b
      if (b.dlvOut n).any (fun d => !d.sent) then b.lineSet (b.dlvLine n) else b
    else b)
/-- DLV_RESTART: a halted delivery channel starts again from offset 0x40 with its rings as they stood (R638). -/
def Block.dlvRestart (b : Block) (n : Nat) : Block :=
  let ch := b.dlvCh n
  if !b.dlvOn n ∨ (b.chan ch).st < 0x10 then b
  else
    let ds := (b.dlvOut n).map (fun d => { d with sent := false })
    let pos := (ds.head?).elim (smGet 0 b.cx.dlvPos n) (·.pos)
    let b := b.setDlv n ds
    let b := b.modChan ch (fun c => { c with
      st := 1, pc := clBase n + 0x40, src := clBase n + 0x2000 + 64 * pos, dst := clBase n + 0x1000 + 32 * pos, srcWrap := 13, dstWrap := 12,
      mid := false, waiting := false, jobs := [], ended := [], ahead := [] })
    let b := if ds.isEmpty then b else b.lineSet (b.dlvLine n)
    (b.record (pgCl n) { code := 0x0103, sev := .corrected }).raise (pgCl n) 0
/-- CL_DLV.EN has risen: the program is written and the channel started (R635). -/
def Block.dlvStart (b : Block) (n : Nat) : Block :=
  let b := (b.dlvProgram n).wr64 (pgDmCh (b.dlvCh n) + 0x108) (clBase n)
  let b := (b.setDlv n []).onCx (fun x => { x with dlvPos := smPut x.dlvPos n 0 })
  if b.chAccepts (b.dlvCh n) 1 then b.chCommand (b.dlvCh n) 1 none else b

end Sys2Proof.Machine
end

