-- ==== Sys2Proof/Machine/Ports.lean ====
section
/-! DEFINITION. The commands of the host port and the fabric port (chapter 4). -/
namespace Sys2Proof.Machine

/-! ### Host data and staging -/

/-- A piece of a PCIe write that holds its reservation and is not durable. -/
def Block.pulling (b : Block) (seq piece : Nat) : Option Piece :=
  match b.cmd seq, b.piece seq piece with
  | some c, some p => match c.src with
    | .queue q => if qIsPcie (b.qc q) && p.resv.isSome && !p.durable then some p else none
    | _ => none
  | _, _ => none

/-- The port that moves a command's data into staging. -/
def Block.portOf (b : Block) (seq : Nat) : Nat :=
  match b.cmd seq with
  | some c => match c.src with
    | .queue q => b.dataPort q
    | _ => 7
  | none => 7

/-- A failed host read of the data at an offset ends its command (R170, R204). -/
def Block.pullFails (b : Block) (seq off : Nat) : Block :=
  match b.cmd seq with
  | none => b
  | some c =>
    match c.src with
    | .queue q => ((b.hpRecord q seq off 0x0101).raise (pgHp (b.linkOf (qCntlid (b.qc q)))) 4).complete seq (statU 0 0x04)
    | _ => b

/-- A failed protection check of write data ends its command (R171, R204). -/
def Block.piFails (b : Block) (seq off pi : Nat) : Block :=
  match b.cmd seq with
  | none => b
  | some c =>
    match c.src with
    | .queue q => (b.hpRecord q seq off 0x0102).complete seq (piStat pi)
    | _ => b

/-- A read of host memory fails: it ended badly, or the data fails its protection information check. -/
def Block.pullEnds (b : Block) (seq off : Nat) (res : PullRes) : Block :=
  match res with
  | .ok => b
  | .timeout | .poisoned | .unsupported => b.pullFails seq off
  | .piGuard => b.piFails seq off 1
  | .piApp => b.piFails seq off 2
  | .piRef => b.piFails seq off 3
/-- A read of host memory for the data of a Compare returns: its bytes are kept, and the Compare ends once it has all of them. -/
def Block.comparePull (b : Block) (seq : Nat) (c : Cmd) (off len : Nat) (data : List (Nat × Byte)) (res : PullRes) : Block :=
  if res ≠ .ok then b.pullEnds seq off res
  else if off + c.owed = b.cmdBytes c ∧ len ≤ c.owed then
    let put := (data.filter (fun x => decide (x.1 < len))).foldl (fun m x => smSet 0 m (off + x.1) x.2) (c.capsule.getD [])
    let b := b.modCmd seq (fun d => { d with capsule := some put, owed := d.owed - len })
    b.onIf ((b.cmd seq).any (fun d => d.owed == 0 && d.waits.isEmpty)) (fun b => b.finishRead seq)
  else b
/-- A read of host memory for write data returns (R16, R170). -/
def Block.hostPull (b : Block) (seq piece off len : Nat) (data : List (Nat × Byte)) (res : PullRes) : Block :=
  match b.pulling seq piece with
  | some p =>
    let at_ := p.off - ((b.cmd seq).elim 0 b.cmdStart) + off
    if res ≠ .ok then b.pullEnds seq at_ res
    else if off + len ≤ p.len ∧ p.landed + len ≤ p.len then
      b.land (b.portOf seq) seq piece off len (mkBytes (data.filter (fun x => decide (x.1 < len))))
    else b
  | none => match b.cmd seq with
    | some c => if c.started && c.owed != 0 then b.comparePull seq c off len data res else b
    | none => b

/-- The last bytes of a piece land (R122). -/
def Block.pieceLands (b : Block) (seq piece : Nat) (data : List (Nat × Byte)) (posted : Bool) : Block :=
  match b.piece seq piece with
  | none => b
  | some p =>
    if p.resv.isNone || p.durable then b
    else
      let n := p.len - p.landed
      let x := b.land (b.portOf seq) seq piece p.landed n (mkBytes (data.filter (fun x => decide (x.1 < n)))) posted
      match b.cmd seq with
      | some c => if (x.cmd seq).isNone then x.lostWith c posted else x
      | none => x

/-- A piece has waited 1 ms for its reservation (R203). -/
def Block.poolWait (b : Block) (seq piece : Nat) : Block :=
  match b.piece seq piece with
  | none => b
  | some p =>
    if p.resv.isSome || p.waited then b
    else
      let b := b.elapseTo (p.asked + 1001)
      (b.modPiece seq piece (fun q => { q with waited := true })).raise (pgHp 0) 6

/-- HOST_DATA_PULL (R170, R171). -/
def execHostDataPull (seq : W64) (piece : BitVec 16) (off len : BitVec 20) (data : List (Nat × Byte)) (res : PullRes)
    (s : State) : Host.Outcome State Fault Refusal :=
  s.run (fun b => b.hostPull seq.toNat piece.toNat off.toNat len.toNat data res)
/-- PIECE_DURABLE (R122). -/
def execPieceDurable (seq : W64) (piece : BitVec 16) (data : List (Nat × Byte)) (posted : Bool) (s : State) :
    Host.Outcome State Fault Refusal :=
  s.run (fun b => b.pieceLands seq.toNat piece.toNat data posted)
/-- STAGING_RESERVATION (R154-R158). -/
def execStagingReservation (first : BitVec 17) (s : State) : Host.Outcome State Fault Refusal := s.run (fun b => b.reserveStep first.toNat)
/-- WPOOL_WAIT (R203). -/
def execWpoolWait (seq : W64) (piece : BitVec 16) (s : State) : Host.Outcome State Fault Refusal :=
  s.run (fun b => b.poolWait seq.toNat piece.toNat)

/-! ### PCI Express links and the sideband -/

/-- PERST# asserts: every link goes down (R172, R203). -/
def Block.perstOn (b : Block) : Block :=
  let ls := if b.isSplit then [0, 1] else [0]
  let b := b.each ls (fun b l => b.linkDown l)
  let b := b.each ls (fun b l => b.raise (pgHp l) 3)
  (b.onHp (fun h => { h with perst := true })).setLevel 0 false
/-- PERST# deasserts: the strap is read once, and the links ask for their tickets (R160, R173). -/
def Block.perstOff (b : Block) (split : Bool) : Block :=
  let b := (b.onHp (fun h => { h with perst := false, split := some (h.split.getD split) })).setLevel 0 true
  let strap := if b.isSplit then 1 else 0
  let b := (b.wrF (pgHp 0 + 0x100) 10 10 strap).wrF (pgHp 1 + 0x100) 10 10 strap
  b.each (if b.isSplit then [0, 1] else [0]) (fun b l => (b.linkTicket l).2)

/-- The link may train to a rate and width. -/
def Block.trainOk (b : Block) (l rate width : Nat) : Bool :=
  b.linkOn l && !b.linkIsUp l && decide (1 ≤ rate ∧ rate ≤ b.rdF (pgHp l + 0x100) 11 13)
    && ([1, 2, 4, 8].contains width || (width == 16 && !b.isSplit))
/-- A link trains, once it has its ticket (R173, R202, R203). -/
def Block.linkUp (b : Block) (l rate width : Nat) : Block :=
  if !b.trainOk l rate width then b else
  let (a, b) := b.linkTicket l
  if a ≠ .granted then b else
  let top := b.rdF (pgHp l + 0x100) 11 13
  let b := b.wrF (pgHp l + 0x100) 0 9 (rate + width * 8 + (if 3 ≤ rate then 256 else 0) + 512)
  let b := ((b.onHp (fun h => { h with trained := smPut h.trained l top })).pllOn 11).raise (pgHp l) 0
  b.onIf (decide (rate < top ∨ width < (if b.isSplit then 8 else 16))) (fun b => b.raise (pgHp l) 2)
/-- A link enters L1.2 (R174). -/
def Block.l12In (b : Block) (l : Nat) : Block :=
  if b.linkIsUp l && !b.hp.l12.contains l then (b.onHp (fun h => { h with l12 := h.l12 ++ [l] })).untick (.link l) else b
/-- A link leaves L1.2 once its ticket is granted (R174); one that does not fit ends a non-operational state first (R691). -/
def Block.l12Out (b : Block) (l : Nat) : Block :=
  if !b.hp.l12.contains l then b else
  let b := (b.linkTicket l).2
  let b := if !b.holds (.link l) && decide (3 ≤ b.pa.ps) then (b.psWake.linkTicket l).2.redivide else b
  if b.holds (.link l) then b.onHp (fun h => { h with l12 := h.l12.filter (· ≠ l) }) else b

/-- The composite temperature in whole degrees, as a byte: the last diode reading, rounded (R693). -/
def Block.tempByte (b : Block) : Byte := BitVec.ofInt 8 (((BitVec.ofNat 16 (b.rdF (pgHk + 0x100) 0 15)).toInt + 5) / 10)
/-- The answer to the Basic Management Command: the temperature at byte 3, the rest a free value (log entry 24). -/
def Block.basicMi (b : Block) : Block :=
  let (v, b) := b.free
  b.send (.smbus ((v &&& ~~~(0xFF000000 : W64)) ||| (b.tempByte.setWidth 64 <<< 24)))
/-- One bit of the SMBus CRC-8. -/
def pecBit (c : Byte) : Byte := if c.getLsbD 7 then (c <<< 1) ^^^ 0x07 else c <<< 1
/-- The SMBus packet error code of bytes: x^8 + x^2 + x + 1 from 0. PRESUMED, log entry 24. -/
def pecOf (xs : List Byte) : Byte := xs.foldl (fun c x => (List.range 8).foldl (fun c _ => pecBit c) (c ^^^ x)) 0
/-- The packet error code of an MCTP request: over its address byte and its bytes. -/
def mctpPec (addr : BitVec 7) (req : W32) : Byte :=
  pecOf ((addr ++ (0 : BitVec 1)) :: (List.range 4).map (fun k => (req >>> (8 * k)).setWidth 8))
/-- An MCTP request to the endpoint's address with a right PEC is served, or held during a firmware activation (R175, R176). -/
def Block.mctp (b : Block) (addr : BitVec 7) (req : W32) (pec : Byte) : Block :=
  let mine := b.rdF (pgHp 0 + 0x120) 7 7 == 1 && addr.toNat == b.rdF (pgHp 0 + 0x120) 0 6
  if !mine || pec != mctpPec addr req then b
  else if b.ce.activation.isSome || b.hk.failover.isSome then b.onHp (fun h => { h with mctp := h.mctp ++ [req] })
  else b.send (.mctp req)
/-- The MCTP requests that waited for a failover or an activation are answered once neither runs (R176, R663). -/
def Block.answerHeld (b : Block) : Block :=
  if b.ce.activation.isSome || b.hk.failover.isSome then b
  else b.each b.hp.mctp (fun b m => b.send (.mctp m)) |>.onHp (fun h => { h with mctp := [] })
/-- SMBCLK has been low for more than 35 ms: the interface resets (R177). -/
def Block.smbusReset (b : Block) : Block :=
  if (b.inp 11).level then b else
  let b := b.elapseTo ((b.inp 11).since + 35001)
  (b.modInp 11 (fun x => { x with since := b.usec })).raise (pgHp 0) 5

/-- PERST_ASSERT (R172). -/
def execPerstAssert (s : State) : Host.Outcome State Fault Refusal := s.run (fun b => b.perstOn)
/-- PERST_DEASSERT (R160). -/
def execPerstDeassert (split : Bool) (s : State) : Host.Outcome State Fault Refusal := s.run (fun b => b.perstOff split)
/-- LINK_DOWN (R172). -/
def execLinkDown (l : BitVec 1) (s : State) : Host.Outcome State Fault Refusal :=
  s.run (fun b => b.onIf (b.linkIsUp l.toNat) (fun b => b.linkDown l.toNat))
/-- LINK_UP (R173). -/
def execLinkUp (l : BitVec 1) (rate : BitVec 3) (width : BitVec 5) (s : State) : Host.Outcome State Fault Refusal :=
  s.run (fun b => b.linkUp l.toNat rate.toNat width.toNat)
/-- L1_2_ENTRY (R174). -/
def execL12Entry (l : BitVec 1) (s : State) : Host.Outcome State Fault Refusal := s.run (fun b => b.l12In l.toNat)
/-- L1_2_EXIT (R174). -/
def execL12Exit (l : BitVec 1) (s : State) : Host.Outcome State Fault Refusal := s.run (fun b => b.l12Out l.toNat)
/-- BASIC_MANAGEMENT_COMMAND (R175). -/
def execBasicManagementCommand (s : State) : Host.Outcome State Fault Refusal := s.runAon (fun b => b.basicMi)
/-- MCTP_REQUEST (R175, R176). -/
def execMctpRequest (req : MctpReq) (s : State) : Host.Outcome State Fault Refusal := s.run (fun b => b.mctp req.addr req.req req.pec)
/-- SMBUS_RESET (R177). -/
def execSmbusReset (s : State) : Host.Outcome State Fault Refusal := s.run (fun b => b.smbusReset)

/-! ### Connections -/

/-- A logical port takes a frame in: of at most 9,600 bytes, with at most one VLAN tag, and sent to its MAC address (R179). -/
def takenIn (f : Flow) (x : Frame) : Bool := decide (x.len ≤ 9600 ∧ x.tags ≤ 1 ∧ x.mac = Config.portMac f.lport.toNat)
/-- Options that may be agreed on where the peer offers `offer` (R181). -/
def optsWithin (x offer : TcpOpts) : Bool :=
  decide (x.mss ≤ offer.mss) && (x.wscale.isNone || offer.wscale.isSome) && (!x.sack || offer.sack) && (!x.stamps || offer.stamps)
    && (!x.ecn || offer.ecn)
/-- A SYN is looked up in the access list (R182, R198); firmware completes the handshake of one that is accepted (R185). -/
def Block.syn (b : Block) (f : Flow) (frame : Frame) (opts : TcpOpts) : Block :=
  if !b.variant.hasUnit 7 || !takenIn f frame then b else
  let (h, b) := b.lookup 4 (aclKey f)
  match h with
  | none => b.raise pgFp 0
  | some e =>
    let act := e.2.result.toNat % 4
    if act = 0 then b.raise pgFp 0
    else if act = 1 then (b.send (.rstSyn f.lport)).raise pgFp 0
    else
      let b := b.onIf (act == 3) (fun b => b.onFp (fun p => { p with recorded := f :: p.recorded }))
      if b.sessFree && b.qcFreeOne then
        (b.toFw 0).onFp (fun p => { p with accepted := p.accepted.filter (fun x => x.1 != f) ++ [(f, BitVec.ofNat 6 (e.2.result.toNat / 4), opts)] })
      else (b.send (.rstSyn f.lport)).raise pgFp 1

/-- A new session's context (R185). -/
def Block.newSess (b : Block) (f : Flow) (tenant : BitVec 6) (opts : TcpOpts) (irs iss : W32) (tls : Bool) : Sess :=
  { phase := if tls then .tls else .icreq, tenant := tenant, flow := f, qc := none, cntlid := 0, isAdmin := false, tls := tls, keys := none,
    held := false, digests := (false, false), maxR2t := 0, r2ts := [], since := b.usec, retries := 0, rto := 100 * b.rdF (pgFp + 0x104) 0 7,
    rxKib := 2 ^ b.rdF (pgFp + 0x108) 0 3, opts := opts, rcvNxt := irs + 1, sndUna := iss + 1 }
/-- Firmware installs a session for a connection whose SYN was accepted, with the access-list tenant, the options agreed of those offered, and
the initial sequence numbers of the peer and of its own (R181, R183, R185, R495). -/
def Block.install (b : Block) (n : Nat) (f : Flow) (opts : TcpOpts) (irs iss : W32) (tls : Bool) : Block :=
  if (b.sess n).isSome || b.fp.cooling.any (fun c => c.1 == n) || !b.variant.hasUnit 7 || b.hk.failover.isSome then b
  else match b.fp.accepted.find? (fun x => x.1 == f), b.roomiest with
    | some (_, t, offer), some k => match (b.freeIx k 0).head? with
      | none => b
      | some i => if !optsWithin opts offer then b else (b.putEntry k i ⟨(connKey f), 0, 0, BitVec.ofNat 32 n, 0, true⟩).onFp (fun p => { p with
          sess := smPut p.sess n (b.newSess f t opts irs iss tls)
          accepted := p.accepted.filter (fun x => x.1 != f) })
    | _, _ => b

/-- The record keys are of a suite that the fabric port offloads (R195). -/
def TlsKeys.ok (k : TlsKeys) : Bool := decide (k.suite ≠ .other)
/-- The TLS handshake of a session ends: with record keys, which firmware installs, or in vain (R185, R195). -/
def Block.handshake (b : Block) (n : Nat) (keys : Option TlsKeys) : Block :=
  if !(b.sess n).any (fun x => decide (x.phase = .tls)) || b.hk.failover.isSome then b
  else if keys.any TlsKeys.ok then b.modSess n (fun x => { x with phase := .icreq, keys := keys }) else b.closeSess n
/-- An ICReq is answered (R185, R191, R207). -/
def Block.icreq (b : Block) (n pfv hpda : Nat) (hdgst ddgst : Bool) (maxR2t : Nat) : Block :=
  if !(b.sess n).any (fun x => decide (x.phase = .icreq)) then b
  else if pfv ≠ 0 ∨ hpda > 31 then b.pduError n
  else
    let b := b.modSess n (fun x => { x with phase := .connect, digests := (hdgst, ddgst), maxR2t := maxR2t })
    b.send (.icResp n 65536 hdgst ddgst)

/-- The queue context that firmware writes for a connection is one R90 and R91 allow for it. -/
def Block.connectOk (b : Block) (n : Nat) (x : Sess) (admin : Bool) (cntlid ctx : Nat) (rec : BitVec 512) : Bool :=
  qSqEn rec && qCqEn rec && qType rec == (if admin then 3 else 4) && qSession rec == n && qTenant rec == x.tenant.toNat
    && qCntlid rec == cntlid && !qUsed (b.qc ctx) && b.qcWriteOk ctx rec
/-- The association of a CNTLID exists for a tenant. -/
def Block.assoc (b : Block) (cntlid : Nat) (t : BitVec 6) : Bool :=
  b.fp.sess.any (fun e => e.2.isAdmin && decide (e.2.phase = .ready) && e.2.cntlid == cntlid && e.2.tenant == t)
/-- A Fabrics Connect (R185, R186). -/
def Block.connect (b : Block) (n : Nat) (admin nqnOk : Bool) (cntlid kato ctx : Nat) (rec : BitVec 512) : Block :=
  match b.sess n with
  | none => b
  | some x =>
    if x.phase ≠ .connect then b
    else if !nqnOk || (!admin && !b.assoc cntlid x.tenant) || (admin && b.fp.sess.any (fun e => e.2.isAdmin && e.2.cntlid == cntlid))
      then b.send (.capsule n 0 0 0 0 (statU 1 0x82))
    else if !b.connectOk n x admin cntlid ctx rec then (b.refuse pgCe 1 0xFF (pgCe + 0x134)).send (.capsule n 0 0 0 0 (statU 1 0x82))
    else
      let b := (b.qcApply ctx rec).modSess n (fun y => { y with phase := .ready, qc := some ctx, cntlid := cntlid, isAdmin := admin })
      let b := b.onIf admin (fun b => b.modCtlr cntlid (fun c => { c with kato := kato, kaAt := b.usec }))
      b.send (.capsule n (BitVec.ofNat 32 cntlid) 0 0 0 stOk)

/-- A Property Set on an association: CC.EN (R133). -/
def Block.property (b : Block) (n : Nat) (cid : Nat) (off : Nat) (v : W32) : Block :=
  match b.sess n with
  | none => b
  | some x =>
    if !(x.isAdmin && decide (x.phase = .ready)) then b
    else
      let b := b.send (.capsule n 0 0 0 cid stOk)
      if off ≠ 0x14 then b
      else if v.getLsbD 0 then b.modCtlr x.cntlid (fun c => { c with en := true })
      else if (b.ctlr x.cntlid).en then b.endAssoc x.cntlid else b

/-- Bytes of in-capsule data that a connection's receive buffer holds: of the capsules not yet fetched, and of the commands not yet granted
(R188). -/
def Block.rxUsed (b : Block) (q : Nat) : Nat :=
  let lens := fun (d : Option (List (Nat × Byte))) => d.elim 0 List.length
  let waits := fun (c : Cmd) => c.capsule.isSome && (!c.started || b.ft.pieces.any (fun p => p.seq == c.seq && p.resv.isNone))
  ((b.fp.capsules.filter (fun c => c.1 == q)).map (fun c => lens c.2.1.data)).sum
    + ((b.inLanes.filter (fun f => decide (f.src = .queue q))).map (fun f => lens f.sqe.data)).sum
    + ((b.ce.cmds.filter (fun c => decide (c.src = .queue q) && waits c)).map b.cmdBytes).sum
/-- The TCP window of a session: the free space of its receive buffer (R188). -/
def Block.rxWindow (b : Block) (x : Sess) : Nat := x.rxKib * 1024 - x.qc.elim 0 b.rxUsed
/-- A data digest passes: none is negotiated, or it is the CRC-32C of the data (R191). -/
def Sess.digestOk (x : Sess) (data : List (Nat × Byte)) (len : Nat) (ddgst : W32) : Bool :=
  !x.digests.2 || ddgst == crc32c (denseBytes (mkBytes (data.filter (fun z => decide (z.1 < len)))) len)

/-- A command capsule arrives (R187, R188, R193, R152); one whose data exceeds the window advertised is not taken in. -/
def Block.capsule (b : Block) (n : Nat) (e : Sqe) (dataLen sglLen : Nat) (ddgst : W32) (formatOk : Bool) : Block :=
  match b.sess n with
  | none => b
  | some x =>
    match x.qc with
    | none => b.pduError n
    | some q =>
      if !qSqEn (b.qc q) then
        (b.record (pgCeT x.tenant.toNat)
          { code := 0x0104, sev := .contained, tenant := x.tenant, detail := ceDetail q (qSqid (b.qc q)) 0 }).closeSess n
      else if !formatOk || decide (dataLen > 8192) || (decide (dataLen ≠ 0) && decide (dataLen ≠ sglLen)) then b.pduError n
      else if dataLen > b.rxWindow x then b
      else
        let b := b.qcF q 160 175 ((qSqTail (b.qc q) + 1) % (qSqSize (b.qc q) + 1))
        if decide (dataLen ≠ 0) && !x.digestOk (e.data.getD []) dataLen ddgst then
          let b := (b.fpRecord n 0x0102 0).raise pgFp 4
          if qIsAdmin (b.qc q) then
            ((b.advanceHead q).countFail q (statU 0 0x22)).post ⟨q, 0, 0, e.cid.toNat, statU 0 0x22, true, none⟩
          else b.onFp (fun p => { p with capsules := p.capsules ++ [(q, { e with data := none }, some (statU 0 0x22))] })
        else
          let e := { e with data := if dataLen = 0 then none else some ((List.range dataLen).map (fun k => (k, smGet 0 (mkBytes (e.data.getD [])) k))) }
          b.onFp (fun p => { p with capsules := p.capsules ++ [(q, e, none)] })

/-- The R2T that an H2CData PDU's bytes belong to, with its command: the bytes begin at the R2T's next byte, and the command is in flight (DESIGN
CHOICE, log entry 59). -/
def Block.r2tFor (b : Block) (n : Nat) (cid off len : Nat) : Option (R2t × Cmd) :=
  match b.sess n with
  | none => none
  | some x => x.r2ts.findSome? (fun r =>
      match b.cmd r.seq with
      | some c => if c.cid = cid ∧ off = r.off ∧ 0 < len ∧ len ≤ r.len then some (r, c) else none
      | none => none)
/-- The FSN of the command of a session's queue that a command identifier names, 0 where none does. -/
def Block.fsnOf (b : Block) (x : Sess) (cid : Nat) : Nat :=
  (b.ce.cmds.find? (fun c => decide (x.qc.any (fun q => c.src = .queue q)) && c.cid == cid)).elim 0 (·.seq)
/-- An H2CData PDU (R190, R193). -/
def Block.h2c (b : Block) (n : Nat) (cid off len : Nat) (data : List (Nat × Byte)) (ddgst : W32) (formatOk : Bool) : Block :=
  match b.sess n with
  | none => b
  | some x =>
    match b.r2tFor n cid off len with
    | none => b.pduError n (b.fsnOf x cid)
    | some (r, c) =>
      if !formatOk || decide (len > 65536) then b.pduError n r.seq
      else if !x.digestOk data len ddgst then ((b.fpRecord n 0x0102 r.seq).raise pgFp 4).complete r.seq (statU 0 0x22)
      else
        let step := fun (y : R2t) => if y = r then { y with off := y.off + len, len := y.len - len } else y
        let b := b.modSess n (fun y => { y with r2ts := (y.r2ts.map step).filter (fun z => decide (z.len ≠ 0)) })
        match b.piece r.seq r.piece with
        | none => b
        | some p =>
          let at_ := off - (p.off - b.cmdStart c)
          let b := b.land (b.portOf r.seq) r.seq r.piece at_ len (mkBytes (data.filter (fun z => decide (z.1 < len))))
          b.issueAll n r.seq

/-- A segment that hardware takes in (R181): data in its place moves the next sequence number expected, and an acknowledgement of something new
starts the retransmission timer again from RTO_MIN (R199). -/
def Block.goodSeg (b : Block) (x : Sess) (seq : W32) (len : BitVec 16) (ack : W32) : Sess :=
  let fresh := decide (0 < (ack - x.sndUna).toInt)
  { x with
    rcvNxt := if seq = x.rcvNxt then x.rcvNxt + len.setWidth 32 else x.rcvNxt
    sndUna := if fresh then ack else x.sndUna
    retries := if fresh then 0 else x.retries
    rto := if fresh then 100 * b.rdF (pgFp + 0x104) 0 7 else x.rto }
/-- What a segment of a session does (R184-R197): data is acknowledged, with the window, and with the echo of a congestion mark where the
connection uses DCTCP (R181). -/
def Block.segment (b : Block) (n : Nat) (kind : SegKind) (ce : Bool) : Block :=
  match b.sess n with
  | none => b
  | some x =>
    match kind with
    | .fragment => b
    | .good seq len ack =>
      let y := b.goodSeg x seq len ack
      let b := b.modSess n (fun _ => y)
      b.onIf (decide (len ≠ 0)) (fun b => b.send (.ack n y.rcvNxt (b.rxWindow y) (y.opts.ecn && ce)))
    | .badHdgst => if x.digests.1 then ((b.fpRecord n 0x0101 0).raise pgFp 3).send (.termReq n 3) |>.closeSess n else b
    | .record alert =>
      let b := (b.toFw 1).modSess n (fun x => { x with held := true })
      b.onIf alert (fun b => b.raise pgFp 2)
    | .badTag => ((b.fpRecord n 0x0103 0).send (.tlsAlert n 20)).raise pgFp 2 |>.closeSess n
    | .badPdu => b.pduError n
/-- Firmware or hardware takes in what has arrived on a session. -/
def Block.pdu (b : Block) (n : Nat) (p : Pdu) : Block :=
  match p with
  | .segment kind ce => b.segment n kind ce
  | .icreq pfv hpda hdgst ddgst maxR2t => b.icreq n pfv hpda hdgst ddgst maxR2t
  | .connect admin nqnOk cntlid kato ctx rec => b.connect n admin nqnOk cntlid kato ctx rec
  | .property cid off v => b.property n cid off v
  | .capsule e dataLen sglLen ddgst formatOk => b.capsule n e dataLen sglLen ddgst formatOk
  | .h2c cid off len data ddgst formatOk => b.h2c n cid off len data ddgst formatOk
/-- A Connect or a Property Set: an admin capsule that firmware fetches (R101, R137). -/
def Pdu.isAdmin : Pdu → Bool
  | .connect _ _ _ _ _ _ | .property _ _ _ => true
  | _ => false
/-- What has arrived has to wait: firmware holds the session (R196), or FETCH_STOP the admin path (R137). -/
def Block.mustWait (b : Block) (n : Nat) (p : Pdu) : Bool := (b.sess n).any (·.held) || (b.fetchStop && p.isAdmin)
/-- Something arrives on a session; it waits behind what waits already. -/
def Block.arrive (b : Block) (n : Nat) (p : Pdu) : Block :=
  if (b.sess n).isNone then b
  else if b.mustWait n p || b.fp.kept.any (fun x => x.1 == n) then b.onFp (fun f => { f with kept := f.kept ++ [(n, p)] })
  else b.pdu n p
/-- What has waited is taken in, in its order, as far as nothing holds it any more. -/
def Block.release (b : Block) : Block :=
  b.each b.fp.kept (fun b x =>
    if b.mustWait x.1 x.2 || decide (b.fp.kept.find? (fun y => y.1 == x.1) ≠ some x) then b
    else (b.onFp (fun f => { f with kept := f.kept.erase x })).pdu x.1 x.2)
/-- TLS_RESUME: firmware resumes a session, with new record keys where there was a key update (R196). -/
def Block.tlsResume (b : Block) (n : Nat) (keys : Option TlsKeys) : Block :=
  (b.modSess n (fun x => { x with held := false, keys := if keys.any TlsKeys.ok then keys else x.keys })).release
/-- A received segment is classified (R179, R180, R183, R184, R496). -/
def Block.receive (b : Block) (f : Flow) (frame : Frame) (kind : SegKind) : Block :=
  if !b.variant.hasUnit 7 || !takenIn f frame then b
  else if kind = .fragment then b.onFp (fun p => { p with frags := p.frags + 1 })
  else
    let (r, b) := b.sessOf (connKey f)
    match r with
    | none => b.toFw 2
    | some n => if (b.sess n).any (fun x => x.flow == f) then b.arrive n (.segment kind frame.ce) else b.toFw 2

/-- No ICReq in time after the TCP handshake (R199). -/
def Block.icreqLate (b : Block) (n : Nat) : Block :=
  match b.sess n with
  | some x =>
    if x.phase = .icreq ∨ x.phase = .tls then (b.elapseTo (x.since + 100000 * b.rdF (pgFp + 0x104) 12 19)).closeSess n else b
  | none => b
/-- No H2CData in time after an R2T (R199); the fatal error status of the C2HTermReq is a free value. -/
def Block.h2cLate (b : Block) (n : Nat) : Block :=
  match b.sess n with
  | some x => match x.r2ts with
    | r :: _ =>
      let (v, b) := (b.elapseTo (r.sent + 100000 * b.rdF (pgFp + 0x104) 20 27)).free
      (b.send (.termReq n (v.toNat % 65536))).closeSess n
    | [] => b
  | none => b
/-- KATO expires (R199). -/
def Block.kaLate (b : Block) (cntlid : Nat) : Block :=
  let c := b.ctlr cntlid
  if c.kato = 0 then b else (b.elapseTo (c.kaAt + 100000 * c.kato)).endAssoc cntlid
/-- A retransmission timer expires (R199). -/
def Block.rtoExpires (b : Block) (n : Nat) : Block :=
  match b.sess n with
  | none => b
  | some x =>
    let b := b.elapse x.rto
    if x.retries < b.rdF (pgFp + 0x104) 8 11 then
      (b.send (.resend n)).modSess n (fun y => { y with retries := y.retries + 1, rto := min (2 * y.rto) 1000000 })
    else ((b.fpRecord n 0x0105 0).raise pgFp 5).closeSess n
/-- A session number may be used again (R497). -/
def Block.cooled (b : Block) (n : Nat) : Block :=
  match b.fp.cooling.find? (fun c => c.1 == n) with
  | some c => (b.elapseTo c.2).onFp (fun p => { p with cooling := p.cooling.filter (fun d => d.1 ≠ n) })
  | none => b

/-- A logical port's link state (R206). -/
def Block.ethUp (b : Block) (p l : Nat) : Block :=
  if b.has .fpPort p && b.rdF (pgFpP p + 0x100) (5 + l) (5 + l) == 1 && b.holds (.eth p l) && b.rdF (pgFpP p + 0x104) l l == 0 then
    ((b.wrF (pgFpP p + 0x104) l l 1).pllOn (12 + p)).raise (pgFpP p) 0
  else b
/-- A logical port's link goes down. -/
def Block.ethDown (b : Block) (p l : Nat) : Block :=
  if b.has .fpPort p && b.rdF (pgFpP p + 0x104) l l == 1 then
    ((b.wrF (pgFpP p + 0x104) l l 0).wrF (pgFpP p + 0x104) (8 + l) (8 + l) 0).raise (pgFpP p) 1
  else b
/-- A logical port exceeds the FEC degrade threshold. -/
def Block.fecBad (b : Block) (p l : Nat) : Block :=
  if b.has .fpPort p && b.rdF (pgFpP p + 0x104) l l == 1 then (b.wrF (pgFpP p + 0x104) (8 + l) (8 + l) 1).raise (pgFpP p) 2 else b

/-- SYN (R182, R198). -/
def execSyn (flow : Flow) (frame : Frame) (opts : TcpOpts) (s : State) : Host.Outcome State Fault Refusal :=
  s.run (fun b => b.syn flow frame opts)
/-- SEGMENT_RECEIVE (R180-R197). -/
def execSegmentReceive (flow : Flow) (frame : Frame) (kind : SegKind) (s : State) : Host.Outcome State Fault Refusal :=
  s.run (fun b => b.receive flow frame kind)
/-- TLS_HANDSHAKE (R185, R195). -/
def execTlsHandshake (sess : BitVec 14) (keys : Option TlsKeys) (s : State) : Host.Outcome State Fault Refusal :=
  s.run (fun b => b.handshake sess.toNat keys)
/-- ICREQ (R185). -/
def execIcreq (sess : BitVec 14) (pfv : BitVec 16) (hpda : BitVec 8) (hdgst ddgst : Bool) (maxR2t : BitVec 32) (s : State) :
    Host.Outcome State Fault Refusal :=
  s.run (fun b => b.arrive sess.toNat (.icreq pfv.toNat hpda.toNat hdgst ddgst maxR2t.toNat))
/-- FABRICS_CONNECT (R185, R186). -/
def execFabricsConnect (sess : BitVec 14) (admin nqnOk : Bool) (cntlid kato : BitVec 16) (ctx : BitVec 14) (rec : BitVec 512)
    (s : State) : Host.Outcome State Fault Refusal :=
  s.run (fun b => b.arrive sess.toNat (.connect admin nqnOk cntlid.toNat kato.toNat ctx.toNat rec))
/-- PROPERTY_SET (R133). -/
def execPropertySet (sess : BitVec 14) (cid off : BitVec 16) (v : W32) (s : State) : Host.Outcome State Fault Refusal :=
  s.run (fun b => b.arrive sess.toNat (.property cid.toNat off.toNat v))
/-- COMMAND_CAPSULE (R187, R188). -/
def execCommandCapsule (sess : BitVec 14) (e : Sqe) (dataLen sglLen : BitVec 21) (ddgst : W32) (formatOk : Bool) (s : State) :
    Host.Outcome State Fault Refusal :=
  s.run (fun b => b.arrive sess.toNat (.capsule e dataLen.toNat sglLen.toNat ddgst formatOk))
/-- H2CDATA (R190, R193). -/
def execH2cData (sess : BitVec 14) (cid : BitVec 16) (off len : BitVec 21) (data : List (Nat × Byte)) (ddgst : W32) (formatOk : Bool)
    (s : State) : Host.Outcome State Fault Refusal :=
  s.run (fun b => b.arrive sess.toNat (.h2c cid.toNat off.toNat len.toNat data ddgst formatOk))
/-- TLS_RESUME (R196). -/
def execTlsResume (rekey : Rekey) (s : State) : Host.Outcome State Fault Refusal :=
  s.run (fun b => b.tlsResume rekey.sess.toNat rekey.keys)
/-- ICREQ_TIMEOUT (R199). -/
def execIcreqTimeout (sess : BitVec 14) (s : State) : Host.Outcome State Fault Refusal := s.run (fun b => b.icreqLate sess.toNat)
/-- H2C_TIMEOUT (R199). -/
def execH2cTimeout (sess : BitVec 14) (s : State) : Host.Outcome State Fault Refusal := s.run (fun b => b.h2cLate sess.toNat)
/-- KEEP_ALIVE_TIMEOUT (R199). -/
def execKeepAliveTimeout (cntlid : BitVec 16) (s : State) : Host.Outcome State Fault Refusal := s.run (fun b => b.kaLate cntlid.toNat)
/-- RETRANSMISSION_TIMEOUT (R199). -/
def execRetransmissionTimeout (sess : BitVec 14) (s : State) : Host.Outcome State Fault Refusal :=
  s.run (fun b => b.rtoExpires sess.toNat)
/-- CONNECTION_CLOSE (R200, R201). -/
def execConnectionClose (sess : BitVec 14) (s : State) : Host.Outcome State Fault Refusal := s.run (fun b => b.closeSess sess.toNat)
/-- SESSION_INSTALL (R183, R185, R495). -/
def execSessionInstall (sess : BitVec 14) (flow : Flow) (opts : TcpOpts) (irs iss : W32) (tls : Bool) (s : State) :
    Host.Outcome State Fault Refusal := s.run (fun b => b.install sess.toNat flow opts irs iss tls)
/-- SESSION_NUMBER_REUSE (R497). -/
def execSessionNumberReuse (sess : BitVec 14) (s : State) : Host.Outcome State Fault Refusal := s.run (fun b => b.cooled sess.toNat)
/-- ETH_LINK_UP (R173, R206). -/
def execEthLinkUp (p : BitVec 2) (l : BitVec 3) (s : State) : Host.Outcome State Fault Refusal := s.run (fun b => b.ethUp p.toNat l.toNat)
/-- ETH_LINK_DOWN (R206). -/
def execEthLinkDown (p : BitVec 2) (l : BitVec 3) (s : State) : Host.Outcome State Fault Refusal :=
  s.run (fun b => b.ethDown p.toNat l.toNat)
/-- FEC_DEGRADE (R206). -/
def execFecDegrade (p : BitVec 2) (l : BitVec 3) (s : State) : Host.Outcome State Fault Refusal := s.run (fun b => b.fecBad p.toNat l.toNat)

end Sys2Proof.Machine
end

