-- ==== Sys2Proof/Machine/Power.lean ====
section
/-! DEFINITION. Recalls, refusals, power states and clock gating (R680-R691), and the power-loss sequence (R241, R708-R710). -/
namespace Sys2Proof.Machine

/-! ### Recalls and refusals -/

/-- The chip's tickets exceed its budget. -/
def Block.overBudget (b : Block) : Bool := decide (b.poolUsed .chip > b.poolBudget .chip)
/-- The cluster with the highest step above 1, the lowest number on a tie. -/
def Block.topStep (b : Block) : Option Nat :=
  (List.range 12).foldl (fun (m : Option Nat) n =>
    if b.clStep n ≤ 1 then m else match m with
      | some k => if b.clStep n > b.clStep k then some n else m
      | none => some n) none
/-- One cluster step is recalled (R687). -/
def Block.recallOne (b : Block) : Block :=
  match b.topStep with
  | some n => if b.overBudget then ((b.stepDown n).inc (pgPa + 0x138)).raise pgPa 2 else b
  | none => b
/-- Cluster steps are recalled, highest first, until the tickets fit or no step above 1 is left (R687). -/
def Block.recall (b : Block) : Block := b.each (List.range 36) (fun b _ => b.recallOne)

/-- What a refused request does to its holder: a READ ends its command (R302), a lane's jobs end (R362), the first ticket of an
Execute Program ends it (R642), a bring-up stops (R780); a PROGRAM, ERASE or RAW_PROGRAM and any other holder asks again. -/
def Block.refusedHolder (b : Block) (t : Ticket) (never : Bool) : Block :=
  let flash := fun (id : Nat) => match b.op id with
    | some o => match o.kind, o.why with
      | .read, _ => b.refuseRead o
      | _, _ => b
    | none => b
  match t.who with
  | .flashOp id => flash id
  | .softDecode id => flash id
  | .transfer ch => match (b.opOrder ch).find? (fun o => decide (o.kind = .read)) with
    | some o => b.refuseRead o
    | none => b
  | .laneC _ => b.refuseJobs false (if never then none else some t.born)
  | .laneD _ => b.refuseJobs true (if never then none else some t.born)
  | .inrush k => (b.boothRecord k 0x010C .corrected).bringFails k true
  | .cluster n 1 => match b.ce.cmds.find? (fun c => c.execWaits && (b.maskOfT c.tenant.toNat).contains n) with
    | some c => b.complete c.seq (stat 7 0xC6 false)
    | none => b
  | _ => b
/-- A waiting request is refused: its pool can never grant it, or it is refusable and has waited REFUSE_MS and does not fit now
(R685, R719). -/
def Block.refuseTicket (b : Block) (k : Nat) : Block :=
  match b.pa.waiting[k]? with
  | none => b
  | some t =>
    let never := decide (t.mw > b.poolBudget t.pool)
    if never ∨ (t.refusable ∧ !{ b with pa := { b.pa with floats := [] } }.ticketFits t) then
      let b := if never then b else b.elapseTo (t.born + b.rdF (pgPa + 0x11C) 0 7 * 1000)
      ((b.untick t.who).countRefusal).refusedHolder t never
    else b
/-- REDIVISION: the waiting requests are granted as they fit, and what waited for them goes on (R684). -/
def Block.redivision (b : Block) : Block := b.promoteAged.redivide.inrushGranted
/-- A RECLAIM-stream request of a booth has waited more than 10 ms (R724). -/
def Block.rclStarved (b : Block) (k : Nat) : Block :=
  match b.pa.waiting.find? (fun t => t.pool == .booth k && t.rcl && !b.pa.starved.contains t.who) with
  | some t =>
    let b := b.elapseTo (t.born + 10001)
    { b with pa := { b.pa with starved := b.pa.starved ++ [t.who] } }.raise (pgPaBooth k) 0
  | none => b

/-! ### The write rate (R688, R785) -/

/-- The end of a 1 ms window of R779: PA.RATIO.CR over the 1,000 windows before. -/
def Block.crUpdate (b : Block) : Block :=
  let b := b.elapse (1000 - b.usec % 1000)
  let ws := b.ft.ratio.filter (fun e => decide (b.usec / 1000 ≤ e.1 + 1000))
  let units := (ws.map (·.2.1)).sum
  let slots := (ws.map (·.2.2)).sum
  let b := b.onFt (fun t => { t with ratio := ws })
  b.wrSat (pgPa + 0x128) 0 15 (if units = 0 then 256 else units * 16384 * 256 / slots)

/-! ### Power states (R690) -/

/-- Set Features Power Management: a higher state at once, a lower one after the recall. -/
def Block.powerFeature (b : Block) (qc : Nat) (cid : BitVec 16) (ps : Nat) : Block :=
  if !b.isAdminQc qc then b
  else if 4 < ps then b.admDone qc cid 0 (statU 0 0x02)
  else if ps = b.pa.ps then b.admDone qc cid 0 stOk
  else
    let down := decide (b.pa.ps < ps)
    let b := if down then { b with pa := { b.pa with ps := ps } }.recall else b
    (b.setPs ps).admDone qc cid 0 stOk

/-! ### Gating (R680, R681) -/

/-- Every unit that a PLL clocks is power-gated, or its links are down. -/
def Block.pllIdle (b : Block) (p : Nat) : Bool :=
  if p = 0 ∨ p = 10 then false
  else if p ≤ 6 then b.clStep (2 * p - 2) == 0 && b.clStep (2 * p - 1) == 0
  else if p = 7 then b.awake false == 0 && b.awake true == 0
  else if p = 8 then b.se.awake.isEmpty
  else if p = 9 then (List.range 8).all (fun k => !b.boothPwr k)
  else if p = 11 then (List.range 2).all (fun l => !b.linkIsUp l)
  else decide (p < 16) && b.rdF (pgFpP (p - 12) + 0x104) 0 7 == 0
/-- PLL_STOP: a PLL whose units are idle stops after PLL_IDLE_MS, a link's PLL with its link. -/
def Block.pllStop (b : Block) (p : Nat) : Block :=
  if !b.pllIdle p || b.hk.pllOff.contains p then b
  else
    let b := if p ≤ 9 then b.elapse (b.rdF (pgHk + 0x118) 0 7 * 1000) else b
    b.onHk (fun h => { h with pllOff := h.pllOff ++ [p] })
/-- UNIT_WAKE: a gated unit whose ticket is held, or that needs none, runs again. -/
def Block.unitWake (b : Block) (pg : Nat) : Block :=
  match presentPageAt b.variant pg with
  | some (.cxCluster, n) =>
    if b.clStep n == 0 && b.holds (.cluster n 1) then (b.elapse (b.wakeTime (1 + n / 2))).setStep n 1 else b
  | some (.czC, n) => b.wakeLane false n
  | some (.czD, n) => b.wakeLane true n
  | some (.seBank, k) => b.bankWakes k
  | some _ => if b.rdF (pg + 0x00C) 1 3 = 2 then b else b.setPower pg 2
  | none => b

/-! ### The power-loss sequence -/

/-- R241, steps 1 and 2: commits freeze, queued programs and erases go no further, reads end, and what is not durable is dropped; durable
pieces that waited behind such a piece go on. -/
def Block.plossFreeze (b : Block) : Block :=
  let queued := b.fc.ops.filter (fun o => decide (o.stage = .queued) || decide (o.kind = .read))
  let b := b.each queued (fun b o => b.dropOp o.id)
  (b.onFt (fun t => { t with
    frozen := true
    blks := t.blks.map (fun e => (e.1, { e.2 with readBack := false, badPages := [], copying := false }))
    pieces := t.pieces.filter (·.durable) })).stageReady
/-- R241: a merge that runs takes its old contents where they can be read (R232). -/
def Block.plossMerge (b : Block) (u : Staged) : Block :=
  match b.stagedAt u.seq u.idx u.unit with
  | none => b
  | some s =>
    if s.phase ≠ .merging then b
    else match b.olderThan s with
    | some o => b.mergeFrom s o
    | none =>
      let e := b.mapGet (mkey s.nsx s.unit)
      if lFlag e then b.mergeEnd s (if e = locPoison then none else some ([], 0))
      else match b.ext e with
        | some x => b.mergeEnd s (if b.extCheck e x s.nsx s.unit = .passed ∧ !b.boothOffline (boothOf (lDie e)) then some (x.data, x.pmask) else none)
        | none => b.mergeEnd s none
/-- R241, step 3, for one unit: it is coded if it was not, its length as the coder gives it, a free value, and placed. It is stored raw where
the coder's output would be 16,384 bytes or more (R213). -/
def Block.plossUnit (b : Block) (u : Staged) : Block :=
  match b.stagedAt u.seq u.idx u.unit with
  | none => b
  | some u =>
    if decide (u.phase = .noStore) then b
    else if u.phase = .staged ∨ u.phase = .compressing then
      let m := b.stagedMask u
      let data := zeroLbas (b.lbaSize u.nsx) m (b.stagedBytes u)
      let b := b.zeroPoison u m
      if data.isEmpty && m == 0 then b.modStaged u.seq u.idx u.unit (fun v => { v with phase := .noStore, loc := locZero })
      else
        let (n, b) := b.free
        let clen := 1 + n.toNat % 16384
        let v := { u with phase := .coded, data := data, pmask := m, raw := decide (clen = 16384), clen := clen, crc := crc32c (denseBytes data 16384) }
        (b.modStaged u.seq u.idx u.unit (fun _ => v)).placeUnit .ploss v
    else (b.modStaged u.seq u.idx u.unit (fun v => { v with phase := .coded })).placeUnit .ploss u
/-- The programs of a stream that the power-loss sequence posted have been carried out. -/
def Block.plossDone (b : Block) (s : Stream) : Block :=
  b.each (b.fc.ops.filter (fun o => decide (o.why = .page s)))
    (fun b o => ((b.dropOp o.id).putDesc (o.die * 4096 + o.block) o.page).pageDone (o.die * 4096 + o.block) o.page)
/-- R241, step 3: the power-loss copies are on flash. -/
def Block.plossPrograms (b : Block) : Block :=
  (b.each ((b.ft.opens.filter (fun o => decide (o.1 = .ploss))).map (fun o => o.2.1 * 4096 + o.2.2)) (fun b k => b.closeBlk k 0)).plossDone .ploss
/-- R241, step 4: one journal entry per piece whose units are all on flash or store nothing, in sequence-number order. -/
def Block.plossCommit (b : Block) : Block :=
  b.each b.pieceOrder (fun b p =>
    if (b.stagedOf p.seq p.idx).all (fun u => decide (u.phase = .programmed) || decide (u.phase = .noStore)) then b.commitPiece p else b)
/-- R241, step 1: programs and erases at the dies run to completion; what the programs wrote is not committed. -/
def Block.plossAtDies (b : Block) : Block :=
  b.each b.fc.ops (fun b o =>
    let k := o.die * 4096 + o.block
    match o.kind with
    | .program => ((b.dropOp o.id).putDesc k o.page).pageDone k o.page
    | .rawProgram => b.rawDone o
    | .erase => (b.dropOp o.id).modBlk k (fun x => { x with erased := true, erases := x.erases + 1 })
    | _ => b.dropOp o.id)
/-- The sequence of R241 from its trigger to its end mark. -/
def Block.r241 (b : Block) : Block :=
  let b := b.plossFreeze.plossAtDies
  let b := b.each b.ft.staged.reverse Block.plossMerge
  let b := b.each b.ft.staged.reverse Block.plossUnit
  let b := (b.plossPrograms.plossCommit.metaPage.metaPage).plossDone .meta_
  b.onFt (fun t => { t with endMark := true })

/-- The ports are disabled and their tickets returned (R709, step 1). -/
def Block.portsOff (b : Block) : Block :=
  let b := b.each [0, 1] (fun b l =>
    let b := b.onIf (b.linkIsUp l) (fun b => (b.wrF (pgHp l + 0x100) 0 9 0).raise (pgHp l) 1)
    (b.onHp (fun h => { h with l12 := h.l12.filter (· ≠ l) })).untick (.link l))
  b.each (List.range 4) (fun b p => b.each (List.range 8) (fun b i => (b.ethDown p i).untick (.eth p i)))
/-- Every cluster is power-gated and its contexts are lost (R709, step 1). -/
def Block.clustersOff (b : Block) : Block :=
  let b := b.onCx (fun x => { x with
    ctxs := []
    dlv := []
    cores := renewCores (fun i => decide (96 ≤ i)) x.cores })
  let b := (b.onCe (fun e => { e with lq := [] })).onSe (fun s => { s with resps := [] })
  b.each (List.range b.variant.clusters) (fun b n =>
    let b := b.each [1, 2, 3, 4] (fun b k => b.untick (.cluster n k))
    (((b.setStep n 0).showReady n).wrF (pgCl n + 0x100) 16 23 0).onCx (fun x => { x with emptyAt := smPut x.emptyAt n b.usec }))
/-- The chip limit of the power-loss sequence in mW (R709, step 2). -/
def plossLimit : Variant → Nat
  | .j1280 => 100000 | .j0640 => 60000 | .j0320e => 40000
/-- HK.PLOSS.STATE. -/
def Block.plossSt (b : Block) : Nat := b.rdF (pgHk + 0x158) 8 10
/-- Set HK.PLOSS.STATE. -/
def Block.setPloss (b : Block) (n : Nat) : Block := b.wrF (pgHk + 0x158) 8 10 n
/-- Suspended programs resume at once and run to completion; suspended erases are abandoned, and their blocks count as not erased (R299). -/
def Block.plossSuspended (b : Block) : Block :=
  let abandoned := b.fc.ops.filter (fun o => decide (o.stage = .suspended) && decide (o.kind = .erase))
  let b := b.each abandoned (fun b o => (b.dropOp o.id).modBlk (o.die * 4096 + o.block) (fun x => { x with erased := false }))
  b.onFc (fun e => { e with ops := e.ops.map (fun (o : FlashOp) =>
    if o.stage = .suspended then { o with stage := .issued, resumed := b.usec } else o) })
/-- R709, steps 1 and 2, with the first steps of R241 and R426. -/
def Block.plossStart (b : Block) : Block :=
  let b := (b.endHalts.setPloss 1).setFetchStop 1
  let b := b.portsOff.clustersOff
  let b := (b.onCe (fun e => { e with cmds := [], cqWait := [] })).keepLanes (fun _ => false)
  let b := b.onMs (fun m => { m with stopped := true })
  let b := { b with pa := { b.pa with plossMw := some (plossLimit b.variant) } }
  b.plossSuspended.plossFreeze.wrateCap
/-- PWRFAIL# is accepted (R708): one sequence, whatever PWRFAIL# does afterwards; ignored while a trip is in force (R696). -/
def Block.pwrfail (b : Block) : Block :=
  let b := b.setLevel 1 false
  if b.hk.tripped || b.plossSt != 0 then b else (b.raise pgHk 6).plossStart
/-- PWRFAIL# is stuck or masked. -/
def Block.pwrfailBad (b : Block) : Bool := (b.inp 1).stuck || (b.inp 1).masked
/-- The power-fail-safe state without resume: PWRFAIL_STUCK goes on record (R710, R656). -/
def Block.safeNoResume (b : Block) : Block :=
  let e : ErrIn := { code := 0x0214, sev := .deviceFatal, detail := detailOf [(0, 1), (2, b.rdF (pgHk + 0x100) 0 15)] }
  let r := b.mkRec pgHk e
  ((b.setPloss 3).record pgHk e).recNow (fun i => { i with fatal := some r })
/-- R709, steps 3 to 5: R241 completes, the image is written, DRAM is in self-refresh, and the clocks stop. -/
def Block.plossFinish (b : Block) : Block :=
  let b := b.r241
  let b := b.recNow (fun i => { i with plossDone := true, clean := false, trip := none })
  let b := b.each b.msChans (fun b c => b.wrF (pgMsCh c + 0x100) 1 1 1)
  b.onHk (fun h => { h with pllOff := List.range 16 })
/-- The end of the power-loss sequence: the power-fail-safe state, from which a bad PWRFAIL# allows no resume (R710). -/
def Block.plossEnd (b : Block) : Block :=
  if b.plossSt ≠ 1 ∨ b.hk.tripped then b
  else
    let b := b.plossFinish
    if b.pwrfailBad then b.safeNoResume else b.setPloss 2

end Sys2Proof.Machine
end

