-- ==== Sys2Proof/Machine/Hk.lean ====
section
/-! DEFINITION. Housekeeping: the measurement round, throttling, the thermal trip, the board inputs (R692-R703) and the service
life (R674). -/
namespace Sys2Proof.Machine

/-! ### The service life (R674) -/

/-- The factor of R674 times 10,000 for a reading in 0.1 degrees. -/
def lifeFactor (t : Int) : Nat :=
  if t ≤ 750 then 5200
  else if t ≤ 850 then 5200 + 48 * (t - 750).toNat
  else if t ≤ 950 then 10000 + 85 * (t - 850).toNat
  else if t < 1050 then 18500 + 147 * (t - 950).toNat
  else 33200
/-- HK.TEMP.TEMP as a signed reading. -/
def Block.tempNow (b : Block) : Int := (BitVec.ofNat 16 (b.rdF (pgHk + 0x100) 0 15)).toInt
/-- One round's duration counts towards the service life; LIFE_90 at 90 % of 219,150 hours. -/
def Block.lifeStep (b : Block) (ms : Nat) : Block :=
  let n := b.hk.lifeRest + ms * lifeFactor b.tempNow
  let b := b.addSat (pgHk + 0x44C) 0 31 (n / 36000000000)
  let b := b.onHk (fun h => { h with lifeRest := n % 36000000000 })
  if (b.rd (pgHk + 0x44C)).toNat ≥ 197235 ∧ !b.hk.life90 then (b.onHk (fun h => { h with life90 := true })).raise pgHk 22 else b

/-! ### The thermal cap (R694) -/

/-- PA.TCAP in mW. -/
def Block.tcap (b : Block) : Nat := b.rdF (pgPa + 0x114) 0 19
/-- Set PA.TCAP; the write rate follows the budget (R688). -/
def Block.setTcap (b : Block) (mw : Nat) : Block := if b.tcap = mw then b else (b.wrSat (pgPa + 0x114) 0 19 mw).wrateCap
/-- PA.THERM.FLOOR_W in mW. -/
def Block.floorMw (b : Block) : Nat := b.rdF (pgPa + 0x120) 8 15 * 1000
/-- STEP_PCT % of the variant's maximum in mW. -/
def Block.stepTherm (b : Block) : Nat := b.rdF (pgPa + 0x120) 0 7 * b.variant.maxMw / 100
/-- PA.TCAP falls to a value, not below the floor. -/
def Block.fallTo (b : Block) (mw : Nat) : Block := b.setTcap (min b.tcap (max b.floorMw mw))
/-- A rate-of-rise hold is in force. -/
def Block.held (b : Block) : Bool := b.hk.hold.any (fun t => decide (b.usec < t))
/-- HK.THRESH fields in 0.1 degrees: WARN 0, THROTTLE 8, TRIP 16, REARM 24. -/
def Block.thresh (b : Block) (lo : Nat) : Int := Int.ofNat (b.rdF (pgHk + 0x104) lo (lo + 7) * 10)

/-! ### The trip (R696-R699) -/

/-- The trip record (R698); SEQ_JNL, which the model does not follow page by page, is a free value up to SEQ_DUR. -/
def Block.tripRec (b : Block) (temp rate : Int) : TripRec × Block :=
  let (v, b) := b.free
  (⟨temp, rate, b.usec, b.ft.seqDur, v.toNat % (b.ft.seqDur + 1), b.plossSt == 1⟩, b)
/-- A thermal trip: THERMTRIP# asserts, the clocks stop, the links drop, and the trip image is written (R696). -/
def Block.trip (b : Block) (temp rate : Int) : Block :=
  let (r, b) := b.tripRec temp rate
  let b := (b.endHalts.send .thermtrip).onHk (fun h => { h with tripped := true, pllOff := List.range 16 })
  let b := b.each [0, 1] (fun b l => b.wrF (pgHp l + 0x100) 0 9 0)
  let b := b.each ((List.range 4).filter (b.has .fpPort)) (fun b p => b.wrF (pgFpP p + 0x104) 0 15 0)
  (b.elapse 800).recNow (fun i => { i with trip := some r, clean := false, plossDone := false })

/-! ### The diode (R693-R695) -/

/-- RATE in 0.1 degrees per second: the rise over the last WINDOW_MS, over readings inside the range; 0 before there is one so
old. -/
def Block.rateOf (b : Block) (temp : Int) : Int :=
  let w := b.rdF (pgHk + 0x108) 12 19
  match b.hk.temps.find? (fun x => decide (x.1 + w * 1000 ≤ b.usec)) with
  | some x => Int.tdiv ((temp - x.2) * 1000) (Int.ofNat w)
  | none => 0
/-- WARN and THROTTLE. -/
def Block.warnThrottle (b : Block) (temp : Int) : Block :=
  let w := decide (temp ≥ b.thresh 0)
  let t := decide (temp ≥ b.thresh 8)
  let b := b.onIf (w && !b.hk.above.1) (fun b => b.raise pgHk 0)
  let first := t && !b.hk.above.2
  let again := t && b.hk.above.2 && decide (b.hk.fellAt + 100000 ≤ b.usec)
  let b := b.onIf first (fun b => b.raise pgHk 1)
  let b := b.onIf (first || again) (fun b => (b.fallTo (b.tcap - b.stepTherm)).onHk (fun h => { h with fellAt := b.usec }))
  b.onHk (fun h => { h with above := (w, t) })
/-- The rate of rise: each reading at or above HK.ROR.RATE cuts and holds (R694); the event is raised when that begins, and not again
while it lasts (R53). -/
def Block.rorCheck (b : Block) (rate : Int) : Block :=
  let up := decide (rate ≥ Int.ofNat (b.rdF (pgHk + 0x108) 0 11))
  let was := b.hk.ror
  let b := b.onHk (fun h => { h with ror := up })
  if up then
    let cut := b.poolUsed .chip * (256 - b.rdF (pgPa + 0x120) 16 23) / 256
    let till := b.usec + b.rdF (pgPa + 0x120) 24 31 * 10000
    ((b.fallTo cut).onHk (fun h => { h with hold := some till })).onIf (!was) (fun b => b.raise pgHk 2)
  else b
/-- The rise of PA.TCAP while it is calm. -/
def Block.calmCheck (b : Block) (temp : Int) : Block :=
  if temp < b.thresh 8 - 30 ∧ !b.held then
    match b.hk.calmAt with
    | none => b.onHk (fun h => { h with calmAt := some b.usec })
    | some c =>
      if c + 100000 ≤ b.usec then
        (b.setTcap (min b.variant.maxMw (b.tcap + b.stepTherm))).onHk (fun h => { h with calmAt := some b.usec })
      else b
  else b.onHk (fun h => { h with calmAt := none })
/-- A diode reading: one that is no temperature counts towards DIODE_FAULT (R695), any other is kept and compared. -/
def Block.diode (b : Block) (temp : Int) : Block :=
  if temp < -400 ∨ 1500 < temp then
    let b := b.onHk (fun h => { h with badTemps := h.badTemps + 1 })
    if b.hk.badTemps = 3 then
      (((b.wrF (pgHk + 0x10C) 5 5 1).hkRecord 0x0211 .corrected 0).raise pgHk 3).setTcap b.floorMw
    else if b.hk.badTemps > 3 then b.setTcap b.floorMw else b
  else
    let rate := b.rateOf temp
    let b := (b.wrF (pgHk + 0x10C) 5 5 0).onHk (fun h => { h with badTemps := 0, temps := (b.usec, temp) :: h.temps.take 255 })
    let b := (b.wrF (pgHk + 0x100) 0 15 (BitVec.ofInt 16 temp).toNat).wrF (pgHk + 0x100) 16 31 (BitVec.ofInt 16 rate).toNat
    if temp ≥ b.thresh 16 ∧ !b.hk.tripped then b.trip temp rate
    else ((b.warnThrottle temp).rorCheck rate).calmCheck temp

/-! ### The supplies (R692, R703, R710) -/

/-- The nominal voltage in mV of a supply channel 1 to 8; of VDD_CORE the AVS request. -/
def Block.nominal (b : Block) (ch : Nat) : Nat :=
  match ch with
  | 1 => 750 | 2 => b.rdF (pgHk + 0x448) 0 9 | 3 => 800 | 4 => 1100 | 5 => 1200 | 6 => 900 | 7 => 1200 | _ => 1800
/-- A reading of a supply lies outside ±5 % of nominal. -/
def Block.supplyOut (b : Block) (ch mv : Nat) : Bool :=
  decide (1 ≤ ch ∧ ch ≤ 8) && decide (20 * (mv - b.nominal ch) > b.nominal ch ∨ 20 * (b.nominal ch - mv) > b.nominal ch)
/-- The last reading of a channel is outside its window. -/
def Block.chanOut (b : Block) (ch : Nat) : Bool := b.supplyOut ch (smGet 0 b.hk.chans ch)
/-- One channel's reading; a supply out for three rounds raises SUPPLY. -/
def Block.readChan (b : Block) (ch mv : Nat) : Block :=
  let b := b.onHk (fun h => { h with chans := smSet 0 h.chans ch mv })
  let n := if b.supplyOut ch mv then smGet 0 b.hk.supplyBad ch + 1 else 0
  let b := b.onHk (fun h => { h with supplyBad := smSet 0 h.supplyBad ch n })
  b.onIf (n == 3) (fun b => b.raise pgHk 7)
/-- The counts of PWRFAIL# follow the supplies: the stuck count restarts while a rail of channels 2 to 8 is out (R703), and the
resume count runs while PWRFAIL# is deasserted with every supply in its window (R710). -/
def Block.railCounts (b : Block) : Block :=
  let bad := (List.range 9).filter b.chanOut
  let b := b.onIf (bad.any (fun c => decide (2 ≤ c))) (fun b => b.modInp 1 (fun x => { x with since := b.usec }))
  let ok := (b.inp 1).level && bad.isEmpty
  b.onHk (fun h => { h with okSince := if ok then some (h.okSince.getD b.usec) else none })
/-- HOUSEKEEPING_ROUND: the diode, the other channels in turn, and the sequencer's interrupt (R679, R692). -/
def Block.hkRound (b : Block) (temp : Int) (chans : List Nat) : Block :=
  let ms := b.rdF (pgHk + 0x10C) 0 4
  let b := b.elapseTo (b.hk.roundAt + ms * 1000)
  let b := b.onHk (fun h => { h with roundAt := b.usec })
  let b := b.diode temp
  let b := b.each (chans.take 24).zipIdx (fun b x => b.readChan (x.2 + 1) x.1)
  let b := b.railCounts.lifeStep ms
  b.onCx (fun x => { x with sIrq := true })
/-- ROR_HOLD_END. -/
def Block.holdEnd (b : Block) : Block :=
  match b.hk.hold with
  | some t => (b.elapseTo t).onHk (fun h => { h with hold := none })
  | none => b

/-! ### Inputs (R700-R703) -/

/-- HK.IN_CFG of an input after reset (R700); GLITCH reads 1 where R700's time is not a whole number of 40 ns (log entry 33). -/
def inCfgReset (i : Nat) : W32 :=
  let glitch := if 11 ≤ i then 1 else 25
  let stuck := if i = 1 then 1000 else 0
  let chatter := if i = 0 then 16 else if i = 1 then 4 else if i ≤ 9 then 8 else 0
  BitVec.ofNat 32 (glitch + stuck * 2 ^ 8 + chatter * 2 ^ 20 + 10 * 2 ^ 26)
/-- HK.IN_CFG of an input. -/
def Block.inCfg (b : Block) (i : Nat) : W32 := smGet (inCfgReset i) b.hk.inCfg i
/-- What an accepted level of an input does. -/
def Block.inputEffect (b : Block) (i : Nat) (v : Bool) : Block :=
  if i = 0 then (if v then b.lit (fun b => b.perstOff (b.inp 10).level) else b.lit Block.perstOn)
  else if i = 1 then (if v then b.setLevel 1 true else b.pwrfail)
  else if 2 ≤ i ∧ i ≤ 9 then
    let k := i - 2
    if !b.variant.hasBooth k then b.setLevel i v
    else if !v then (b.setLevel i v).lit (fun b => b.presAssert k)
    else (b.setLevel i v).lit (fun b => if b.boothSt k = 1 ∨ b.boothUp k then b.surprise k else b.removedIn k)
  else b.setLevel i v
/-- Filtered edges of an input within its chatter window. -/
def Block.chatters (b : Block) (i : Nat) : Nat :=
  ((b.inp i).edges.filter (fun t => decide (b.usec < t + fld (b.inCfg i) 26 31 * 100000))).length
/-- What a masked input does: PWRFAIL# is held asserted, a BOOTH_PRES# deasserted. -/
def Block.maskPolicy (b : Block) (i : Nat) : Block :=
  if i = 1 ∧ (b.inp i).level then b.inputEffect 1 false
  else if 2 ≤ i ∧ i ≤ 9 ∧ !(b.inp i).level then b.inputEffect i true else b
/-- INPUT_EDGE: a level that passed the glitch filter; too many in the window mask the input (R702). -/
def Block.inputEdge (b : Block) (i : Nat) (v : Bool) : Block :=
  if 15 ≤ i ∨ (b.inp i).masked ∨ (b.inp i).level = v then b
  else
    let b := b.modInp i (fun x => { x with edges := b.usec :: x.edges.take 63 })
    let b := b.inputEffect i v
    let n := fld (b.inCfg i) 20 25
    if n ≠ 0 ∧ b.chatters i > n then
      let b := b.modInp i (fun x => { x with masked := true })
      ((b.hkRecord 0x0213 .corrected i).raise pgHk 5).maskPolicy i
    else b
/-- INPUT_STUCK: an input held active past its stuck limit; PWRFAIL# leads to the safe state without resume (R701). -/
def Block.inputStuck (b : Block) (i : Nat) : Block :=
  let ms := fld (b.inCfg i) 8 19
  if 15 ≤ i ∨ ms = 0 ∨ (b.inp i).stuck ∨ (b.inp i).level ≠ activeLevel i then b
  else
    let b := (b.elapseTo ((b.inp i).since + ms * 1000)).modInp i (fun x => { x with stuck := true })
    let b := (b.hkRecord 0x0212 .corrected i).raise pgHk 4
    if i ≠ 1 ∨ b.hk.tripped then b
    else if b.plossSt = 0 then ((b.raise pgHk 6).plossStart).plossEnd
    else if b.plossSt = 2 then b.safeNoResume else b

end Sys2Proof.Machine
end

