-- ==== Sys2Proof/Machine/FtEx.lean ====
section
/-! DEFINITION. Flash translation in the background (chapter 5): verify, reclaim, retirement of dies, checkpoints, the rebuild of the
map at boot, sanitize and format; and what a DEVICE_FATAL error does (R656). -/
namespace Sys2Proof.Machine

/-! ### DEVICE_FATAL (R656) -/

/-- A DEVICE_FATAL error is in force: fetching stops, every controller reports CFS, the connections close, the power-loss sequence
puts the staged data on flash unless the flash translation engine raised the error, and the record goes to the record store. -/
def Block.deviceFatal (b : Block) (r : ErrRec) (byFt : Bool) : Block :=
  if b.hk.fatal then b else
  let b := (b.onHk (fun h => { h with fatal := true })).wrF (pgCe + 0x100) 0 0 1
  let ids := ((b.qcList.filter (fun e => qUsed e.2)).map (fun e => qCntlid e.2)).eraseDups
  let b := b.each ids (fun b k => b.modCtlr k (fun c => { c with cfs := true }))
  let b := b.each (b.fp.sess.map (·.1)) (fun b n => (b.send (.rst n)).dropSess n)
  let b := b.onIf (!byFt && b.rdF (pgFt + 0x100) 0 2 != 5 && b.pageReset pgFt == 0 && !b.ft.frozen) (fun b => b.plossSuspended.r241)
  b.recUpdate (fun i => { i with fatal := some r })
/-- A unit records a DEVICE_FATAL error and its consequences follow. -/
def Block.fatalError (b : Block) (pg : Nat) (e : ErrIn) : Block :=
  let r := b.mkRec pg e
  (b.record pg e).deviceFatal r (pg == pgFt)

/-- A metadata page has lost one or both of its copies (R245). -/
def Block.metaCopies (b : Block) (lost : Nat) : Block :=
  let b := b.onFt (fun t => { t with metaLost := min lost 2 })
  if lost = 0 then b
  else if lost = 1 then b.ftRecord 0x0106 .corrected 0 0 0 0 locUnmapped true
  else
    let b := b.onIf b.ft.san.isSome (fun b => ((b.onFt (fun t => { t with san := none, sanFailed := true })).raise pgFt 8).recUpdate id)
    b.fatalError pgFt { code := 0x0107, sev := .deviceFatal, addr := some (lAddr locUnmapped) }

/-! ### Compression and pages of the streams -/

/-- COMPRESS_UNIT: the oldest version of a unit that is not submitted yet; a unit of zeros stores no extent (R365, R214). -/
def Block.compressUnit (b : Block) (nsx unit : Nat) : Block :=
  match b.ft.staged.reverse.find? (fun u => u.nsx == nsx && u.unit == unit && decide (u.phase = .staged)) with
  | none => b
  | some u =>
    if !b.ftRuns then b
    else
      let m := b.stagedMask u
      let data := zeroLbas (b.lbaSize nsx) m (b.stagedBytes u)
      let b := (b.bufRead ftPort 1 (BitVec.ofNat 6 (b.nsTenant nsx)) u.pages u.skip 16384).zeroPoison u m
      if data.isEmpty && m == 0 then
        b.modStaged u.seq u.idx u.unit (fun v => { v with phase := .noStore, loc := locZero })
      else
        let d := mkDesc [(0, b.rdF (pgCz + 0x108) 0 3 * 2 ^ 5 + b.nsTenant nsx * 2 ^ 13 + 2 ^ 19), (192, 16384), (224, 16383)]
        (b.modStaged u.seq u.idx u.unit (fun v => { v with phase := .compressing, data := data, pmask := m })).submitJob d
          (.ftCompress u.seq u.idx nsx unit)
/-- PAGE_FILL_TIMEOUT: a part-filled page of an open block is programmed with padding (R217). -/
def Block.pageFill (b : Block) (k : Nat) : Block :=
  let x := b.fblk k
  if x.st ≠ .opened ∨ x.fill % 64 = 0 ∨ b.ft.frozen then b
  else
    let b := b.elapseTo (x.lastFill + 2000)
    let n := x.fill / 64 + 1
    let b := b.modBlk k (fun y => { y with fill := 64 * n })
    let b := b.postPages k n (b.streamCls x.stream)
    if 64 * n ≥ b.blkSlots k then b.closeBlk k (b.streamCls x.stream) else b
/-- PIECE_COMMIT (R229). -/
def Block.pieceCommit (b : Block) (seq idx : Nat) : Block :=
  match b.piece seq idx with
  | some p => if b.committable p then b.commitPiece p else b
  | none => b

/-! ### Verify (R235, R236, R244) -/

/-- Reads of a block's read-back have not ended. -/
def Block.readingBack (b : Block) (k : Nat) : Bool := b.fc.ops.any (fun o => o.die * 4096 + o.block == k && decide (o.why = .verify))
/-- The class of a verify: C3, or C1 for what a full parity area, a lost group, a drain or a power-off calls for (R322, R324, R333,
R336). -/
def Block.verifyCls (b : Block) (k : Nat) : Nat :=
  let booth := boothOf (k / 4096)
  let host := decide ((b.fblk k).stream = .host)
  if host && ((b.fc.parityFull && b.oldestHost == some k) || b.boothSt booth == 3 || b.boothBusy booth ||
    b.fc.grps.any (fun g => g.lost && g.members.any (fun m => m.1 * 4096 + m.2.1 == k))) then 1 else 3
/-- VERIFY_BLOCK. -/
def Block.verifyBlock (b : Block) (k : Nat) : Block :=
  if b.verifies k && !(b.fblk k).readBack && b.ft.bootVerify.isEmpty then b.readBack k (b.verifyCls k) else b
/-- The mapped units whose extents start at some slots of a block. -/
def Block.unitsAt (b : Block) (k : Nat) (slots : List Nat) : List (Nat × BitVec 48) := (b.mappedOn k).filter (fun e => slots.contains (lSlot e.2))
/-- The pages of an extent. -/
def locPages (e : BitVec 48) : List Nat := (List.range ((lSlot e + lLen e - 1) / 64 + 1 - lSlot e / 64)).map (· + lSlot e / 64)
/-- The extents of a block that its read-back found bad, by first slot: those with a page that failed the ladder, and those that `named` says
name another unit. -/
def Block.badSlots (b : Block) (k : Nat) (named : List Nat) : List Nat :=
  ((b.extsIn k).filter (fun e => named.contains (e.1 % 2 ^ 18) ||
    (locPages (locOfKey e.1 e.2.len)).any (fun p => (b.fblk k).badPages.any (fun x => x.1 == p)))).map (fun e => e.1 % 2 ^ 18)
/-- Die parity gives an extent of a HOST-stream block back (R236, R323): every page of it that failed was rebuilt, and where its header names
another unit, `rebuilt` says so of a page whose group is held. -/
def Block.gotBack (b : Block) (k : Nat) (named : List Nat) (rebuilt : Bool) (e : BitVec 48) : Bool :=
  (locPages e).all (fun p => match (b.fblk k).badPages.find? (fun x => x.1 == p) with
    | some x => x.2
    | none => true) &&
  (!named.contains (lSlot e) || (rebuilt && (locPages e).all (fun p => b.groupHeld (k / 4096) (k % 4096) p)))
/-- VERIFY_DONE: the read-back has ended; `named` names the first slots of the extents whose header names another unit, `rebuilt` says that
die parity gave those back. -/
def Block.verifyDone (b : Block) (k : Nat) (named : List Nat) (rebuilt : Bool) : Block :=
  let x := b.fblk k
  let bad := b.badSlots k named
  if !b.verifies k || !x.readBack || b.readingBack k then b
  else if x.stream = .reclaim then
    if bad.isEmpty then
      ((b.moveEntries k).modBlk k (fun y => { y with st := .verified })).freeSources.retireEmpty.releaseGroups.refreshMode
    else
      let b := b.each bad (fun b s =>
        let e := smFind b.ft.exts (k * 2 ^ 18 + s)
        b.ftRecord 0x0103 .corrected (e.elim 0 (·.nsx)) (e.elim 0 (·.unit)) 1 (e.elim 0 (·.epoch.toNat)) (mkLoc (k / 4096) (k % 4096) s 1))
      (b.recopy k).refreshMode
  else if bad.isEmpty then
    let b := ((b.modBlk k (fun y => { y with st := .verified })).releaseGroups).placeAll
    b.onIf (b.boothSt (boothOf (k / 4096)) == 3) (fun b => b.copyBlk k 1)
  else
    let us := b.unitsAt k bad
    let got := us.filter (fun e => b.gotBack k named rebuilt e.2)
    let lost := us.filter (fun e => !b.gotBack k named rebuilt e.2)
    let b := b.modBlk k (fun y => { y with doomed := true, failed := true })
    let b := b.each got (fun b e =>
      let x := b.ext e.2
      (b.ftRecord 0x0103 .corrected (e.1 / 2 ^ 40) (e.1 % 2 ^ 40) 1 (x.elim 0 (·.epoch.toNat)) e.2).copyExt e.1 e.2)
    (b.loseUnits (lost.map (·.1))).retireEmpty.releaseGroups.refreshMode
/-- The copies on an unverified RECLAIM-stream block are discarded: their sources hold the units (R243). -/
def Block.dropCopies (b : Block) (k : Nat) : Block :=
  b.onFt (fun t => { t with exts := t.exts.filter (fun e => decide (e.1 / 2 ^ 18 ≠ k) || e.2.src.isNone) })
/-- BOOT_VERIFY (R243, R244): the block is read back at C1; then a unit that failed becomes POISON, the units of a PLOSS block move into the
RECLAIM stream, and the copies of a RECLAIM-stream block are discarded. -/
def Block.bootVerify (b : Block) (k : Nat) (named : List Nat) : Block :=
  let x := b.fblk k
  if !b.ft.bootVerify.contains k || !b.ftRuns || b.readingBack k then b
  else if !x.readBack then b.readBack k 1
  else
    let bad := b.badSlots k named
    let b := b.onFt (fun t => { t with bootVerify := t.bootVerify.filter (· ≠ k) })
    let b := b.loseUnits ((b.unitsAt k bad).map (·.1))
    let b := b.onIf (x.stream == .reclaim) (fun b => b.dropCopies k)
    let b := b.modBlk k (fun y => { y with st := if y.st = .opened ∨ y.st = .closed then .verified else y.st })
    let b := b.onIf (x.stream == .ploss) (fun b => b.copyBlk k 1)
    b.freeSources.retireEmpty.refreshMode

/-! ### Reclaim (R240, R254-R256) -/

/-- RECLAIM_SELECT: the best source is copied (R255). -/
def Block.reclaimSelect (b : Block) : Block :=
  if !b.ftRuns || b.rclass == 0 || !b.ft.bootVerify.isEmpty then b
  else match b.reclaimSource with
    | some k => b.copyBlk k b.rclCls
    | none => b
/-- SOURCE_ERASE: a block without a valid extent is erased, or retired where R263 says so. -/
def Block.sourceErase (b : Block) (k : Nat) : Block :=
  let x := b.fblk k
  let done := decide (x.st = .verified) || (decide (x.st = .closed) && x.failed)
  let erasing := b.fc.ops.any (fun o => o.die * 4096 + o.block == k && decide (o.kind = .erase))
  if !done || b.validOf k != 0 || b.blkPending k || erasing || !b.ftRuns || b.ft.eol then b
  else if x.doomed || decide (x.erases ≥ b.eraseLimit k) then b.retireBlk k
  else b.postErase k (if b.rclass = 2 then 1 else 3)
/-- AGE_UNIT_ELAPSED: the next whole AGE_UNIT since a block closed has passed; its score follows. -/
def Block.ageUnit (b : Block) (k : Nat) : Block :=
  let x := b.fblk k
  if x.st = .closed ∨ x.st = .verified then
    b.elapseTo (x.closedAt + ((b.ageOf x + 1) * (b.rdF (pgFt + 0x134) 0 7 * 3600000000) : Nat)).toNat
  else b

/-! ### Retiring a die (R265) -/

/-- A die must be retired: it has stopped responding, or more than DIE_PCT % of its blocks are retired. -/
def Block.dieWorn (b : Block) (d : Nat) : Bool :=
  let x := b.die d
  x.answered && !x.retired && (x.stopped ||
    (x.inService && decide (x.retiredBlks * 100 > b.rdF (pgFt + 0x150) 26 31 * (b.dieProf d).blocks)))
/-- Good blocks of a die. -/
def Block.goodOn (b : Block) (d : Nat) : Nat :=
  (b.dieProf d).blocks - (b.ft.blks.filter (fun e => e.1 / 4096 == d && (decide (e.2.st = .retired) || decide (e.2.st = .bad)))).length
/-- The unused spare die of a booth with the lowest number. -/
def Block.spareDie (b : Block) (k : Nat) : Option Nat :=
  (List.range 128).map (· + 128 * k) |>.find? (fun d =>
    let x := b.die d
    (b.dieProf d).spares.getLsbD (d % 16) && x.answered && !x.inService && !x.retired && !x.stopped)
/-- Blocks leave the retire reserve; the device reaches its end of life when there are not enough (R264, R270). -/
def Block.takeReserve (b : Block) (n : Nat) : Block :=
  let left := b.retireLeft
  let b := b.wrF (pgFt + 0x10C) 0 22 (left - n)
  if left < n ∧ !b.ft.eol then (b.onFt (fun t => { t with eol := true })).raise pgFt 2 else b
/-- A block of a retired die gives up its units: read, rebuilt from parity, or lost. -/
def Block.emptyBlk (b : Block) (readable : List Nat) (k : Nat) : Block :=
  let x := b.fblk k
  let parity := fun (e : Nat × BitVec 48) => decide (x.stream = .host) && decide (x.st = .opened ∨ x.st = .closed) &&
    (locPages e.2).all (fun p => b.groupHeld (k / 4096) (k % 4096) p)
  let ok := fun (e : Nat × BitVec 48) => readable.contains (k % 4096) || parity e
  let us := b.mappedOn k
  let b := b.modBlk k (fun y => { y with copying := true })
  let b := b.each (us.filter ok) (fun b e => b.copyExt e.1 e.2)
  b.loseUnits ((us.filter (fun e => !ok e)).map (·.1))
/-- RETIRE_DIE. -/
def Block.retireDie (b : Block) (d : Nat) (readable : List Nat) : Block :=
  if !b.dieWorn d || b.ft.frozen then b
  else
    let good := b.goodOn d
    let b := b.modDie d (fun x => { x with inService := false, retired := true })
    let b := b.onFt (fun t => { t with opens := t.opens.filter (fun o => o.2.1 ≠ d) })
    let ks := (b.ft.blks.filter (fun e => e.1 / 4096 == d)).map (·.1)
    let b := b.each ks (Block.emptyBlk · readable)
    let b := b.each ks Block.redoCopies
    let b := match b.spareDie (boothOf d) with
      | some s => (b.modDie s (fun x => { x with inService := true, spareIn := true })).chDies (chOf s)
      | none => b.takeReserve good
    ((b.chDies (chOf d)).raise pgFt 4).metaRefresh.retarget.refreshMode

/-! ### Checkpoints and the rebuild (R245-R250) -/

/-- CHECKPOINT_SEGMENT: the oldest change of the journal enters the checkpoint. -/
def Block.checkpoint (b : Block) (lost : Nat) : Block :=
  if !b.ftRuns then b
  else if b.ft.journal.isEmpty then b
  else b.ckptOne.metaPage.metaCopies lost
/-- MAP_REBUILD: the checkpoint is loaded into DRAM, then the journal is replayed up to the end mark or the last intact entry; an entry
that is not intact ends the replay (R248, R250). -/
def Block.mapRebuild (b : Block) (intact lost : Nat) : Block :=
  if b.rdF (pgFt + 0x100) 0 2 ≠ 5 then b
  else
    let es := b.ft.journal.take intact
    let b := b.onFt (fun t => { t with map := t.ckpt, journal := es, endMark := false, frozen := false, loaded := true })
    let b := b.each b.ft.ckpt (fun b e => b.mapStore e.1 e.2)
    let b := (b.each es Block.applyEntry).wrSat (pgFt + 0x180) 8 23 b.journalMib
    b.metaCopies lost
/-- A format resets its namespace: the map area, the key with SES 1 or 2, and the LBA format (R276). -/
def Block.formatNs (b : Block) (f : Fmt) : Block :=
  let ks := (b.ft.map.filter (fun e => e.1 / 2 ^ 40 == f.nsx)).map (·.1)
  let b := b.onIf (!ks.isEmpty) (fun b =>
    let ent : JEnt := { seq := 0, sets := ks.map (fun k => (k, locUnmapped)) }
    (b.logEntry ent).applyEntry ent)
  let b := b.onIf (f.ses == 1 || f.ses == 2) (fun b =>
    b.onFc (fun e => { e with keys := smSet {} e.keys f.nsx ⟨true, e.nextGen⟩, nextGen := e.nextGen + 1 }))
  let old := fld (b.nsWord f.nsx) 8 11
  let n := smGet 0 b.ft.nsze f.nsx
  let b := b.onFt (fun t => { t with fmt := none, nsze := smSet 0 t.nsze f.nsx (n * 2 ^ old / 2 ^ f.shift) })
  b.onCe (fun e => { e with ns := smSet 0xC00 e.ns f.nsx (setFld (b.nsWord f.nsx) 8 11 f.shift) })
/-- A format in progress completes (R277): its record is cleared, and its command ends. -/
def Block.formatEnds (b : Block) : Block :=
  match b.ft.fmt with
  | some f => if b.ftRuns then ((b.formatNs f).recUpdate id).admDone f.who.1 (BitVec.ofNat 16 f.who.2) 0 stOk else b
  | none => b
/-- REBUILD_DONE: step 4 of R248; an interrupted format completes first (R277). -/
def Block.rebuildDone (b : Block) : Block :=
  if b.rdF (pgFt + 0x100) 0 2 ≠ 5 ∨ !b.ft.loaded then b
  else
    let b := match b.ft.fmt with
      | some f => (b.formatNs f).recUpdate id
      | none => b
    let gone := (b.ft.blks.filter (fun e => decide (e.2.st = .retired))).length
    let b := b.wrSat (pgFt + 0x10C) 0 22 (b.ft.retireInit - gone)
    ((b.wrF (pgFt + 0x100) 0 2 0).metaRefresh.retarget.refreshMode).raise pgFt 9
/-- WEAR_SUMMARY: every 24 hours (R266). -/
def Block.wearSummary (b : Block) : Block :=
  let b := b.elapseTo (b.hk.wearAt + 86400000000)
  (b.onHk (fun h => { h with wear := b.peRange, wearAt := b.usec })).recUpdate id

/-! ### Sanitize (R271-R275) -/

/-- TOTAL of R273. -/
def San.total (x : San) : Nat :=
  match x.act with
  | .blockErase => 4096 | .overwrite => 4096 * x.passes | .crypto => 1
/-- The pattern that a pass of an overwrite writes: inverted in every second pass where the command asks for it. -/
def San.passPattern (x : San) : W32 := if x.invert && x.cursor / 4096 % 2 == 1 then ~~~x.pattern else x.pattern
/-- The units of some map entries become UNMAPPED. -/
def Block.unmapAll (b : Block) (ks : List Nat) : Block := b.each ks (fun b k => b.mapSet k locUnmapped)
/-- Every good block of an index on every present die has been erased `n` times more, and holds nothing, or a raw pattern in every page. -/
def Block.eraseWave (b : Block) (i n : Nat) (raw : Option W32) : Block :=
  let ds := (b.fc.dies.filter (fun e => e.2.answered && !e.2.retired && b.boothUp (boothOf e.1))).map (·.1)
  let b := b.each (ds.filter (fun d => decide (i < (b.dieProf d).blocks))) (fun b d =>
    let x := b.fblk (d * 4096 + i)
    if x.st = .retired ∨ x.st = .bad then b
    else b.modBlk (d * 4096 + i) (fun y => { (({} : Blk)) with
      erased := raw.isNone
      erases := y.erases + n
      raw := raw.elim [] (fun v => (List.range (b.dieProf d).pages).map (fun p => (p, v))) }))
  let b := b.unmapAll ((b.ft.map.filter (fun e => !lFlag e.2 && lBlock e.2 == i)).map (·.1))
  let b := b.onFc (fun e => { e with descs := e.descs.filter (fun d => decide (d.1 / 4096 % 4096 ≠ i)) })
  (b.onFt (fun t => { t with
    exts := t.exts.filter (fun e => decide (e.1 / 2 ^ 18 % 4096 ≠ i))
    opens := t.opens.filter (fun o => o.2.2 ≠ i) })).slcRetarget
/-- A sanitize ends in the Sanitize Failed state (R275). -/
def Block.sanFail (b : Block) : Block :=
  (((b.onFt (fun t => { t with san := none, sanFailed := true })).refreshMode).raise pgFt 8).recUpdate id
/-- The erase of a block fails in a sanitize: the block is retired at once (R263). -/
def Block.sanRetire (b : Block) (k : Nat) : Block :=
  if (b.fblk k).st = .retired ∨ (b.fblk k).st = .bad then b
  else (b.ftRecord 0x0102 .corrected 0 0 0 0 (mkLoc (k / 4096) (k % 4096) 0 1)).retireBlk k
/-- SANITIZE_STEP: the cursor advances by one; the record store follows every 64 steps (R273, R274). -/
def Block.sanStep (b : Block) : Block :=
  match b.ft.san with
  | none => b
  | some x =>
    if x.act = .crypto ∨ x.cursor ≥ x.total ∨ b.ft.frozen then b
    else
      let ovw := decide (x.act = .overwrite)
      let last := decide (x.cursor / 4096 + 1 = x.passes)
      let b := b.eraseWave (x.cursor % 4096) (if ovw && last then 2 else 1) (if ovw && !last then some x.passPattern else none)
      let c := x.cursor + 1
      let due := decide (c ≥ x.recorded + 64)
      let b := b.onFt (fun t => { t with san := some { x with cursor := c, recorded := if due then c else x.recorded } })
      b.onIf due (fun b => b.recUpdate id)
/-- Every namespace key is replaced (R272). -/
def Block.newKeys (b : Block) : Block :=
  b.each (b.fc.keys.filter (fun e => e.2.full)) (fun b e =>
    b.onFc (fun f => { f with keys := smSet {} f.keys e.1 ⟨true, f.nextGen⟩, nextGen := f.nextGen + 1 }))
/-- The blocks of a list that a sanitize has erased so far, on the dies in service and not yet retired: those whose erase can have failed. -/
def Block.sanErased (b : Block) (x : San) (ks : List Nat) : List Nat :=
  if x.act = .crypto then [] else
  ks.eraseDups.filter (fun k => b.diesIn.contains (k / 4096) && decide (k % 4096 < x.cursor) && decide ((b.fblk k).st ≠ .retired)
    && decide ((b.fblk k).st ≠ .bad))
/-- SANITIZE_DONE: the blocks whose erase failed are retired, and the sanitize fails where the retire reserve runs out (R275); else, with
nothing left to erase, it completes, every map entry UNMAPPED and the metadata written anew (R272). -/
def Block.sanDone (b : Block) (failed : List Nat) : Block :=
  match b.ft.san with
  | none => b
  | some x =>
    if b.ft.frozen then b else
    let out := decide (b.retireLeft < (b.sanErased x failed).length)
    let b := b.each (b.sanErased x failed) Block.sanRetire
    if out then b.sanFail
    else if x.act ≠ .crypto ∧ x.cursor < x.total then b
    else
      let b := (b.onIf (x.act == .crypto) Block.newKeys).unmapAll (b.ft.map.map (·.1))
      let b := b.onFt (fun t => { t with
        map := []
        ckpt := []
        journal := []
        pieces := []
        staged := []
        san := none
        sanFailed := false })
      let b := (b.wrSat (pgFt + 0x180) 8 23 0).retarget.metaRefresh.metaPage
      ((b.refreshMode).raise pgFt 8).recUpdate id
/-- A sanitize starts (R271, R274). -/
def Block.sanStart (b : Block) (x : San) : Block :=
  ((b.onFt (fun t => { t with san := some x, sanFailed := false })).refreshMode).recUpdate id

/-! ### The commands of chapter 5 -/

/-- COMPRESS_UNIT (R365). -/
def execCompressUnit (nsx : BitVec 10) (unit : BitVec 40) (s : State) : Host.Outcome State Fault Refusal :=
  s.run (fun b => b.compressUnit nsx.toNat unit.toNat)
/-- The name of a block. -/
def blkName (die : BitVec 10) (block : BitVec 12) : Nat := die.toNat * 4096 + block.toNat
/-- PAGE_FILL_TIMEOUT (R217). -/
def execPageFillTimeout (die : BitVec 10) (block : BitVec 12) (s : State) : Host.Outcome State Fault Refusal :=
  s.run (fun b => b.pageFill (blkName die block))
/-- PIECE_COMMIT (R229). -/
def execPieceCommit (seq : W64) (piece : BitVec 16) (s : State) : Host.Outcome State Fault Refusal :=
  s.run (fun b => b.pieceCommit seq.toNat piece.toNat)
/-- VERIFY_BLOCK (R235). -/
def execVerifyBlock (die : BitVec 10) (block : BitVec 12) (s : State) : Host.Outcome State Fault Refusal :=
  s.run (fun b => b.verifyBlock (blkName die block))
/-- VERIFY_DONE (R235, R236). -/
def execVerifyDone (die : BitVec 10) (block : BitVec 12) (named : List (BitVec 18)) (rebuilt : Bool) (s : State) :
    Host.Outcome State Fault Refusal :=
  s.run (fun b => b.verifyDone (blkName die block) (named.map (·.toNat)) rebuilt)
/-- RECLAIM_SELECT (R255). -/
def execReclaimSelect (s : State) : Host.Outcome State Fault Refusal := s.run (fun b => b.reclaimSelect)
/-- SOURCE_ERASE (R240). -/
def execSourceErase (die : BitVec 10) (block : BitVec 12) (s : State) : Host.Outcome State Fault Refusal :=
  s.run (fun b => b.sourceErase (blkName die block))
/-- RETIRE_DIE (R265). -/
def execRetireDie (die : BitVec 10) (readable : List (BitVec 12)) (s : State) : Host.Outcome State Fault Refusal :=
  s.run (fun b => b.retireDie die.toNat (readable.map (·.toNat)))
/-- CHECKPOINT_SEGMENT (R245, R246). -/
def execCheckpointSegment (copiesLost : BitVec 2) (s : State) : Host.Outcome State Fault Refusal :=
  s.run (fun b => b.checkpoint copiesLost.toNat)
/-- MAP_REBUILD (R248, R250). -/
def execMapRebuild (intact : W64) (copiesLost : BitVec 2) (s : State) : Host.Outcome State Fault Refusal :=
  s.run (fun b => b.mapRebuild intact.toNat copiesLost.toNat)
/-- REBUILD_DONE (R248). -/
def execRebuildDone (s : State) : Host.Outcome State Fault Refusal := s.run (fun b => b.rebuildDone)
/-- BOOT_VERIFY (R244). -/
def execBootVerify (die : BitVec 10) (block : BitVec 12) (named : List (BitVec 18)) (s : State) : Host.Outcome State Fault Refusal :=
  s.run (fun b => b.bootVerify (blkName die block) (named.map (·.toNat)))
/-- WEAR_SUMMARY (R266). -/
def execWearSummary (s : State) : Host.Outcome State Fault Refusal := s.run (fun b => b.wearSummary)
/-- SANITIZE_STEP (R273, R274). -/
def execSanitizeStep (s : State) : Host.Outcome State Fault Refusal := s.run (fun b => b.sanStep)
/-- SANITIZE_DONE (R272, R275). -/
def execSanitizeDone (failed : List (BitVec 22)) (s : State) : Host.Outcome State Fault Refusal :=
  s.run (fun b => b.sanDone (failed.map (·.toNat)))
/-- AGE_UNIT_ELAPSED (R254). -/
def execAgeUnitElapsed (die : BitVec 10) (block : BitVec 12) (s : State) : Host.Outcome State Fault Refusal :=
  s.run (fun b => b.ageUnit (blkName die block))

end Sys2Proof.Machine
end

