-- ==== Sys2Proof/Machine/Reset.lean ====
section
/-! DEFINITION. The resets: of instances and units (R69-R73, R777), of tenants (R133-R136, R778), of the device (R717, R718), the fall
and rise of VDD_AON, and the boot (R711-R716). -/
namespace Sys2Proof.Machine

/-! ### What a unit reset does to an instance -/

/-- A core that is replaced or reset loses its context (R642). -/
def Block.coreLost (b : Block) (i : Nat) : Block :=
  let b := match (b.core i).onCtx with
    | some k =>
      let b := (b.cxRec k 0x0102 .contained 0 (b.core i).pc).ctxEnd k (some (0, stat 7 0xC3 false))
      (b.modCtx k (fun x => { x with core := none })).setBusy i false
    | none => b
  (b.setCore i { (b.core i).renew i with resetAt := b.usec }).idleCore i
/-- The operations at the dies of a channel are issued again, and their tickets return. -/
def Block.chanSoft (b : Block) (ch : Nat) : Block :=
  let mine := b.fc.ops.filter (fun o => chOf o.die == ch)
  b.each mine (fun b o => b.requeue o.id)
/-- Operations that an instance held are issued again; a host read is issued again once, and a second time ends its command (R653). -/
def Block.reissue (b : Block) (os : List FlashOp) : Block :=
  let had := (b.ce.cmds.filter (·.retried)).map (·.seq)
  b.each os (fun b o =>
    let again := b.requeue o.id
    match o.kind, o.why with
    | .read, .unit seq _ u _ =>
      if had.contains seq then (b.dropOp o.id).failUnit seq u (statU 0 0x06)
      else again.modCmd seq (fun c => { c with retried := true })
    | _, _ => again)
/-- Host writes whose data passes through an instance and is not durable end with 0xC0 (R653). -/
def Block.interruptWrites (b : Block) (through : Cmd → Bool) : Block :=
  let held := fun (c : Cmd) => b.ft.pieces.any (fun p => p.seq == c.seq && p.resv.isSome && !p.durable)
  b.each (b.ce.cmds.filter (fun c => held c && through c)) (fun b c => b.complete c.seq (stat 7 0xC0 false))
/-- Work in the command engine, the flash translation engine or the staging SRAM ends as R653 gives it: writes are interrupted, reads are
issued again. -/
def Block.dataSoft (b : Block) : Block :=
  let reads := b.fc.ops.filter (fun o => match o.why with | .unit _ _ _ _ => true | _ => false)
  (b.interruptWrites (fun _ => true)).reissue reads
/-- The queue of a host command. -/
def Cmd.queue? (c : Cmd) : Option Nat := match c.src with | .queue q => some q | _ => none
/-- A host port's logic is reset: its writes are interrupted, and its link trains anew. -/
def Block.hpSoft (b : Block) (i : Nat) : Block :=
  let b := b.interruptWrites (fun c => c.queue?.any (fun q => qIsPcie (b.qc q) && b.linkOf (qCntlid (b.qc q)) == i))
  b.onIf (b.linkIsUp i) (fun b => b.linkDown i)
/-- An Ethernet port's logic is reset. -/
def Block.fpSoft (b : Block) (p : Nat) : Block :=
  let b := b.interruptWrites (fun c => c.queue?.any (fun q => qIsTcp (b.qc q) && b.dataPort q == 3 + p))
  b.each (List.range 8) (fun b l => b.ethDown p l)
/-- The command engine's own logic: its arbitration starts anew. -/
def CeSt.ctlSoft (e : CeSt) : CeSt := { e with rr := 0, deficit := [], laneTen := [], lastK := [], lastQ := [] }
/-- A DRAM channel's logic: its write queues drain, its rows close, and its lap's corrections are forgotten. -/
def MsSt.chSoft (m : MsSt) (ch : Nat) : MsSt :=
  { m with
    wq := m.wq.filter (fun e => e.1 / 2 ≠ ch)
    openRows := m.openRows.filter (fun e => e.1 / 128 ≠ ch)
    seen := m.seen.filter (fun e => e.1 / 2 ≠ ch) }
/-- The operations of a booth that stand at a soft decoder are issued again. -/
def Block.boothSoft (b : Block) (k : Nat) : Block :=
  b.each (b.fc.ops.filter (fun o => boothOf o.die == k && decide (o.rung ≠ 0) && o.out)) (fun b o => b.requeue o.id)
/-- The media channel array's own logic: a running profile load and a running key operation end with nothing done. -/
def Block.fcSoft (b : Block) : Block :=
  let b := b.onIf b.fc.profLoad.isSome (fun b => (b.onFc (fun e => { e with profLoad := none })).profStatus false 0)
  b.onIf b.fc.keyOp.isSome (fun b => (b.onFc (fun e => { e with keyOp := none })).keyStatus false)
/-- The logic of an instance is stopped, drained and reset; `kind` is 1 SOFT, 2 HARD, 3 RECOVER. -/
def Block.resetLogic (b : Block) (c : PageClass) (i kind : Nat) : Block :=
  match c with
  | .czC => (b.stopJob false i 0x27).modLane false i (fun l => { l with dead := l.dead && kind != 3 })
  | .czD => (b.stopJob true i 0x27).modLane true i (fun l => { l with dead := l.dead && kind != 3 })
  | .czCtl => b.abortJobs (fun _ => true) false
  | .dmCh => let b := b.chKill i 5; if kind = 1 then b else b.setChan i {}
  | .seBank => if kind = 1 then b.bankSoft i else b.bankHard i
  | .fcCh => b.chanSoft i
  | .cxCluster => b.each (List.range 8) (fun b k => b.coreLost (8 * i + k))
  | .cxCore => b.setCore (96 + i) { (b.core (96 + i)).renew (96 + i) with stopped := false, resetAt := b.usec }
  | .hp => b.hpSoft i
  | .fpPort => b.fpSoft i
  | .ceCtl => b.dataSoft.onCe CeSt.ctlSoft
  | .ft => b.dataSoft
  | .msStg => b.dataSoft.onMs (fun m => { m with stSeen := [], stScrubAt := 0, stLapStart := b.usec, stLapLate := false })
  | .msCh => b.onMs (fun m => m.chSoft i)
  | .msCtl => b.onMs (fun m => { m with reqs := [], reqWin := b.usec / 1000, scrubAt := 0, lapStart := b.usec, lapLate := false })
  | .bt => b.onFab (fun f => { f with last := [] })
  | .fcCtl => b.fcSoft
  | .fcBooth => b.boothSoft i
  | .fpCtl => b.onFp (fun p => { p with fwRate := (0, 0) })
  | .seCtl => b.wrF (pgSe + 0x184) 0 0 0
  | .dmCtl => b.onDm (fun d => { d with lines := [] })
  | .cxCtl => b.onCx (fun x => { x with credit := [], lastTen := [] })
  | .ceTenant | .cxTenant | .chip | .hk | .paCtl | .paBooth | .dbg => b

/-- A writable field that a HARD reset returns: RW, and RWL while its lock bit is clear (R72). -/
def Fld.resets (f : Fld) (lock : W32) : Bool :=
  match f.ty with
  | .rw => true
  | .rwl => !lock.getLsbD f.lk
  | _ => false
/-- A word with the fields of a list at their reset values. -/
def fieldsReset (fs : List Fld) (w : W32) : W32 := fs.foldl (fun w f => setFld w f.lo f.hi f.rst) w
/-- The RW and unlocked RWL fields of a page return to their reset values. -/
def Block.hardPage (b : Block) (c : PageClass) (i : Nat) : Block :=
  let pg := pageBase c i
  let lock := b.rd (pg + 0x084)
  b.each (headerRegs ++ unitRegs b.variant c i) (fun b r =>
    let fs := r.flds.filter (·.resets lock)
    if fs.isEmpty then b
    else b.each (List.range r.cnt) (fun b k => b.wr (pg + r.off + 4 * k) (fieldsReset fs (b.rd (pg + r.off + 4 * k)))))
/-- The RW fields behind a page's selector registers return to their reset values. Those of a search bank do so with its partitions (R506),
and R382 keeps the stream slots. -/
def Block.hardWindows (b : Block) (c : PageClass) : Block :=
  match c with
  | .ceCtl => b.onCe (fun e => { e with ns := [] })
  | .msCtl => b.onMs (fun m => { m with regions := [] })
  | .dmCtl => b.onDm (fun d => { d with cfg := [] })
  | _ => b
/-- One page takes a reset. -/
def Block.takeReset (b : Block) (c : PageClass) (i kind : Nat) : Block :=
  let pg := pageBase c i
  let b := b.resetLogic c i kind
  let b := b.onIf (kind != 1) (fun b => (b.hardPage c i).hardWindows c)
  let b := b.onIf (kind == 3) (fun b => b.setPageReset pg 0)
  let b := match c with
    | .fpPort => b.onIf (kind != 1) (fun b => b.fpTickets i)
    | .ft => b.retarget.refreshMode
    | _ => b
  b.wrF (pg + 0x00C) 8 11 kind
/-- A TENANT page takes a reset: its fields, and nothing else (R69). -/
def Block.takeResetT (b : Block) (c : PageClass) (i kind : Nat) : Block :=
  let b := b.onIf (kind != 1) (fun b => b.hardPage c i)
  let b := b.onIf (kind == 3) (fun b => b.setPageReset (pageBase c i) 0)
  b.wrF (pageBase c i + 0x00C) 8 11 kind
/-- A page takes a reset by its kind of page. -/
def Block.takeAny (b : Block) (c : PageClass) (i kind : Nat) : Block := if c.kind = .tenant then b.takeResetT c i kind else b.takeReset c i kind
/-- The other pages of a unit that are present. -/
def Block.unitPages (b : Block) (c : PageClass) : List (PageClass × Nat) :=
  ((unitClasses c.unit).filter (fun e => decide (e.1 ≠ c))).flatMap (fun e =>
    ((List.range e.2).filter (b.has e.1)).map (fun i => (e.1, i)))
/-- One page of the unit that a CONTROL page resets acts on its own state (R777). -/
def Block.resetPart (b : Block) (port : BitVec 8) (kind : Nat) (x : PageClass × Nat) : Block :=
  let pg := pageBase x.1 x.2
  let st := b.pageReset pg
  if st = 0 ∨ (st = 3 ∧ kind = 3) then b.takeAny x.1 x.2 kind else b.refuse pg 1 port (pg + 0x080)
/-- A write to UNIT_RESET of a present page. -/
def Block.unitReset (b : Block) (port : BitVec 8) (pg key kind : Nat) : Block :=
  match presentPageAt b.variant pg with
  | none => b
  | some (c, i) =>
    if key ≠ 0x5EED ∨ kind = 0 ∨ 3 < kind then b.refuse pg 3 port (pg + 0x080)
    else if c.unit ≤ 4 then b.refuse pg 1 port (pg + 0x080)
    else if b.pageReset pg ≠ 0 ∧ (b.pageReset pg ≠ 3 ∨ kind ≠ 3) then b.refuse pg 1 port (pg + 0x080)
    else
      let b := b.takeAny c i kind
      if c.kind = .control then b.each (b.unitPages c) (fun b x => b.resetPart port kind x) else b

/-! ### Tenant reset (R133, R136, R778) -/

/-- CE.TENANT_RESET of a tenant. -/
def Block.resetTenant (b : Block) (t : Nat) : Block :=
  let b := b.wrF (pgCeT t + 0x10C) 15 15 1
  let mine := fun (s : CmdSrc) => match s with
    | .localQ c => (b.ctx c).any (fun x => x.tenant.toNat == t)
    | _ => false
  let cs := b.ce.cmds.filter (fun c => mine c.src)
  let b := b.each cs Block.endByReset
  let b := b.keepLanes (fun f => !mine f.src)
  let b := b.resetStart (b.qcsWhere (fun q => qTenant q == t)) (some (BitVec.ofNat 6 t))
  let ns := (b.fp.sess.filter (fun e => e.2.tenant.toNat == t)).map (·.1)
  let ks := (b.fp.sess.filter (fun e => e.2.tenant.toNat == t && decide (e.2.phase = .ready))).map (·.2.cntlid)
  let b := b.each ks (fun b k => b.modCtlr k (fun c => { c with en := false, cfs := false, aers := [], events := [], kato := 0 }))
  let b := b.each ns (fun b n => (b.send (.rst n)).dropSess n)
  let vf := b.rdF (pgCeT t + 0x114) 0 5
  let b := b.onIf (vf != 0) (fun b => b.modCtlr vf (fun c => { c with cfs := true }))
  (((b.czTenantReset t).dmTenantReset t).seTenantReset t).cxTenantReset t

/-! ### Device reset and the always-on supply -/

/-- The fabric range of the always-on SRAM. -/
def inAonSram (a : Nat) : Bool := decide (0x031100000000 ≤ a ∧ a < 0x031100040000)
/-- A register of the always-on pages as a device reset leaves it: RO fields stay, the others return to reset. -/
def aonWord (v : Variant) (off : Nat) (w : W32) : W32 :=
  match regAt v off with
  | some r => r.flds.foldl (fun x f => if f.ty = .ro then setFld x f.lo f.hi (fld w f.lo f.hi) else x) (regReset v off)
  | none => w
/-- The registers after a device reset. -/
def keptRegs (v : Variant) (m : SMap W32) : SMap W32 :=
  ((m.filter (fun e => decide (e.1 < 0x400000))).map (fun e => (e.1, aonWord v e.1 e.2))).filter (fun e => e.2 ≠ regReset v e.1)
/-- What is on flash, and what was volatile is gone; blocks of the HOST and RECLAIM streams that were open or unverified, and those of
PLOSS copies, are to be verified (R244). A block closes with the loss of its stream; `lost` is what the microsecond counter loses. -/
def Block.flashKept (b : Block) (lost : Nat) : FtSt :=
  let t := b.ft
  let written := fun (e : Nat × Ext) => b.spanDone (locOfKey e.1 e.2.len)
  let due := fun (e : Nat × Blk) => decide (e.2.stream ≠ .meta_) && (decide (e.2.st = .opened) || decide (e.2.st = .closed))
  { exts := t.exts.filter written
    blks := t.blks.map (fun e => (e.1, { e.2 with
      st := if e.2.st = .opened then .closed else e.2.st
      closedAt := (if e.2.st = .opened then (b.usec : Int) else e.2.closedAt) - (lost : Int)
      readBack := false
      badPages := []
      copying := false }))
    mapAt := t.mapAt
    bootVerify := (t.blks.filter due).map (·.1)
    nsze := t.nsze, journal := t.journal, ckpt := t.ckpt, metaLost := t.metaLost, endMark := t.endMark, san := t.san
    sanFailed := t.sanFailed, fmt := t.fmt, retireInit := t.retireInit, eol := t.eol, seqDur := t.seqDur }
/-- What is known of the cartridges after the volatile state has gone: the dies' retirement, the kept IDs, the wrapped keys. -/
def Block.cartsKept (b : Block) : FcSt :=
  { dies := (b.fc.dies.map (fun e => (e.1, { e.2 with inService := false, timeouts := [] })))
    descs := b.fc.descs, carts := b.fc.carts, wraps := b.fc.wraps, nextGen := b.fc.nextGen, nextOp := b.fc.nextOp }
/-- Booths with a kept cartridge are OFFLINE_DATA. -/
def Block.boothsKept (b : Block) : Block := b.each (b.fc.carts.map (·.1)) (fun b k => b.wrF (pgBooth k + 0x104) 0 3 5)
/-- The flash translation engine is in service with staged data to save. -/
def Block.ftLive (b : Block) : Bool := b.rdF (pgFt + 0x100) 0 2 != 5 && b.pageReset pgFt == 0 && !b.ft.endMark
/-- Everything outside the always-on domain is reset, and the always-on pages as R717 gives. -/
def Block.wipe (b : Block) : Block :=
  let b := b.endHalts
  let ops := b.fc.ops
  let b := b.each ops (fun b o => b.dropOp o.id)
  let x : Block := {
    fuses := b.fuses
    usec := b.usec
    freeCtr := b.freeCtr
    regs := keptRegs b.variant b.regs
    mem := b.mem.filter (fun e => inAonSram e.1)
    poison := b.poison.filter (fun e => inAonSram (e.1 * 8))
    outbox := b.outbox
    hp := { split := b.hp.split, perst := b.hp.perst }
    ft := b.flashKept 0
    fc := b.cartsKept
    pa := { b.pa with waiting := [], floats := [], plossMw := none, starved := [] }
    ms := { repairMap := b.ms.repairMap }
    cx := { cores := renewCores (fun i => i == 100) b.cx.cores, sIrq := b.cx.sIrq }
    hk := b.hk
    dbg := b.dbg }
  (x.setPloss 0).boothsKept
/-- A device reset (R717, R718); the power-loss sequence runs first while the flash translation engine is in service. -/
def Block.deviceReset (b : Block) (cause : Nat) : Block :=
  if b.hk.tripped then b
  else
    let st := b.plossSt
    let b := if st = 1 then b.plossFinish else if st = 0 && b.ftLive then b.plossStart.plossFinish else b
    b.wipe.onHk (fun h => { h with
      cause := some cause
      booted := false
      fatal := false
      inCfg := []
      khb := []
      kphys := []
      failover := none
      kTest := none
      pllOff := List.range 16
      okSince := none })
/-- VDD_AON falls: everything is lost but the fuses, the record memory, the NOR, and what the cartridges hold; the model keeps with
them which physical instances are spares that were used. -/
def Block.aonFall (b : Block) : Block :=
  let h := b.hk
  { fuses := b.fuses
    freeCtr := b.freeCtr
    outbox := b.outbox
    ft := b.flashKept b.usec
    fc := b.cartsKept
    hk := {
      bank0 := h.bank0
      bank1 := h.bank1
      replaced := h.replaced
      phys := h.phys
      freeSp := h.freeSp
      substs := h.substs
      fused := h.fused
      slotSvn := h.slotSvn
      off := true } }
/-- The pages of some classes read running. -/
def Block.runPages (b : Block) (cs : List PageClass) : Block :=
  b.each cs (fun b c => b.each ((List.range (c.count b.variant)).filter (b.has c)) (fun b i => b.setPower (pageBase c i) 2))
/-- VDD_AON rises: power-on reset, with the microsecond counter at 0 and the JTAG_EN strap sampled (R84, R717, R746). -/
def Block.aonRise (b : Block) (jtagEn : Bool) : Block :=
  if b.hk.off then
    (({ b with usec := 0 }.onHk (fun h => { h with off := false })).onDbg (fun d => { d with jtagEn := jtagEn })).boothsKept
  else b

/-! ### The boot (R707, R711-R716) -/

/-- The classes of pages that read running once boot hands over: all but those of clusters, lanes, search banks and media channels,
which are gated one by one (log entry 7). -/
def coreClasses : List PageClass :=
  [.chip, .hk, .paCtl, .paBooth, .dbg, .bt, .hp, .fpCtl, .fpPort, .ceCtl, .ceTenant, .ft, .fcCtl, .fcBooth, .msCtl, .msCh, .msStg, .cxCtl, .cxCore, .cxTenant, .czCtl, .seCtl,
    .dmCtl, .dmCh]

/-- The image that boot uses: the valid bank with the higher SEQ, counted modulo 2^32 (R707). -/
def Block.bootImg (b : Block) : Option (Img × Bool) :=
  match b.hk.bank0, b.hk.bank1 with
  | some x, some y => if (y.seq - x.seq).toNat < 2 ^ 31 ∧ y.seq ≠ x.seq then some (y, true) else some (x, false)
  | some x, none => some (x, false)
  | none, some y => some (y, true)
  | none, none => none
/-- HK.REC.BOOT_CAUSE. -/
def Block.bootCause (b : Block) : Nat :=
  match b.hk.cause, b.bootImg with
  | some c, _ => c
  | none, none => 0
  | none, some (x, _) => if x.trip.isSome then 3 else if x.plossDone then 2 else if x.clean then 1 else 4
/-- Step 3 of R712: the record store is read, and the cause is set; an unclean stop goes on record (R722). -/
def Block.bootRead (b : Block) : Block :=
  let cause := b.bootCause
  let fresh := b.hk.cause.isNone
  let b := match b.bootImg with
    | none => (b.recUpdate id).recNow id
    | some (x, one) =>
      let b := (b.wrF (pgHk + 0x130) 1 1 (if one then 1 else 0)).wr (pgHk + 0x134) x.seq
      if !fresh then b
      else
        let b := b.onHk (fun h => { h with next := { x with clean := false, plossDone := false, trip := none }, wear := x.wear, substs := x.substs })
        let b := (b.onFt (fun t => { t with san := x.san, fmt := x.fmt })).onMs (fun m => { m with repairMap := x.repairMap })
        (b.wr (pgHk + 0x44C) (BitVec.ofNat 32 x.life)).wr (pageBase .fcCtl 0 + 0x15C) x.keyEpoch
  let b := (b.wrF (pgHk + 0x130) 2 4 cause).onHk (fun h => { h with cause := none })
  b.onIf (cause == 4) (fun b => b.hkRecord 0x0216 .corrected 0)
/-- Substitutions and retirements on record are in force again (R670): their pages show SPARED. -/
def Block.bootSpares (b : Block) : Block :=
  b.each b.hk.substs (fun b s =>
    if s.2.2 then b else
    let n := s.2.1
    match s.1 with
    | 0 => b.setSpared (pgCl (n / 8)) true
    | 1 => b.setSpared (pgKc n) true
    | 2 => b.setSpared pgHk true
    | 3 => b.setSpared (pgLane false n) true
    | 4 => b.setSpared (pgLane true n) true
    | 5 => b.setSpared (pgDmCh n) true
    | 6 => b.setSpared (pgDmCh n) true
    | 7 => b.setSpared pgBt true
    | _ => b)
/-- HK.FW follows the slot state of the record store. -/
def Block.showFw (b : Block) : Block :=
  let f := b.hk.next.fw
  let bit := fun (v : Bool) => if v then 1 else 0
  (((b.wrF (pgHk + 0x140) 1 1 (bit f.active)).wrF (pgHk + 0x140) 2 2 (bit f.pendValid)).wrF (pgHk + 0x140) 3 3 (bit f.pending)).wrF
    (pgHk + 0x140) 4 5 f.tries
/-- SVN of the image in a slot. -/
def Block.svnOf (b : Block) (one : Bool) : Nat := if one then b.hk.slotSvn.2 else b.hk.slotSvn.1
/-- The slot that boot enters, with the slot state after the choice (R715); none where both fail. -/
def Block.bootSlot (b : Block) (ok0 ok1 : Bool) : Option Bool × FwSlots × Bool :=
  let f := b.hk.next.fw
  let ok := fun (one : Bool) => (if one then ok1 else ok0) && decide (b.hk.fused ≤ b.svnOf one)
  if f.pendValid && decide (f.tries < 3) && ok f.pending then (some f.pending, { f with tries := f.tries + 1 }, false)
  else
    let g := if f.pendValid then { f with pendValid := false, tries := 0 } else f
    (if ok f.active then some f.active else none, g, f.pendValid)
/-- Step 9: control passes to the firmware of a slot. -/
def Block.bootEnter (b : Block) (one : Bool) (bar2 : Nat) (route : W32) : Block :=
  let b := (b.wrF (pgHk + 0x140) 0 0 (if one then 1 else 0)).wrF (pgHk + 0x148) 8 15 (b.svnOf one)
  let b := (b.wrF (pgChip + 0x140) 0 1 bar2).wr (pgChip + 0x024) (route &&& 0x7FFFFFF)
  let b := b.wr (pgChip + 0x084) (b.rd (pgChip + 0x084) ||| 0x80000001)
  let b := (b.onHk (fun h => { h with booted := true, pllOff := [] })).runPages coreClasses
  let b := b.each (List.range 4) (fun b k =>
    let (v, b) := b.free
    b.setCore (96 + k) { (b.core (96 + k)).renew (96 + k) with stopped := false, pc := v, resetAt := b.usec })
  let (v, b) := b.free
  let b := b.setCore 100 { (b.core 100).renew 100 with pc := v, resetAt := (b.core 100).resetAt }
  let b := b.bootSpares
  b.each ((List.range 8).filter (fun k => b.variant.hasBooth k && !(b.inp (2 + k)).level)) (fun b k => b.presAssert k)
/-- The diode lets a boot go on after a trip or an unclean stop (R699). -/
def Block.bootCool (b : Block) : Bool := !(b.bootCause == 3 || b.bootCause == 4) || decide (b.tempNow < b.thresh 24)
/-- BOOT: steps 3 to 9 of R712; it waits for the diode and for PWRFAIL# to be deasserted. -/
def Block.boot (b : Block) (ok0 ok1 : Bool) (bar2 : Nat) (route : W32) : Block :=
  if b.hk.booted || b.dark || !b.bootCool || !(b.inp 1).level then b
  else
    let b := b.bootRead
    let (slot, f, fell) := b.bootSlot ok0 ok1
    let tried := b.hk.next.fw
    let b := (b.onHk (fun h => { h with next := { h.next with fw := f } })).showFw
    let b := (b.wrF (pgHk + 0x148) 0 7 b.hk.fused).recUpdate id
    let b := b.onIf fell (fun b => (b.onIf (decide (tried.tries < 3)) (fun b => b.hkRecord 0x0215 .corrected 0)).raise pgHk 9)
    match slot with
    | some one => b.bootEnter one bar2 route
    | none => b.hkRecord 0x0215 .corrected 0

/-! ### Firmware slots (R716) -/

/-- A change of the firmware slot state, with its image. -/
def Block.setFw (b : Block) (f : FwSlots) : Block := (b.recUpdate (fun i => { i with fw := f })).showFw
/-- HK.FW_CMD: 1 SET_PENDING, 2 CONFIRM, 3 CLEAR_PENDING. -/
def Block.fwCmd (b : Block) (op : Nat) (slot : Bool) : Block :=
  let f := b.hk.next.fw
  match op with
  | 1 => b.setFw { f with pending := slot, pendValid := true, tries := 0 }
  | 2 =>
    let run := b.rdF (pgHk + 0x140) 0 0 == 1
    let n := max b.hk.fused (b.rdF (pgHk + 0x148) 8 15)
    let b := (b.onHk (fun h => { h with fused := n })).wrF (pgHk + 0x148) 0 7 n
    b.setFw { f with active := run, pendValid := false, tries := 0 }
  | 3 => b.setFw { f with pendValid := false, tries := 0 }
  | _ => b

/-! ### Firmware activation without reset (R137-R140) -/

/-- The activation ends: fetching resumes, the commit completes, and the MCTP requests held are answered (R138, R139, R176). -/
def Block.actEnds (b : Block) (qc cid : Nat) (st : Stat) : Block :=
  let b := ((b.setFetchStop 0).onCe (fun e => { e with activation := none })).answerHeld
  (b.admDone qc (BitVec.ofNat 16 cid) 0 st).release
/-- Nothing is in flight: the new image runs (R138); it becomes ACTIVE on CONFIRM only (R716). More than 150 ms after FETCH_STOP was set the
activation is abandoned (R139). -/
def Block.actDone (b : Block) : Block :=
  match b.ce.activation with
  | none => b
  | some (qc, cid, at_, one) =>
    if b.inflight ≠ 0 then b
    else if at_ + 150000 < b.usec then b.actEnds qc cid (statU 1 0x12)
    else
      let b := (b.wrF (pgHk + 0x140) 0 0 (if one then 1 else 0)).wrF (pgHk + 0x148) 8 15 (b.svnOf one)
      b.actEnds qc cid stOk

end Sys2Proof.Machine
end

