-- ==== Sys2Proof/Machine/Fault.lean ====
section
/-! DEFINITION. Faults and spares (chapter 14): recovery from UNIT_FATAL, failover of cores, self-test rotation, aging, and the ends
of the power-loss sequence. -/
namespace Sys2Proof.Machine

/-! ### UNIT_FATAL (R652-R655, R667, R668) -/

/-- The spared kind of an instance page, with its logical number. -/
def kindOf (c : PageClass) (i : Nat) : Option SpKind :=
  match c with
  | .czC => some .laneC
  | .czD => some .laneD
  | .dmCh => some (if isUtil i then .chanU else .chanB)
  | _ => none
/-- A UNIT_FATAL record counts as a strike of its page (R667). -/
def Block.addStrike (b : Block) (pg : Nat) : Block :=
  b.onHk (fun h => { h with strikes := smPut h.strikes (pg / 0x1000) (b.usec :: (smGet [] h.strikes (pg / 0x1000)).take 7) })
/-- What becomes of the work in an instance that records UNIT_FATAL (R653), with step 1 of R652. -/
def Block.fatalWork (b : Block) (c : PageClass) (i : Nat) : Block :=
  match c with
  | .czC => b.stopJob false i 0x30
  | .czD => b.stopJob true i 0x30
  | .dmCh =>
    let b := b.abortJobs (fun j => decide (j.who = .dma i)) true
    (b.modChan i (fun c => { c with jobs := [], ended := [] })).chHalt i 0x18 0 0 (b.chan i).pc
  | .fcCh => b.reissue (b.fc.ops.filter (fun o => chOf o.die == i && o.out))
  | _ => b.resetLogic c i 1
/-- The consequences of an instance that has gone offline (R655, R657, R659). -/
def Block.offlineWork (b : Block) (c : PageClass) (i : Nat) : Block :=
  match c with
  | .ceCtl | .ft | .msCh | .msStg => b.fatalError pgHk { code := 0x0205, sev := .deviceFatal }
  | .fcCh => (b.each (List.range 16) (fun b k => b.dieStops (16 * i + k))).chDies i
  | .seBank => b.migrate i
  | .czC => b.modLane false i (fun l => { l with dead := true })
  | .czD => b.modLane true i (fun l => { l with dead := true })
  | _ => b
/-- The blocks whose faults R658 leaves uncovered and that have pages of their own: any fault of theirs ends under R655. -/
def uncovered (c : PageClass) : Bool :=
  match c with
  | .ceCtl | .ft | .msCh | .msStg => true
  | _ => false
/-- What follows where firmware has recovery to itself: no self-test has judged a channel's dies (R652). -/
def Block.heldOff (b : Block) (c : PageClass) (i : Nat) : Block :=
  match c with
  | .fcCh => b
  | _ => b.offlineWork c i
/-- An instance enters 0b011 (R654). -/
def Block.goOffline (b : Block) (c : PageClass) (i : Nat) : Block :=
  let pg := pageBase c i
  let phys := (kindOf c i).elim 0 (fun k => b.physOf k i)
  ((((b.setPageReset pg 3).spareRec 0x0204 .unitFatal pg phys).raise pgHk 20)).offlineWork c i
/-- Steps 2 to 4 of R652, with the strikes of R667. -/
def Block.recover (b : Block) (c : PageClass) (i : Nat) (testOk spareOk : Bool) : Block :=
  let pg := pageBase c i
  let struck := decide (3 ≤ b.strikes pg)
  match kindOf c i with
  | none => if testOk then b.setPageReset pg 0 else b.goOffline c i
  | some k =>
    if testOk && !struck then b.setPageReset pg 0
    else if b.spareReady k i then
      let old := b.physOf k i
      let b := b.spareIn k i pg
      if !spareOk then b.goOffline c i
      else
        let (ok, b) := b.freeTest
        (b.testReplaced k i old pg ok).setPageReset pg 0
    else if testOk then b.setPageReset pg 0 else b.goOffline c i
/-- UNIT_FATAL: an instance records a fatal error with a code and recovers, or goes offline; `again` says that it recorded a second
one while it recovered, the others how its self-test and its spare's end. -/
def Block.unitFatal (b : Block) (pg code : Nat) (again testOk spareOk : Bool) : Block :=
  match presentPageAt b.variant pg with
  | none => b
  | some (c, i) =>
    if b.pageReset pg ≠ 0 then b
    else
      let own := match c with
        | .czC => ((b.lane false i).job).isSome
        | .czD => ((b.lane true i).job).isSome
        | .dmCh => true
        | _ => false
      let b := if own then b else b.record pg { code := code, sev := .unitFatal }
      let b := ((b.addStrike pg).fatalWork c i).wrF (pg + 0x00C) 8 11 1
      let b := b.onIf again (fun b => (b.record pg { code := code, sev := .unitFatal }).addStrike pg)
      if c.unit ≤ 5 then b.fatalError pgHk { code := 0x0205, sev := .deviceFatal }
      else if b.rdF (pgHk + 0x400) 0 0 = 0 then ((b.setPageReset pg 3).raise pgHk 20).heldOff c i
      else if again || uncovered c then b.goOffline c i
      else b.recover c i testOk spareOk
/-- DEVICE_FATAL: a page records a device-fatal error (R656). -/
def Block.deviceFatalAt (b : Block) (pg code : Nat) : Block :=
  match presentPageAt b.variant pg with
  | none => b
  | some _ => b.fatalError pg { code := code, sev := .deviceFatal }

/-! ### Lanes, channels, banks and routes -/

/-- LANE_FAULT (R380, R381): the job ends, and a spare takes the lane's number or the lane leaves service. -/
def Block.laneFault (b : Block) (decomp : Bool) (n : Nat) (spareOk : Bool) : Block :=
  if n ≥ b.lanesOf decomp ∨ (b.lane decomp n).dead then b
  else
    let pg := pgLane decomp n
    let k := laneKind decomp
    let b := if ((b.lane decomp n).job).isSome then b.stopJob decomp n 0x30 else b.record pg { code := 0x0130, sev := .unitFatal }
    let b := (b.addStrike pg).raise pg 0
    let c : PageClass := if decomp then .czD else .czC
    if b.spareReady k n then
      let old := b.physOf k n
      let b := b.spareIn k n pg
      if !spareOk then b.goOffline c n
      else
        let (ok, b) := b.freeTest
        (b.testReplaced k n old pg ok).raise pgCz 5
    else b.goOffline c n
/-- BANK_FAULT (R506, R657, R659): the bank reloads from its shadow, or goes offline. -/
def Block.bankFault (b : Block) (k : Nat) (permanent : Bool) : Block :=
  if !b.has .seBank k ∨ !b.bankServes k then b
  else b.unitFatal (pgSeB k) 0x0106 false (!permanent) false
/-- ROUTE_SUBST (R657, R670): a spare route replaces one that failed its link check. -/
def Block.routeSubst (b : Block) (r : Nat) : Block :=
  let left := b.rdF (pgBt + 0x124) 4 7
  if left = 0 then b
  else
    let b := (b.addSat (pgBt + 0x124) 0 3 1).wrF (pgBt + 0x124) 4 7 (left - 1)
    let b := (((b.raise pgBt 4).setSpared pgBt true).noteSubst .route r false).spareRec 0x0202 .corrected pgBt (8 - left)
    let b := b.raise pgHk 17
    b.onIf (left == 1) (fun b => b.raise pgHk 18)

/-! ### Control cores (R660-R665) and the S core -/

/-- HK.KSTATE.STANDBY. -/
def Block.standby (b : Block) : Nat := b.rdF (pgHk + 0x40C) 5 7
/-- Set HK.KSTATE.STANDBY, with HK.SPARES.K_FREE. -/
def Block.setStandby (b : Block) (p : Nat) : Block := (b.wrF (pgHk + 0x40C) 5 7 p).wrF (pgHk + 0x430) 12 12 (if p = 7 then 0 else 1)
/-- The physical core that serves a logical control core. -/
def Block.kphys (b : Block) (l : Nat) : Nat := smGet l b.hk.kphys l
/-- HK.KSTATE.ACTIVE bit of a physical core. -/
def Block.setActive (b : Block) (p : Nat) (on : Bool) : Block := b.wrF (pgHk + 0x40C) p p (if on then 1 else 0)
/-- Step 1 of R662: the failed core is halted. -/
def Block.failStart (b : Block) (l : Nat) : Block :=
  let p := b.kphys l
  let b := b.modCore (96 + l) (fun c => { c with stopped := true })
  (b.setActive p false).onHk (fun h => { h with failover := some (l, p, b.usec) })
/-- HEARTBEAT_MISS: an active control core has missed its deadline, or has stopped. -/
def Block.heartbeatMiss (b : Block) (l : Nat) : Block :=
  if !b.hk.booted ∨ b.hk.failover.isSome ∨ (b.core (96 + l)).halted.isSome ∨ b.rdF (pgHk + 0x40C) (b.kphys l) (b.kphys l) = 0 then b
  else
    let b := if (b.core (96 + l)).stopped then b else b.elapseTo (smGet 0 b.hk.khb l + b.rdF (pgHk + 0x404) 0 9 + 1)
    b.failStart l
/-- K_FAILOVER: steps 3 to 5 of R662; the firmware's failover entry is a free value. Without a standby the lines move (R665). -/
def Block.kFailover (b : Block) : Block :=
  match b.hk.failover with
  | none => b
  | some (l, p, _) =>
    let s := b.standby
    let b := (b.onHk (fun h => { h with failover := none, kTest := some p })).answerHeld
    if s = 7 then b
    else
      let b := ((b.setStandby 7).setActive s true).onHk (fun h => { h with kphys := smSet l h.kphys l s, khb := smPut h.khb l b.usec })
      let (v, b) := b.free
      let b := (b.setCore (96 + l) { (b.core (96 + l)).renew (96 + l) with stopped := false, pc := v, st := 5, resetAt := b.usec }).setSpared (pgKc l) true
      (((b.addSat (pgHk + 0x40C) 8 15 1).noteSubst .coreK l false).spareRec 0x0201 .corrected (pgKc l) s).raise pgHk 16
/-- FAILOVER_SELF_TEST (R665). -/
def Block.failoverTest (b : Block) (ok : Bool) : Block :=
  match b.hk.kTest with
  | none => b
  | some p =>
    let b := b.onHk (fun h => { h with kTest := none })
    if ok then b.setStandby p
    else (((b.noteSubst .coreK p true).spareRec 0x0203 .corrected (pgKc 0) p).setStandby 7).raise pgHk 18
/-- KHB: a control core's heartbeat. -/
def Block.heartbeat (b : Block) (l : Nat) : Block := b.onHk (fun h => { h with khb := smPut h.khb l b.usec })
/-- S_CORE_FAILOVER: the spare S core takes over; where its firmware goes on is a free value. The S core has no page of its own: the HK page
shows SPARED for it (DESIGN CHOICE, log entry 59). -/
def Block.sFailover (b : Block) : Block :=
  match b.spares .coreS 0 with
  | [] => b.modCore 100 (fun c => { c with stopped := true })
  | _ =>
    let old := b.physOf .coreS 0
    let (v, b) := (b.spareIn .coreS 0 pgHk).free
    let b := b.setCore 100 { (b.core 100).renew 100 with pc := v, resetAt := b.usec }
    let (ok, b) := b.freeTest
    b.testReplaced .coreS 0 old pgHk ok
/-- CORE_CHECK (R669): a core fails its self-check, or has stopped on a double trap; `testOk` is how the failed core's test ends. With
no spare a core that passes goes on, and one that fails stays stopped (DEDUCED from R652 and R654, log entry 59). -/
def Block.coreCheck (b : Block) (i : Nat) (testOk : Bool) : Block :=
  if !b.hasCore i then b
  else
    let double := (b.core i).stopped
    let b := if double then b else b.coreRec i 0x185 .unitFatal 0
    let b := b.onIf (decide (coreKind i = .c)) (fun b => b.addStrike (strikeKey i))
    match coreKind i with
    | .s => b.sFailover
    | .k => if b.hk.failover.isSome then b else b.failStart (i - 96)
    | .c =>
      if !b.clUp (i / 8) then b
      else if double && testOk && decide (b.strikes (strikeKey i) < 3) then b.coreLost i
      else if b.spareReady .coreC i then
        let old := b.physOf .coreC i
        let b := (b.coreLost i).spareIn .coreC i (pgCl (i / 8))
        b.testReplaced .coreC i old (pgCl (i / 8)) testOk
      else (b.coreLost i).onIf (!testOk) (fun b => b.modCore i (fun c => { c with stopped := true }))

/-! ### Self-test and aging (R670-R673) -/

/-- The kinds of the rotation: 0 Eowift-C cores, 1 and 2 compressor and decompressor lanes, 3 and 4 utility and bulk channels, 5 the
standby control core, 6 the spare S core, 7 the spare routes. The first number and one past the last of a kind. -/
def Block.rotRange (b : Block) (kind : Nat) : Nat × Nat :=
  match kind with
  | 0 => (0, 8 * b.variant.clusters) | 1 => (0, b.lanesOf false) | 2 => (0, b.lanesOf true) | 3 => (0, 48) | 4 => (48, 64)
  | _ => (0, 1)
/-- The spared kind of a rotation, with the page of a number. -/
def rotKind (kind n : Nat) : Option (SpKind × Nat) :=
  match kind with
  | 0 => some (.coreC, pgCl (n / 8)) | 1 => some (.laneC, pgLane false n) | 2 => some (.laneD, pgLane true n)
  | 3 => some (.chanU, pgDmCh n) | 4 => some (.chanB, pgDmCh n) | _ => none
/-- An instance holds no work. -/
def Block.rotIdle (b : Block) (kind n : Nat) : Bool :=
  match kind with
  | 0 => (b.core n).onCtx.isNone && (b.core n).halted.isNone
  | 1 => ((b.lane false n).job).isNone
  | 2 => ((b.lane true n).job).isNone
  | 3 | 4 => let st := (b.chan n).st; st == 0 || st == 2 || st == 5
  | _ => true
/-- The next number of a rotation. -/
def Block.rotNext (b : Block) (kind : Nat) : Nat := smGet (b.rotRange kind).1 b.hk.rotNext kind
/-- Every instance of every kind has been tested in this lap. -/
def Block.lapDone (b : Block) : Bool :=
  (List.range 8).all (fun k =>
    let r := b.rotRange k
    (List.range (r.2 - r.1)).all (fun i => b.hk.tested.contains (k, r.1 + i)))
/-- An instance has been tested; a complete lap shows its time. -/
def Block.rotTested (b : Block) (kind n : Nat) : Block :=
  let r := b.rotRange kind
  let b := b.onHk (fun h => { h with
    tested := (kind, n) :: h.tested
    rotNext := smPut h.rotNext kind (if n + 1 < r.2 then n + 1 else r.1)
    rotAt := smPut h.rotAt kind b.usec })
  if b.lapDone then
    (b.wrSat (pgHk + 0x424) 0 31 ((b.usec - b.hk.bist) / 1000000)).onHk (fun h => { h with tested := [], bist := b.usec })
  else b
/-- A self-test fails: BIST_FAIL (R676). -/
def Block.bistFail (b : Block) : Block := b.raise pgHk 19
/-- BIST_ROTATION: the spare swaps with the next instance of a kind, which is tested; the spares of cores and routes are tested in
place. -/
def Block.rotate (b : Block) (kind n : Nat) (ok : Bool) : Block :=
  if b.rdF (pgHk + 0x420) 16 16 = 0 ∨ n ≠ b.rotNext kind ∨ !b.rotIdle kind n then b
  else
    let due := smGet 0 b.hk.rotAt kind + b.rdF (pgHk + 0x420) 0 15 * 3600000000
    match rotKind kind n with
    | some (k, pg) =>
      match b.spares k n with
      | [] => b
      | p :: rest =>
        let b := b.elapseTo due
        let old := b.physOf k n
        let b := (((b.setPhys k n p).setSpares k n rest).setSpared pg true).noteSubst k n false
        let b := if kind = 0 then (b.setCore n { (b.core n).renew n with resetAt := b.usec }).idleCore n else b
        let b := if ok then b.setSpares k n (b.spares k n ++ [old]) else ((b.testReplaced k n old pg false).bistFail).onIf rest.isEmpty (fun b => b.raise pgHk 18)
        b.rotTested kind n
    | none =>
      let b := b.elapseTo due
      let b := if ok then b
        else
          let b := b.bistFail
          match kind with
          | 5 => if b.standby = 7 then b
              else (((b.noteSubst .coreK b.standby true).spareRec 0x0203 .corrected (pgKc 0) b.standby).setStandby 7).raise pgHk 18
          | 6 => match b.spares .coreS 0 with
              | p :: rest => (((b.noteSubst .coreS p true).spareRec 0x0203 .corrected pgHk p).setSpares .coreS 0 rest).raise pgHk 18
              | [] => b
          | _ => b.wrF (pgBt + 0x124) 4 7 (b.rdF (pgBt + 0x124) 4 7 - 1)
      b.rotTested kind n
/-- A cluster's highest step is lowered by the voltage loop (R673). -/
def Block.lowerMax (b : Block) (n : Nat) : Block :=
  if !b.has .cxCluster n then b
  else
    let m := b.rdF (pgCl n + 0x104) 0 2
    let m := if m ≤ 1 then 1 else m - 1
    (b.wrF (pgCl n + 0x104) 0 2 m).onCx (fun x => { x with avsCap := smSet 4 x.avsCap n m })
/-- AGING_MEASURE: the monitors' slowdowns in 0.01 %, the clusters short of margin, and whether the regulator takes the request
(R672, R673, R720). -/
def Block.aging (b : Block) (slow : List Nat) (short : List Nat) (sent : Bool) : Block :=
  let b := b.elapse (3600000000 - b.usec % 3600000000)
  let b := b.onHk (fun h => { h with slow := (slow.take 16).zipIdx.foldl (fun m x => smSet 0 m x.2 x.1) h.slow })
  let worst := (b.hk.slow.map (·.2)).foldl max 0
  let old := b.rdF (pgHk + 0x448) 0 9
  let mv := max old (min 850 (750 + 5 * (worst / 50)))
  let b := (b.wrF (pgHk + 0x448) 0 9 mv).wrF (pgHk + 0x448) 10 10 (if mv = 850 then 1 else 0)
  let b := b.onIf (mv == 850 && !short.isEmpty) (fun b => (b.each short Block.lowerMax).raise pgHk 21)
  if mv = old ∨ b.rdF (pgHk + 0x160) 7 7 = 0 then b
  else if sent then (b.onHk (fun h => { h with sentMv := mv })).send (.pmbus mv)
  else b.raise pgHk 10

/-! ### The commands of chapter 14 and of the power-loss sequence -/

/-- POWER_LOSS_RESUME: PWRFAIL# has been deasserted for RESUME_MS with every supply in its window (R710). -/
def Block.plossResume (b : Block) : Block :=
  match b.plossSt, b.hk.okSince with
  | 2, some t => (b.elapseTo (t + b.rdF (pgHk + 0x158) 0 7 * 1000)).deviceReset 2
  | _, _ => b
/-- CLEAN_SHUTDOWN: the wear summary and an image with CLEAN set (R266). -/
def Block.cleanShutdown (b : Block) : Block :=
  (b.onHk (fun h => { h with wear := b.peRange, wearAt := b.usec })).recUpdate (fun i => { i with clean := true })

/-- UNIT_FATAL (R652-R655). -/
def execUnitFatal (page : BitVec 13) (code : BitVec 16) (again testOk spareOk : Bool) (s : State) : Host.Outcome State Fault Refusal :=
  s.runAon (fun b => b.unitFatal (page.toNat * 0x1000) code.toNat again testOk spareOk)
/-- DEVICE_FATAL (R656). -/
def execDeviceFatal (page : BitVec 13) (code : BitVec 16) (s : State) : Host.Outcome State Fault Refusal :=
  s.runAon (fun b => b.deviceFatalAt (page.toNat * 0x1000) code.toNat)
/-- HEARTBEAT_MISS (R660, R662). -/
def execHeartbeatMiss (core : BitVec 2) (s : State) : Host.Outcome State Fault Refusal := s.run (fun b => b.heartbeatMiss core.toNat)
/-- K_FAILOVER (R662). -/
def execKFailover (s : State) : Host.Outcome State Fault Refusal := s.run (fun b => b.kFailover)
/-- FAILOVER_SELF_TEST (R665). -/
def execFailoverSelfTest (ok : Bool) (s : State) : Host.Outcome State Fault Refusal := s.run (fun b => b.failoverTest ok)
/-- S_CORE_FAILOVER (R657, R668). -/
def execSCoreFailover (s : State) : Host.Outcome State Fault Refusal := s.runAon (fun b => b.sFailover)
/-- BIST_ROTATION (R671). -/
def execBistRotation (kind : BitVec 3) (n : BitVec 7) (ok : Bool) (s : State) : Host.Outcome State Fault Refusal :=
  s.run (fun b => b.rotate kind.toNat n.toNat ok)
/-- AGING_MEASURE (R672, R673). -/
def execAgingMeasure (slow : List (BitVec 16)) (short : List (BitVec 4)) (sent : Bool) (s : State) : Host.Outcome State Fault Refusal :=
  s.runAon (fun b => b.aging (slow.map (·.toNat)) (short.map (·.toNat)) sent)
/-- LANE_FAULT (R380). -/
def execLaneFault (decomp : Bool) (n : BitVec 6) (spareOk : Bool) (s : State) : Host.Outcome State Fault Refusal :=
  s.run (fun b => b.laneFault decomp n.toNat spareOk)
/-- BANK_FAULT (R506, R659). -/
def execBankFault (bank : BitVec 3) (permanent : Bool) (s : State) : Host.Outcome State Fault Refusal :=
  s.run (fun b => b.bankFault bank.toNat permanent)
/-- CHANNEL_FAULT (R468). -/
def execChannelFault (ch : BitVec 6) (s : State) : Host.Outcome State Fault Refusal := s.run (fun b => (b.addStrike (pgDmCh ch.toNat)).chFault ch.toNat)
/-- ROUTE_SUBST (R657). -/
def execRouteSubst (route : BitVec 8) (s : State) : Host.Outcome State Fault Refusal := s.run (fun b => b.routeSubst route.toNat)
/-- CORE_CHECK (R669). -/
def execCoreCheck (core : BitVec 7) (testOk : Bool) (s : State) : Host.Outcome State Fault Refusal :=
  s.runAon (fun b => if core.toNat = 100 ∨ !b.dark then b.coreCheck core.toNat testOk else b)
/-- PWRFAIL (R708, R709). -/
def execPwrfail (s : State) : Host.Outcome State Fault Refusal := s.runAon (fun b => b.pwrfail)
/-- POWER_LOSS_DONE (R709). -/
def execPowerLossDone (s : State) : Host.Outcome State Fault Refusal := s.runAon (fun b => b.plossEnd)
/-- POWER_LOSS_RESUME (R710). -/
def execPowerLossResume (s : State) : Host.Outcome State Fault Refusal := s.runAon (fun b => b.plossResume)
/-- POWER_ON (R712, R717). -/
def execPowerOn (jtagEn : Bool) (s : State) : Host.Outcome State Fault Refusal := .next { s with blk := s.blk.aonRise jtagEn }
/-- VDD_AON_FALL (R717). -/
def execVddAonFall (s : State) : Host.Outcome State Fault Refusal := s.runAon (fun b => b.aonFall)
/-- BOOT (R712, R715). -/
def execBoot (ok0 ok1 : Bool) (bar2 : BitVec 2) (route : W32) (s : State) : Host.Outcome State Fault Refusal :=
  s.runAon (fun b => b.boot ok0 ok1 bar2.toNat route)
/-- CLEAN_SHUTDOWN (R266). -/
def execCleanShutdown (s : State) : Host.Outcome State Fault Refusal := s.run (fun b => b.cleanShutdown)

/-! ### The commands of chapter 15 -/

/-- A ticket of a holder that has no row of its own. -/
def reqTicket (booth : Option (BitVec 3)) (id : BitVec 16) (mw : BitVec 20) (cls : BitVec 2) (refusable rcl : Bool) (born : Nat) : Ticket :=
  ⟨booth.elim Pool.chip (fun k => .booth k.toNat), .other id.toNat, mw.toNat, cls.toNat, born, refusable, rcl && booth.isSome, false, false⟩
/-- TICKET_REQUEST (R683-R685). -/
def execTicketRequest (booth : Option (BitVec 3)) (id : BitVec 16) (mw : BitVec 20) (cls : BitVec 2) (refusable rcl : Bool) (s : State) :
    Host.Outcome State Fault Refusal :=
  s.run (fun b => (b.ticket (reqTicket booth id mw cls refusable rcl b.usec)).2)
/-- TICKET_RETURN (R683). -/
def execTicketReturn (id : BitVec 16) (s : State) : Host.Outcome State Fault Refusal := s.run (fun b => b.untick (.other id.toNat))
/-- REDIVISION (R684). -/
def execRedivision (s : State) : Host.Outcome State Fault Refusal := s.run (fun b => b.redivision)
/-- TICKET_REFUSED (R685). -/
def execTicketRefused (k : BitVec 16) (s : State) : Host.Outcome State Fault Refusal := s.run (fun b => b.refuseTicket k.toNat)
/-- RECALL (R687). -/
def execRecall (s : State) : Host.Outcome State Fault Refusal := s.run (fun b => b.recall)
/-- WRATE_CAP_UPDATE (R688). -/
def execWrateCapUpdate (s : State) : Host.Outcome State Fault Refusal := s.run (fun b => b.wrateCap)
/-- CR_UPDATE (R785). -/
def execCrUpdate (s : State) : Host.Outcome State Fault Refusal := s.run (fun b => b.crUpdate)
/-- RCL_STARVED (R724). -/
def execRclStarved (booth : BitVec 3) (s : State) : Host.Outcome State Fault Refusal := s.run (fun b => b.rclStarved booth.toNat)
/-- NON_OPERATIONAL_WAKE (R691). -/
def execNonOperationalWake (s : State) : Host.Outcome State Fault Refusal := s.run (fun b => b.psWake)
/-- PLL_STOP (R681). -/
def execPllStop (p : BitVec 5) (s : State) : Host.Outcome State Fault Refusal := s.run (fun b => b.pllStop p.toNat)
/-- UNIT_WAKE (R680). -/
def execUnitWake (page : BitVec 13) (s : State) : Host.Outcome State Fault Refusal := s.run (fun b => b.unitWake (page.toNat * 0x1000))
/-- HOUSEKEEPING_ROUND (R692-R696). -/
def execHousekeepingRound (temp : BitVec 16) (chans : List (BitVec 16)) (s : State) : Host.Outcome State Fault Refusal :=
  s.runAon (fun b => b.hkRound temp.toInt (chans.map (·.toNat)))
/-- ROR_HOLD_END (R694). -/
def execRorHoldEnd (s : State) : Host.Outcome State Fault Refusal := s.runAon (fun b => b.holdEnd)
/-- INPUT_EDGE (R700, R702). -/
def execInputEdge (i : BitVec 4) (level : Bool) (s : State) : Host.Outcome State Fault Refusal := s.runAon (fun b => b.inputEdge i.toNat level)
/-- INPUT_STUCK (R701). -/
def execInputStuck (i : BitVec 4) (s : State) : Host.Outcome State Fault Refusal := s.runAon (fun b => b.inputStuck i.toNat)
/-- RECORD_STORE_UPDATE (R706). -/
def execRecordStoreUpdate (s : State) : Host.Outcome State Fault Refusal := s.runAon (fun b => b.recStart)
/-- RECORD_STORE_READBACK (R706). -/
def execRecordStoreReadback (ok : Bool) (s : State) : Host.Outcome State Fault Refusal := s.runAon (fun b => b.recReadback ok)

end Sys2Proof.Machine
end

