-- ==== Sys2Proof/Machine/RegView.lean ====
section
/-! DEFINITION. What a read of a register returns: stored fields, values computed from the state, windows behind selector registers
and latched upper halves (R46, R52, R54, R55, R61, R80, R85). -/
namespace Sys2Proof.Machine

/-- A number as a 32-bit register. -/
def w32 (n : Nat) : W32 := BitVec.ofNat 32 n
/-- The half of a 64-bit number: 0 low, 1 high. -/
def half (n k : Nat) : W32 := BitVec.ofNat 32 (n / 2 ^ (32 * k))

/-! ### The header -/

/-- The 64 bytes of an error record (R67), byte k in bits [8k+7:8k]. -/
def ErrRec.bits (r : ErrRec) : BitVec 512 :=
  BitVec.ofNat 512 (r.time.toNat
    + (r.unit.toNat + r.inst.toNat * 2 ^ 8 + r.tenant.toNat * 2 ^ 20 + r.sev.code * 2 ^ 26 + bit r.nested * 2 ^ 29
        + bit r.addr.isSome * 2 ^ 30) * 2 ^ 64
    + (r.code.toNat + r.port.toNat * 2 ^ 16) * 2 ^ 96
    + (r.addr.getD 0).toNat * 2 ^ 128 + r.seq.toNat * 2 ^ 192 + r.detail.toNat * 2 ^ 256)
/-- A header register that is not a stored word. -/
def Block.viewHeader (b : Block) (pg o : Nat) : Option W32 :=
  let q := b.errQ pg
  if o = 0x018 then some (b.rd (pg + 0x010) &&& b.rd (pg + 0x014))
  else if o = 0x020 then some (b.rd (pg + 0x010))
  else if o = 0x030 then some (w32 q.recs.length)
  else if o = 0x034 then some (w32 (q.lost + q.maxSev * 2 ^ 16))
  else if 0x040 ≤ o ∧ o < 0x080 then some ((q.recs.head?).elim 0 (fun r => ((r.bits >>> (8 * (o - 0x040))).setWidth 32)))
  else none

/-! ### The units -/

/-- ERR_SUMMARY.UNITS: units with a record held or lost. -/
def Block.errSummary (b : Block) : W32 :=
  w32 (((List.range 16).map (fun u =>
    if b.errs.any (fun e => unitOf (e.1 * 0x1000) == u && (!e.2.recs.isEmpty || decide (e.2.lost > 0))) then 2 ^ u else 0)).sum)
/-- A CHIP register. -/
def Block.viewChip (b : Block) (o : Nat) : Option W32 :=
  match o with
  | 0x104 => some (half b.fuses.uid.toNat 0)
  | 0x108 => some (half b.fuses.uid.toNat 1)
  | 0x120 => some (half b.usec 0)
  | 0x124 => some (half b.usec 1)
  | 0x144 => some b.errSummary
  | _ => none
/-- An HK register. -/
def Block.viewHk (b : Block) (o : Nat) : Option W32 :=
  let i := b.rdF (pgHk + 0x120) 0 3
  let x := b.inp i
  let ch := b.rdF (pgHk + 0x110) 0 4
  match o with
  | 0x114 => some (w32 (smGet 0 b.hk.chans ch % 65536 + bit (b.chanOut ch) * 65536))
  | 0x124 => some (b.inCfg i)
  | 0x128 => some (w32 (bit x.level + bit x.stuck * 2 + bit x.masked * 4))
  | 0x444 => some (w32 (min (smGet 0 b.hk.slow (b.rdF (pgHk + 0x440) 0 3)) 65535))
  | _ => none
/-- A PA control register. -/
def Block.viewPa (b : Block) (o : Nat) : Option W32 :=
  match o with
  | 0x10C => some (w32 (b.bChip + b.limiter * 2 ^ 20))
  | 0x110 => some (w32 (min (b.poolUsed .chip) 0xFFFFF))
  | _ => none
/-- A PA booth register. -/
def Block.viewPaBooth (b : Block) (k o : Nat) : Option W32 :=
  match o with
  | 0x104 => some (w32 (min (b.poolUsed (.booth k)) 0xFFFFF))
  | 0x108 => some (w32 (min ((b.pa.waiting.filter (fun t => t.pool = .booth k)).length) 65535 + min (b.rclWaiting k) 65535 * 65536))
  | _ => none
/-- A host or fabric port register. -/
def Block.viewPort (b : Block) (c : PageClass) (i o : Nat) : Option W32 :=
  match c, o with
  | .hp, 0x114 => if i = 0 then
      some (w32 (min b.poolKib 0x1FFFF + min ((b.ft.pieces.filter (fun p => p.resv.isNone)).length) 32767 * 2 ^ 17)) else none
  | .fpCtl, 0x10C => some (w32 ((b.fp.sess.filter (fun e => decide (e.2.phase = .ready))).length))
  | _, _ => none
/-- A CE control register. -/
def Block.viewCe (b : Block) (o : Nat) : Option W32 :=
  if o = 0x104 then some (w32 (bit b.stopped + bit b.ce.stalled * 2))
  else if o = 0x108 then some (w32 b.inflight)
  else if o = 0x10C then some (half b.ce.seq 0)
  else if o = 0x110 then some (half b.ce.seq 1)
  else if o = 0x114 then some (w32 b.coll)
  else if o = 0x118 then some (w32 b.ce.collPeak)
  else if o = 0x184 then some (b.nsWord (b.rdF (pgCe + 0x180) 0 9))
  else if 0x200 ≤ o ∧ o < 0x240 then
    let n := (o - 0x200) / 4
    some (w32 (min (b.laneQcs n) 65535 + b.laneRate n * 65536))
  else none
/-- A CE tenant register. -/
def Block.viewCeT (b : Block) (t o : Nat) : Option W32 :=
  match o with
  | 0x10C => some (w32 (b.qcHeld t + bit (b.resetting t) * 2 ^ 15))
  | 0x110 => some (w32 (b.tenInflight t))
  | _ => none
/-- FT.PROGRESS: SPROG is 65535 when no sanitize runs (R273). -/
def Block.ftProgress (b : Block) : W32 :=
  let s := match b.ft.san with
    | some x => min 65535 (x.cursor * 65536 / max x.total 1) + (match x.act with | .blockErase => 1 | .crypto => 2 | .overwrite => 3) * 65536
    | none => 65535
  let f := match b.ft.fmt with
    | some x => x.nsx * 2 ^ 18 + 2 ^ 28
    | none => 0
  w32 (s + f)
/-- An FT register. -/
def Block.viewFt (b : Block) (o : Nat) : Option W32 :=
  match o with
  | 0x100 => some (w32 (b.rdF (pgFt + 0x100) 0 2 + b.rclass * 8))
  | 0x104 => some (w32 b.free_)
  | 0x10C => some (w32 b.retireLeft)
  | 0x120 => some (w32 b.slcUsed)
  | 0x154 => some (w32 b.peRange.1)
  | 0x158 => some (w32 b.peRange.2)
  | 0x160 => some (half b.spaceUser 0)
  | 0x164 => some (half b.spaceUser 1)
  | 0x168 => some (half b.spaceValid 0)
  | 0x16C => some (half b.spaceValid 1)
  | 0x170 => some (half b.spaceResv 0)
  | 0x174 => some (w32 b.inflightUnits)
  | 0x180 => some (w32 (b.rdF (pgFt + 0x180) 0 7 + min b.journalMib 65535 * 256))
  | 0x190 => some (w32 (min b.poisonCount (2 ^ 32 - 1)))
  | 0x1A0 => some b.ftProgress
  | _ => none
/-- A media channel register. -/
def Block.viewFc (b : Block) (c : PageClass) (i o : Nat) : Option W32 :=
  match c, o with
  | .fcCtl, 0x158 => some (w32 (b.rdF (pgFc + 0x158) 0 0 + bit (b.key (b.rdF (pgFc + 0x150) 0 9)).full * 2 + b.rdF (pgFc + 0x158) 2 2 * 4))
  | .fcCh, 0x100 =>
    some (setFld (b.rd (pgCh i + 0x100)) 0 0 (bit (b.fc.ops.any (fun x => chOf x.die == i && x.out))))
  | .fcBooth, 0x110 => some (half ((smFind b.fc.carts i).getD 0).toNat 0)
  | .fcBooth, 0x114 => some (half ((smFind b.fc.carts i).getD 0).toNat 1)
  | .fcBooth, 0x118 => some (half (b.boothValid i) 0)
  | .fcBooth, 0x11C => some (half (b.boothValid i) 1)
  | _, _ => none
/-- A lane's status register. -/
def Lane.word (l : Lane) : W32 :=
  match l.job with
  | none => 0
  | some j => w32 (1 + bit j.who.isFt * 2 + bit (jStream j.desc) * 4 + (if jStream j.desc then jSlot j.desc * 2 ^ 16 else 0))
/-- A compression register. -/
def Block.viewCz (b : Block) (c : PageClass) (i o : Nat) : Option W32 :=
  match c, o with
  | .czCtl, 0x124 =>
    let x := b.slot (b.rdF (pgCz + 0x120) 0 13)
    some (w32 (x.owner.toNat + x.state * 64))
  | .czCtl, 0x138 =>
    let loaded := (List.range 8).map (fun k => if (smFind b.cz.tables (k + 1)).isSome then 2 ^ k else 0)
    let bits := (smFind b.cz.tables (b.rdF (pgCz + 0x130) 0 3)).elim 0 hdrBits
    some (w32 (bit (!b.cz.oldImage.isEmpty) + b.rdF (pgCz + 0x138) 1 2 * 2 + loaded.sum * 8 + bits * 2 ^ 11))
  | .czCtl, 0x280 => some (w32 (b.awake false + b.awake true * 64))
  | .czCtl, 0x284 => some (w32 (min b.cz.jobs.length 65535))
  | .czC, 0x100 => some (b.lane false i).word
  | .czD, 0x100 => some (b.lane true i).word
  | _, _ => none
/-- The STATE encoding of a region entry. -/
def RegionSt.code : RegionSt → Nat
  | .off => 0 | .init => 1 | .on => 2
/-- The region entry behind MS.REGION_SEL. -/
def Block.selRegion (b : Block) : Nat := b.rdF (pgMs + 0x130) 0 4
/-- A memory system register. -/
def Block.viewMs (b : Block) (c : PageClass) (i o : Nat) : Option W32 :=
  let r := b.region b.selRegion
  match c, o with
  | .msCtl, 0x134 => some (w32 r.base)
  | .msCtl, 0x138 => some (w32 r.size)
  | .msCtl, 0x13C => some (w32 (bit r.light + r.owner.toNat * 2 + r.st.code * 128))
  | .msCh, 0x100 => some (setFld (b.rd (pgMsCh i + 0x100)) 2 9 (b.spprFree i))
  | _, _ => none
/-- A register of the DMA control page. -/
def Block.viewDm (b : Block) (o : Nat) : Option W32 :=
  if o = 0x114 then some (b.lineCfg (b.rdF (pgDm + 0x110) 0 7))
  else if 0x120 ≤ o ∧ o < 0x140 then
    some (w32 (((List.range 32).map (fun k => if b.lineUp ((o - 0x120) * 8 + k) then 2 ^ k else 0)).sum))
  else if o = 0x140 then some (w32 ((b.spares .chanU 0).length + (b.spares .chanB 0).length * 4))
  else none
/-- A register of a DMA channel. -/
def Block.viewDmCh (b : Block) (n o : Nat) : Option W32 :=
  let c := b.chan n
  match o with
  | 0x108 => some (half c.pc 0)
  | 0x10C => some (half c.pc 1)
  | 0x114 => some (w32 (c.st + bit c.waiting * 256 + (c.jobs.length + c.ended.length) * 512))
  | 0x118 => some (half c.src 0)
  | 0x11C => some (half c.src 1)
  | 0x120 => some (half c.dst 0)
  | 0x124 => some (half c.dst 1)
  | 0x128 => some (w32 c.remain)
  | 0x12C => some (w32 c.moved)
  | 0x130 => some c.lc.1
  | 0x134 => some c.lc.2
  | 0x138 => some (half c.crc.toNat 0)
  | 0x13C => some (half c.crc.toNat 1)
  | 0x140 => some (w32 (c.spin % 2 ^ 20))
  | _ => none
/-- The STATE encoding of a partition. -/
def PartSt.code : PartSt → Nat
  | .off => 0 | .clearing => 1 | .on => 2
/-- The partition behind BK_PART_SEL of a bank. -/
def Block.selPart (b : Block) (k : Nat) : Nat := b.rdF (pgSeB k + 0x100) 0 5
/-- A search bank register. -/
def Block.viewSeB (b : Block) (k o : Nat) : Option W32 :=
  let p := b.selPart k
  let x := b.sePart k p
  let valid := fun (f : SeEnt → Bool) => ((b.entsOf k).filter (fun e => e.2.valid && f e.2)).length
  match o with
  | 0x104 => some (w32 (x.owner.toNat + x.st.code * 64))
  | 0x108 => some (w32 (x.base + x.size * 2 ^ 16))
  | 0x10C => some (w32 (valid (fun e => e.part.toNat == p)))
  | 0x110 =>
    let dead := (b.se.dead.filter (fun d => d / 16384 == k)).length
    some (w32 (valid (fun _ => true) + bit (!b.se.awake.contains k) * 2 ^ 15 + b.rdF (pgSeB k + 0x110) 16 22 * 2 ^ 16 + min dead 127 * 2 ^ 23))
  | _ => none
/-- A compute service register. -/
def Block.viewCx (b : Block) (c : PageClass) (i o : Nat) : Option W32 :=
  match c, o with
  | .cxCtl, 0x108 => some (w32 b.cx.ctxs.length)
  | .cxTenant, 0x114 => some (w32 (b.ctxHeld i))
  | _, _ => none

/-- The value of a defined register of a present page, latches aside. -/
def Block.viewPage (b : Block) (c : PageClass) (i o : Nat) : Option W32 :=
  if o < 0x100 then b.viewHeader (pageBase c i) o
  else match c with
  | .chip => b.viewChip o
  | .hk => b.viewHk o
  | .paCtl => b.viewPa o
  | .paBooth => b.viewPaBooth i o
  | .dbg => if o = 0x100 then some (w32 (bit b.dbg.level + b.dbg.fails * 2)) else none
  | .hp | .fpCtl => b.viewPort c i o
  | .ceCtl => b.viewCe o
  | .ceTenant => b.viewCeT i o
  | .ft => b.viewFt o
  | .fcCtl | .fcCh | .fcBooth => b.viewFc c i o
  | .czCtl | .czC | .czD => b.viewCz c i o
  | .msCtl | .msCh => b.viewMs c i o
  | .dmCtl => b.viewDm o
  | .dmCh => b.viewDmCh i o
  | .seBank => b.viewSeB i o
  | .cxCtl | .cxTenant => b.viewCx c i o
  | .bt | .fpPort | .msStg | .seCtl | .cxCluster | .cxCore => none

/-- A WO or KEY register reads 0. -/
def Reg.readable (r : Reg) : Bool := !r.flds.all (fun f => f.ty == .wo || f.ty == .key)
/-- What a read of a word-aligned register-space offset finds: 0 on an absent page and at an undefined offset (R7, R80). -/
def Block.view (b : Block) (off : Nat) : W32 :=
  match presentPageAt b.variant off with
  | none => 0
  | some (c, i) =>
    match regAtPage b.variant c i (off % 0x1000) with
    | none => 0
    | some r =>
      match b.viewPage c i (off % 0x1000) with
      | some w => w
      | none => if r.readable then b.rd off else 0

/-! ### Reads -/

/-- The HI register that a read of an offset latches (R85, and the register sections). -/
def latchOf (c : PageClass) (o : Nat) : Bool :=
  match c with
  | .chip => o == 0x120
  | .ceCtl => o == 0x10C
  | .ft => o == 0x160 || o == 0x168
  | .fcBooth => o == 0x110 || o == 0x118
  | .czC | .czD => o == 0x110 || o == 0x118
  | .dmCh => o == 0x118 || o == 0x120 || o == 0x138
  | _ => false
/-- One register is read: a LO register latches its HI register, whose next read returns the latched half. -/
def Block.readReg (b : Block) (off : Nat) : W32 × Block :=
  let v := b.view off
  match presentPageAt b.variant off with
  | none => (v, b)
  | some (c, i) =>
    if latchOf c (off % 0x1000) then
      (v, { b with latches := smPut b.latches (pageBase c i + off % 0x1000 + 4) (b.view (off + 4)) })
    else match smFind b.latches off with
      | some x => (x, { b with latches := smErase b.latches off })
      | none => (v, b)
/-- A register access of a legal size and alignment (R46). -/
def regSized (off n : Nat) : Bool := (n == 4 || n == 8) && off % n == 0
/-- The page that records a bad access at an offset: the CHIP page where the page is absent (R82). -/
def Block.recPage (b : Block) (off : Nat) : Nat :=
  match presentPageAt b.variant off with
  | some (c, i) => pageBase c i
  | none => pgChip
/-- A read of `n` bytes of the register space (R46, R82). -/
def Block.regRead (b : Block) (port : BitVec 8) (off n : Nat) : W64 × Block :=
  if !regSized off n then (0, b.refuse (b.recPage off) 4 port off)
  else
    let (lo, b) := b.readReg off
    if n = 4 then (lo.setWidth 64, b)
    else
      let (hi, b) := b.readReg (off + 4)
      (lo.setWidth 64 ||| (hi.setWidth 64 <<< 32), b)

end Sys2Proof.Machine
end

