-- ==== Sys2Proof/Machine/RegWrite.lean ====
section
/-! DEFINITION. Register writes: the checks of R46, R76, R78 and R776 and of each unit's chapter, what a write stores, and what a
write of a command register does. -/
namespace Sys2Proof.Machine

/-! ### What a write stores -/

/-- The word with the RW and RWL fields of a list taken from a written word (R79). -/
def mergeFields (fs : List Fld) (old d : W32) : W32 :=
  fs.foldl (fun w f => if f.ty = .rw ∨ f.ty = .rwl then setFld w f.lo f.hi (fld d f.lo f.hi) else w) old
/-- Registers whose contents lie behind a selector. -/
def windowed (c : PageClass) (o : Nat) : Bool :=
  match c with
  | .hk => o == 0x124
  | .ceCtl => o == 0x184
  | .czCtl => o == 0x124
  | .msCtl => o == 0x134 || o == 0x138 || o == 0x13C
  | .dmCtl => o == 0x114
  | .seBank => o == 0x104 || o == 0x108
  | _ => false
/-- The present word of a register that a write changes in part. -/
def Block.heldWord (b : Block) (c : PageClass) (i o : Nat) : W32 :=
  if windowed c o then b.view (pageBase c i + o) else b.rd (pageBase c i + o)
/-- Store the new word of a register behind a selector. -/
def Block.putWindow (b : Block) (c : PageClass) (i o : Nat) (w : W32) : Block :=
  match c, o with
  | .hk, _ =>
    let k := b.rdF (pgHk + 0x120) 0 3
    b.onHk (fun h => { h with inCfg := smSet (inCfgReset k) h.inCfg k w })
  | .ceCtl, _ => b.onCe (fun e => { e with ns := smSet 0xC00 e.ns (b.rdF (pgCe + 0x180) 0 9) w })
  | .czCtl, _ => b.modSlot (b.rdF (pgCz + 0x120) 0 13) (fun x => { x with owner := BitVec.ofNat 6 (fld w 0 5) })
  | .msCtl, 0x134 => b.setRegion b.selRegion { b.region b.selRegion with base := fld w 0 19 }
  | .msCtl, 0x138 => b.setRegion b.selRegion { b.region b.selRegion with size := fld w 0 19 }
  | .msCtl, _ =>
    b.setRegion b.selRegion { b.region b.selRegion with
      light := w.getLsbD 0
      owner := BitVec.ofNat 6 (fld w 1 6) }
  | .dmCtl, _ =>
    let l := b.rdF (pgDm + 0x110) 0 7
    let b := if fld w 0 1 = b.lineSrc l then b else b.lineClr l
    b.onDm (fun d => { d with cfg := smSet 0 d.cfg l w })
  | .seBank, 0x104 => b.setPart i (b.selPart i) { b.sePart i (b.selPart i) with owner := BitVec.ofNat 6 (fld w 0 5) }
  | .seBank, _ =>
    b.setPart i (b.selPart i) { b.sePart i (b.selPart i) with
      base := fld w 0 13
      size := fld w 16 30 }
  | _, _ => b
/-- Store a write's RW and RWL fields. -/
def Block.putReg (b : Block) (c : PageClass) (i o : Nat) (fs : List Fld) (d : W32) : Block :=
  let w := mergeFields fs (b.heldWord c i o) d
  if !fs.any (fun f => decide (f.ty = .rw ∨ f.ty = .rwl)) then b
  else if windowed c o then b.putWindow c i o w else b.wr (pageBase c i + o) w

/-! ### Checks of a unit's chapter (R78) -/

/-- The instruction a channel stands at. -/
def Block.chInstr (b : Block) (n : Nat) : BitVec 128 :=
  let c := b.chan n
  match c.ahead.find? (fun e => e.1 == c.pc) with
  | some e => e.2
  | none => BitVec.ofNat 128 (b.load c.pc 16)
/-- Bits [lo+w-1:lo] of an instruction. -/
def iget (i : BitVec 128) (lo w : Nat) : Nat := (i.toNat >>> lo) % 2 ^ w
/-- The request line that a running MOVE or WAIT of a channel names (R469). -/
def Block.chLine (b : Block) (n : Nat) : Option Nat :=
  let c := b.chan n
  let i := b.chInstr n
  let op := iget i 0 4
  if (c.st = 1 ∨ c.st = 3) ∧ (c.mid ∨ c.waiting) ∧ ((op = 1 ∧ iget i 10 1 = 1) ∨ (op = 3 ∧ iget i 8 2 = 1)) then some (iget i 16 8) else none
/-- A channel is RUNNING or STOPPING. -/
def Block.chBusy (b : Block) (n : Nat) : Bool := (b.chan n).st == 1 || (b.chan n).st == 3

/-- The checks of the HK and PA pages (R702, R784, and the text of chapter 15). -/
def Block.badAon (t : Block) (c : PageClass) (o : Nat) (d : W32) : Bool :=
  match c, o with
  | .hk, 0x104 =>
    let f := fun k => t.rdF (pgHk + 0x104) (8 * k) (8 * k + 7)
    decide (f 0 > f 1 ∨ f 1 ≥ f 2 ∨ f 3 ≥ f 1)
  | .hk, 0x108 | .hk, 0x10C => decide (t.rdF (pgHk + 0x108) 12 19 % t.rdF (pgHk + 0x10C) 0 4 ≠ 0)
  | .hk, 0x128 => d.getLsbD 2 && t.rdF (pgHk + 0x120) 0 3 == 1
  | .hk, 0x410 => decide (fld d 0 19 ≠ 0)
  | .paCtl, 0x104 => decide (fld d 0 19 < t.rdF (pgPa + 0x108) 0 19)
  | .paCtl, 0x120 => decide (fld d 8 15 * 1000 < t.rdF (pgPa + 0x108) 0 19 ∨ t.variant.maxMw < fld d 8 15 * 1000)
  | .paCtl, 0x124 => decide (fld d 8 15 < fld d 0 7)
  | _, _ => false
/-- The checks of the BT, HP and FP pages (R32, R202, R205). -/
def Block.badPort (b t : Block) (c : PageClass) (i o : Nat) (d : W32) : Bool :=
  match c, o with
  | .bt, 0x100 | .bt, 0x104 => (List.range 3).any (fun k => decide (t.rdF (pgBt + 0x104) (8 * k) (8 * k + 7) ≥ t.rdF (pgBt + 0x100) 0 12))
  | .hp, 0x110 => decide (t.rdF (pgStg + 0x100) 0 6 < fld d 0 7 ∨ fld d 0 7 * 1024 < b.poolKib ∨ fld d 0 7 < fld d 8 15)
  | .hp, 0x120 => decide (fld d 0 6 = 0x6A)
  | .fpPort, 0x100 =>
    let old := b.rd (pgFpP i + 0x100)
    let moved := decide (fld old 5 12 ≠ 0) && decide (fld old 0 3 ≠ fld d 0 3)
    moved || decide (2 ^ 2 ^ fld d 0 1 ≤ fld d 5 12)
  | _, _ => false
/-- A namespace has work in flight (R150). -/
def Block.nsBusy (b : Block) (nsx : Nat) : Bool :=
  b.ce.cmds.any (fun c => c.nsid == nsx + 1 || (c.nsid == 0xFFFFFFFF && c.tenant.toNat == b.nsTenant nsx)) || b.ft.pieces.any (fun p => p.nsx == nsx) ||
    b.inLanes.any (fun f => f.sqe.nsid.toNat == nsx + 1 || (f.sqe.nsid == 0xFFFFFFFF && b.srcTenant f.src == b.nsTenant nsx))
/-- The record in CE.QC_DATA. -/
def Block.qcData (b : Block) : BitVec 512 :=
  BitVec.ofNat 512 (((List.range 16).map (fun k => (b.rd (pgCe + 0x140 + 4 * k)).toNat * 2 ^ (32 * k))).sum)
/-- The checks of the CE pages (R91-R95, R150, R786). -/
def Block.badCe (b t : Block) (c : PageClass) (i o : Nat) (d : W32) : Bool :=
  match c, o with
  | .ceCtl, 0x134 => fld d 0 1 == 2 && !t.qcWriteOk (t.rdF (pgCe + 0x130) 0 13) t.qcData
  | .ceCtl, 0x184 =>
    let nsx := t.rdF (pgCe + 0x180) 0 9
    let old := b.nsWord nsx
    let changed := decide (fld old 0 5 ≠ fld d 0 5 ∨ fld old 8 11 ≠ fld d 8 11 ∨ fld d 6 6 = 0)
    decide (fld d 8 11 ≠ 9 ∧ fld d 8 11 ≠ 12) || (old.getLsbD 6 && changed && b.nsBusy nsx)
  | .ceTenant, 0x100 => decide (16384 < ((List.range 64).map (fun k => t.rdF (pgCeT k + 0x100) 0 14)).sum)
  | .ceTenant, 0x114 =>
    let vf := fld d 0 5
    b.qcList.any (fun e => qUsed e.2 && qTenant e.2 == i) || (i == 0 && vf != 0) ||
      (vf != 0 && (List.range 64).any (fun k => k != i && b.rdF (pgCeT k + 0x114) 0 5 == vf))
  | _, _ => false
/-- The checks of the FT and FC pages (R279, R293, R313, R320, R326, R787). -/
def Block.badFlash (b t : Block) (c : PageClass) (i o : Nat) (d : W32) : Bool :=
  match c, o with
  | .ft, 0x108 => decide (fld d 0 22 < 3 * ((List.range 1024).filter (fun x => (b.die x).answered)).length)
  | .ft, 0x114 | .ft, 0x118 => decide (t.rdF (pgFt + 0x114) 0 22 > t.rdF (pgFt + 0x118) 0 22)
  | .ft, 0x138 | .ft, 0x13C => decide (t.rdF (pgFt + 0x138) 0 22 ≥ t.rdF (pgFt + 0x13C) 0 22)
  | .fcCtl, 0x108 => b.slotUsed (fld d 0 3) || b.fc.profLoad.isSome
  | .fcCtl, 0x154 => b.fc.keyOp.isSome
  | .fcCtl, 0x1B0 => !b.fc.grps.isEmpty || decide (fld d 0 19 ≠ 0)
  | .fcCtl, 0x1B4 | .fcCtl, 0x1B8 => !b.fc.grps.isEmpty
  | .fcBooth, 0x100 =>
    let st := b.boothSt i
    b.boothBusy i || !(match fld d 0 3 with
      | 1 => b.boothPres i && (st == 0 || st == 5 || st == 6 || st == 7)
      | 2 => st == 2
      | 3 => st == 3
      | 4 => st == 2 || st == 4 || st == 7
      | 5 => st == 5 || st == 6 || (st == 7 && b.boothMapped i)
      | _ => false)
  | _, _ => false
/-- The checks of the CZ page (R353, R382, R383). -/
def Block.badCz (b t : Block) (o : Nat) (d : W32) : Bool :=
  match o with
  | 0x100 => decide (fld d 0 4 > b.lanesOf false / 2 ∨ fld d 5 11 > b.lanesOf true / 2)
  | 0x104 => decide (fld d 8 13 > b.lanesOf false ∨ fld d 14 20 > b.lanesOf true)
  | 0x110 => b.streamsBusy || decide (fld d 0 19 ≠ 0)
  | 0x114 | 0x118 => b.streamsBusy
  | 0x124 => b.slotBusy (t.rdF (pgCz + 0x120) 0 13)
  | 0x134 => !b.cz.oldImage.isEmpty || b.tblInUse (t.rdF (pgCz + 0x130) 0 3)
  | 0x240 => d.getLsbD 0 && b.rdF (pgCz + 0x244) 0 0 == 1
  | _ => false
/-- The checks of the MS pages (R392, R408, R425, R427). -/
def Block.badMs (b t : Block) (c : PageClass) (o : Nat) (d : W32) : Bool :=
  let i := t.selRegion
  let r := b.region i
  match c, o with
  | .msCtl, 0x100 => !msCfgLegal d || (b.dramReady && decide (fld d 0 10 ≠ b.rdF (pgMs + 0x100) 0 10))
  | .msCtl, 0x134 => decide (r.st ≠ .off ∧ fld d 0 19 ≠ r.base)
  | .msCtl, 0x138 => decide (r.st ≠ .off ∧ fld d 0 19 ≠ r.size)
  | .msCtl, 0x13C =>
    let moved := decide (r.st ≠ .off ∧ (d.getLsbD 0 ≠ r.light ∨ fld d 1 6 ≠ r.owner.toNat))
    moved || (match fld d 9 10 with
      | 0 => false
      | 1 => t.enableRefused i
      | 2 => decide (r.st ≠ .on)
      | _ => true)
  | .msStg, 0x100 => decide (fld d 0 6 < b.rdF (pageBase .hp 0 + 0x110) 0 7)
  | _, _ => false
/-- The checks of the DM pages (R460, R469, R470). -/
def Block.badDm (b t : Block) (c : PageClass) (n o : Nat) (d : W32) : Bool :=
  let pg := pgDmCh n
  match c with
  | .dmCtl =>
    let l := t.rdF (pgDm + 0x110) 0 7
    o == 0x114 && decide (fld d 0 7 ≠ fld (b.lineCfg l) 0 7) && (List.range 64).any (fun k => b.chLine k == some l)
  | .dmCh =>
    if o = 0x100 ∨ o = 0x104 then b.chBusy n
    else if o = 0x108 then decide (fld d 0 3 ≠ 0)
    else if o = 0x110 then fld d 0 1 != 0 && !b.chAccepts n (fld d 0 1)
    else if 0x150 ≤ o ∧ o < 0x170 then
      let k := (o - 0x150) / 8
      let size := t.rdF (pg + 0x154 + 8 * k) 4 9
      let base := ((t.rd (pg + 0x150 + 8 * k)).toNat + t.rdF (pg + 0x154 + 8 * k) 0 3 * 2 ^ 32) * 4096
      b.chBusy n || decide (1 ≤ size ∧ size ≤ 11) || decide (base % 2 ^ size ≠ 0)
    else false
  | _ => false
/-- The checks of the SE pages (R477, R507). -/
def Block.badSe (b t : Block) (c : PageClass) (k o : Nat) (d : W32) : Bool :=
  let p := t.selPart k
  let x := b.sePart k p
  match c, o with
  | .seCtl, 0x100 => b.se.parts.any (fun e => decide (e.2.st ≠ .off)) || decide (fld d 0 21 ≠ 0)
  | .seCtl, 0x104 => b.se.parts.any (fun e => decide (e.2.st ≠ .off))
  | .seCtl, 0x180 => d.getLsbD 0 && b.rdF (pgSe + 0x184) 0 0 == 1
  | .seBank, 0x104 =>
    let moved := decide (x.st ≠ .off ∧ fld d 0 5 ≠ x.owner.toNat)
    moved || (k == 4 && decide (fld d 0 5 ≠ 0)) || (match fld d 8 9 with
      | 0 => false
      | 1 => t.partRefused k p
      | 2 => decide (x.st ≠ .on)
      | _ => true)
  | .seBank, 0x108 => decide (x.st ≠ .off ∧ (fld d 0 13 ≠ x.base ∨ fld d 16 30 ≠ x.size))
  | _, _ => false
/-- CL_DLV names a channel and a line that serve delivery: the channel granted to tenant 0 at C2, the line of the compute cluster and
tenant 0, and neither taken by another cluster (R635). -/
def Block.dlvLegal (b : Block) (n : Nat) (d : W32) : Bool :=
  let ch := fld d 0 5
  let l := fld d 6 13
  b.chTenant ch == 0 && b.chEn ch && b.chCls ch == 2 && b.lineSrc l == 2 && b.lineTenant l == 0 &&
    !((List.range 12).any (fun m => m != n && b.has .cxCluster m && b.dlvOn m && (b.dlvCh m == ch || b.dlvLine m == l)))
/-- The checks of the CX pages (R646, R673). -/
def Block.badCx (b t : Block) (c : PageClass) (i o : Nat) (d : W32) : Bool :=
  let r := b.region (fld d 0 4)
  let on := d.getLsbD 5
  match c, o with
  | .cxCtl, 0x100 => !b.cx.ctxs.isEmpty || decide (fld d 0 19 ≠ 0)
  | .cxCtl, 0x104 => !b.cx.ctxs.isEmpty
  | .cxTenant, 0x100 => decide (4096 < ((List.range 64).map (fun k => t.rdF (pgCxT k + 0x100) 0 12)).sum ∨ fld d 0 12 < b.ctxHeld i)
  | .cxTenant, 0x108 => decide (fld d 0 11 ≥ 2 ^ b.variant.clusters)
  | .cxTenant, 0x10C =>
    (on && (r.light || decide (r.owner.toNat ≠ i))) ||
      (decide (fld d 0 5 ≠ b.rdF (pgCxT i + 0x10C) 0 5) && b.cx.progs.any (fun e => e.1 / 64 == i))
  | .cxTenant, 0x110 =>
    (on && decide (r.owner.toNat ≠ i)) ||
      (decide (fld d 0 5 ≠ b.rdF (pgCxT i + 0x110) 0 5) &&
        b.cx.ctxs.any (fun e => e.2.tenant.toNat == i && !e.2.transit && !e.2.ranges.isEmpty))
  | .cxCluster, 0x104 => decide (fld d 0 2 > smGet 4 b.cx.avsCap i)
  | .cxCluster, 0x108 =>
    let old := b.rd (pgCl i + 0x108)
    (d.getLsbD 14 && !old.getLsbD 14 && !b.dlvLegal i d) || (old.getLsbD 14 && decide (fld d 0 13 ≠ fld old 0 13))
  | _, _ => false

/-- The chapters' checks of one register: `b` before the write, `t` with both halves stored. -/
def Block.badSpecial (b t : Block) (c : PageClass) (i o : Nat) (d : W32) : Bool :=
  match c with
  | .hk | .paCtl => t.badAon c o d
  | .bt | .hp | .fpPort => b.badPort t c i o d
  | .ceCtl | .ceTenant => b.badCe t c i o d
  | .ft | .fcCtl | .fcBooth => b.badFlash t c i o d
  | .czCtl => b.badCz t o d
  | .msCtl | .msStg => b.badMs t c o d
  | .dmCtl | .dmCh => b.badDm t c i o d
  | .seCtl | .seBank => b.badSe t c i o d
  | .cxCtl | .cxTenant | .cxCluster => b.badCx t c i o d
  | _ => false

/-! ### The order of refusals (R776) -/

/-- A KEY field other than 0x5EED, or a reserved KIND beside a key. -/
def badKey (c : PageClass) (o : Nat) (fs : List Fld) (d : W32) : Bool :=
  fs.any (fun f => f.ty == .key && fld d f.lo f.hi != 0x5EED) ||
    (o == 0x080 && (fld d 0 3 == 0 || decide (3 < fld d 0 3))) || (decide (c = .hk) && o == 0x150 && fld d 0 3 != 1)
/-- A locked field would change (R76). -/
def Block.lockedField (b : Block) (c : PageClass) (i o : Nat) (fs : List Fld) (d : W32) : Bool :=
  let lock := b.rd (pageBase c i + 0x084)
  let old := b.heldWord c i o
  fs.any (fun f => f.ty == .rwl && lock.getLsbD f.lk && fld d f.lo f.hi != fld old f.lo f.hi)
/-- A field outside its legal range (R78). -/
def outOfRange (fs : List Fld) (d : W32) : Bool :=
  fs.any (fun f => (f.ty == .rw || f.ty == .rwl || f.ty == .wo) && decide (fld d f.lo f.hi < f.mn ∨ f.mx < fld d f.lo f.hi))
/-- A UNIT_RESET that the page's state or unit refuses (R70, R71, R73). -/
def Block.resetRefused (b : Block) (c : PageClass) (i : Nat) (d : W32) : Bool :=
  let st := b.pageReset (pageBase c i)
  decide (c.unit ≤ 4) || (st != 0 && (st != 3 || fld d 0 3 != 3))
/-- A device reset request that is ignored (R709, R718). -/
def Block.devResetIgnored (b : Block) (c : PageClass) (o : Nat) : Bool :=
  decide (c = .hk) && o == 0x150 && (b.hk.tripped || b.plossSt == 3)
/-- The refusal of one register's write, by record code, where there is one; `t` has both halves stored. -/
def Block.regRefusal (b t : Block) (c : PageClass) (i o : Nat) (d : W32) : Option Nat :=
  match regAtPage b.variant c i o with
  | none => some 6
  | some r =>
    if b.devResetIgnored c o then none
    else if badKey c o r.flds d then some 3
    else if b.lockedField c i o r.flds d then some 2
    else if outOfRange r.flds d || (o == 0x080 && b.resetRefused c i d) || b.badSpecial t c i o d then some 1
    else none
/-- The rank of a record code in R776. -/
def refusalRank (code : Nat) : Nat :=
  match code with
  | 6 => 0 | 3 => 1 | 2 => 2 | _ => 3
/-- The first refusal of a write's registers, with the offset it is recorded at. -/
def Block.firstRefusal (b t : Block) (c : PageClass) (i : Nat) (ws : List (Nat × W32)) : Option (Nat × Nat) :=
  let rs := ws.filterMap (fun w => (b.regRefusal t c i w.1 w.2).map (fun k => (k, w.1)))
  match rs with
  | [] => none
  | x :: xs => some (xs.foldl (fun a y => if refusalRank y.1 < refusalRank a.1 then y else a) x)

/-! ### What a command register does -/

/-- EVT_CLR: written ones clear (R55). -/
def Block.evtClr (b : Block) (pg : Nat) (d : W32) : Block := b.setEvt pg (b.rd (pg + 0x010) &&& ~~~d) (b.rd (pg + 0x014))
/-- ERR_POP (R65). -/
def Block.errPop (b : Block) (pg : Nat) (d : W32) : Block :=
  let q := b.errQ pg
  let q := if d.getLsbD 0 then { q with recs := q.recs.drop 1 } else q
  let q := if d.getLsbD 1 then { q with lost := 0, maxSev := 0 } else q
  b.setErrQ pg q
/-- The header's command registers; `old` is the block before the write. -/
def Block.effHeader (b : Block) (port : BitVec 8) (c : PageClass) (i o : Nat) (d : W32) : Block :=
  let pg := pageBase c i
  match o with
  | 0x01C => b.raiseMask pg d
  | 0x020 => b.evtClr pg d
  | 0x038 => b.errPop pg d
  | 0x080 => b.unitReset port pg (fld d 16 31) (fld d 0 3)
  | 0x084 => b.wr (pg + 0x084) (b.rd (pg + 0x084) ||| (d &&& lockMask b.variant c i))
  | _ => b
/-- HK and PA. -/
def Block.effAon (b : Block) (c : PageClass) (o : Nat) (d : W32) : Block :=
  match c, o with
  | .hk, 0x128 => if d.getLsbD 2 then b.modInp (b.rdF (pgHk + 0x120) 0 3) (fun x => { x with masked := false }) else b
  | .hk, 0x144 => b.fwCmd (fld d 0 1) (d.getLsbD 2)
  | .hk, 0x150 => if b.devResetIgnored .hk 0x150 then b else b.deviceReset 5
  | .hk, 0x408 => b.heartbeat (fld d 0 1)
  | .paCtl, _ | .paBooth, _ => b.wrateCap
  | _, _ => b
/-- The command engine. -/
def Block.effCe (b old : Block) (c : PageClass) (o : Nat) (d : W32) : Block :=
  match c, o with
  | .ceCtl, 0x100 => (b.stopRise old).onIf (old.fetchStop && !b.fetchStop) (fun b => b.actDone.release)
  | .ceCtl, 0x120 => b.resetTenant (fld d 0 5)
  | .ceCtl, 0x134 =>
    let i := b.rdF (pgCe + 0x130) 0 13
    if fld d 0 1 = 1 then
      let q := b.qcRead i
      b.each (List.range 16) (fun b k => b.wr (pgCe + 0x140 + 4 * k) ((q >>> (32 * k)).setWidth 32))
    else b.qcApply i b.qcData
  | _, _ => b
/-- A table command (R351-R353). -/
def Block.tblCmd (b : Block) (op : Nat) : Block :=
  let s := b.rdF (pgCz + 0x130) 0 3
  if op = 2 then ((b.holdImage s).onCz (fun e => { e with tables := smErase e.tables s })).raise pgCz 1
  else
    let t := b.tblData
    let r := tblResult t
    let b := b.wrF (pgCz + 0x138) 1 2 r
    if r = 0 then ((b.holdImage s).onCz (fun e => { e with tables := smPut e.tables s t })).raise pgCz 1 else b.raise pgCz 2
/-- The descriptor in CZ.JOB_DESC. -/
def Block.jobDesc (b : Block) : BitVec 512 :=
  BitVec.ofNat 512 (((List.range 16).map (fun k => (b.rd (pgCz + 0x200 + 4 * k)).toNat * 2 ^ (32 * k))).sum)
/-- Flash translation, media channels, compression. -/
def Block.effFlash (b : Block) (c : PageClass) (i o : Nat) (d : W32) : Block :=
  match c, o with
  | .ft, _ => b.retarget.refreshMode
  | .fcCtl, 0x108 =>
    let s := fld d 0 3
    if fld d 4 5 = 1 then (b.onFc (fun e => { e with profLoad := some s })).profStatus true 0
    else (b.onFc (fun e => { e with profs := smErase e.profs s })).profReg s
  | .fcCtl, 0x154 =>
    (match fld d 0 2 with
     | 1 => b.keyGenerate
     | 2 => b.keyUnwrap
     | 3 => b.keyWrapOut
     | _ => b.keyClear)
  | .fcCtl, 0x15C => b.recUpdate id
  | .fcBooth, 0x100 =>
    (match fld d 0 3 with
     | 1 => b.bringUp i
     | 2 => b.drain i
     | 3 => b.abortDrain i
     | 4 => b.powerOff i
     | _ => b.forget i)
  | .czCtl, 0x134 => b.tblCmd (fld d 0 1)
  | .czCtl, 0x240 => if d.getLsbD 0 then (b.wrF (pgCz + 0x244) 0 0 1).submitJob b.jobDesc .firmware else b
  | _, _ => b
/-- The lines of a DM.REQ_SW or REQ_SWC word whose source is software. -/
def Block.swLines (b : Block) (n : Nat) (d : W32) : List Nat :=
  ((List.range 32).filter (fun k => d.getLsbD k && b.lineSrc (32 * n + k) == 1)).map (fun k => 32 * n + k)
/-- The request in SE.OP_REQ. -/
def Block.opReq (b : Block) : BitVec 512 :=
  BitVec.ofNat 512 (((List.range 16).map (fun k => (b.rd (pgSe + 0x140 + 4 * k)).toNat * 2 ^ (32 * k))).sum)
/-- Memory system, DMA engine, search engine. -/
def Block.effData (b : Block) (c : PageClass) (i o : Nat) (d : W32) : Block :=
  match c with
  | .msCtl =>
    if o = 0x13C ∧ fld d 9 10 = 1 then b.regionStart b.selRegion .on
    else if o = 0x13C ∧ fld d 9 10 = 2 then b.regionStart b.selRegion .off
    else b
  | .dmCtl =>
    if 0x120 ≤ o ∧ o < 0x140 then b.each (b.swLines ((o - 0x120) / 4) d) Block.lineSet
    else if 0x160 ≤ o ∧ o < 0x180 then b.each (b.swLines ((o - 0x160) / 4) d) Block.lineClr
    else b
  | .dmCh => if o = 0x110 then b.chCommand i (fld d 0 1) none else b
  | .seCtl => if o = 0x180 ∧ d.getLsbD 0 then (b.wrF (pgSe + 0x184) 0 0 1).seRequest .fw 0 0xFF b.opReq false else b
  | .seBank =>
    if o = 0x104 ∧ fld d 8 9 = 1 then b.partEnable i (b.selPart i)
    else if o = 0x104 ∧ fld d 8 9 = 2 then b.startClear false i (b.selPart i)
    else b
  | _ => b
/-- Compute service: Execute Program commands that wait are looked at again (R614), and delivery starts or ends (R635, R646). -/
def Block.effCx (b old : Block) (c : PageClass) (i o : Nat) (d : W32) : Block :=
  match c with
  | .cxTenant =>
    let ws := (b.ce.cmds.filter (fun c => c.execWaits && c.tenant.toNat == i)).map (·.seq)
    if o = 0x100 ∨ o = 0x108 then b.each ws Block.progRetry else b
  | .cxCluster =>
    if o = 0x108 ∧ d.getLsbD 14 ∧ !old.dlvOn i then b.dlvStart i
    else if o = 0x108 ∧ !d.getLsbD 14 ∧ old.dlvOn i then
      ((b.onCx (fun x => { x with dlvOff := x.dlvOff.filter (· ≠ i) ++ [i] })).wrF (pgCl i + 0x108) 14 14 1).dlvClose i
    else b
  | _ => b
/-- What a written register does beside storing its fields; `old` is the block before the write. -/
def Block.effect (b old : Block) (port : BitVec 8) (c : PageClass) (i o : Nat) (d : W32) : Block :=
  if o < 0x100 then b.effHeader port c i o d
  else match c with
  | .hk | .paCtl | .paBooth => b.effAon c o d
  | .hp => if i = 0 ∧ o = 0x110 then b.keepPloss else b
  | .fpPort => if o = 0x100 then b.fpTickets i else b
  | .ceCtl | .ceTenant => b.effCe old c o d
  | .ft | .fcCtl | .fcBooth | .czCtl => b.effFlash c i o d
  | .msCtl | .dmCtl | .dmCh | .seCtl | .seBank => b.effData c i o d
  | .cxTenant | .cxCluster => b.effCx old c i o d
  | _ => b

/-! ### The write -/

/-- Store one register of a write. -/
def Block.putWord (b : Block) (c : PageClass) (i : Nat) (w : Nat × W32) : Block :=
  match regAtPage b.variant c i w.1 with
  | none => b
  | some r =>
    if w.1 = 0x014 then b.setEvt (pageBase c i) (b.rd (pageBase c i + 0x010)) (w.2 &&& b.evtMask (pageBase c i))
    else b.putReg c i w.1 r.flds w.2
/-- An accepted write takes effect, the lower register first (R46). -/
def Block.takeWrite (b : Block) (port : BitVec 8) (c : PageClass) (i : Nat) (w : Nat × W32) : Block :=
  (b.putWord c i w).effect b port c i w.1 w.2
/-- The registers of a write: page offset and word. -/
def wordsOfWrite (off n : Nat) (data : W64) : List (Nat × W32) :=
  let o := off % 0x1000
  if n = 8 then [(o, data.setWidth 32), (o + 4, (data >>> 32).setWidth 32)] else [(o, data.setWidth 32)]
/-- A write to an absent page (R81). -/
def Block.absentWrite (b : Block) (port : BitVec 8) (off : Nat) : Block :=
  let b := (b.wr (pgChip + 0x130) (w32 (off % 2 ^ 25))).inc (pgChip + 0x134)
  (b.refuse pgChip 5 port off).raise pgChip 0
/-- A write of `n` bytes to the register space under tenant tag 0 (R46, R76-R82, R776). -/
def Block.regWrite (b : Block) (port : BitVec 8) (off n : Nat) (data : W64) : Block :=
  if !regSized off n then b.refuse (b.recPage off) 4 port off
  else match presentPageAt b.variant off with
  | none => b.absentWrite port off
  | some (c, i) =>
    let ws := wordsOfWrite off n data
    let t := b.each ws (fun b w => b.putWord c i w)
    match b.firstRefusal t c i ws with
    | some (code, o) => b.refuse (pageBase c i) code port (pageBase c i + o)
    | none => b.each ws (fun b w => b.takeWrite port c i w)
/-- A write of one register. -/
def Block.regWrite4 (b : Block) (port : BitVec 6) (off : Nat) (d : W32) : Block :=
  b.regWrite (port.setWidth 8) off 4 (d.setWidth 64)
/-- A read of the register space whose data goes back to the reader. -/
def Block.regReadOut (b : Block) (port : BitVec 6) (off n : Nat) : Block :=
  let (v, b) := b.regRead (port.setWidth 8) off n
  b.send (.regData off v)

/-- A host access through BAR2 (R86, R163), recorded with port 0 of the host ports 0 to 2 (DESIGN CHOICE, log entry 59). -/
def Block.bar2 (b : Block) (write : Bool) (off n : Nat) (data : W64) : Block :=
  let en := b.rdF (pgChip + 0x140) 0 0 == 1
  let ro := b.rdF (pgChip + 0x140) 1 1 == 1
  if !en then (if write then b else b.send (.regData off 0))
  else if !write then b.regReadOut 0 off n
  else if ro && regSized off n then
    match presentPageAt b.variant off with
    | none => b.absentWrite 0 off
    | some (c, i) =>
      let ws := wordsOfWrite off n data
      match b.firstRefusal b c i ws with
      | some (code, o) => if code = 1 then b.refuse pgChip 1 0 off else b.refuse (pageBase c i) code 0 (pageBase c i + o)
      | none => b.refuse pgChip 1 0 off
  else b.regWrite 0 off n data

end Sys2Proof.Machine
end

