-- ==== Sys2Proof/Machine/Bus.lean ====
section
/-! DEFINITION. The Big Top as a machine: the address map (R34), the checks of targets (R29, R407, R526), reads and writes of
every range, and the life of a transaction (R19-R26). -/
namespace Sys2Proof.Machine

/-- A tenant tag may use an X or Y bank: the tenant of the context on the core (R526). -/
def Block.bankTag (b : Block) (core : Nat) (tag : BitVec 6) : Bool :=
  tag == 0 || ((b.core core).onCtx.isSome && b.coreTenant core == tag)
/-- A tenant tag may use a byte of shared memory: its tenant has a context with a scratch range there (R526). -/
def Block.sharedTag (b : Block) (n o : Nat) (tag : BitVec 6) : Bool :=
  tag == 0 || b.cx.ctxs.any (fun e => e.2.cluster == n && e.2.tenant == tag && decide (e.2.scrBase ≤ o ∧ o < e.2.scrBase + e.2.scrSize))
/-- A page that is offline answers OFFLINE, and one that recovers BUSY (R21, R652). -/
def Block.pageAnswer (b : Block) (pg : Nat) (r : Resp) : Resp :=
  if b.pageReset pg = 3 then .offline else if b.pageReset pg = 2 then .busy else r
/-- What a request is answered before any data moves. -/
def Block.busCheck (b : Block) (q : BusReq) (write : Bool) : Resp :=
  match b.placeAt q.addr q.len with
  | none => .decode
  | some .dram | some .staging => b.memCheck q
  | some (.shared n) =>
    let o := q.addr % 0x1000000
    b.pageAnswer (pgCl n) (if b.sharedTag n o q.tag && b.sharedTag n (o + q.len - 1) q.tag then .ok else .tenant)
  | some (.bank i) => b.pageAnswer (pgCl (i / 8)) (if b.bankTag i q.tag then .ok else .tenant)
  | some .regs => if q.tag = 0 then .ok else .tenant
  | some .rom => if write then .decode else .ok
  | some .aonSram => .ok

/-! ### Cluster memories and the always-on SRAM (R525) -/

/-- A correction in a row counts; the second within 1 s takes a spare row. Rows are counted as 64-byte lines: the spec does not give
their size (DESIGN CHOICE, log entry 29). -/
def Block.clRow (b : Block) (a array spares : Nat) : Block :=
  let k := a / 64
  match smFind b.cx.rowSeen k with
  | some t =>
    let used := smGet 0 b.cx.rowSpare array
    if b.usec - t ≤ 1000000 && decide (used < spares) then
      b.onCx (fun x => { x with rowSeen := smErase x.rowSeen k, rowSpare := smPut x.rowSpare array (used + 1) })
    else b.onCx (fun x => { x with rowSeen := smPut x.rowSeen k b.usec })
  | none => b.onCx (fun x => { x with rowSeen := smPut x.rowSeen k b.usec })
/-- One error met in a cluster memory, recorded for a core of the cluster. -/
def Block.clErr (core array spares : Nat) (b : Block) (e : CodeErr) : Block :=
  let a := e.1.toNat
  if b.poisoned a then b
  else if e.2 then (b.setPoison a true).coreRec core 0x183 .deferred 0
  else (b.coreRec core 0x182 .corrected 0).clRow a array spares
/-- The spare rows of a cluster memory. -/
def placeSpares (p : Place) : Nat := match p with | .bank _ => 4 | _ => 16
/-- The core that a cluster memory's errors are recorded for: the bank's own, or core 0 of the cluster. -/
def placeCore (p : Place) : Nat := match p with | .bank i => i | .shared n => 8 * n | _ => 0
/-- The errors that a read of a span of cluster memory meets. -/
def Block.clErrs (b : Block) (p : Place) (errs : List CodeErr) (a n : Nat) : Block :=
  b.each (b.readOrder (fun _ => 8) (errsWord errs a n)) (Block.clErr (placeCore p) (a / 0x20000) (placeSpares p))
/-- One error met in the always-on SRAM: an uncorrectable word is poisoned, a corrected one counts in its row, and the HK page records it
(R62, R525). The spec lists no code for it: CODE is a free value among those a unit defines, and the spare rows are as many as those of
cluster shared memory (DESIGN CHOICE, log entry 59). -/
def Block.aonErr (b : Block) (e : CodeErr) : Block :=
  let a := e.1.toNat
  if b.poisoned a then b
  else
    let (v, b) := b.free
    let b := b.record pgHk { code := 0x0100 + v.toNat % 0xFF00, sev := if e.2 then .deferred else .corrected, addr := some e.1,
                             detail := detailOf [(2, b.rdF (pgHk + 0x100) 0 15)] }
    if e.2 then b.setPoison a true else b.clRow a (a / 0x40000) 16

/-! ### Reads and writes -/

/-- The boot ROM's bytes as a number. -/
def romLoad (o : Nat) : Nat → Nat
  | 0 => 0
  | n + 1 => romLoad o n + (Config.bootRom (o + n)).toNat * 2 ^ (8 * n)
/-- The errors that a read meets, in the place that serves it. -/
def Block.readPlace (b : Block) (q : BusReq) (errs : List CodeErr) (p : Place) : Block :=
  match p with
  | .dram | .staging => b.memServe q errs p
  | .shared _ | .bank _ => b.clErrs p errs q.addr q.len
  | .aonSram => b.each (errsWord errs q.addr q.len) Block.aonErr
  | .regs | .rom => b
/-- A target that accepts a read serves it: the response, the data as a number, and the block after it. -/
def Block.readServe (b : Block) (q : BusReq) (errs : List CodeErr) (p : Place) : Resp × Nat × Block :=
  match p with
  | .regs =>
    let (v, b) := b.regRead q.port (q.addr % 2 ^ 25) q.len
    (.ok, v.toNat, b)
  | .rom => (.ok, romLoad (q.addr % 2 ^ 19) q.len, b)
  | p =>
    let b := b.readPlace q errs p
    (if b.anyPoison q.addr q.len then .poison else .ok, b.load q.addr q.len, b)
/-- A target that accepts a write takes it; `be` says which bytes are written. -/
def Block.writePlace (b : Block) (q : BusReq) (errs : List CodeErr) (be : BitVec 256) (data : BitVec 2048) (p : Place) : Block :=
  let on := fun x => decide (q.addr ≤ x ∧ x < q.addr + q.len) && be.getLsbD (x - q.addr)
  match p with
  | .dram => (b.dramPut errs be q.tag q.port q.addr q.len data).dramTouch q true
  | .staging => b.stgPut errs be q.tag q.port q.addr q.len data
  | .shared _ | .bank _ =>
    (b.each (linesOf q.addr q.len) (Block.wordLine errs on (Block.clErr (placeCore p) (q.addr / 0x20000) (placeSpares p)))).storeEnabled
      q.addr q.len be data
  | .aonSram => (b.each (linesOf q.addr q.len) (Block.wordLine errs on Block.aonErr)).storeEnabled q.addr q.len be data
  | .regs => b.regWrite q.port (q.addr % 2 ^ 25) q.len (data.setWidth 64)
  | .rom => b
/-- A unit's request reaches its target: the answer it gets, after the reissues that BUSY responses cost (R20-R22). -/
def Block.busMeet (b : Block) (q : BusReq) (write : Bool) : Resp × Block :=
  match b.busCheck q write with
  | .ok => match b.reissued (b.pauseLeft q) with
    | (true, b) => (.ok, b)
    | (false, b) => (.offline, b)
  | .busy => (.offline, (b.reissued b.busyLimit).2)
  | r => (r, b.btCode q write r)
/-- A unit's read: its response, its data as a number, and the block after it. -/
def Block.busRead (b : Block) (q : BusReq) (errs : List CodeErr) : Resp × Nat × Block :=
  match b.busMeet q false, b.placeAt q.addr q.len with
  | (.ok, b), some p => b.readServe q errs p
  | (r, b), _ => (r, 0, b)
/-- A unit's write: its response and the block after it. -/
def Block.busWrite (b : Block) (q : BusReq) (errs : List CodeErr) (be : BitVec 256) (data : BitVec 2048) : Resp × Block :=
  match b.busMeet q true, b.placeAt q.addr q.len with
  | (.ok, b), some p => (.ok, b.writePlace q errs be data p)
  | (r, b), _ => (r, b)

/-! ### Transactions by name (R15-R26) -/

/-- The request of a transaction of an age. -/
def txnReq (t : Txn) (age : Nat) (promoted : Bool) : BusReq :=
  ⟨t.port.setWidth 8, t.cls.toNat, t.tag, t.addr.toNat, txnLen t, age, promoted⟩
/-- The poison mask of a span: one bit per 8-byte word (R404). -/
def Block.poisonMask (b : Block) (a n : Nat) : BitVec 33 :=
  (wordsOf a n).zipIdx.foldl (fun m x => if b.poisoned x.1 then m ||| BitVec.ofNat 33 (2 ^ x.2) else m) 0
/-- A transaction is answered by its target, which neither recovers nor pauses. -/
def Block.serve (b : Block) (t : Txn) (be : BitVec 256) (errs : List CodeErr) (age : Nat) (promoted : Bool) : Block :=
  let q := txnReq t age promoted
  match b.busCheck q t.write, b.placeAt q.addr q.len with
  | .ok, some p =>
    if t.write then (b.writePlace q errs be t.data p).send (.fabResp t.id .ok 0 0 0)
    else
      let (r, v, b) := b.readServe q errs p
      b.send (.fabResp t.id r (txnLen t) (BitVec.ofNat 2048 v) (if r = .poison then b.poisonMask q.addr q.len else 0))
  | r, _ => (b.btCode q t.write r).send (.fabResp t.id r 0 0 0)
/-- A target answers BUSY: it recovers, or its bank pauses. -/
def Block.isBusy (b : Block) (t : Txn) : Bool :=
  let q := txnReq t 0 false
  decide (b.busCheck q t.write = .busy) || (decide (b.busCheck q t.write = .ok) && b.pauseLeft q != 0)
/-- The open transaction of a name. -/
def Block.openOf (b : Block) (id : BitVec 16) : Option OpenTxn := b.fab.opened.find? (fun o => o.txn.id == id)
/-- A transaction has its final response. -/
def Block.closeTxn (b : Block) (id : BitVec 16) : Block := b.onFab (fun f => { f with opened := f.opened.filter (fun o => o.txn.id ≠ id) })
/-- Change an open transaction. -/
def Block.modTxn (b : Block) (id : BitVec 16) (g : OpenTxn → OpenTxn) : Block :=
  b.onFab (fun f => { f with opened := f.opened.map (fun (x : OpenTxn) => if x.txn.id = id then g x else x) })

/-! #### Arbitration (R24) -/

/-- The target port of a transaction, whose arbiter grants it. -/
def Block.targetOf (b : Block) (t : Txn) : Nat := b.placePort (b.placeAt t.addr.toNat (txnLen t)) t.addr.toNat
/-- Ports after the last winner, in port order: how far a port's turn is. Nothing granted since reset counts as a last winner below port 0
(DESIGN CHOICE, log entry 60). -/
def Block.turnOf (b : Block) (target port : Nat) : Nat :=
  match smFind b.fab.last target with
  | some k => (port + 64 - (k + 1)) % 64
  | none => port
/-- One transaction is granted before another at an arbiter: by class, then age, then round robin over ports. -/
def Block.grantBefore (b : Block) (target : Nat) (x y : OpenTxn) : Bool :=
  let cx := b.txnCls x
  let cy := b.txnCls y
  decide (cx < cy) || (cx == cy && (decide (x.born < y.born) ||
    (x.born == y.born && decide (b.turnOf target x.txn.port.toNat < b.turnOf target y.txn.port.toNat))))
/-- The transaction that the arbiter of a target port grants next. -/
def Block.nextGrant (b : Block) (target : Nat) : Option OpenTxn :=
  (b.fab.opened.filter (fun o => !o.granted && b.targetOf o.txn == target)).foldl (fun m o => match m with
    | some x => if b.grantBefore target o x then some o else some x
    | none => some o) none
/-- An open transaction is at its target: granted before, or the next that its arbiter grants, with the block after the grant. -/
def Block.atTarget (b : Block) (o : OpenTxn) : Option Block :=
  let k := b.targetOf o.txn
  if o.granted then some b
  else if (b.nextGrant k).any (fun x => x.txn.id == o.txn.id) then
    some (b.onFab (fun f => { f with
      opened := f.opened.filter (fun (x : OpenTxn) => x.txn.id ≠ o.txn.id) ++ [{ o with granted := true }]
      last := smPut f.last k o.txn.port.toNat }))
  else none
/-- A controller serves the transaction now: a DRAM read when it is the next access of its subchannel (R394), a write or read of the
other targets as it stands, a write behind an earlier access to its lines not at all (R396). -/
def Block.itsTurn (b : Block) (o : OpenTxn) : Bool :=
  if o.txn.addr.toNat + txnLen o.txn ≤ b.dramCap then
    let k := (b.txnRow o.txn).subKey
    if o.txn.write then (unheld [] (b.ctlQueue k)).any (fun x => x.txn.id == o.txn.id)
    else (b.ctlPick k).any (fun x => x.txn.id == o.txn.id)
  else true

/-! #### The life of a transaction (R20, R21) -/

/-- The microsecond at which the timeout of an open transaction expires. -/
def Block.dueAt (b : Block) (o : OpenTxn) : Nat := o.issued + b.rdF (pgBus + 0x100) 0 12
/-- The port of an open transaction gives up on it: TIMEOUT, recorded with its age at the expiry (R20, R23). A write that the target has
not answered leaves memory as it was: whether it still takes effect is not said (DESIGN CHOICE, log entry 59). -/
def Block.expire (b : Block) (o : OpenTxn) : Block :=
  let b := b.closeTxn o.txn.id
  (b.btCode (txnReq o.txn (b.dueAt o - o.born) o.promoted) o.txn.write .timeout).send (.fabResp o.txn.id .timeout 0 0 0)
/-- A response comes too late: it is discarded and counted (R20). -/
def Block.countLate (b : Block) : Block := (b.inc (pgBus + 0x114)).raise pgBus 1
/-- A BUSY response to an open transaction: it ends with OFFLINE at the limit, and is otherwise reissued 1 µs later (R21). -/
def Block.busyAnswer (b : Block) (o : OpenTxn) : Block :=
  if b.busyLimit ≤ o.busy + 1 then (b.closeTxn o.txn.id).send (.fabResp o.txn.id .offline 0 0 0)
  else
    let b := b.elapse 1
    b.modTxn o.txn.id (fun x => { x with busy := x.busy + 1, issued := b.usec, granted := false })
/-- The target of an open transaction answers it, `busy` saying that it cannot accept it now: nothing happens while it waits its turn,
and a response at or after the timeout is late. -/
def Block.answerTxn (b : Block) (o : OpenTxn) (busy : Bool) (errs : List CodeErr) : Block :=
  let b := b.promoteAged
  let o := (b.openOf o.txn.id).getD o
  match b.atTarget o with
  | none => b
  | some b =>
    let o := { o with granted := true }
    if b.dueAt o ≤ b.usec then (b.expire o).countLate
    else if busy || b.isBusy o.txn then b.busyAnswer o
    else if b.itsTurn o then (b.closeTxn o.txn.id).serve o.txn o.be errs (b.usec - o.born) o.promoted
    else b
/-- A transaction is issued, or goes on: its arbiter grants it, and its target answers it; `answers` is false where the answer is still
to come, and `be` says which bytes a write writes. -/
def Block.goTxn (b : Block) (t : Txn) (be : BitVec 256) (answers : Bool) (errs : List CodeErr) : Block :=
  if !portPresent b.variant t.port.toNat || b.fab.dead.contains t.id then b
  else match b.openOf t.id with
  | some o =>
    if o.txn ≠ t ∨ o.be ≠ be then b
    else if answers then b.answerTxn o false errs
    else
      let b := b.promoteAged
      (b.atTarget ((b.openOf t.id).getD o)).getD b
  | none =>
    let o : OpenTxn := ⟨t, b.usec, b.usec, 0, false, false, be⟩
    let b := b.onFab (fun f => { f with opened := f.opened ++ [o] })
    if answers then b.answerTxn o false errs else b
/-- FABRIC_TRANSACTION. -/
def Block.fabricTxn (b : Block) (t : Txn) (answers : Bool) (errs : List CodeErr) : Block := b.goTxn t (BitVec.allOnes 256) answers errs
/-- BUSY_REISSUE: a BUSY response to an open transaction arrives (R21). -/
def Block.busyReissue (b : Block) (id : BitVec 16) : Block :=
  match b.openOf id with
  | none => b
  | some o => b.answerTxn o true []
/-- BT_TIMEOUT: the timeout of an open transaction expires (R20). A write that timed out takes no effect when its late response is
discarded (DESIGN CHOICE, log entry 59). -/
def Block.btTimeout (b : Block) (id : BitVec 16) : Block :=
  match b.openOf id with
  | none => b
  | some o => ((b.elapseTo (b.dueAt o)).expire o).onFab (fun f => { f with dead := f.dead ++ [id] })
/-- LATE_RESPONSE: the target's response to a transaction that has timed out (R20). -/
def Block.lateResponse (b : Block) (id : BitVec 16) : Block :=
  if b.fab.dead.contains id then (b.onFab (fun f => { f with dead := f.dead.filter (· ≠ id) })).countLate else b

/-! #### Age promotion by name (R26) -/

/-- The class and the microsecond of issue of a waiting request that is not promoted. -/
def Block.agedReq (b : Block) (r : AgedReq) : Option (Nat × Nat) :=
  match r with
  | .fabric id => (b.openOf id).bind (fun o => if o.promoted then none else some (o.txn.cls.toNat, o.born))
  | .flash id => (b.op id.toNat).bind (fun o => if o.promoted ∨ o.stage ≠ .queued then none else some (o.cls, o.born))
  | .lane id => (b.cz.jobs.find? (fun j => j.id == id.toNat)).bind (fun j => if j.promoted then none else some (jobClass j.desc, j.born))
  | .search k i => (b.seQueue k.toNat)[i.toNat]?.bind (fun q => if q.promoted then none else some (q.cls, q.born))
  | .dramWrite a =>
    ((smGet [] b.ms.wq (b.dramRow a.toNat).subKey).find? (fun w => w.line == a.toNat / 64)).bind (fun w =>
      if w.promoted then none else some (w.cls, w.born))
  | .ticket i => b.pa.waiting[i.toNat]?.bind (fun t => if t.promoted || !t.who.ownRequest then none else some (t.cls, t.born))
/-- AGE_PROMOTION: the age of a waiting request first exceeds its class's limit; every other that has passed its own by then is promoted
too (R26). -/
def Block.agePromote (b : Block) (r : AgedReq) : Block :=
  match b.agedReq r with
  | some (k, born) => if k = 0 then b else (b.elapseTo (born + b.ageLimit k + 1)).promoteAged
  | none => b
/-- A transaction of the rows of the memory system: issued and answered where it lies in a place they name. -/
def Block.serveIn (b : Block) (want : Place → Bool) (write : Bool) (t : Txn) (be : BitVec 256) (errs : List CodeErr) : Block :=
  if t.write = write && (b.placeAt t.addr.toNat (txnLen t)).any want then b.goTxn t be true errs else b

end Sys2Proof.Machine
end

