-- ==== Sys2Proof/Machine/Dm.lean ====
section
/-! DEFINITION. Channel programs (chapter 9): fetching, the six instructions, paced bursts, job completions and halts. -/
namespace Sys2Proof.Machine

/-! ### Instruction fields (R437, R438) -/

/-- The opcode. -/
def dOp (i : BitVec 128) : Nat := iget i 0 4
/-- MOVE: SINC -/
def dSinc (i : BitVec 128) : Bool := i.getLsbD 8
/-- MOVE: DINC -/
def dDinc (i : BitVec 128) : Bool := i.getLsbD 9
/-- MOVE: PACED -/
def dPaced (i : BitVec 128) : Bool := i.getLsbD 10
/-- MOVE: CRC -/
def dCrc (i : BitVec 128) : Bool := i.getLsbD 11
/-- MOVE: SWAP -/
def dSwap (i : BitVec 128) : Nat := iget i 12 2
/-- MOVE: ZJOB -/
def dZjob (i : BitVec 128) : Bool := i.getLsbD 14
/-- REQ -/
def dReq (i : BitVec 128) : Nat := iget i 16 8
/-- LEN, OFFSET or VALUE of bytes 4 to 7 -/
def dWord (i : BitVec 128) : Nat := iget i 32 32
/-- BURST -/
def dBurst (i : BitVec 128) : Nat := iget i 64 16
/-- ADDR -/
def dAddr (i : BitVec 128) : Nat := iget i 64 48
/-- VALUE of SET -/
def dVal (i : BitVec 128) : Nat := iget i 64 64
/-- WAIT: COND -/
def dCond (i : BitVec 128) : Nat := iget i 8 2
/-- SET: REG -/
def dReg (i : BitVec 128) : Nat := iget i 8 3

/-- The bits that an instruction does not name are 0 (R438). -/
def dReserved (i : BitVec 128) : Bool :=
  iget i 4 4 == 0 && iget i 24 8 == 0 && (match dOp i with
    | 1 => iget i 15 1 == 0 && iget i 80 48 == 0
    | 2 => iget i 10 14 == 0 && iget i 64 64 == 0
    | 3 => iget i 10 6 == 0 && iget i 112 16 == 0
    | 4 => iget i 10 14 == 0 && iget i 112 16 == 0
    | 5 => iget i 12 20 == 0 && iget i 32 32 == 0
    | 6 => iget i 11 21 == 0 && iget i 32 32 == 0 && iget i 112 16 == 0
    | _ => false)
/-- BURST is legal for a MOVE (R440). -/
def dBurstOk (i : BitVec 128) : Bool :=
  if dPaced i then (List.range 10).any (fun k => dBurst i == 2 ^ (k + 3)) else dBurst i == 0
/-- A MOVE is legal on the channel's kind (R440, R441, R442). -/
def dMoveOk (util : Bool) (i : BitVec 128) : Bool :=
  dBurstOk i && (if util then dSwap i == 0 else !dCrc i) && (!dZjob i || dWord i == 64)
/-- The width of the register that SET names, in bits, for a channel's CRC width. -/
def dRegBits (crc : Nat) (r : Nat) : Nat :=
  match r with
  | 0 | 1 => 48
  | 2 | 3 => 6
  | 4 | 5 => 32
  | _ => crc
/-- A wrap that a channel keeps. -/
def wrapOk (w : Nat) : Bool := w == 0 || decide (6 ≤ w ∧ w ≤ 40)
/-- A SET is legal (R446): `old` is the register's value. -/
def dSetOk (util : Bool) (crc old : Nat) (i : BitVec 128) : Bool :=
  let r := dReg i
  let add := i.getLsbD 11
  r != 7 && (r != 6 || (util && !add)) && decide (dVal i < 2 ^ dRegBits crc r) &&
    (!(r == 2 || r == 3) || wrapOk (if add then (old + dVal i) % 64 else dVal i))
/-- The value that SET names the register of. -/
def Chan.regOf (c : Chan) (r : Nat) : Nat :=
  match r with
  | 0 => c.src | 1 => c.dst | 2 => c.srcWrap | 3 => c.dstWrap | 4 => c.lc.1.toNat | 5 => c.lc.2.toNat | _ => c.crc.toNat
/-- The CRC of a channel is a CRC-64 (CH_CTL.CRC). -/
def Block.chCrc64 (b : Block) (n : Nat) : Bool := b.rdF (pgDmCh n + 0x104) 0 0 == 1
/-- Bits of the channel's CRC. -/
def Block.chCrcBits (b : Block) (n : Nat) : Nat := if b.chCrc64 n then 64 else 32
/-- An instruction halts with ILLEGAL (R437, R438, R440, R441, R442, R446, R448). -/
def Block.chIllegal (b : Block) (n : Nat) (i : BitVec 128) : Bool :=
  !dReserved i || (match dOp i with
    | 1 => !dMoveOk (isUtil n) i
    | 5 => !dSetOk (isUtil n) (b.chCrcBits n) ((b.chan n).regOf (dReg i)) i
    | 6 => i.getLsbD 8 && !isUtil n
    | _ => false)

/-- The kinds of instruction that have rows of their own. -/
inductive DmKind where
  | move | zjob | loop | waitJobs | waitReq | waitEq | waitGe | signal | set | end_
deriving DecidableEq, Repr

/-- The kind of a legal instruction. -/
def dKind (i : BitVec 128) : Option DmKind :=
  match dOp i with
  | 1 => some (if dZjob i then .zjob else .move)
  | 2 => some .loop
  | 3 => some (match dCond i with | 0 => .waitJobs | 1 => .waitReq | 2 => .waitEq | _ => .waitGe)
  | 4 => some .signal
  | 5 => some .set
  | 6 => some .end_
  | _ => none

/-! ### Transactions of a channel (R433, R434, R452-R454) -/

/-- An advance of an address under a wrap (R452). -/
def advance (w a k : Nat) : Nat := if w = 0 then (a + k) % 2 ^ 48 else a / 2 ^ w * 2 ^ w + (a + k) % 2 ^ w
/-- Bytes that one transaction may take from an address: to the next 256-byte or wrap boundary (R453). -/
def spanAt (w a len : Nat) : Nat :=
  let m := min len (256 - a % 256)
  if w = 0 then m else min m (2 ^ w - a % 2 ^ w)
/-- Window k of a channel covers a span for an access: bit 0 read, 1 write, 2 execute. -/
def Block.chWinHas (b : Block) (n k a len perm : Nat) : Bool :=
  let base := ((b.rd (pgDmCh n + 0x150 + 8 * k)).toNat + b.rdF (pgDmCh n + 0x154 + 8 * k) 0 3 * 2 ^ 32) * 4096
  let size := b.rdF (pgDmCh n + 0x154 + 8 * k) 4 9
  size != 0 && decide (base ≤ a ∧ a + len ≤ base + 2 ^ size) && b.rdF (pgDmCh n + 0x154 + 8 * k) (10 + perm) (10 + perm) == 1
/-- A transaction lies in the windows of a channel, or the channel is tenant 0's (R434). -/
def Block.chWinOk (b : Block) (n a len perm : Nat) : Bool :=
  b.chTenant n == 0 || (List.range 4).any (fun k => b.chWinHas n k a len perm)
/-- A channel's request to the Big Top. -/
def Block.chReq (b : Block) (n a len : Nat) : BusReq :=
  ⟨(chPort n).setWidth 8, b.chCls n, BitVec.ofNat 6 (b.chTenant n), a, len, 0, false⟩
/-- The halt status of a response; 0 for data that may be used (R465). -/
def respHalt : Resp → Nat
  | .ok => 0 | .poison => 0x13 | .tenant => 0x17 | .decode | .timeout | .busy | .offline => 0x11
/-- No response arrives within the timeout. -/
def Block.noAnswer (b : Block) (q : BusReq) (write : Bool) : Block :=
  let t := b.rdF (pgBus + 0x100) 0 12
  (b.elapse t).btCode { q with age := t } write .timeout
/-- A read by a channel: halt status, data. -/
def Block.chRead (b : Block) (n a len perm : Nat) (tmo : Bool) : Nat × Nat × Block :=
  if !b.chWinOk n a len perm then (0x16, 0, b)
  else if tmo then (0x11, 0, b.noAnswer (b.chReq n a len) false)
  else
    let (r, v, b) := b.busRead (b.chReq n a len) []
    (respHalt r, v, b)
/-- A write by a channel: halt status. -/
def Block.chWrite (b : Block) (n a len : Nat) (data : Nat) (tmo : Bool) : Nat × Block :=
  if !b.chWinOk n a len 1 then (0x16, b)
  else if tmo then (0x11, b.noAnswer (b.chReq n a len) true)
  else
    let (r, b) := b.busWrite (b.chReq n a len) [] (BitVec.allOnes 256) (BitVec.ofNat 2048 data)
    (respHalt r, b)
/-- A read of a span in as many transactions as its boundaries need: halt status, failing address, data. -/
def Block.chReadSpan (n w perm : Nat) (tmo : Bool) : Nat → Block → Nat → Nat → Nat × Nat × Nat × Block
  | 0, b, a, _ => (0, a, 0, b)
  | fuel + 1, b, a, len =>
    if len = 0 then (0, a, 0, b)
    else
      let k := spanAt w a len
      let (st, v, b) := b.chRead n a k perm tmo
      if st ≠ 0 then (st, a, 0, b)
      else
        let (st, fa, rest, b) := Block.chReadSpan n w perm tmo fuel b (advance w a k) (len - k)
        (st, fa, v + rest * 2 ^ (8 * k), b)
/-- A byte that a failed write may have changed takes a free value (R467). -/
def Block.maybeWritten (n : Nat) (b : Block) (a : Nat) : Block :=
  let inMem := match b.placeAt a 1 with
    | some .dram | some .staging | some (.shared _) | some (.bank _) | some .aonSram => true
    | _ => false
  if inMem && b.chWinOk n a 1 1 && decide (b.busCheck (b.chReq n a 1) true = .ok) then
    let (v, b) := b.free
    b.setByte a (v.setWidth 8)
  else b

/-! ### Fetch (R451) -/

/-- The instructions that a 64-byte fetch holds from the program counter on. -/
def fetched (pc v : Nat) : List (Nat × BitVec 128) :=
  ((List.range 4).map (fun k => (pc / 64 * 64 + 16 * k, BitVec.ofNat 128 (v / 2 ^ (128 * k))))).filter (fun e => decide (pc ≤ e.1))
/-- The instruction at the program counter: halt status, instruction, and the block after the fetch where one was needed. -/
def Block.chFetch (b : Block) (n : Nat) : Nat × BitVec 128 × Block :=
  let c := b.chan n
  match c.ahead.find? (fun e => e.1 == c.pc) with
  | some e => (0, e.2, b)
  | none =>
    let (st, v, b) := b.chRead n (c.pc / 64 * 64) 64 2 false
    if st = 0 then (0, BitVec.ofNat 128 (v / 2 ^ (8 * (c.pc % 64))), b.modChan n (fun c => { c with ahead := fetched c.pc v }))
    else (if st = 0x11 ∨ st = 0x13 then 0x12 else st, 0, b)
/-- The channel executes instructions: RUNNING, or STOPPING inside one. -/
def Block.chLive (b : Block) (n : Nat) : Bool := (b.chan n).st == 1 || ((b.chan n).st == 3 && (b.chan n).mid)
/-- The channel's next instruction, where it is of a kind; an illegal instruction or a failed fetch halts the channel. -/
def Block.chExec (b : Block) (n : Nat) (k : DmKind) (f : Block → BitVec 128 → Block) : Block :=
  if !b.chLive n then b
  else
    let (st, i, b1) := b.chFetch n
    let pc := (b.chan n).pc
    if st ≠ 0 then b1.chHalt n st 0 0 pc
    else if b.chIllegal n i then b1.chHalt n 0x14 (dOp i) 0 pc
    else if dKind i = some k then f b1 i
    else b
/-- The next instruction: the present one is complete. -/
def Block.chNext (b : Block) (n : Nat) : Block :=
  (b.modChan n (fun c => { c with pc := (c.pc + 16) % 2 ^ 48, mid := false, waiting := false, pat := none })).chBoundary n
/-- An instruction is executed and counted; at the limit the channel halts before it has any effect (R466). -/
def Block.chCount (b : Block) (n op : Nat) (f : Block → Block) : Block :=
  let b := b.modChan n (fun c => { c with spin := c.spin + 1 })
  if b.rdF (pgDm + 0x100) 0 19 ≤ (b.chan n).spin then b.chHalt n 0x10 op 0 (b.chan n).pc else f b
/-- The line that an instruction names may be used by the channel (R455). -/
def Block.chLineOk (b : Block) (n l : Nat) : Bool := b.chTenant n == 0 || b.lineTenant l == b.chTenant n

/-! ### MOVE (R440-R442, R452, R456, R467) -/

/-- A MOVE breaks an alignment rule of R440 or R441. -/
def moveMisaligned (n : Nat) (c : Chan) (i : BitVec 128) : Bool :=
  let w := chWidth n
  let len := dWord i
  let u := match dSwap i with | 0 => 1 | 1 => 2 | _ => 4
  ((!dSinc i || !dDinc i) && len % w != 0) || (!dSinc i && c.src % w != 0) || (!dDinc i && c.dst % w != 0) ||
    c.src % u != 0 || c.dst % u != 0 || len % u != 0
/-- A MOVE would pass 2^48 (R452). -/
def moveOverflows (c : Chan) (i : BitVec 128) : Bool :=
  (dSinc i && c.srcWrap == 0 && decide (2 ^ 48 < c.src + dWord i)) ||
    (dDinc i && c.dstWrap == 0 && decide (2 ^ 48 < c.dst + (if dZjob i then 32 else dWord i)))
/-- Byte `k` of swapped data comes from this place (R441). -/
def swapIx (s k : Nat) : Nat :=
  match s with
  | 0 => k
  | 1 => k / 2 * 2 + (1 - k % 2)
  | 2 => k / 4 * 4 + (3 - k % 4)
  | _ => k / 4 * 4 + (k + 2) % 4
/-- Byte `k` of a number. -/
def natByte (v k : Nat) : Byte := BitVec.ofNat 8 (v / 2 ^ (8 * k))
/-- A list of bytes as a number. -/
def bytesNat (xs : List Byte) : Nat := xs.foldr (fun x v => x.toNat + 256 * v) 0
/-- The running CRC in stored form, extended. -/
def Block.chCrcOver (b : Block) (n : Nat) (old : W64) (xs : List Byte) : W64 :=
  if b.chCrc64 n then crcExtend poly64 old xs else (crcExtend poly32c (old.setWidth 32) xs).setWidth 64
/-- The bytes of the next piece of a MOVE: halt status, failing address, bytes in source order. A descriptor is read whole, with
SINC 0 too (R442). -/
def Block.pieceData (b : Block) (n : Nat) (i : BitVec 128) (len : Nat) (tmo : Bool) : Nat × Nat × List Byte × Block :=
  let c := b.chan n
  if dSinc i || dZjob i then
    let (st, a, v, b) := Block.chReadSpan n (if dSinc i then c.srcWrap else 0) 0 tmo 6 b c.src len
    (st, a, (List.range len).map (natByte v), b)
  else
    let w := chWidth n
    let at_ := fun (v : Nat) => (List.range len).map (fun k => natByte v ((c.moved + k) % w))
    match c.pat with
    | some p => (0, c.src, at_ p.toNat, b)
    | none =>
      let (st, v, b) := b.chRead n c.src w 0 tmo
      let b := if st = 0 then b.modChan n (fun c => { c with pat := some (BitVec.ofNat 512 v) }) else b
      (st, c.src, at_ v, b)
/-- Bytes of the next piece of a MOVE with `left` bytes to go. -/
def pieceLen (n : Nat) (c : Chan) (i : BitVec 128) (left : Nat) : Nat :=
  let s := if dSinc i then spanAt c.srcWrap c.src left else left
  if dDinc i then spanAt c.dstWrap c.dst s else min s (chWidth n - c.moved % chWidth n)
/-- The destination bytes past CH_MOVED after a failed write (R467). -/
def Block.spoil (b : Block) (n : Nat) (i : BitVec 128) : Block :=
  let c := b.chan n
  if dDinc i then b.each ((List.range c.remain).map (advance c.dstWrap c.dst)) (Block.maybeWritten n)
  else b.each ((List.range (chWidth n)).map (c.dst + ·)) (Block.maybeWritten n)
/-- One piece is moved: halt status, failing address. `tmo` says that its read, or its write, gets no answer. -/
def Block.movePiece (b : Block) (n : Nat) (i : BitVec 128) (left : Nat) (tmoR tmoW : Bool) : Nat × Nat × Block :=
  let len := pieceLen n (b.chan n) i left
  let (st, a, xs, b) := b.pieceData n i len tmoR
  if st ≠ 0 then (st, a, b)
  else
    let c := b.chan n
    let da := if dDinc i then c.dst else c.dst + c.moved % chWidth n
    let out := (List.range len).map (fun k => xs[swapIx (dSwap i) k]?.getD 0)
    let (st, b) := b.chWrite n da len (bytesNat out) tmoW
    if st = 0x16 then (st, da, b)
    else if st ≠ 0 then (st, da, b.spoil n i)
    else
      let crc := if dCrc i then b.chCrcOver n c.crc xs else c.crc
      (0, 0, b.modChan n (fun c => { c with
        src := if dSinc i then advance c.srcWrap c.src len else c.src
        dst := if dDinc i then advance c.dstWrap c.dst len else c.dst
        crc := crc
        moved := c.moved + len
        remain := c.remain - len
        spin := 0 }))
/-- Pieces are moved until `left` bytes have gone; piece `k` reads as transaction 2k and writes as 2k + 1, and the transaction that
`tmo` numbers gets no answer. -/
def Block.movePieces (n : Nat) (i : BitVec 128) (tmo : Option Nat) : Nat → Block → Nat → Nat → Nat × Nat × Block
  | 0, b, _, _ => (0, 0, b)
  | fuel + 1, b, k, left =>
    if left = 0 then (0, 0, b)
    else
      let len := pieceLen n (b.chan n) i left
      let (st, a, b) := b.movePiece n i left (tmo == some (2 * k)) (tmo == some (2 * k + 1))
      if st ≠ 0 then (st, a, b) else Block.movePieces n i tmo fuel b (k + 1) (left - len)
/-- `left` bytes of a MOVE are moved; the channel halts where a transaction fails. -/
def Block.moveRun (b : Block) (n : Nat) (i : BitVec 128) (left : Nat) (tmo : Option W32) (f : Block → Block) : Block :=
  let (st, a, b) := Block.movePieces n i (tmo.map (·.toNat)) (left + 1) b 0 left
  if st ≠ 0 then b.chHalt n st 1 (if dPaced i then dReq i else 0) a else f b
/-- A MOVE begins, or halts before its first byte (R440, R441, R452, R455). -/
def Block.moveStart (b : Block) (n : Nat) (i : BitVec 128) (f : Block → Block) : Block :=
  let c := b.chan n
  if c.mid then f b
  else
    let go := fun (b : Block) =>
      if dPaced i && !b.chLineOk n (dReq i) then b.chHalt n 0x16 1 (dReq i) c.pc
      else if moveMisaligned n c i then b.chHalt n 0x15 1 0 (if !dSinc i || c.src % 4 != 0 then c.src else c.dst)
      else if moveOverflows c i then b.chHalt n 0x11 1 0 c.src
      else f (b.modChan n (fun c => { c with mid := true, moved := 0, remain := dWord i, pat := none }))
    if dWord i = 0 then b.chCount n 1 go else go (b.modChan n (fun c => { c with spin := c.spin + 1 }))
/-- MOVE: a whole unpaced copy, or the start of a paced one (R440). -/
def Block.dmMove (b : Block) (n : Nat) (tmo : Option W32) : Block :=
  b.chExec n .move (fun b i =>
    if (b.chan n).waiting then b
    else b.moveStart n i (fun b =>
      if dPaced i && (b.chan n).remain != 0 then b.modChan n (fun c => { c with waiting := true })
      else b.moveRun n i (b.chan n).remain tmo (fun b => b.chNext n)))
/-- The descriptor with the grant's tenant and class (R442). -/
def Block.zjobDesc (b : Block) (n : Nat) (v : Nat) : BitVec 512 :=
  let d : BitVec 512 := BitVec.ofNat 512 v
  let mask : BitVec 512 := BitVec.ofNat 512 (63 * 2 ^ 13 + 3 * 2 ^ 19)
  (d &&& ~~~mask) ||| BitVec.ofNat 512 (b.chTenant n * 2 ^ 13 + b.chCls n * 2 ^ 19)
/-- The descriptor at SRC is read and submitted. -/
def Block.zjobGo (b : Block) (n : Nat) (i : BitVec 128) (tmo : Option W32) (f : Block → Block) : Block :=
  let (st, a, xs, b) := b.pieceData n i 64 tmo.isSome
  if st ≠ 0 then b.chHalt n st 1 (if dPaced i then dReq i else 0) a
  else
    let out := (List.range 64).map (fun k => xs[swapIx (dSwap i) k]?.getD 0)
    let c := b.chan n
    let crc := if dCrc i then b.chCrcOver n c.crc xs else c.crc
    let b := b.setChan n { c with
      jobs := c.jobs ++ [(b.cz.nextJob, c.dst)]
      crc := crc
      moved := 64
      remain := 0
      spin := 0
      src := if dSinc i then advance c.srcWrap c.src 64 else c.src
      dst := if dDinc i then advance c.dstWrap c.dst 32 else c.dst }
    f (b.submitJob (b.zjobDesc n (bytesNat out)) (.dma n))
/-- Jobs outstanding (JOBS). -/
def Chan.jobsOut (c : Chan) : Nat := c.jobs.length + c.ended.length
/-- MOVE with ZJOB: a job is submitted; at eight jobs it waits, and a paced one waits for its line (R442). -/
def Block.dmZjob (b : Block) (n : Nat) (tmo : Option W32) : Block :=
  b.chExec n .zjob (fun b i => b.moveStart n i (fun b =>
    if dPaced i || decide (8 ≤ (b.chan n).jobsOut) then b.modChan n (fun c => { c with waiting := true })
    else b.zjobGo n i tmo (fun b => b.chNext n)))
/-- The request of a line is acknowledged (R456-R458). -/
def Block.chAck (b : Block) (n l : Nat) (late : Bool) : Block :=
  let b := b.lineClr l
  let b := if late then (b.inc (pgDm + 0x104)).raise pgDm 0 else b
  b.dlvTaken n
/-- PACED_BURST: the line of a paced MOVE that waits is asserted, and one burst moves; `late` is a withdrawal during it. -/
def Block.dmBurst (b : Block) (n : Nat) (late : Bool) (tmo : Option W32) : Block :=
  let c := b.chan n
  if !b.chLive n || !c.mid || !c.waiting then b
  else
    let (st, i, b1) := b.chFetch n
    let l := dReq i
    if st ≠ 0 then b1.chHalt n st 1 0 c.pc
    else if b.chIllegal n i || dOp i ≠ 1 || !dPaced i || !b.lineUp l then b
    else if dZjob i then
      if 8 ≤ c.jobsOut then b else b1.zjobGo n i tmo (fun b => (b.chAck n l late).chNext n)
    else b1.moveRun n i (min (dBurst i) c.remain) tmo (fun b =>
      let b := b.chAck n l late
      if (b.chan n).remain = 0 then b.chNext n else b)

/-- The clusters whose delivery a channel serves. -/
def Block.dlvOf (b : Block) (n : Nat) : List Nat := (List.range 12).filter (fun m => b.has .cxCluster m && b.dlvOn m && b.dlvCh m == n)
/-- A completion that lands in a cluster's completion ring is taken by the cluster (R636). -/
def Block.dlvLands (b : Block) (n a status : Nat) : Block :=
  b.each (b.dlvOf n) (fun b m =>
    let base := clBase m + 0x1000
    if base ≤ a ∧ a < base + 0x1000 then b.dlvDone m ((a - base) / 32) status else b)
/-- ZJOB_COMPLETION: the completion of an ended job is written at the DST of its submission (R442). -/
def Block.dmZjobDone (b : Block) (n : Nat) (tmo : Option W32) : Block :=
  let c := b.chan n
  match c.ended with
  | [] => b
  | (a, w) :: rest =>
    let b := b.setChan n { c with ended := rest }
    let (st, b) := b.chWrite n a 32 w.toNat tmo.isSome
    if st ≠ 0 then (if b.chBusy n then b.chHalt n st 1 0 a else b)
    else (b.dlvLands n a (w.toNat % 256)).chBoundary n

/-! ### LOOP, SIGNAL, SET, END (R443, R445-R448) -/

/-- A signed 32-bit number. -/
def sgn32 (v : Nat) : Int := (BitVec.ofNat 32 v).toInt
/-- The program counter after a jump of a number of instructions. -/
def jumpPc (pc : Nat) (k : Int) : Nat := (((pc : Int) + k * 16) % (2 ^ 48 : Int)).toNat
/-- LOOP (R443). -/
def Block.dmLoop (b : Block) (n : Nat) : Block :=
  b.chExec n .loop (fun b i => b.chCount n 2 (fun b =>
    let c := b.chan n
    let ctr := if i.getLsbD 8 then c.lc.2 else c.lc.1
    let dest := jumpPc c.pc (sgn32 (dWord i))
    if i.getLsbD 9 then (b.setChan n { c with pc := dest, ahead := [] }).chBoundary n
    else if ctr = 0 then b.chNext n
    else
      let lc := if i.getLsbD 8 then (c.lc.1, ctr - 1) else (ctr - 1, c.lc.2)
      (b.setChan n { c with pc := dest, ahead := [], lc := lc }).chBoundary n))
/-- A write of `len` bytes by SIGNAL or END; bytes that got no answer may have been written. -/
def Block.chStore (b : Block) (n op a len v : Nat) (tmo : Bool) (f : Block → Block) : Block :=
  let (st, b) := b.chWrite n a len v tmo
  if st = 0 then f b
  else
    let b := if tmo then b.each ((List.range len).map (a + ·)) (Block.maybeWritten n) else b
    b.chHalt n st op 0 a
/-- SIGNAL (R445). -/
def Block.dmSignal (b : Block) (n : Nat) (tmo : Option W32) : Block :=
  b.chExec n .signal (fun b i => b.chCount n 4 (fun b =>
    let done := fun (b : Block) => (if i.getLsbD 8 then b.raise (pgDmCh n) 1 |>.chWakes n else b).chNext n
    if i.getLsbD 9 then
      if dAddr i % 4 ≠ 0 then b.chHalt n 0x15 4 0 (dAddr i) else b.chStore n 4 (dAddr i) 4 (dWord i) tmo.isSome done
    else done b))
/-- A value of SET put into its register. -/
def Chan.setReg (c : Chan) (r v : Nat) : Chan :=
  match r with
  | 0 => { c with src := v }
  | 1 => { c with dst := v }
  | 2 => { c with srcWrap := v }
  | 3 => { c with dstWrap := v }
  | 4 => { c with lc := (BitVec.ofNat 32 v, c.lc.2) }
  | 5 => { c with lc := (c.lc.1, BitVec.ofNat 32 v) }
  | _ => { c with crc := BitVec.ofNat 64 v }
/-- SET (R446, R447). -/
def Block.dmSet (b : Block) (n : Nat) : Block :=
  b.chExec n .set (fun b i => b.chCount n 5 (fun b =>
    let c := b.chan n
    let r := dReg i
    let wrap := if r = 0 then c.srcWrap else c.dstWrap
    if i.getLsbD 11 then
      if r = 0 ∨ r = 1 then
        if wrap = 0 ∧ 2 ^ 48 < c.regOf r + dVal i then b.chHalt n 0x11 5 0 (c.regOf r)
        else (b.setChan n (c.setReg r (advance wrap (c.regOf r) (dVal i)))).chNext n
      else (b.setChan n (c.setReg r ((c.regOf r + dVal i) % 2 ^ dRegBits 64 r))).chNext n
    else (b.setChan n (c.setReg r (dVal i))).chNext n))
/-- The CRC as END stores it, least significant byte first or last (R448). -/
def crcStored (crc : W64) (len : Nat) (be : Bool) : Nat :=
  let xs := (List.range len).map (natByte crc.toNat)
  bytesNat (if be then xs.reverse else xs)
/-- END (R448). -/
def Block.dmEnd (b : Block) (n : Nat) (tmo : Option W32) : Block :=
  b.chExec n .end_ (fun b i =>
    let len := b.chCrcBits n / 8
    let finish := fun (b : Block) =>
      let b := b.modChan n (fun c => { c with st := 2, mid := false, waiting := false, pc := (c.pc + 16) % 2 ^ 48, ahead := [] })
      if i.getLsbD 9 then (b.raise (pgDmCh n) 0).chWakes n else b
    let go := fun (b : Block) =>
      if (b.chan n).jobsOut ≠ 0 then b.modChan n (fun c => { c with mid := true })
      else if i.getLsbD 8 then
        if dAddr i % len ≠ 0 then b.chHalt n 0x15 6 0 (dAddr i)
        else b.chStore n 6 (dAddr i) len (crcStored (b.chan n).crc len (i.getLsbD 10)) tmo.isSome finish
      else finish b
    if (b.chan n).mid then go b else b.chCount n 6 go)

/-! ### WAIT (R444) -/

/-- A WAIT begins, or is looked at again: it is counted once. -/
def Block.waitStart (b : Block) (n : Nat) (f : Block → Block) : Block :=
  if (b.chan n).waiting then f b else b.chCount n 3 (fun b => f (b.modChan n (fun c => { c with waiting := true })))
/-- A condition is true, or the WAIT goes on, to be abandoned where the channel was told to stop (R461). -/
def Block.waitOn (b : Block) (n : Nat) (c : Bool) : Block := if c then b.chNext n else b.chBoundary n
/-- WAIT JOBS. -/
def Block.dmWaitJobs (b : Block) (n : Nat) : Block :=
  b.chExec n .waitJobs (fun b _ => b.waitStart n (fun b => b.waitOn n ((b.chan n).jobsOut == 0)))
/-- WAIT REQ; the request is not consumed. -/
def Block.dmWaitReq (b : Block) (n : Nat) : Block :=
  b.chExec n .waitReq (fun b i => b.waitStart n (fun b =>
    if !b.chLineOk n (dReq i) then b.chHalt n 0x16 3 (dReq i) (b.chan n).pc else b.waitOn n (b.lineUp (dReq i))))
/-- The condition of a memory WAIT on a word. -/
def waitTrue (i : BitVec 128) (v : W32) : Bool :=
  if dCond i = 2 then v == BitVec.ofNat 32 (dWord i) else decide (0 ≤ (v - BitVec.ofNat 32 (dWord i)).toInt)
/-- The word of a memory WAIT is read; a poisoned word's value is not given, so a free value stands for it. -/
def Block.waitRead (b : Block) (n : Nat) (i : BitVec 128) (tmo : Bool) : Block :=
  let a := dAddr i
  if a % 4 ≠ 0 then b.chHalt n 0x15 3 0 a
  else
    let (st, v, b) := b.chRead n a 4 0 tmo
    let b := b.modChan n (fun c => { c with polled := b.usec })
    if st = 0x13 then
      let (x, b) := b.free
      b.waitOn n (waitTrue i (x.setWidth 32))
    else if st ≠ 0 then b.chHalt n st 3 0 a
    else b.waitOn n (waitTrue i (BitVec.ofNat 32 v))
/-- A memory WAIT on arrival. -/
def Block.dmWaitMem (b : Block) (n : Nat) (k : DmKind) (tmo : Option W32) : Block :=
  b.chExec n k (fun b i => if (b.chan n).waiting then b else b.waitStart n (fun b => b.waitRead n i tmo.isSome))
/-- WAIT_POLL: 1 µs after the last read of a memory WAIT. -/
def Block.dmPoll (b : Block) (n : Nat) (tmo : Option W32) : Block :=
  let c := b.chan n
  let (st, i, b1) := b.chFetch n
  if !b.chLive n || !c.waiting || st ≠ 0 || !(dKind i == some .waitEq || dKind i == some .waitGe) then b
  else (b1.elapseTo (c.polled + 1)).waitRead n i tmo.isSome

/-! ### The commands of chapter 9 -/

/-- START (R460). -/
def execStart (port ch : BitVec 6) (s : State) : Host.Outcome State Fault Refusal := s.run (fun b => b.regWrite4 port (pgDmCh ch.toNat + 0x110) 1)
/-- STOP (R460, R461). -/
def execStop (port ch : BitVec 6) (s : State) : Host.Outcome State Fault Refusal := s.run (fun b => b.regWrite4 port (pgDmCh ch.toNat + 0x110) 2)
/-- RESUME (R460). -/
def execResume (port ch : BitVec 6) (s : State) : Host.Outcome State Fault Refusal :=
  s.run (fun b => b.regWrite4 port (pgDmCh ch.toNat + 0x110) 3)
/-- MOVE (R440). -/
def execMove (ch : BitVec 6) (tmo : Option W32) (s : State) : Host.Outcome State Fault Refusal := s.run (fun b => b.dmMove ch.toNat tmo)
/-- MOVE_ZJOB (R442). -/
def execMoveZjob (ch : BitVec 6) (tmo : Option W32) (s : State) : Host.Outcome State Fault Refusal := s.run (fun b => b.dmZjob ch.toNat tmo)
/-- ZJOB_COMPLETION (R442). -/
def execZjobCompletion (ch : BitVec 6) (tmo : Option W32) (s : State) : Host.Outcome State Fault Refusal :=
  s.run (fun b => b.dmZjobDone ch.toNat tmo)
/-- PACED_BURST (R456-R459). -/
def execPacedBurst (ch : BitVec 6) (late : Bool) (tmo : Option W32) (s : State) : Host.Outcome State Fault Refusal :=
  s.run (fun b => b.dmBurst ch.toNat late tmo)
/-- LOOP (R443). -/
def execLoop (ch : BitVec 6) (s : State) : Host.Outcome State Fault Refusal := s.run (fun b => b.dmLoop ch.toNat)
/-- WAIT_JOBS (R444). -/
def execWaitJobs (ch : BitVec 6) (s : State) : Host.Outcome State Fault Refusal := s.run (fun b => b.dmWaitJobs ch.toNat)
/-- WAIT_REQ (R444). -/
def execWaitReq (ch : BitVec 6) (s : State) : Host.Outcome State Fault Refusal := s.run (fun b => b.dmWaitReq ch.toNat)
/-- WAIT_MEM_EQ (R444). -/
def execWaitMemEq (ch : BitVec 6) (tmo : Option W32) (s : State) : Host.Outcome State Fault Refusal :=
  s.run (fun b => b.dmWaitMem ch.toNat .waitEq tmo)
/-- WAIT_MEM_GE (R444). -/
def execWaitMemGe (ch : BitVec 6) (tmo : Option W32) (s : State) : Host.Outcome State Fault Refusal :=
  s.run (fun b => b.dmWaitMem ch.toNat .waitGe tmo)
/-- WAIT_POLL (R444). -/
def execWaitPoll (ch : BitVec 6) (tmo : Option W32) (s : State) : Host.Outcome State Fault Refusal := s.run (fun b => b.dmPoll ch.toNat tmo)
/-- SIGNAL (R445). -/
def execSignal (ch : BitVec 6) (tmo : Option W32) (s : State) : Host.Outcome State Fault Refusal := s.run (fun b => b.dmSignal ch.toNat tmo)
/-- SET (R446). -/
def execSetReg (ch : BitVec 6) (s : State) : Host.Outcome State Fault Refusal := s.run (fun b => b.dmSet ch.toNat)
/-- END (R448). -/
def execEndProg (ch : BitVec 6) (tmo : Option W32) (s : State) : Host.Outcome State Fault Refusal := s.run (fun b => b.dmEnd ch.toNat tmo)
/-- REQ_SW_WRITE (R458). -/
def execReqSwWrite (port : BitVec 6) (i : BitVec 3) (v : W32) (s : State) : Host.Outcome State Fault Refusal :=
  s.run (fun b => b.regWrite4 port (pgDm + 0x120 + 4 * i.toNat) v)
/-- REQ_SWC_WRITE (R458). -/
def execReqSwcWrite (port : BitVec 6) (i : BitVec 3) (v : W32) (s : State) : Host.Outcome State Fault Refusal :=
  s.run (fun b => b.regWrite4 port (pgDm + 0x160 + 4 * i.toNat) v)

end Sys2Proof.Machine
end

