-- ==== Sys2Proof/Machine/Deflate.lean ====
section
/-! DEFINITION. The decoder of DEFLATE, zlib and gzip streams (R346, R347, R350, R378), as RFC 1950 to 1952, which R346 names, define
the formats. Statuses are those of R378: 0x10 MALFORMED, 0x11 DISTANCE, 0x14 CHECK_FAIL, 0x15 DICT. -/
namespace Sys2Proof.Machine

/-- What reading from a stream comes to: a value and what is left, an input that ends too early, or a status of R378. -/
inductive Rd (σ α : Type) where
  | ok (a : α) (rest : σ)
  | more
  | bad (status : Nat)
deriving DecidableEq, Repr

/-- Read on. -/
def Rd.bind {σ α β : Type} (r : Rd σ α) (f : α → σ → Rd σ β) : Rd σ β :=
  match r with
  | .ok a l => f a l
  | .more => .more
  | .bad e => .bad e

/-- The bits of bytes, each least significant first. -/
def byteBits (xs : List Byte) : List Bool := xs.flatMap (fun x => (List.range 8).map (fun k => x.getLsbD k))
/-- The number that bits spell, least significant first. -/
def bitsNat : List Bool → Nat
  | [] => 0
  | b :: l => b.toNat + 2 * bitsNat l
/-- Read `n` bits, least significant first. -/
def getBits : Nat → List Bool → Rd (List Bool) Nat
  | 0, l => .ok 0 l
  | _ + 1, [] => .more
  | n + 1, b :: l => (getBits n l).bind (fun v l => .ok (b.toNat + 2 * v) l)
/-- Read `n` bytes. -/
def getBytes : Nat → List Bool → Rd (List Bool) (List Byte)
  | 0, l => .ok [] l
  | n + 1, l => (getBits 8 l).bind (fun x l => (getBytes n l).bind (fun xs l => .ok (BitVec.ofNat 8 x :: xs) l))

/-! ### Codes -/

/-- A prefix code: for each length from 1 on, its symbols in order. -/
abbrev Code := List (List Nat)
/-- The code that lengths of symbols 0, 1, ... describe; length 0 is no code word. -/
def codeOf (maxLen : Nat) (lens : List Nat) : Code :=
  (List.range maxLen).map (fun k => (lens.zipIdx.filter (fun x => x.1 == k + 1)).map (·.2))
/-- The Kraft sum of lengths, in units of 2^-15. -/
def kraftOf (lens : List Nat) : Nat := (lens.map (fun l => if l = 0 then 0 else 2 ^ (15 - l))).sum
/-- Read a symbol: `first` is the first code word of this length, `code` the bits read so far. -/
def getSym : Code → Nat → Nat → List Bool → Rd (List Bool) Nat
  | [], _, _, _ => .bad 0x10
  | _ :: _, _, _, [] => .more
  | s :: ss, first, code, b :: l =>
    let code := code + b.toNat
    match s[code - first]? with
    | some x => .ok x l
    | none => getSym ss (2 * (first + s.length)) (2 * code) l

/-! ### Blocks (RFC 1951) -/

/-- What a lane has of a block. -/
structure BlkRec where
  /-- BFINAL -/
  last : Bool
  /-- BTYPE -/
  typ : Nat
  /-- the header's bits, for a dynamic block -/
  hdr : List Bool
  /-- bits that were left before the block -/
  left : Nat
  /-- bytes of output before the block -/
  start : Nat
deriving DecidableEq, Repr

/-- How decoding stops. -/
inductive Stop where
  /-- at the end of the stream -/
  | ended
  /-- the input has ended and the stream has not -/
  | more
  /-- with a status of R378 -/
  | bad (status : Nat)
deriving DecidableEq, Repr

/-- What decoding comes to. -/
structure Decoded where
  /-- the output, newest first -/
  out : List Byte := []
  /-- the blocks, newest first -/
  blks : List BlkRec := []
  /-- a match of length 3 occurred -/
  short : Bool := false
  /-- bits not consumed -/
  left : Nat := 0
  /-- the input ended between blocks -/
  edge : Bool := false
  /-- the input ended in a block -/
  inBlk : Bool := false
  /-- how it stops -/
  stop : Stop := .more
deriving DecidableEq, Repr

/-- Copy `n` bytes from distance `d`. -/
def copyBack (d : Nat) : Nat → List Byte → List Byte
  | 0, o => o
  | n + 1, o => copyBack d n ((o[d - 1]?).getD 0 :: o)

/-- Base lengths of symbols 257 on. -/
def lenBase : List Nat :=
  [3, 4, 5, 6, 7, 8, 9, 10, 11, 13, 15, 17, 19, 23, 27, 31, 35, 43, 51, 59, 67, 83, 99, 115, 131, 163, 195, 227, 258]
/-- Extra bits of a length symbol. -/
def lenExtra (k : Nat) : Nat := if k < 4 ∨ k = 28 then 0 else (k - 4) / 4
/-- Extra bits of a distance symbol. -/
def distExtra (k : Nat) : Nat := (k - 2) / 2
/-- The base of a distance symbol. -/
def distBase (k : Nat) : Nat := if k < 4 then k + 1 else (2 + k % 2) * 2 ^ distExtra k + 1
/-- The length and distance after a length symbol. -/
def getMatch (dist : Code) (sym : Nat) (l : List Bool) : Rd (List Bool) (Nat × Nat) :=
  match lenBase[sym - 257]? with
  | none => .bad 0x10
  | some base =>
    (getBits (lenExtra (sym - 257)) l).bind (fun x l =>
      (getSym dist 0 0 l).bind (fun k l =>
        if k ≥ 30 then .bad 0x10
        else (getBits (distExtra k) l).bind (fun y l => .ok (base + x, distBase k + y) l)))
/-- The symbols of a block, up to its end-of-block code. -/
def getSyms (lit dist : Code) (win : Nat) : Nat → List Byte → Bool → List Bool → List Byte × Bool × Rd (List Bool) Unit
  | 0, o, s, _ => (o, s, .more)
  | fuel + 1, o, s, l =>
    match getSym lit 0 0 l with
    | .more => (o, s, .more)
    | .bad e => (o, s, .bad e)
    | .ok sym l =>
      if sym < 256 then getSyms lit dist win fuel (BitVec.ofNat 8 sym :: o) s l
      else if sym = 256 then (o, s, .ok () l)
      else match getMatch dist sym l with
        | .more => (o, s, .more)
        | .bad e => (o, s, .bad e)
        | .ok (n, d) l =>
          if d > win ∨ d > o.length then (o, s, .bad 0x11)
          else getSyms lit dist win fuel (copyBack d n o) (s || n == 3) l
/-- The bytes of a stored block. -/
def getStored : Nat → List Byte → List Bool → List Byte × Rd (List Bool) Unit
  | 0, o, l => (o, .ok () l)
  | n + 1, o, l =>
    match getBits 8 l with
    | .ok x l => getStored n (BitVec.ofNat 8 x :: o) l
    | .more => (o, .more)
    | .bad e => (o, .bad e)
/-- The order of the code-length code lengths. -/
def clOrder : List Nat := [16, 17, 18, 0, 8, 7, 9, 6, 10, 5, 11, 4, 12, 3, 13, 2, 14, 1, 15]
/-- `n` lengths of three bits. -/
def getClens : Nat → List Bool → Rd (List Bool) (List Nat)
  | 0, l => .ok [] l
  | n + 1, l => (getBits 3 l).bind (fun x l => (getClens n l).bind (fun xs l => .ok (x :: xs) l))
/-- `n` code lengths, newest first. -/
def getLens (cl : Code) : Nat → Nat → List Nat → List Bool → Rd (List Bool) (List Nat)
  | 0, _, _, _ => .bad 0x10
  | fuel + 1, n, acc, l =>
    if n = 0 then .ok acc l else
    (getSym cl 0 0 l).bind (fun s l =>
      if s < 16 then getLens cl fuel (n - 1) (s :: acc) l
      else
        let (w, base) := if s = 16 then (2, 3) else if s = 17 then (3, 3) else (7, 11)
        (getBits w l).bind (fun x l =>
          match (if s = 16 then acc.head? else some 0) with
          | none => .bad 0x10
          | some v => if base + x > n then .bad 0x10 else getLens cl fuel (n - (base + x)) (List.replicate (base + x) v ++ acc) l))
/-- The two codes of a dynamic block. A distance code of no word or of one word of length 1 is allowed, as RFC 1951 gives. -/
def getCodes (l : List Bool) : Rd (List Bool) (Code × Code) :=
  (getBits 5 l).bind (fun hlit l => (getBits 5 l).bind (fun hdist l => (getBits 4 l).bind (fun hclen l =>
    if hlit > 29 then .bad 0x10 else
    (getClens (hclen + 4) l).bind (fun cs l =>
      let cl := (List.range 19).map (fun s => ((clOrder.zip cs).find? (fun x => x.1 == s)).elim 0 (·.2))
      if kraftOf cl ≠ 2 ^ 15 then .bad 0x10 else
      (getLens (codeOf 7 cl) 320 (hlit + 257 + hdist + 1) [] l).bind (fun acc l =>
        let ls := acc.reverse
        let lit := ls.take (hlit + 257)
        let dist := ls.drop (hlit + 257)
        let used := dist.filter (· != 0)
        if kraftOf lit ≠ 2 ^ 15 ∨ ¬(kraftOf dist = 2 ^ 15 ∨ used = [] ∨ used = [1]) then .bad 0x10
        else .ok (codeOf 15 lit, codeOf 15 dist) l)))))
/-- The fixed codes. -/
def fixedCodes : Code × Code :=
  (codeOf 15 (List.replicate 144 8 ++ List.replicate 112 9 ++ List.replicate 24 7 ++ List.replicate 8 8), codeOf 15 (List.replicate 32 5))
/-- Bits to the next byte boundary of a stream of `total` bits. -/
def padBits (total : Nat) (l : List Bool) : Nat := (8 - (total - l.length) % 8) % 8
/-- The body of a block of a type: the output, whether a match of length 3 occurred, and what is left. -/
def getBlock (total win typ : Nat) (o : List Byte) (s : Bool) (l : List Bool) : List Byte × Bool × Rd (List Bool) Unit :=
  match typ with
  | 0 =>
    match ((getBits (padBits total l) l).bind (fun _ l => (getBits 16 l).bind (fun n l => (getBits 16 l).bind (fun m l =>
        if n + m = 65535 then .ok n l else .bad 0x10)))) with
    | .ok n l =>
      let (o, r) := getStored n o l
      (o, s, r)
    | .more => (o, s, .more)
    | .bad e => (o, s, .bad e)
  | 1 => getSyms fixedCodes.1 fixedCodes.2 win (l.length + 1) o s l
  | 2 =>
    match getCodes l with
    | .ok c l => getSyms c.1 c.2 win (l.length + 1) o s l
    | .more => (o, s, .more)
    | .bad e => (o, s, .bad e)
  | _ => (o, s, .bad 0x10)
/-- The bits of a dynamic block's header, as far as they are there. -/
def blockHdr (typ : Nat) (l body : List Bool) : List Bool :=
  if typ = 2 then (match getCodes body with | .ok _ r => l.take (l.length - r.length) | _ => l) else []
/-- The blocks of a stream, up to one with BFINAL. -/
def getBlocks (total win : Nat) : Nat → Decoded → List Bool → Decoded × Rd (List Bool) Unit
  | 0, d, _ => (d, .more)
  | fuel + 1, d, l =>
    match l with
    | [] => ({ d with edge := true }, .more)
    | _ =>
    match getBits 3 l with
    | .more => (d, .more)
    | .bad e => (d, .bad e)
    | .ok h l' =>
      let typ := h / 2
      let r : BlkRec := ⟨h % 2 == 1, typ, blockHdr typ l l', l.length, d.out.length⟩
      match getBlock total win typ d.out d.short l' with
      | (o, s, e) =>
        let d := { d with
          out := o
          short := s
          blks := r :: d.blks }
        match e with
        | .ok _ l => if r.last then (d, .ok () l) else getBlocks total win fuel d l
        | .more => ({ d with inBlk := true }, .more)
        | .bad e => (d, .bad e)

/-! ### Wrappers (RFC 1950, RFC 1952; R347, R350) -/

/-- Adler-32. -/
def adler32 (xs : List Byte) : Nat :=
  let (a, b) := xs.foldl (fun (a, b) x => ((a + x.toNat) % 65521, (b + a + x.toNat) % 65521)) (1, 0)
  b * 65536 + a
/-- CRC-32 of gzip. -/
def crc32 (xs : List Byte) : W32 := crcExtend (reflect 0x04C11DB7) 0 xs
/-- Bytes up to and with a zero byte. -/
def getString : Nat → List Bool → Rd (List Bool) Unit
  | 0, _ => .more
  | fuel + 1, l => (getBits 8 l).bind (fun x l => if x = 0 then .ok () l else getString fuel l)
/-- A zlib header: the window's size. -/
def zlibHdr (l : List Bool) : Rd (List Bool) Nat :=
  (getBits 8 l).bind (fun cmf l => (getBits 8 l).bind (fun flg l =>
    if cmf % 16 ≠ 8 ∨ cmf / 16 > 7 ∨ (cmf * 256 + flg) % 31 ≠ 0 then .bad 0x10
    else if flg / 32 % 2 = 1 then .bad 0x15
    else .ok (2 ^ (cmf / 16 + 8)) l))
/-- An optional part of a header. -/
def optPart (on : Bool) (f : List Bool → Rd (List Bool) Unit) (l : List Bool) : Rd (List Bool) Unit := if on then f l else .ok () l
/-- A gzip header. -/
def gzipHdr (xs : List Byte) (l : List Bool) : Rd (List Bool) Nat :=
  let total := l.length
  (getBytes 10 l).bind (fun h l =>
    let flg := ((h[3]?).getD 0).toNat
    if h.take 3 ≠ [0x1F, 0x8B, 8] ∨ flg / 32 ≠ 0 then .bad 0x10
    else
      (optPart (flg / 4 % 2 == 1) (fun l => (getBits 16 l).bind (fun n l => (getBytes n l).bind (fun _ l => .ok () l))) l).bind (fun _ l =>
      (optPart (flg / 8 % 2 == 1) (fun l => getString (l.length + 1) l) l).bind (fun _ l =>
      (optPart (flg / 16 % 2 == 1) (fun l => getString (l.length + 1) l) l).bind (fun _ l =>
      (optPart (flg / 2 % 2 == 1) (fun l' => (getBits 16 l').bind (fun c l'' =>
        if c = (crc32 (xs.take ((total - l.length) / 8))).toNat % 65536 then .ok () l'' else .bad 0x14)) l).bind (fun _ l =>
      .ok 32768 l)))))
/-- The trailer of a format against the output. -/
def getTrailer (fmt total : Nat) (out : List Byte) (l : List Bool) : Rd (List Bool) Unit :=
  (getBits (padBits total l) l).bind (fun _ l =>
    match fmt with
    | 1 => (getBytes 4 l).bind (fun t l =>
        if t.foldl (fun v x => v * 256 + x.toNat) 0 = adler32 out.reverse then .ok () l else .bad 0x14)
    | 2 => (getBits 32 l).bind (fun c l => (getBits 32 l).bind (fun n l =>
        if c = (crc32 out.reverse).toNat ∧ n = out.length % 2 ^ 32 then .ok () l else .bad 0x14))
    | _ => .ok () l)
/-- A DEFLATE stream of format 0 to 2: whole bytes, and then some bits of a last byte. -/
def decodeDeflate (fmt : Nat) (xs : List Byte) (tail : List Bool) : Decoded :=
  let l := byteBits xs ++ tail
  let total := l.length
  let hdr : Rd (List Bool) Nat := match fmt with | 1 => zlibHdr l | 2 => gzipHdr xs l | _ => .ok 32768 l
  match hdr with
  | .more => {}
  | .bad e => { stop := .bad e }
  | .ok win l =>
    match getBlocks total win (l.length + 1) {} l with
    | (d, .more) => d
    | (d, .bad e) => { d with stop := .bad e }
    | (d, .ok _ l) =>
      match getTrailer fmt total d.out l with
      | .more => d
      | .bad e => { d with stop := .bad e }
      | .ok _ l => { d with
        stop := .ended
        left := l.length }

end Sys2Proof.Machine
end

