-- ==== Sys2Proof/Machine/Zstd.lean ====
section
/-! DEFINITION. The decoder of Zstandard frames (R346, R350, R378), as RFC 8878, which R346 names, defines the format. -/
namespace Sys2Proof.Machine

/-! ### XXH64, the content checksum -/

/-- The first prime of XXH64. -/
def xxP1 : W64 := 11400714785074694791
/-- The second prime. -/
def xxP2 : W64 := 14029467366897019727
/-- The third prime. -/
def xxP3 : W64 := 1609587929392839161
/-- The fourth prime. -/
def xxP4 : W64 := 9650029242287828579
/-- The fifth prime. -/
def xxP5 : W64 := 2870177450012600261
/-- One round of an accumulator. -/
def xxRound (a v : W64) : W64 := (a + v * xxP2).rotateLeft 31 * xxP1
/-- An accumulator goes into the hash. -/
def xxMerge (h v : W64) : W64 := (h ^^^ xxRound 0 v) * xxP1 + xxP4
/-- Little-endian bytes as a word. -/
def xxWord (xs : List Byte) : W64 := BitVec.ofNat 64 (bitsNat (byteBits xs))
/-- The stripes of 32 bytes: the four accumulators and what is left. -/
def xxStripes : Nat → W64 × W64 × W64 × W64 → List Byte → (W64 × W64 × W64 × W64) × List Byte
  | 0, v, xs => (v, xs)
  | n + 1, (a, b, c, d), xs =>
    xxStripes n (xxRound a (xxWord (xs.take 8)), xxRound b (xxWord ((xs.drop 8).take 8)), xxRound c (xxWord ((xs.drop 16).take 8)),
      xxRound d (xxWord ((xs.drop 24).take 8))) (xs.drop 32)
/-- Whole words of eight bytes. -/
def xxEights : Nat → W64 → List Byte → W64 × List Byte
  | 0, h, xs => (h, xs)
  | n + 1, h, xs => xxEights n ((h ^^^ xxRound 0 (xxWord (xs.take 8))).rotateLeft 27 * xxP1 + xxP4) (xs.drop 8)
/-- XXH64 with seed 0. -/
def xxh64 (xs : List Byte) : W64 :=
  let n := xs.length
  let (h, r) :=
    if n < 32 then (xxP5, xs)
    else
      let ((a, b, c, d), r) := xxStripes (n / 32) (xxP1 + xxP2, xxP2, 0, 0 - xxP1) xs
      (xxMerge (xxMerge (xxMerge (xxMerge (a.rotateLeft 1 + b.rotateLeft 7 + c.rotateLeft 12 + d.rotateLeft 18) a) b) c) d, r)
  let (h, r) := xxEights (r.length / 8) (h + BitVec.ofNat 64 n) r
  let (h, r) := if r.length ≥ 4 then ((h ^^^ xxWord (r.take 4) * xxP1).rotateLeft 23 * xxP2 + xxP3, r.drop 4) else (h, r)
  let h := r.foldl (fun h x => (h ^^^ x.setWidth 64 * xxP5).rotateLeft 11 * xxP1) h
  let h := (h ^^^ (h >>> 33)) * xxP2
  let h := (h ^^^ (h >>> 29)) * xxP3
  h ^^^ (h >>> 32)

/-! ### Streams read from their end -/

/-- The bits of a stream that is read from its end: the highest bit set in its last byte marks where it starts. -/
def backBits (xs : List Byte) : Option (List Bool) :=
  let l := (byteBits xs).reverse
  if (l.take 8).contains true then some ((l.dropWhile (! ·)).drop 1) else none
/-- The number that bits spell, most significant first. -/
def msbNat (l : List Bool) : Nat := l.foldl (fun v b => 2 * v + b.toNat) 0
/-- Read `n` bits, most significant first. -/
def readBack (n : Nat) (l : List Bool) : Option (Nat × List Bool) := if l.length < n then none else some (msbNat (l.take n), l.drop n)
/-- A value read from a stream, for a part whose whole length is known. -/
def Rd.get? {σ α : Type} : Rd σ α → Option (α × σ)
  | .ok a l => some (a, l)
  | _ => none

/-! ### Finite state entropy tables -/

/-- A decoding table: for each state its symbol, the bits to read and the base of the next state. -/
structure FseT where
  /-- accuracy log -/
  al : Nat
  /-- states -/
  cells : List (Nat × Nat × Nat)
deriving DecidableEq, Repr

/-- Zero probabilities that follow a zero. -/
def fseZeros : Nat → List Int → List Bool → Option (List Int × List Bool)
  | 0, _, _ => none
  | fuel + 1, acc, l => do
    let (n, l) ← (getBits 2 l).get?
    let acc := List.replicate n 0 ++ acc
    if n = 3 then fseZeros fuel acc l else some (acc, l)
/-- The probabilities of a table description, newest first; -1 stands for less than one. -/
def fseProbs : Nat → Nat → List Int → List Bool → Option (List Int × List Bool)
  | 0, _, _, _ => none
  | fuel + 1, left, acc, l =>
    if left = 0 then some (acc, l) else do
    let nb := Nat.log2 (left + 1)
    let small := 2 ^ (nb + 1) - 1 - (left + 1)
    let (v, l) ← (getBits nb l).get?
    let (v, l) ← if v < small then some (v, l) else ((getBits 1 l).get?).map (fun x => (if x.1 = 1 then v + 2 ^ nb - small else v, x.2))
    let p : Int := v - 1
    if p.natAbs > left then none
    else if p = 0 then do
      let (acc, l) ← fseZeros 100 (0 :: acc) l
      fseProbs fuel left acc l
    else fseProbs fuel (left - p.natAbs) (p :: acc) l
/-- The positions over which symbols are spread. -/
def fseSpread (size high : Nat) : Nat → Nat → Nat → List Nat
  | 0, _, _ => []
  | _ + 1, _, 0 => []
  | fuel + 1, pos, n + 1 =>
    let next := (pos + size / 2 + size / 8 + 3) % size
    if pos < high then pos :: fseSpread size high fuel next n else fseSpread size high fuel next (n + 1)
/-- The states in order, each with how often its symbol came before. -/
def fseCells (al : Nat) (probs : List Int) : List Nat → List Nat → List (Nat × Nat × Nat)
  | [], _ => []
  | s :: ss, seen =>
    let next := ((probs[s]?).getD 0).natAbs + seen.count s
    let nb := al - Nat.log2 next
    (s, nb, next * 2 ^ nb - 2 ^ al) :: fseCells al probs ss (s :: seen)
/-- The table of probabilities. -/
def fseTable (al : Nat) (probs : List Int) : FseT :=
  let size := 2 ^ al
  let lows := (probs.zipIdx.filter (fun x => x.1 == -1)).map (·.2)
  let high := size - lows.length
  let syms := probs.zipIdx.flatMap (fun x => if x.1 > 0 then List.replicate x.1.toNat x.2 else [])
  let put := (fseSpread size high (4 * size) 0 high).zip syms ++ ((List.range lows.length).map (fun k => size - 1 - k)).zip lows
  ⟨al, fseCells al probs ((List.range size).map (fun k => (put.find? (fun x => x.1 == k)).elim 0 (·.2))) []⟩
/-- A table description of at most an accuracy log and a highest symbol: the table and the bytes after it. -/
def fseRead (maxAl maxSym : Nat) (xs : List Byte) : Option (FseT × List Byte) := do
  let l := byteBits xs
  let (a, r) ← (getBits 4 l).get?
  let (probs, r) ← fseProbs 300 (2 ^ (a + 5)) [] r
  if a + 5 > maxAl ∨ probs.length > maxSym + 1 then none
  else some (fseTable (a + 5) probs.reverse, xs.drop ((l.length - r.length + 7) / 8))
/-- A state's symbol. -/
def FseT.sym (t : FseT) (s : Nat) : Nat := ((t.cells[s]?).getD (0, 0, 0)).1
/-- The next state. -/
def FseT.next (t : FseT) (s : Nat) (l : List Bool) : Option (Nat × List Bool) :=
  let c := (t.cells[s]?).getD (0, 0, 0)
  (readBack c.2.1 l).map (fun x => (c.2.2 + x.1, x.2))

/-! ### Literals -/

/-- A Huffman table: its longest code, and a symbol and length for each value of that many bits. -/
structure HufT where
  /-- bits looked at -/
  bits : Nat
  /-- symbols and lengths -/
  cells : List (Nat × Nat)
deriving DecidableEq, Repr

/-- The table of weights, the last of which is implied. -/
def hufOf (ws : List Nat) : Option HufT :=
  let sum := (ws.map (fun w => if w = 0 then 0 else 2 ^ (w - 1))).sum
  let m := Nat.log2 sum + 1
  let left := 2 ^ m - sum
  if sum = 0 ∨ m > 11 ∨ 2 ^ Nat.log2 left ≠ left then none
  else
    let ws := ws ++ [Nat.log2 left + 1]
    some ⟨m, (List.range m).flatMap (fun k => ws.zipIdx.flatMap (fun x => if x.1 = k + 1 then List.replicate (2 ^ k) (x.2, m - k) else []))⟩
/-- Weights coded by two states that take turns. -/
def hufWeights (t : FseT) : Nat → Nat → Nat → List Nat → List Bool → Option (List Nat)
  | 0, _, _, _, _ => none
  | fuel + 1, s, other, acc, l =>
    match t.next s l with
    | none => some ((t.sym other :: t.sym s :: acc).reverse)
    | some (s', l) => hufWeights t fuel other s' (t.sym s :: acc) l
/-- A Huffman tree description. -/
def hufRead (xs : List Byte) : Option (HufT × List Byte) := do
  let h := (← xs.head?).toNat
  let xs := xs.drop 1
  if h ≥ 128 then
    let n := h - 127
    let k := (n + 1) / 2
    if xs.length < k then none
    else
      let ws := (xs.take k).flatMap (fun x => [x.toNat / 16, x.toNat % 16])
      return (← hufOf (ws.take n), xs.drop k)
  else if xs.length < h then none
  else
    let (t, r) ← fseRead 6 255 (xs.take h)
    let l ← backBits r
    let (a, l) ← readBack t.al l
    let (b, l) ← readBack t.al l
    let ws ← hufWeights t 255 a b [] l
    if ws.length > 255 then none else return (← hufOf ws, xs.drop h)
/-- `n` literals of a stream, which must be read to its end. -/
def hufLits (t : HufT) : Nat → List Bool → List Byte → Option (List Byte)
  | 0, l, acc => if l.isEmpty then some acc.reverse else none
  | n + 1, l, acc =>
    match t.cells[msbNat ((l ++ List.replicate t.bits false).take t.bits)]? with
    | none => none
    | some (s, nb) => if nb > l.length then none else hufLits t n (l.drop nb) (BitVec.ofNat 8 s :: acc)
/-- Literals of one stream or of four. -/
def hufStreams (t : HufT) (four : Bool) (n : Nat) (xs : List Byte) : Option (List Byte) :=
  if !four then (backBits xs).bind (fun l => hufLits t n l [])
  else if xs.length < 6 then none
  else
    let w := fun k => bitsNat (byteBits ((xs.drop (2 * k)).take 2))
    let ys := xs.drop 6
    let q := (n + 3) / 4
    if w 0 + w 1 + w 2 > ys.length ∨ 3 * q > n then none
    else do
      let a ← (backBits (ys.take (w 0))).bind (fun l => hufLits t q l [])
      let b ← (backBits ((ys.drop (w 0)).take (w 1))).bind (fun l => hufLits t q l [])
      let c ← (backBits ((ys.drop (w 0 + w 1)).take (w 2))).bind (fun l => hufLits t q l [])
      let d ← (backBits (ys.drop (w 0 + w 1 + w 2))).bind (fun l => hufLits t (n - 3 * q) l [])
      return a ++ b ++ c ++ d

/-! ### Blocks -/

/-- What a frame keeps from block to block. -/
structure ZFrame where
  /-- the frame's output, newest first -/
  out : List Byte := []
  /-- Huffman table of literals -/
  huf : Option HufT := none
  /-- table of literal lengths -/
  ll : Option FseT := none
  /-- table of offsets -/
  off : Option FseT := none
  /-- table of match lengths -/
  ml : Option FseT := none
  /-- repeat offsets -/
  rep : Nat × Nat × Nat := (1, 4, 8)
deriving DecidableEq, Repr

/-- The literals section of a block: the literals, the Huffman table and the bytes after it. -/
def zLits (f : ZFrame) (xs : List Byte) : Option (List Byte × Option HufT × List Byte) := do
  let h := (← xs.head?).toNat
  let typ := h % 4
  let sf := h / 4 % 4
  let v := fun k => bitsNat (byteBits (xs.take k))
  if typ < 2 then
    let (k, n) := if sf % 2 = 0 then (1, h / 8) else if sf = 1 then (2, v 2 / 16) else (3, v 3 / 16)
    let ys := xs.drop k
    let need := if typ = 0 then n else 1
    if xs.length < k ∨ ys.length < need then none
    else some (if typ = 0 then ys.take n else List.replicate n ((ys.head?).getD 0), f.huf, ys.drop need)
  else
    let (k, w) := if sf < 2 then (3, 10) else if sf = 2 then (4, 14) else (5, 18)
    let n := v k / 16 % 2 ^ w
    let c := v k / 2 ^ (4 + w)
    let ys := xs.drop k
    if xs.length < k ∨ ys.length < c then none
    else
      let body := ys.take c
      let (t, r) ← if typ = 2 then hufRead body else f.huf.map (fun t => (t, body))
      let lits ← hufStreams t (sf != 0) n r
      return (lits, some t, ys.drop c)

/-- The predefined distribution of literal lengths. -/
def llProbs : List Int := [4, 3] ++ List.replicate 11 2 ++ [1, 1, 1] ++ List.replicate 9 2 ++ [3, 2, 1, 1, 1, 1, 1, -1, -1, -1, -1]
/-- The predefined distribution of match lengths. -/
def mlProbs : List Int := [1, 4, 3, 2, 2, 2, 2, 2, 2] ++ List.replicate 37 1 ++ List.replicate 7 (-1)
/-- The predefined distribution of offsets. -/
def ofProbs : List Int := List.replicate 6 1 ++ [2, 2, 2] ++ List.replicate 15 1 ++ List.replicate 5 (-1)
/-- Base and extra bits of a literal-length code. -/
def llCode (c : Nat) : Nat × Nat :=
  if c < 16 then (c, 0) else if c < 20 then (16 + 2 * (c - 16), 1) else if c < 22 then (24 + 4 * (c - 20), 2)
  else if c < 24 then (32 + 8 * (c - 22), 3) else if c = 24 then (48, 4) else (2 ^ (c - 19), c - 19)
/-- Base and extra bits of a match-length code. -/
def mlCode (c : Nat) : Nat × Nat :=
  if c < 32 then (c + 3, 0) else if c < 36 then (35 + 2 * (c - 32), 1) else if c < 38 then (43 + 4 * (c - 36), 2)
  else if c < 40 then (51 + 8 * (c - 38), 3) else if c < 42 then (67 + 16 * (c - 40), 4) else if c = 42 then (99, 5)
  else (2 ^ (c - 36) + 3, c - 36)
/-- The table that a mode gives, with the bytes after it. -/
def zTable (mode maxAl maxSym al : Nat) (dflt : List Int) (old : Option FseT) (xs : List Byte) : Option (FseT × List Byte) :=
  match mode with
  | 0 => some (fseTable al dflt, xs)
  | 1 => xs.head?.bind (fun x => if x.toNat > maxSym then none else some (⟨0, [(x.toNat, 0, 0)]⟩, xs.drop 1))
  | 2 => fseRead maxAl maxSym xs
  | _ => old.map (fun t => (t, xs))
/-- `n` sequences: literal length, offset value, match length; the stream must be read to its end. -/
def zSeqs (ll off ml : FseT) : Nat → Nat → Nat → Nat → List Bool → Option (List (Nat × Nat × Nat))
  | 0, _, _, _, l => if l.isEmpty then some [] else none
  | n + 1, sl, so, sm, l => do
    let oc := off.sym so
    let (ov, l) ← readBack oc l
    let m := mlCode (ml.sym sm)
    let (mx, l) ← readBack m.2 l
    let c := llCode (ll.sym sl)
    let (lx, l) ← readBack c.2 l
    let q := (c.1 + lx, 2 ^ oc + ov, m.1 + mx)
    if n = 0 then (if l.isEmpty then some [q] else none)
    else
      let (sl, l) ← ll.next sl l
      let (sm, l) ← ml.next sm l
      let (so, l) ← off.next so l
      return q :: (← zSeqs ll off ml n sl so sm l)
/-- The offset of an offset value, and the repeat offsets after it. -/
def zOffset (rep : Nat × Nat × Nat) (v lits : Nat) : Nat × Nat × Nat × Nat :=
  let (a, b, c) := rep
  if v > 3 then (v - 3, v - 3, a, b)
  else match (if lits = 0 then v else v - 1) with
    | 0 => (a, a, b, c)
    | 1 => (b, b, a, c)
    | 2 => (c, c, a, b)
    | _ => (a - 1, a - 1, a, b)
/-- The sequences copy literals and matches: the status where one cannot, else the output and what is left of the literals. -/
def zExec (win : Nat) : List (Nat × Nat × Nat) → Nat × Nat × Nat → List Byte → List Byte →
    Nat × List Byte × List Byte × (Nat × Nat × Nat)
  | [], rep, lits, o => (0, o, lits, rep)
  | (n, v, m) :: qs, rep, lits, o =>
    if n > lits.length then (0x10, o, lits, rep)
    else
      let o := (lits.take n).reverse ++ o
      let (d, rep) := zOffset rep v n
      if d = 0 then (0x10, o, lits, rep)
      else if d > win ∨ d > o.length then (0x11, o, lits, rep)
      else zExec win qs rep (lits.drop n) (copyBack d m o)
/-- The sequences section: the sequences, and the frame with the tables that it leaves. -/
def zSeqSection (f : ZFrame) (xs : List Byte) : Option (List (Nat × Nat × Nat) × ZFrame) := do
  let a := (← xs.head?).toNat
  let at_ := fun k => ((xs[k]?).getD 0).toNat
  if a = 0 then (if xs.length = 1 then some ([], f) else none)
  else
    let (k, n) := if a < 128 then (1, a) else if a < 255 then (2, (a - 128) * 256 + at_ 1) else (3, at_ 1 + 256 * at_ 2 + 0x7F00)
    let m := (← xs[k]?).toNat
    if m % 4 ≠ 0 then none
    else
      let (ll, r) ← zTable (m / 64) 9 35 6 llProbs f.ll (xs.drop (k + 1))
      let (off, r) ← zTable (m / 16 % 4) 8 31 5 ofProbs f.off r
      let (ml, r) ← zTable (m / 4 % 4) 9 52 6 mlProbs f.ml r
      let l ← backBits r
      let (sl, l) ← readBack ll.al l
      let (so, l) ← readBack off.al l
      let (sm, l) ← readBack ml.al l
      let qs ← zSeqs ll off ml n sl so sm l
      return (qs, { f with
        ll := some ll
        off := some off
        ml := some ml })
/-- A compressed block: the status where it fails (0 else) and the frame after it. -/
def zBlock (win : Nat) (f : ZFrame) (xs : List Byte) : Nat × ZFrame :=
  match zLits f xs with
  | none => (0x10, f)
  | some (lits, huf, r) =>
    match zSeqSection f r with
    | none => (0x10, f)
    | some (qs, g) =>
      match zExec win qs f.rep lits f.out with
      | (0, o, lits, rep) =>
        let o := lits.reverse ++ o
        if o.length - f.out.length > min win 131072 then (0x10, f)
        else (0, { g with
          out := o
          huf := huf
          rep := rep })
      | (e, o, _, _) => (e, { f with out := o })

/-! ### Frames -/

/-- A frame header after its magic number: the window, the content's size where it is given, and whether a checksum follows. -/
def zHeader (l : List Bool) : Rd (List Bool) (Nat × Option Nat × Bool) :=
  (getBits 8 l).bind (fun d l =>
    let single := d / 32 % 2 == 1
    if d / 8 % 2 = 1 then .bad 0x10 else
    (getBits (if single then 0 else 8) l).bind (fun w l =>
      let win := (2 ^ (10 + w / 8)) / 8 * (8 + w % 8)
      if !single && decide (win > 131072) then .bad 0x16 else
      (getBits (8 * (match d % 4 with | 0 => 0 | 1 => 1 | 2 => 2 | _ => 4)) l).bind (fun dict l =>
        if dict ≠ 0 then .bad 0x15 else
        let k := match d / 64 with | 0 => (if single then 1 else 0) | 1 => 2 | 2 => 4 | _ => 8
        (getBits (8 * k) l).bind (fun n l =>
          let n := if k = 2 then n + 256 else n
          if single && decide (n > 131072) then .bad 0x16
          else .ok (if single then n else win, if k = 0 then none else some n, d / 4 % 2 == 1) l))))
/-- The blocks of a frame, up to its last. -/
def zBlocks (win : Nat) : Nat → ZFrame → List Bool → ZFrame × Rd (List Bool) Unit
  | 0, f, _ => (f, .more)
  | fuel + 1, f, l =>
    match getBits 24 l with
    | .more => (f, .more)
    | .bad e => (f, .bad e)
    | .ok h l =>
      let n := h / 8
      let go := fun (f : ZFrame) (l : List Bool) => if h % 2 = 1 then (f, .ok () l) else zBlocks win fuel f l
      if n > min win 131072 then (f, .bad 0x10)
      else match h / 2 % 4 with
        | 0 =>
          match getStored n f.out l with
          | (o, .ok _ l) => go { f with out := o } l
          | (o, r) => ({ f with out := o }, r)
        | 1 =>
          match getBits 8 l with
          | .ok x l => go { f with out := List.replicate n (BitVec.ofNat 8 x) ++ f.out } l
          | .more => (f, .more)
          | .bad e => (f, .bad e)
        | 2 =>
          match getBytes n l with
          | .ok xs l =>
            match zBlock win f xs with
            | (0, f) => go f l
            | (e, f) => (f, .bad e)
          | .more => (f, .more)
          | .bad e => (f, .bad e)
        | _ => (f, .bad 0x10)
/-- A frame after its magic number: its output, newest first. -/
def zFrame (l : List Bool) : List Byte × Rd (List Bool) Unit :=
  match zHeader l with
  | .more => ([], .more)
  | .bad e => ([], .bad e)
  | .ok (win, size, check) l =>
    match zBlocks win (l.length + 1) {} l with
    | (f, .ok _ l) =>
      if size.any (· != f.out.length) then (f.out, .bad 0x10)
      else if check then
        (f.out, (getBits 32 l).bind (fun c l => if c = (xxh64 f.out.reverse).toNat % 2 ^ 32 then .ok () l else .bad 0x14))
      else (f.out, .ok () l)
    | (f, r) => (f.out, r)
/-- Frames one after another: one (independent mode), or all that the input holds (R363, R373). -/
def zFrames (one : Bool) : Nat → List Byte → List Bool → Decoded
  | 0, o, _ => { out := o }
  | fuel + 1, o, l =>
    if l.isEmpty then { out := o, edge := true } else
    match getBits 32 l with
    | .more => { out := o }
    | .bad e => { out := o, stop := .bad e }
    | .ok m l =>
      if m / 16 = 0x184D2A5 then
        match (getBits 32 l).bind (fun n l => getBytes n l) with
        | .ok _ l => zFrames one fuel o l
        | _ => { out := o }
      else if m ≠ 0xFD2FB528 then { out := o, stop := .bad 0x10 }
      else match zFrame l with
        | (x, .more) => { out := x ++ o }
        | (x, .bad e) => { out := x ++ o, stop := .bad e }
        | (x, .ok _ l) => if one then { out := x ++ o, left := l.length, stop := .ended } else zFrames one fuel (x ++ o) l

/-- The stream of a format from its start: whole bytes, and then some bits of a last byte. -/
def decodeStream (fmt : Nat) (one : Bool) (xs : List Byte) (tail : List Bool) : Decoded :=
  if fmt = 3 then zFrames one (xs.length + 1) [] (byteBits xs) else decodeDeflate fmt xs tail

end Sys2Proof.Machine
end

