-- ==== Sys2Proof/Machine/CzEnd.lean ====
section
/-! DEFINITION. The end of a lane job (chapter 7): what a lane may report, given the bytes it read and the formats of R346 to R350,
what it writes, and what its stream slot holds afterwards. The lane's report comes with the command; a report that the rules do not
allow is of no lane, and changes nothing. -/
namespace Sys2Proof.Machine

/-! ### The lane's transactions (R343, R354) -/

/-- A transaction of a lane, under the tag of the job's tenant. -/
def laneReq (decomp : Bool) (n : Nat) (d : BitVec 512) (p : Nat × Nat) : BusReq :=
  ⟨BitVec.ofNat 8 (lanePort decomp n), jClass d, BitVec.ofNat 6 (jTenant d), p.1, p.2, 0, false⟩
/-- A span in transactions, none of which crosses a 256-byte boundary. -/
def lanePieces : Nat → Nat → Nat → List (Nat × Nat)
  | 0, _, _ => []
  | fuel + 1, a, n =>
    if n = 0 then [] else
    let k := min n (256 - a % 256)
    (a, k) :: lanePieces fuel ((a + k) % 2 ^ 48) (n - k)
/-- The transactions of a span. -/
def laneSpan (a n : Nat) : List (Nat × Nat) := lanePieces (n / 256 + 2) a n
/-- The first transaction of a span that its target refuses. -/
def Block.laneRefused (b : Block) (decomp : Bool) (n : Nat) (d : BitVec 512) (a len : Nat) (write : Bool) : Option (Nat × Nat) :=
  (laneSpan a len).find? (fun p => decide (b.busCheck (laneReq decomp n d p) write ≠ .ok))
/-- The input bytes of a job. -/
def Block.laneInput (b : Block) (decomp : Bool) (n : Nat) (d : BitVec 512) : List Byte :=
  (laneSpan (jIn d) (jInLen d)).flatMap (fun p =>
    let v := (b.busRead (laneReq decomp n d p) []).2.1
    (List.range p.2).map (fun k => BitVec.ofNat 8 (v >>> (8 * k))))
/-- Input bytes before the first word that carries the poison mark. -/
def Block.cleanInput (b : Block) (d : BitVec 512) : Nat :=
  ((List.range (jInLen d)).find? (fun k => b.anyPoison (jIn d + k) 1)).getD (jInLen d)
/-- What a restore reads of a slot, and a save writes back (R371). -/
def Block.slotSpans (b : Block) (n : Nat) (x : Slot) : List (Nat × Nat) :=
  let a := b.slotAddr n
  (a, 0x400) :: (if x.blkOpen then [(a + 0x400, 0x3C00)] else []) ++ [(a + 0x4000, x.hist)]
/-- The job restores its slot. -/
def jRestores (d : BitVec 512) : Bool := jStream d && !jNew d
/-- The restore is answered POISON. -/
def Block.restorePoison (b : Block) (d : BitVec 512) : Bool :=
  jRestores d && (b.slotSpans (jSlot d) (b.slot (jSlot d))).any (fun p => b.anyPoison p.1 p.2)
/-- The slot a job goes on with. -/
def Block.slotBase (b : Block) (d : BitVec 512) : Slot :=
  let old := b.slot (jSlot d)
  if !jStream d then {} else if jNew d then { owner := old.owner } else old

/-- The transactions of a slot's restore or save: under tag 0 (R367), each within 256 bytes. -/
def Block.slotReqs (b : Block) (decomp : Bool) (n : Nat) (d : BitVec 512) (x : Slot) : List BusReq :=
  ((b.slotSpans (jSlot d) x).flatMap (fun p => laneSpan p.1 p.2)).map (fun p => { laneReq decomp n d p with tag := 0 })
/-- Every transaction of a slot's restore or save is answered. -/
def Block.slotAnswers (b : Block) (decomp : Bool) (n : Nat) (d : BitVec 512) (x : Slot) (write : Bool) : Bool :=
  (b.slotReqs decomp n d x).all (fun q => decide (b.busCheck q write = .ok))

/-! ### Decompression (R350, R363, R366, R373-R375, R783) -/

/-- A stream read from its start: the output a lane has for this job, oldest first, and how it stops. -/
def Block.decodeFor (b : Block) (d : BitVec 512) (inp : List Byte) : List Byte × Decoded :=
  let x := b.slotBase d
  let r := decodeStream (jFormat d) (!jStream d) (x.comp ++ inp) []
  (r.out.reverse.drop x.plain.length, r)
/-- The status with which a decompress job ends: the output limit, the buffer, the end of the stream with its checks, the end of the
input or a poisoned word in it, whichever comes first. -/
def Block.decompStatus (b : Block) (d : BitVec 512) (inp : List Byte) : Nat :=
  let (o, r) := b.decodeFor d inp
  let was := (b.slotBase d).plain.length
  if jOutMax d ≠ 0 ∧ o ≠ [] ∧ jOutMax d < was + o.length ∧ jOutMax d ≤ was + jOutLen d then 0x12
  else if jOutLen d < o.length then 1
  else match r.stop with
    | .ended => if jCheck d && crc32c o != jExpCrc d then 0x14 else 0
    | .bad e => e
    | .more => if inp.length < jInLen d then 0x23 else if jStream d then 0 else 0x13
/-- The match that a decompressor has not finished copying. -/
def pendingCopy (all : List Byte) (done : Nat) (len dist : Nat) : Bool :=
  len == 0 || (decide (1 ≤ dist ∧ dist ≤ done ∧ len ≤ 258)
    && (all.drop done).take len == ((copyBack dist len (all.take done).reverse).take len).reverse)
/-- What a decompressor lane may report. -/
def Block.decompAgrees (b : Block) (n : Nat) (d : BitVec 512) (r : JobRes) : Bool :=
  let all := b.laneInput true n d
  let inp := all.take (b.cleanInput d)
  let st := r.status.toNat
  let (full, s) := b.decodeFor d inp
  let o := denseBytes (mkBytes r.out) r.outUsed.toNat
  let used := r.inUsed.toNat
  let was := (b.slotBase d).plain.length
  decide (st = b.decompStatus d inp)
  && (match st with
    | 0 =>
      let fin := decide (s.stop = .ended)
      o == full && r.ended == fin && decide (used = inp.length - (if fin then s.left / 8 else 0))
        && r.trailing == (fin && decide (used < jInLen d)) && r.pendLen == 0
    | 1 =>
      let got := b.decodeFor d (inp.take used)
      o == full.take (jOutLen d) && decide (jOutLen d ≤ got.1.length)
        && (jFormat d == 3 || pendingCopy s.out.reverse (was + jOutLen d) r.pendLen.toNat r.pendDist.toNat)
    | 0x12 => o == full.take (jOutMax d - was)
    | 0x13 => o == full && decide (used = inp.length)
    | 0x14 => if jCheck d then decide (r.outUsed.toNat = full.length) else o == full
    | 0x23 => o == full && decide (used = inp.length)
    | _ => o.isPrefixOf full)
  && (r.crc == crc32c (if st = 0x14 then full else o))
  && r.pendN == 0 && r.pendBits == 0

/-! ### Compression (R347-R349, R363, R372, R374-R377, R783) -/

/-- The header that a compressor writes (R347). -/
def compHdr (fmt : Nat) : List Byte :=
  match fmt with
  | 1 => [0x78, 0x01]
  | 2 => [0x1F, 0x8B, 0x08, 0x00, 0x00, 0x00, 0x00, 0x00, 0x04, 0xFF]
  | _ => []
/-- Blocks, newest first, before an end of `len` bytes of input: each one's length is at most 65,536, and one that this job began
(`left` at most `now` bits from the end) is of the type of the table set, with that set's header, or is the empty stored block of a
sync flush or the empty fixed block of a final flush (R349, R372). -/
def blksOk (stream : Bool) (table : Nat) (img : Option (BitVec 1280)) (now : Nat) : Nat → List BlkRec → Bool
  | _, [] => true
  | len, k :: ks =>
    let n := len - k.start
    let coded :=
      if table = 0 then decide (k.typ = 1)
      else decide (k.typ = 2) && img.any (fun t => k.hdr.isPrefixOf (setHdr t k.last))
    let flush := stream && decide (n = 0) && (if k.last then decide (k.typ = 1) else decide (k.typ = 0))
    decide (n ≤ 65536) && (decide (now < k.left) || (if stream && k.last then flush else coded || flush))
      && blksOk stream table img now k.start ks
/-- The key of a compress job (R348). -/
def Block.finderKey (b : Block) (n : Nat) (d : BitVec 512) : FinderKey :=
  let x := b.slotBase d
  { desc := mkDesc [(1, dget d 1 1), (2, jFormat d), (9, jFlush d), (224, jOutLen d), (256, jOutMax d)]
    image := (b.lane false n).image, pend := x.pend, pendMatch := x.pendMatch, hist := x.plain, input := b.laneInput false n d }
/-- Two reports of the same output. -/
def sameRes (r s : JobRes) : Bool :=
  r.status == s.status && r.inUsed == s.inUsed && r.outUsed == s.outUsed && mkBytes r.out == mkBytes s.out && r.pendN == s.pendN
    && r.pendBits == s.pendBits && r.pendLen == s.pendLen && r.pendDist == s.pendDist
/-- The job ran to its end, to its buffer's end or to its limit. -/
def ranOut (r : JobRes) : Bool := [0, 1, 0x12].contains r.status.toNat
/-- A report is the one that this job has had on any lane before (R348). -/
def Block.asBefore (b : Block) (n : Nat) (d : BitVec 512) (r : JobRes) : Bool :=
  !ranOut r || (b.cz.finder.find? (fun e => decide (e.1 = b.finderKey n d))).all (fun e => sameRes e.2 r)
/-- What a compressor lane may report, apart from the failures of the fabric. -/
def Block.compAgrees (b : Block) (n : Nat) (d : BitVec 512) (r : JobRes) : Bool :=
  let x := b.slotBase d
  let inp := (b.laneInput false n d).take (b.cleanInput d)
  let st := r.status.toNat
  let used := r.inUsed.toNat
  let o := denseBytes (mkBytes r.out) r.outUsed.toNat
  let comp := x.comp ++ o
  let plain := x.plain ++ inp.take used
  let pend := if jStream d && decide (st ≤ 1) then lsbBits r.pendN.toNat r.pendBits.toNat else []
  let s := decodeStream (jFormat d) (!jStream d) comp pend
  let got := s.out.reverse
  let now := 8 * o.length + r.pendN.toNat - x.pend.1
  let room := jOutMax d = 0 ∨ comp.length + (if st = 0 then 0 else 1) ≤ jOutMax d
  decide (used ≤ inp.length) && decide (r.pendN.toNat ≤ 7)
  && ((compHdr (jFormat d)).take comp.length).isPrefixOf comp && (jStream d || r.pendN == 0)
  && !s.short && blksOk (jStream d) (jTable d) ((b.lane false n).image) now got.length s.blks
  && (match st with
    | 0 =>
      got == plain && decide (used = jInLen d) && decide room && r.pendLen == 0
        && (if !jStream d then decide (s.stop = .ended ∧ s.left = 0)
            else match jFlush d with
              | 2 => decide (s.stop = .ended ∧ s.left = 0) && r.pendN == 0
              | 1 => s.edge && r.pendN == 0 && (s.blks.head?).any (fun k => decide (k.typ = 0 ∧ k.left ≤ now))
              | _ => s.edge)
    | 1 =>
      decide room && decide (s.stop = .more)
        && (if !jStream d then got.isPrefixOf plain
            else if r.pendLen = 0 then got == plain || (got.isPrefixOf plain && decide (plain.length = got.length + 1))
            else decide (4 ≤ r.pendLen.toNat ∧ r.pendLen.toNat ≤ 258 ∧ r.pendDist.toNat ≤ 32768)
              && decide (plain.length = got.length + r.pendLen.toNat)
              && got.isPrefixOf plain && pendingCopy plain got.length r.pendLen.toNat r.pendDist.toNat)
    | 0x12 => decide (jOutMax d ≠ 0 ∧ comp.length = jOutMax d) && got.isPrefixOf plain
    | _ => decide (s.stop = .more) && got.isPrefixOf plain && decide (used = inp.length ∧ used < jInLen d))
  && r.crc == crc32c (inp.take used) && b.asBefore n d r

/-! ### The report as a whole (R357, R378) -/

/-- What any lane's report must hold; the output of the flash translation engine's own jobs is not listed. -/
def endOk (d : BitVec 512) (ft : Bool) (r : JobRes) : Bool :=
  let st := r.status.toNat
  let comp := !jDecomp d
  [0, 1, 0x10, 0x11, 0x12, 0x13, 0x14, 0x15, 0x16, 0x21, 0x22, 0x23].contains st
  && decide (r.inUsed.toNat ≤ jInLen d) && decide (r.outUsed.toNat ≤ jOutLen d)
  && (st != 1 || r.outUsed.toNat == jOutLen d)
  && (!(comp && st == 0) || r.inUsed.toNat == jInLen d)
  && (!comp || !([0x10, 0x11, 0x13, 0x14, 0x15, 0x16].contains st))
  && (!(ft && st == 0) || (if comp then decide (1 ≤ r.outUsed.toNat) else true))
  && (!(st == 0x12) || decide (jOutMax d ≠ 0))
  && (st != 0x13 || !jStream d)

/-- The transaction that ends a job with TENANT or BUS: a refused one of the input or the output; none where one had no answer. -/
def Block.laneBad (b : Block) (decomp : Bool) (n : Nat) (d : BitVec 512) (tenant : Bool) : Option (Bool × Nat × Nat) :=
  let hit := fun (write : Bool) (p : Nat × Nat) => (decide (b.busCheck (laneReq decomp n d p) write = .tenant)) == tenant
    && decide (b.busCheck (laneReq decomp n d p) write ≠ .ok)
  match (laneSpan (jIn d) (jInLen d)).find? (hit false), (laneSpan (jOut d) (jOutLen d)).find? (hit true) with
  | some p, _ => some (false, p)
  | none, some p => some (true, p)
  | none, none => none
/-- A report that the rules allow in this state. A job that ends otherwise than with TENANT or BUS has read what it consumed and written
what it reports; a restore that is answered POISON consumes and writes nothing; else the bytes follow the job's format. -/
def Block.laneAgrees (b : Block) (decomp : Bool) (n : Nat) (d : BitVec 512) (ft : Bool) (r : JobRes) : Bool :=
  let st := r.status.toNat
  ft ||
  (if st = 0x21 then (b.laneBad decomp n d true).isSome
   else if st = 0x22 then !r.atSave || jStream d
   else (b.laneRefused decomp n d (jIn d) r.inUsed.toNat false).isNone
     && (b.laneRefused decomp n d (jOut d) r.outUsed.toNat true).isNone
     && (if b.restorePoison d then st == 0x23 && r.inUsed == 0 && r.outUsed == 0
         else if decomp then b.decompAgrees n d r else b.compAgrees n d r)
     && (!jRestores d || b.slotAnswers decomp n d (b.slot (jSlot d)) false)
     && (!jStream d || decide (1 < st) || b.slotAnswers decomp n d (b.slotBase d) true))

/-! ### What the end of a job does -/

/-- The transactions of a job: what it consumed is read and what it reports is written, and one that failed is recorded by the fabric
(R22, R23, R357). -/
def Block.laneData (b : Block) (decomp : Bool) (n : Nat) (d : BitVec 512) (r : JobRes) : Block :=
  let m := mkBytes r.out
  let b := b.each (laneSpan (jIn d) r.inUsed.toNat) (fun b p => (b.busRead (laneReq decomp n d p) []).2.2)
  let b := b.each (laneSpan (jOut d) r.outUsed.toNat) (fun b p =>
    let off := (p.1 + 2 ^ 48 - jOut d) % 2 ^ 48
    let v := bytesNat ((List.range p.2).map (fun k => smGet 0 m (off + k)))
    (b.busWrite (laneReq decomp n d p) [] (BitVec.allOnes 256) (BitVec.ofNat 2048 v)).2)
  let st := r.status.toNat
  if st = 0x21 ∨ (st = 0x22 ∧ !r.atSave) then
    match b.laneBad decomp n d (decide (st = 0x21)) with
    | some (w, p) => b.btCode (laneReq decomp n d p) w (b.busCheck (laneReq decomp n d p) w)
    | none => b.noAnswer (laneReq decomp n d (r.addr.toNat, 1)) false
  else b
/-- ADDR of the record of a job's end (R379, R783): the poisoned word or the refused transaction that ended it, else as the lane reports. -/
def Block.endAddr (b : Block) (decomp : Bool) (n : Nat) (d : BitVec 512) (r : JobRes) : FAddr :=
  let a := jIn d + r.inUsed.toNat
  if r.status = 0x23 then (if b.restorePoison d then r.addr else BitVec.ofNat 48 (a / 8 * 8))
  else if r.status = 0x21 ∨ (r.status = 0x22 ∧ !r.atSave) then
    (b.laneBad decomp n d (r.status == 0x21)).elim r.addr (fun x => BitVec.ofNat 48 x.2.1)
  else r.addr

/-- The defined control words of a slot, bytes 0x000 to 0x023 (R368). -/
def Slot.control (x : Slot) : BitVec 2048 :=
  BitVec.ofNat 2048 (x.word.toNat + (x.pend.1 % 8 + x.pend.2 % 128 * 8) * 2 ^ 32 + x.pendMatch.1 * 2 ^ 64 + x.pendMatch.2 * 2 ^ 96
    + x.inTotal % 2 ^ 40 * 2 ^ 128 + x.outTotal % 2 ^ 40 * 2 ^ 192 + x.hist * 2 ^ 256)
/-- A slot is saved: its defined control words are written, and the words that the save codes afresh lose their poison mark (R371). -/
def Block.saveSlot (b : Block) (decomp : Bool) (n : Nat) (d : BitVec 512) : Block :=
  let x := b.slot (jSlot d)
  let q : BusReq := { laneReq decomp n d (b.slotAddr (jSlot d), 256) with tag := 0 }
  let b := (b.busWrite q [] (BitVec.ofNat 256 (2 ^ 36 - 1)) x.control).2
  b.each (b.slotSpans (jSlot d) x) (fun b p => b.cleanWhole p.1 p.2)
/-- BLK_OPEN after a job: a compress stream's block is open at OUT_FULL (R376); a decompress stream's where the input ended in a block,
and a free value where the lane's place in its input is not given. -/
def Block.blkOpenAfter (b : Block) (d : BitVec 512) (st : Nat) (r : Decoded) : Bool × Block :=
  if !jDecomp d then (st == 1, b)
  else if st = 0 ∧ jFormat d ≠ 3 then (r.inBlk, b)
  else
    let (v, b) := b.free
    (v.getLsbD 0, b)
/-- HIST_VALID after a job: the last 32 KiB of a DEFLATE stream; of Zstandard frames a free value. -/
def Block.histAfter (b : Block) (d : BitVec 512) (plain : Nat) : Nat × Block :=
  if jFormat d ≠ 3 then (min plain 32768, b)
  else
    let (v, b) := b.free
    (min plain (v.toNat % 131073), b)
/-- What a job's end does to its slot (R371, R372, R373). -/
def Block.slotEnd (b : Block) (decomp : Bool) (lane : Nat) (d : BitVec 512) (r : JobRes) (inp : List Byte) : Block :=
  if !jStream d then b else
  let n := jSlot d
  let st := r.status.toNat
  if st = 0 ∨ st = 1 then
    let base := b.slotBase d
    let done := st = 0 ∧ (if jDecomp d then r.ended && jFormat d != 3 else jFlush d == 2)
    let taken := inp.take r.inUsed.toNat
    let o := denseBytes (mkBytes r.out) r.outUsed.toNat
    let comp := base.comp ++ (if jDecomp d then taken else o)
    let plain := base.plain ++ (if jDecomp d then o else taken)
    let (blk, b) := b.blkOpenAfter d st (b.decodeFor d taken).2
    let (hist, b) := b.histAfter d plain.length
    let x : Slot := { base with
      state := if done then 0 else 1
      decomp := jDecomp d
      format := jFormat d
      table := if jNew d then jTable d else base.table
      blkOpen := !done && blk
      inTotal := base.inTotal + r.inUsed.toNat
      outTotal := base.outTotal + r.outUsed.toNat
      pend := (r.pendN.toNat, r.pendBits.toNat % 2 ^ r.pendN.toNat)
      pendMatch := (r.pendLen.toNat, r.pendDist.toNat)
      hist := hist
      comp := if done then [] else comp
      plain := if done then [] else plain }
    (b.modSlot n (fun _ => x)).saveSlot decomp lane d
  else if [0x10, 0x11, 0x12, 0x14, 0x15, 0x16, 0x23].contains st ∨ (st = 0x22 ∧ r.atSave) then b.invalidate n
  else b

/-- The completion of a job (R357, R373). -/
def Block.mkEnd (b : Block) (decomp : Bool) (n : Nat) (d : BitVec 512) (r : JobRes) : JobEnd :=
  let st := r.status.toNat
  let x := b.slot (jSlot d)
  let before := if jNew d then 0 else x.outTotal
  { status := st, lane := n, decomp := decomp, trailing := r.trailing, invalid := jStream d && st == 0x14,
    inUsed := r.inUsed.toNat, outUsed := r.outUsed.toNat, crc := r.crc,
    outTotal := if jStream d then before + r.outUsed.toNat else r.outUsed.toNat }

/-- A lane's job ends as the lane reports (R357, R371, R378). -/
def Block.laneJobEnds (b : Block) (decomp : Bool) (n : Nat) (r : JobRes) : Block :=
  match (b.lane decomp n).job with
  | none => b
  | some j =>
    if !(endOk j.desc j.who.isFt r && b.laneAgrees decomp n j.desc j.who.isFt r) then b else
    let e := b.mkEnd decomp n j.desc r
    let a := b.endAddr decomp n j.desc r
    let pg := pgLane decomp n
    let inp := b.laneInput decomp n j.desc
    let key := b.finderKey n j.desc
    let b := b.onIf (!decomp && !j.who.isFt && ranOut r) (fun b => b.onCz (fun e => { e with finder := (key, r) :: e.finder.filter (fun x => decide (x.1 ≠ key)) }))
    let b := b.each (if jRestores j.desc && !j.who.isFt then b.slotReqs decomp n j.desc (b.slot (jSlot j.desc)) else []) (fun b q => (b.busRead q []).2.2)
    let b := (b.freeTheLane decomp n).laneCount pg e.inUsed e.outUsed
    let b := b.onIf (!j.who.isFt) (fun b => b.laneData decomp n j.desc r)
    let b := b.slotEnd decomp n j.desc r inp
    b.jobEnds pg j e a

end Sys2Proof.Machine
end

