-- ==== Sys2Proof/Machine/Halt.lean ====
section
/-! DEFINITION. What happens to an Eowift core between instructions: load delays (R536-R544), traps with pending loads, halts of the
debug port (R736-R743) and cross-trigger groups. -/
namespace Sys2Proof.Machine

/-! ### Load delays -/

/-- Write a register that a load may name. -/
def Core.setDst (c : Core) (d : LDst) (v : BitVec 80) : Core :=
  match d with
  | .g n => c.setG n (v.setWidth 64)
  | .ac n => c.setAc n v
  | .ptr n => c.setPtr n (v.setWidth 32)
  | .xm => { c with xm := maskOfWrite (v.setWidth 17) }
  | .ym => { c with ym := maskOfWrite (v.setWidth 17) }
  | .sa => { c with sa := v.setWidth 64 }
  | .da => { c with da := v.setWidth 64 }
  | .ct => { c with ct := v.setWidth 32 }
/-- Pending loads to a register do not write it any more (R538). -/
def Core.killLoads (c : Core) (d : LDst) : Core :=
  { c with loads := c.loads.map (fun (l : Delay) => if l.dst = d then { l with dead := true } else l) }
/-- An instruction writes a register. -/
def Core.wr (c : Core) (d : LDst) (v : BitVec 80) : Core := (c.killLoads d).setDst d v
/-- An instruction writes a general register. -/
def Core.wrG (c : Core) (n v : Nat) : Core := c.wr (.g n) (BitVec.ofNat 80 v)
/-- A load writes its register, unless it failed or another instruction has written it. -/
def Core.commit (c : Core) (l : Delay) : Core := if l.dead || l.err.isSome then c else c.setDst l.dst l.val
/-- Every pending load is completed. -/
def Core.commitAll (c : Core) : Core := { c.loads.foldl Core.commit c with loads := [] }
/-- The loads whose third instruction would start now have their data: the core stalls for it (R537). -/
def Core.stall (c : Core) : Core :=
  { c with loads := c.loads.map (fun (l : Delay) => if l.slots = 0 then { l with arrived := true } else l) }
/-- The data of every earlier access has come (FENCE, R544). -/
def Core.arriveAll (c : Core) : Core := { c with loads := c.loads.map (fun (l : Delay) => { l with arrived := true }) }
/-- No delay slot is left. -/
def Core.endDelay (c : Core) : Core := { c with loads := c.loads.map (fun (l : Delay) => { l with slots := 0 }) }
/-- A load that ends its delay now. -/
def Delay.due (l : Delay) : Bool := l.slots == 0 && l.arrived && l.err.isNone
/-- Loads whose delay is over and whose data has come write their registers. -/
def Core.settle (c : Core) : Core :=
  { (c.loads.filter Delay.due).foldl Core.commit c with loads := c.loads.filter (fun l => !l.due) }
/-- An instruction has completed: each pending load has a slot less. -/
def Core.oneSlot (c : Core) : Core := { c with loads := c.loads.map (fun (l : Delay) => { l with slots := l.slots - 1 }) }

/-- The code of a response (R19). -/
def respCode : Resp → Nat
  | .ok => 0 | .decode => 1 | .tenant => 2 | .timeout => 3 | .poison => 4 | .busy => 5 | .offline => 6

/-- The late error due at this boundary, and the core without it (R543). -/
def Core.lateOf (c : Core) : Option (TrapIn × Core) :=
  let t : TrapIn := { code := 5, tpc := c.pc, late := true, inRpt := decide (0 < c.iters) }
  match c.lates with
  | e :: rest =>
    some ({ t with
      taddr := e.addr
      tinfo := e.pc
      resp := respCode e.resp
      store := e.store }, { c with lates := rest })
  | [] => match c.loads.find? (fun l => l.arrived && l.err.isSome) with
    | some l =>
      some ({ t with
        taddr := l.addr
        tinfo := l.pc
        resp := respCode (l.err.getD .ok) }, { c with loads := c.loads.erase l })
    | none => none

/-! ### Halts (R736-R743) -/

/-- The encoding of a halt's cause (CORE_STATUS.CAUSE). -/
def HaltCause.code : HaltCause → Nat
  | .request => 1 | .breakpoint => 2 | .watchpoint => 3 | .group => 4 | .ownedTrap => 5 | .step => 6
/-- The core halts: it is in Monitor mode, and its timers stop (R736, R743). -/
def Block.haltCore (b : Block) (i : Nat) (w : HaltCause) (pl : Bool) (bp trap : Nat) : Block :=
  let c := b.core i
  let left := b.sliceLeft i
  let h := { c with
    halted := some w
    haltInfo := (pl, bp, trap)
    haltMode := c.mode
    haltReq := none
    haltAt := b.usec
    slice := left
    sliceAt := b.usec }
  (b.setCore i (h.setMode 2)).raise (pageBase .dbg 0) 2
/-- The core has no load delay pending and nothing due: a boundary at which a halt, an interrupt or a switch may be taken (R539). -/
def Core.openAt (c : Core) : Bool := c.loads.isEmpty && c.lates.isEmpty && c.watch.isNone
/-- A halt that waits for a boundary takes place (R736). -/
def Block.tryHalt (b : Block) (i : Nat) : Block :=
  let c := b.core i
  match c.haltReq with
  | some w => if c.openAt && c.halted.isNone && !c.stopped && !c.wfi && b.mayHalt i then b.haltCore i w false 0 0 else b
  | none => b
/-- The groups that a halted core fires reach the other cores (R742). -/
def Block.fireOne (b : Block) (i : Nat) : Block :=
  let g := (b.core i).xt &&& 0xFF
  b.each b.coreList (fun b j =>
    let c := b.core j
    if j != i && c.halted.isNone && c.haltReq.isNone && !c.stopped && b.mayHalt j && (((c.xt >>> 8) &&& g) != 0) then
      b.setCore j { c with haltReq := some .group }
    else b)
/-- Groups fire, core after core, until no further core halts. -/
def Block.fireAll : Nat → Block → List Nat → Block
  | 0, b, _ => b
  | _, b, [] => b
  | k + 1, b, i :: rest =>
    let b := b.fireOne i
    let more := b.coreList.filter (fun j => decide ((b.core j).haltReq = some .group) && (b.core j).openAt && !(rest.contains j))
    let b := b.each more Block.tryHalt
    Block.fireAll k b (rest ++ more.filter (fun j => (b.core j).halted.isSome))
/-- A core halts, and its groups fire. -/
def Block.haltFire (b : Block) (i : Nat) (w : HaltCause) (pl : Bool) (bp trap : Nat) : Block :=
  Block.fireAll 101 (b.haltCore i w pl bp trap) [i]
/-- A boundary: a halt that waits takes place, and its groups fire. -/
def Block.boundary (b : Block) (i : Nat) : Block :=
  let was := (b.core i).halted.isSome
  let b := b.tryHalt i
  if !was && (b.core i).halted.isSome then Block.fireAll 101 b [i] else b
/-! ### Traps with pending loads (R540, R541) -/

/-- A synchronous trap is taken: pending loads complete first; where one has failed, DATA_UNCORR is taken instead, with TPC `own`. -/
def Block.takeTrap (b : Block) (i : Nat) (t : TrapIn) (own : W64) : Block :=
  let c := b.core i
  let pl := c.loads.any (fun l => decide (0 < l.slots))
  let t : TrapIn := match c.loads.find? (fun l => l.err.isSome) with
    | some l => { code := 5, tpc := own, taddr := l.addr, resp := respCode (l.err.getD .ok), late := true, inRpt := t.inRpt }
    | none => t
  ((b.setCore i { c.commitAll with acc := [] }).trap i { t with pl := pl }).boundary i
/-- The watchpoint due raises WATCH; another halts the core. -/
def Core.watchTraps (c : Core) : Bool := c.watch.any (fun x => ((smGet {} c.bps (4 + x.1)).ctl).getLsbD 1)
/-- The watchpoint due at this boundary acts: WATCH, or a halt with the loads completed (R546, R739). -/
def Block.takeWatch (b : Block) (i : Nat) : Block :=
  let c := b.core i
  match c.watch with
  | none => b
  | some (k, a, _) =>
    let b := b.setCore i { c with watch := none }
    if c.watchTraps then
      b.takeTrap i { code := 0x0B, tpc := c.pc, taddr := a, tinfo := BitVec.ofNat 64 k, inRpt := decide (0 < c.iters) } c.pc
    else if !b.mayHalt i then b.boundary i
    else
      let pl := c.loads.any (fun l => decide (0 < l.slots))
      match (c.arriveAll).lateOf with
      | some (t, c') => ((b.setCore i { c' with watch := none }).takeTrap i t c.pc)
      | none => (b.setCore i { c.commitAll with watch := none }).haltFire i .watchpoint pl (4 + k) 0
/-- A breakpoint or watchpoint is enabled for the context on the core. -/
def Core.bpOn (c : Core) (k : Nat) : Bool :=
  let x := smGet {} c.bps k
  x.ctl.getLsbD 0 && (!x.ctl.getLsbD 8 || (c.onCtx == some (fld (x.ctl.setWidth 32) 9 20)))
/-- The instruction breakpoint that holds the instruction at pc. -/
def Core.bpHit (c : Core) : Option Nat :=
  if c.bpSkip then none else (List.range 4).find? (fun k => c.bpOn k && decide ((smGet {} c.bps k).addr = c.pc))
/-- An instruction breakpoint halts the core, pending loads completed (R739). -/
def Block.bpHalt (b : Block) (i k : Nat) : Block :=
  let c := b.core i
  let pl := c.loads.any (fun l => decide (0 < l.slots))
  match (c.arriveAll).lateOf with
  | some (t, c') => (b.setCore i c').takeTrap i t c.pc
  | none => (b.setCore i c.commitAll).haltFire i .breakpoint pl k 0
/-- The watchpoint that an access matches: BP_ADDR with its low MASK bits ignored, and the kind of access. -/
def Core.watchHit (c : Core) (a : W64) (w : Bool) : Option Nat :=
  (List.range 2).find? (fun k =>
    let x := smGet {} c.bps (4 + k)
    let acc := fld (x.ctl.setWidth 32) 2 3
    let m := fld (x.ctl.setWidth 32) 4 7
    c.bpOn (4 + k) && decide ((if w then acc / 2 else acc % 2) = 1) && decide (a.toNat / 2 ^ m = x.addr.toNat / 2 ^ m))
/-- The accesses of the last instruction are held against the watchpoints. -/
def Core.checkWatch (c : Core) : Core :=
  let hits := c.acc.filterMap (fun x => (c.watchHit x.1 x.2).map (fun k => (k, x.1, x.2)))
  { c with acc := [], watch := hits.head? }

/-! ### Waking (R586) -/

/-- A core that waits in WFI goes on: WFI completes. -/
def Block.wake (b : Block) (i : Nat) : Block :=
  let c := b.core i
  if !c.wfi then b
  else
    let b := b.setCore i { c with wfi := false, pc := c.pc + 1 }
    if c.ts then b.takeTrap i { code := 0x0A, tpc := c.pc + 1, taddr := c.pc } (c.pc + 1) else b.boundary i

end Sys2Proof.Machine
end

