-- ==== Sys2Proof/Machine/Ew.lean ====
section
/-! DEFINITION. Execution on an Eowift core: fetching, memory operands, the service area's doorbells, the meaning of every instruction,
and repeats (chapters 11 and 12). -/
namespace Sys2Proof.Machine

/-- What an instruction may end in: a trap with the block as it then stands, or a value. -/
abbrev EwM (α : Type) := Except (TrapIn × Block) α

/-! ### Addresses (R510, R514, R518-R521) -/

/-- The Big Top port of a core (R13). -/
def corePort (i : Nat) : BitVec 8 :=
  match coreKind i with
  | .c => BitVec.ofNat 8 (28 + i / 16)
  | .k => 28
  | .s => 47
/-- The class of a core's accesses (R510). -/
def coreCls (i : Nat) : Nat := if coreKind i = .c then 2 else 1
/-- A core's request to the Big Top. -/
def Block.coreReq (b : Block) (i a len : Nat) : BusReq := ⟨corePort i, coreCls i, b.coreTag i, a, len, 0, false⟩
/-- Where a core's scratch space starts; that of a control core is no fabric address. -/
def scrAt (i : Nat) : Nat :=
  match coreKind i with
  | .c => clBase (i / 8)
  | .k => clBase 12 + (i - 96) * 0x40000
  | .s => 0x031100000000
/-- The size of a core's scratch space (R518). -/
def scrLen (i : Nat) : Nat := if coreKind i = .c then 0x400000 else 0x40000
/-- A WINDOW_FAULT (R546). -/
def winFault (pc a : W64) (acc : Acc) (sp : Nat) (perm : Bool) : TrapIn :=
  { code := 6, tpc := pc, taddr := a, tinfo := BitVec.ofNat 64 (acc.code + sp * 4 + (if perm then 16 else 0)) }
/-- The fabric address of a far address: translated in User mode, itself otherwise (R518, R519, R520). -/
def Core.farAt (c : Core) (a : W64) (acc : Acc) : Xl :=
  if c.user then translate c.wins a.toNat acc else if a.toNat < 2 ^ 48 then .ok a.toNat else .none
/-- The fabric address of an operand in a space: 0 X, 1 Y, 2 far, 3 scratch. -/
def Core.spaceAt (c : Core) (i sp : Nat) (a : W64) (acc : Acc) : Xl :=
  match sp with
  | 0 | 1 =>
    let base := if sp = 0 then xBank i else yBank i
    if 0x20000 ≤ a.toNat ∨ (c.user ∧ c.xyKib * 1024 ≤ a.toNat) then .none else .ok (base + a.toNat)
  | 2 => c.farAt a acc
  | _ =>
    if scrLen i ≤ a.toNat ∨ (c.user ∧ ¬(c.scr.1 ≤ a.toNat ∧ a.toNat < c.scr.1 + c.scr.2)) then .none
    else .ok (scrAt i + a.toNat)
/-- An operand is aligned and its address translates; an access that reads and writes needs both permissions. -/
def Block.operand (b : Block) (i : Nat) (pc : W64) (sp : Nat) (a : W64) (n : Nat) (accs : List Acc) : EwM Nat :=
  let c := b.core i
  if a.toNat % n ≠ 0 then .error ({ code := 7, tpc := pc, taddr := a }, b)
  else
    match accs.find? (fun k => match c.spaceAt i sp a k with | .ok _ => false | _ => true) with
    | some k => .error (winFault pc a k sp (decide (c.spaceAt i sp a k = .perm)), b)
    | none => match c.spaceAt i sp a (accs.headD .rd) with
      | .ok f => .ok f
      | _ => .error (winFault pc a .rd sp false, b)

/-! ### Fetch (R521-R524) -/

/-- A core fetches from a fabric address (R510, R521). -/
def fetchable (i a : Nat) : Bool :=
  let dram := decide (a < 0x008000000000)
  let rom := decide (0x031000000000 ≤ a ∧ a < 0x031000080000)
  let aon := decide (0x031100000000 ≤ a ∧ a < 0x031100040000)
  match coreKind i with
  | .c => dram
  | .k => dram || rom
  | .s => rom || aon
/-- Put a line into the cache: 256 sets of 4 ways, the oldest line of the set giving way (the replacement is DESIGN CHOICE, log entry 43). -/
def fillLine (ls : List (Nat × Nat)) (x : Nat × Nat) : List (Nat × Nat) :=
  let same := ls.filter (fun y => y.2 % 256 == x.2 % 256)
  let gone := same.drop 3
  x :: ls.filter (fun y => !gone.contains y)
/-- One line's bytes are fetched: `n` bytes from program address `p`. -/
def Block.fetchPart (b : Block) (i : Nat) (pc p : W64) (n : Nat) (par : Bool) : EwM Block :=
  let c := b.core i
  match c.farAt p .ex with
  | .none => .error (winFault pc p .ex 2 false, b)
  | .perm => .error (winFault pc p .ex 2 true, b)
  | .ok a =>
    if !fetchable i a then .error (winFault pc p .ex 2 false, b)
    else
      let fail := fun (r : Resp) (b : Block) => ({ code := 4, tpc := pc, taddr := p, resp := respCode r : TrapIn }, b)
      if coreKind i = .s then
        let (r, _, b) := b.busRead (b.coreReq i a n) []
        if r = .ok then .ok b else .error (fail r b)
      else
        let key := ((b.coreTag i).toNat, a / 64)
        let hit := c.icache.contains key
        if hit && !par then .ok b
        else
          let b := if hit then (b.modCore i (fun c => { c with icache := c.icache.erase key })).coreRec i 0x181 .corrected 0 else b
          let (r, _, b) := b.busRead (b.coreReq i (a / 64 * 64) 64) []
          if r = .ok then .ok (b.modCore i (fun c => { c with icache := fillLine c.icache key })) else .error (fail r b)
/-- The bytes of an instruction are fetched, in byte order. -/
def Block.fetchIns (b : Block) (i len : Nat) (par : Bool) : EwM Block :=
  let pc := (b.core i).pc
  let k := min len (64 - pc.toNat % 64)
  match b.fetchPart i pc pc k par with
  | .error e => .error e
  | .ok b => if k < len then b.fetchPart i pc (pc + BitVec.ofNat 64 k) (len - k) false else .ok b

/-! ### Memory beside a core (R525) and far memory -/

/-- An access in far space is noted for the watchpoints. -/
def Block.noteFar (b : Block) (i sp : Nat) (a : W64) (w : Bool) : Block :=
  if sp = 2 then b.modCore i (fun c => { c with acc := c.acc ++ [(a, w)] }) else b
/-- One code error that an access of memory beside the core meets. -/
def Block.nearErr (i sp f : Nat) (b : Block) (e : CodeErr) : Block :=
  if coreKind i = .s then b.aonErr e else Block.clErr i (f / 0x20000) (if sp ≤ 1 then 4 else 16) b e
/-- The code errors that a read of memory beside the core meets. -/
def Block.nearErrs (b : Block) (i sp : Nat) (errs : List CodeErr) (f n : Nat) : Block :=
  b.each (b.readOrder (fun _ => 8) (errsWord errs f n)) (Block.nearErr i sp f)
/-- A read of a translated operand: the value, and the response where it is not OK. -/
def Block.readAt (b : Block) (i sp : Nat) (a : W64) (f n : Nat) (errs : List CodeErr) : Nat × Option Resp × Block :=
  if sp = 2 then
    let b := b.noteFar i sp a false
    let (r, v, b) := b.busRead (b.coreReq i f n) []
    (v, if r = .ok then none else some r, b)
  else
    let b := b.nearErrs i sp errs f n
    (b.load f n, if b.anyPoison f n then some .poison else none, b)
/-- DATA_UNCORR on the instruction (R525, R546). -/
def dataUncorr (pc a : W64) (r : Resp) : TrapIn := { code := 5, tpc := pc, taddr := a, resp := respCode r }
/-- A read whose failure traps the instruction. -/
def Block.readNow (b : Block) (i : Nat) (pc : W64) (sp : Nat) (a : W64) (n : Nat) (errs : List CodeErr) : EwM (Nat × Block) := do
  let f ← b.operand i pc sp a n [.rd]
  let (v, r, b) := b.readAt i sp a f n errs
  match r with
  | some r => .error (dataUncorr pc a r, b)
  | none => .ok (v, b)

/-! ### The service area (R141-R145, R626-R628) -/

/-- The context whose service area a program's store reaches, and the offset in it. -/
def Block.svcHit (b : Block) (i f : Nat) : Option (Nat × Nat) :=
  let c := b.core i
  match c.onCtx with
  | some k => if c.user ∧ b.svc k ≤ f ∧ f < b.svc k + 0x1000 then some (k, f - b.svc k) else none
  | none => none
/-- A store to the local queue's doorbell. -/
def Block.lqBell (b : Block) (pc : W64) (c : Nat) (a : W64) (v : W32) : EwM Block :=
  match smFind b.ce.lq c with
  | none => .ok b
  | some l =>
    if l.refuses v then .error ({ code := 0x0E, tpc := pc, taddr := a }, b.lqRefused c v.toNat)
    else .ok (b.lqSubmit c v.toNat (BitVec.ofNat 256 (b.load (l.base + 32 * v.toNat) 32)))
/-- A store of `n` bytes that a doorbell takes; none where it is a store to memory. -/
def Block.svcStore (b : Block) (i : Nat) (pc a : W64) (f n v : Nat) : Option (EwM Block) :=
  match b.svcHit i f with
  | none => none
  | some (c, o) =>
    let w : W32 := BitVec.ofNat 32 v
    if n = 4 ∧ o = 0x600 then some (b.lqBell pc c a w)
    else if n = 4 ∧ o = 0x604 then some (.ok (b.lqHead c w.toNat))
    else if n = 4 ∧ o = 0xC00 then some (.ok (b.searchBell c w))
    else if n = 4 ∧ o = 0xC08 then some (.ok (b.searchClear c w))
    else if n = 4 ∧ o = 0xC10 then some (.ok (b.lineBell c w))
    else if o < 0xC18 ∧ 0xC14 < o + n then some (.ok (b.lineOk c))
    else if 0xC18 ≤ o ∨ (o < 0xC08 ∧ 0xC04 < o + n) then some (.ok b)
    else none
/-- Store bytes beside the core: words covered whole lose their mark, the others merge as R419 gives. -/
def Block.nearStore (b : Block) (i sp : Nat) (errs : List CodeErr) (f n v : Nat) : Block :=
  let b := b.each (linesOf f n) (Block.wordLine errs (fun x => decide (f ≤ x ∧ x < f + n)) (Block.nearErr i sp f))
  b.store f n (BitVec.ofNat (8 * n) v)
/-- A write of a translated operand; a far write that is answered with an error is reported at a later boundary (R543). -/
def Block.writeAt (b : Block) (i : Nat) (pc : W64) (sp : Nat) (a : W64) (f n v : Nat) (errs : List CodeErr) : EwM Block :=
  let b := b.noteFar i sp a true
  match b.svcStore i pc a f n v with
  | some r => r
  | none =>
    if sp = 2 then
      let (r, b) := b.busWrite (b.coreReq i f n) [] (BitVec.allOnes 256) (BitVec.ofNat 2048 v)
      .ok (if r = .ok then b else b.modCore i (fun c => { c with lates := c.lates ++ [⟨pc, a, r, true⟩] }))
    else .ok (b.nearStore i sp errs f n v)
/-- A write to an operand. -/
def Block.writeNow (b : Block) (i : Nat) (pc : W64) (sp : Nat) (a : W64) (n v : Nat) (errs : List CodeErr) : EwM Block := do
  let f ← b.operand i pc sp a n [.wr]
  b.writeAt i pc sp a f n v errs

/-! ### Operands of an instruction -/

/-- The address of a memory operand (R565). -/
def Core.opAddr (c : Core) (e : Enc) : W64 := c.getG (e.mode.toNat % 16) + dispVal e
/-- A general register's low bits. -/
def Core.gw (c : Core) (w n : Nat) : Nat := lowBits w (c.getG n).toNat
/-- Store an optional result and optional flags. -/
def Core.result (c : Core) (n : Nat) (r : Option Nat) (f : Option (BitVec 4)) : Core :=
  let c := match r with | some v => c.wrG n v | none => c
  match f with | some x => { c with fl := x } | none => c
/-- A pair as optional result and flags. -/
def both (x : Nat × BitVec 4) : Option Nat × Option (BitVec 4) := (some x.1, some x.2)
/-- The flags alone. -/
def flagsOnly (x : Nat × BitVec 4) : Option Nat × Option (BitVec 4) := (none, some x.2)
/-- A shift by a count reduced mod w (R581). -/
def shiftRes (o : ShOp) (w a n : Nat) : Option Nat × Option (BitVec 4) := if n % w = 0 then (none, none) else both (shiftFl o w a (n % w))
/-- Result and flags of a register-register instruction; none on a division by zero (R578, R582). -/
def aluRes (o : AluOp) (w a x : Nat) (f : BitVec 4) : Option (Option Nat × Option (BitVec 4)) :=
  let dv := fun (d : DivOp) => if lowBits w x = 0 then none else some (both (divFl d w a x))
  match o with
  | .mov => some (some (lowBits w x), none)
  | .add => some (both (addFl w a x false))
  | .sub => some (both (subFl w a x false))
  | .adc => some (both (addFl w a x (flC f)))
  | .sbb => some (both (subFl w a x (flC f)))
  | .and => some (both (logicFl w (a &&& x)))
  | .or => some (both (logicFl w (a ||| x)))
  | .xor => some (both (logicFl w (a ^^^ x)))
  | .cmp => some (flagsOnly (subFl w a x false))
  | .tst => some (flagsOnly (logicFl w (a &&& x)))
  | .shl => some (shiftRes .shl w a x)
  | .shr => some (shiftRes .shr w a x)
  | .sar => some (shiftRes .sar w a x)
  | .rol => some (shiftRes .rol w a x)
  | .mul => some (both (mulFl w a x))
  | .mulh => some (both (mulhFl w a x))
  | .mulhu => some (both (mulhuFl w a x))
  | .div => dv .div
  | .divu => dv .divu
  | .rem => dv .rem
  | .remu => dv .remu
  | .neg => some (both (subFl w 0 a false))
  | .not => some (some (2 ^ w - 1 - lowBits w a), none)
  | .clz => some (both (countFl w (clz w x)))
  | .popc => some (both (countFl w (popc w x)))
  | .bswap => some (some (bswap w x), none)
/-- Result and flags of an immediate instruction (R579). -/
def immRes (o : ImmOp) (w a x : Nat) : Option Nat × Option (BitVec 4) :=
  match o with
  | .movi => (some (lowBits w x), none)
  | .addi | .addi8 => both (addFl w a x false)
  | .subi => both (subFl w a x false)
  | .andi => both (logicFl w (a &&& x))
  | .ori => both (logicFl w (a ||| x))
  | .xori => both (logicFl w (a ^^^ x))
  | .cmpi | .cmpi8 => flagsOnly (subFl w a x false)
  | .tsti => flagsOnly (logicFl w (a &&& x))
  | .shli => shiftRes .shl w a x
  | .shri => shiftRes .shr w a x
  | .sari => shiftRes .sar w a x
/-- The immediate operand of an immediate instruction at width w (R572). -/
def immArg (o : ImmOp) (e : Enc) (w : Nat) : Nat :=
  match o with
  | .movi | .shli | .shri | .sari => immRaw (.imm o) e
  | _ => immSext (.imm o) e w

/-- A special register by index, zero-extended (R587). -/
def Core.special (c : Core) (s : Nat) : Nat :=
  if s ≤ 7 then (c.getPtr s).toNat
  else match s with
  | 8 => c.xm.toNat
  | 9 => c.ym.toNat
  | 10 => c.sa.toNat
  | 11 => c.da.toNat
  | 12 => c.ct.toNat
  | _ => c.fl.toNat
/-- A special register as a load's destination. -/
def specialDst (s : Nat) : LDst :=
  if s ≤ 7 then .ptr s
  else match s with
  | 8 => .xm
  | 9 => .ym
  | 10 => .sa
  | 11 => .da
  | _ => .ct
/-- Bytes of a special register in memory. -/
def specialBytes (s : Nat) : Nat := if s = 10 ∨ s = 11 then 8 else 4
/-- The mask of a pointer. -/
def Core.maskOf (c : Core) (p : Nat) : BitVec 17 := if p < 4 then c.xm else c.ym
/-- ADDP (R587, R515). -/
def Core.addp (c : Core) (s n : Nat) : Core :=
  if s ≤ 7 then c.wr (.ptr s) ((ptrStep (c.getPtr s) (c.maskOf s) n).setWidth 80)
  else if s = 10 then c.wr .sa ((c.sa + BitVec.ofNat 64 n).setWidth 80)
  else c.wr .da ((c.da + BitVec.ofNat 64 n).setWidth 80)

/-- A load starts its delay (R536, R537); a far load's data has not come yet. -/
def Block.startLoad (b : Block) (i : Nat) (d : LDst) (v : Nat) (pc a : W64) (far : Option (Nat × Nat)) (err : Option Resp) : Block :=
  b.modCore i (fun c =>
    let c := c.killLoads d
    { c with loads := c.loads ++ [⟨d, BitVec.ofNat 80 v, 2, far.isNone, pc, a, far, err, false⟩] })
/-- A load: far data that fails is reported late, other data at once (R525, R542, R543). -/
def Block.loadOp (b : Block) (i : Nat) (pc : W64) (sp : Nat) (a : W64) (n : Nat) (d : LDst) (errs : List CodeErr) (ext : Nat → Nat) :
    EwM Block := do
  let f ← b.operand i pc sp a n [.rd]
  let (v, r, b) := b.readAt i sp a f n errs
  match r with
  | some r => if sp = 2 then .ok (b.startLoad i d 0 pc a (some (f, n)) (some r)) else .error (dataUncorr pc a r, b)
  | none => .ok (b.startLoad i d (ext v) pc a (if sp = 2 then some (f, n) else none) none)

/-! ### System registers (R533, R591) -/

/-- QTIMER as it reads. -/
def Block.qtimer (b : Block) (c : Core) : Nat := match c.qdue with | some q => q - b.usec | none => 0
/-- A system register as MFS reads it; CYCLE is a free value, since the model counts no core clocks. -/
def Block.sysRead (b : Block) (i k : Nat) : Nat × Block :=
  let c := b.core i
  match k with
  | 0 => ((coreId i).toNat, b)
  | 1 => (c.tvec.toNat, b)
  | 2 => (c.tpc.toNat, b)
  | 3 => (c.tst.toNat, b)
  | 4 => (c.tcause.toNat, b)
  | 5 => (c.taddr.toNat, b)
  | 6 => (c.tinfo.toNat, b)
  | 7 => (c.scratch.1.toNat, b)
  | 8 => (c.scratch.2.toNat, b)
  | 9 => (b.qtimer c, b)
  | 10 =>
    let (v, b) := b.free
    (v.toNat, b)
  | 12 => (if coreKind i = .c then c.ctx.toNat else 0, b)
  | 13 => (c.stRead.toNat, b)
  | _ => (0, b)
/-- A write of a system register; one of type RO is ignored. Bits [31:7] of TST, which R533 gives no table of its own, keep what is written
(DESIGN CHOICE, log entry 59). -/
def Block.sysWrite (b : Block) (i k : Nat) (v : W64) : Block :=
  let w : W32 := v.setWidth 32
  b.modCore i (fun c => match k with
    | 1 => { c with tvec := v &&& ~~~0xFFF }
    | 2 => { c with tpc := v }
    | 3 => { c with tst := w }
    | 4 => { c with tcause := w &&& 0xFFFF }
    | 5 => { c with taddr := v }
    | 6 => { c with tinfo := v }
    | 7 => { c with scratch := (v, c.scratch.2) }
    | 8 => { c with scratch := (c.scratch.1, v) }
    | 9 => { c with
        qdue := if w = 0 then none else some (b.usec + w.toNat)
        quantum := false }
    | 11 => { c with icache := [] }
    | 13 => { c with
        st := (c.st &&& ~~~0x74) ||| (w &&& 0x74)
        quantum := c.quantum && w.getLsbD 5 }
    | _ => c)
/-- A RETT may enter the mode of TST on this kind of core (R532). -/
def rettLegal (i : Nat) (tst : W32) : Bool :=
  match coreKind i, fld tst 0 1 with
  | _, 3 => false
  | .c, _ => true
  | .k, m => decide (1 ≤ m)
  | .s, m => m == 2

/-! ### Instructions -/

/-- An instruction's effect, and the trap that is its effect, where it is one. -/
abbrev EwDone := Block × Option TrapIn
/-- An effect that is no trap. -/
def done (b : Block) : EwM EwDone := .ok (b, none)
/-- A change of the core alone. -/
def Block.coreDone (b : Block) (i : Nat) (f : Core → Core) : EwM EwDone := .ok (b.modCore i f, none)
/-- A jump. -/
def Block.jump (b : Block) (i : Nat) (dest : W64) : EwM EwDone := b.coreDone i (fun c => { c with pc := dest })
/-- The space of a stack access (R576). -/
def stackSp (e : Enc) : Nat := if isFar e then 2 else 3
/-- CALL and CALLR: the return address is pushed. -/
def Block.callTo (b : Block) (i : Nat) (pc next dest : W64) (e : Enc) : EwM EwDone := do
  let sp := (b.core i).getG 15 - 8
  let b ← b.writeNow i pc (stackSp e) sp 8 next.toNat e.errs
  b.coreDone i (fun c => { c.wrG 15 sp.toNat with pc := dest })
/-- LD, LDS, XCHG, XADD and CAS (R583, R584, R585). -/
def Block.loadIns (b : Block) (i : Nat) (pc : W64) (o : LdOp) (e : Enc) : EwM EwDone := do
  let c := b.core i
  let w := widthOf e.pre
  let n := w / 8
  let sp := modeSpace e.mode
  let a := c.opAddr e
  match o with
  | .ld => do
    let b ← b.loadOp i pc sp a n (.g (encA e)) e.errs id
    done b
  | .lds => do
    let b ← b.loadOp i pc sp a n (.g (encA e)) e.errs (fun v => ofSgn 64 (sgn w v))
    done b
  | _ => do
    let f ← b.operand i pc sp a n [.rd, .wr]
    let (t, r, b) := b.readAt i sp a f n e.errs
    match r with
    | some r => .error (dataUncorr pc a r, b)
    | none => do
      let old := c.gw w (encA e)
      let stored := o != .cas || t == old
      let v := match o with | .xadd => lowBits w (t + old) | .cas => c.gw w (encB e) | _ => old
      let b ← if stored then b.writeAt i pc sp a f n v e.errs else .ok b
      let b := if o = .cas then b.modCore i (fun c => { c with fl := (c.fl &&& ~~~1) ||| (if stored then 1 else 0) }) else b
      done (b.startLoad i (.g (encA e)) t pc a (if sp = 2 then some (f, n) else none) none)
/-- ADDM, ANDM, ORM and XORM. -/
def Block.rmwIns (b : Block) (i : Nat) (pc : W64) (o : MOp) (e : Enc) : EwM EwDone := do
  let c := b.core i
  let w := widthOf e.pre
  let sp := modeSpace e.mode
  let a := c.opAddr e
  let f ← b.operand i pc sp a (w / 8) [.rd, .wr]
  let (t, r, b) := b.readAt i sp a f (w / 8) e.errs
  match r with
  | some r => .error (dataUncorr pc a r, b)
  | none => do
    let g := c.gw w (encA e)
    let (v, fl) := match o with
      | .addm => addFl w t g false
      | .andm => logicFl w (t &&& g)
      | .orm => logicFl w (t ||| g)
      | .xorm => logicFl w (t ^^^ g)
    let b ← b.writeAt i pc sp a f (w / 8) v e.errs
    b.coreDone i (fun c => { c with fl := fl })
/-- Accumulator instructions without memory (R589). -/
def Core.accIns (c : Core) (o : AcOp) (e : Enc) : Core :=
  let x := c.getG (encB e)
  match o with
  | .clra => c.wr (.ac (encA e)) 0
  | .wra => c.wr (.ac (encA e)) (x.signExtend 80)
  | .rda =>
    let (r, f) := rdaFl (c.getAc (encB e)) (immRaw (.acc .rda) e)
    { c.wrG (encA e) r with fl := f }
  | .rdah => c.wrG (encA e) ((((c.getAc (encB e)) >>> 64).setWidth 16).signExtend 64).toNat
  | .wrah => c.wr (.ac (encA e)) (((c.getAc (encA e)) &&& BitVec.ofNat 80 (2 ^ 64 - 1)) ||| ((x.setWidth 16).setWidth 80 <<< 64))

/-- One execution of MACD (R594, R595). -/
def Block.macdIns (b : Block) (i : Nat) (pc : W64) (e : Enc) : EwM Block := do
  let c := b.core i
  let n := e.reg.toNat / 64
  let xi := e.reg.toNat / 16 % 4
  let yj := 4 + e.reg.toNat / 4 % 4
  let (x, b) ← b.readNow i pc 0 ((c.getPtr xi).setWidth 64) 8 e.errs
  let (y, b) ← b.readNow i pc 1 ((c.getPtr yj).setWidth 64) 8 e.errs
  let p : BitVec 80 := BitVec.ofInt 80 (macdSum (isLane4 e) x y)
  .ok (b.modCore i (fun c =>
    let old := c.getAc n
    let c := c.wr (.ac n) (if e.reg.getLsbD 0 then old - p else old + p)
    let c := c.wr (.ptr xi) ((ptrStep (c.getPtr xi) c.xm 8).setWidth 80)
    c.wr (.ptr yj) ((ptrStep (c.getPtr yj) c.ym 8).setWidth 80)))
/-- sa moved on. -/
def Core.stepSa (c : Core) (n : Nat) : Core := c.wr .sa ((c.sa + BitVec.ofNat 64 n).setWidth 80)
/-- da moved on. -/
def Core.stepDa (c : Core) (n : Nat) : Core := c.wr .da ((c.da + BitVec.ofNat 64 n).setWidth 80)
/-- One CRC-32C step over an element (R598). -/
def crcStep (c : W32) (s n : Nat) : W32 := ((List.range n).map (natByte s)).foldl (crcByte poly32c) c
/-- One iteration of SCPY, SFIL, SCMP, SFND or SCRC (R597). -/
def Block.strIns (b : Block) (i : Nat) (pc : W64) (o : StrOp) (e : Enc) : EwM Block := do
  let c := b.core i
  let w := widthOf e.pre
  let n := w / 8
  match o with
  | .scpy => do
    let (t, b) ← b.readNow i pc 2 c.sa n []
    let b ← b.writeNow i pc 2 c.da n t []
    .ok (b.modCore i (fun c => (c.stepSa n).stepDa n))
  | .sfil => do
    let b ← b.writeNow i pc 2 c.da n (c.gw w (encA e)) []
    .ok (b.modCore i (fun c => c.stepDa n))
  | .scmp => do
    let (s, b) ← b.readNow i pc 2 c.sa n []
    let (d, b) ← b.readNow i pc 2 c.da n []
    .ok (b.modCore i (fun c => { (c.stepSa n).stepDa n with fl := (subFl w s d false).2 }))
  | .sfnd => do
    let (s, b) ← b.readNow i pc 2 c.sa n []
    .ok (b.modCore i (fun c => { c.stepSa n with fl := (subFl w (c.gw w (encA e)) s false).2 }))
  | .scrc => do
    let (s, b) ← b.readNow i pc 2 c.sa n []
    .ok (b.modCore i (fun c => (c.stepSa n).wrG (encA e) (crcStep ((c.getG (encA e)).setWidth 32) s n).toNat))
/-- One iteration of BXFR (R597). -/
def Block.bxfrIns (b : Block) (i : Nat) (pc : W64) (e : Enc) : EwM Block := do
  let c := b.core i
  let p := encA e
  let sp := if p < 4 then 0 else 1
  let at_ : W64 := (c.getPtr p).setWidth 64
  let move := fun (c : Core) => c.wr (.ptr p) ((ptrStep (c.getPtr p) (c.maskOf p) 8).setWidth 80)
  if encB e = 0 then do
    let (v, b) ← b.readNow i pc 2 c.sa 8 []
    let b ← b.writeNow i pc sp at_ 8 v e.errs
    .ok (b.modCore i (fun c => move (c.stepSa 8)))
  else do
    let (v, b) ← b.readNow i pc sp at_ 8 e.errs
    let b ← b.writeNow i pc 2 c.da 8 v []
    .ok (b.modCore i (fun c => move (c.stepDa 8)))
/-- One iteration of a repeatable instruction. -/
def Block.iterate (b : Block) (i : Nat) (pc : W64) (op : EwOp) (e : Enc) : EwM Block :=
  match op with
  | .macd => b.macdIns i pc e
  | .bxfr => b.bxfrIns i pc e
  | .str o => b.strIns i pc o e
  | _ => .ok b
/-- The repeatable class (R569). -/
def repeatable : EwOp → Bool
  | .macd | .bxfr | .str _ => true
  | _ => false

/-- Memory instructions of form RM and MI other than loads of general registers. -/
def Block.memIns (b : Block) (i : Nat) (pc : W64) (op : EwOp) (e : Enc) : EwM EwDone :=
  let c := b.core i
  let w := widthOf e.pre
  let sp := modeSpace e.mode
  let a := c.opAddr e
  match op with
  | .st => do
    let b ← b.writeNow i pc sp a (w / 8) (c.gw w (encA e)) e.errs
    done b
  | .sti => do
    let b ← b.writeNow i pc sp a (w / 8) (immRaw .sti e) e.errs
    done b
  | .lea => b.coreDone i (fun c => c.wrG (encA e) a.toNat)
  | .ldp => do
    let b ← b.loadOp i pc sp a (specialBytes (encA e)) (specialDst (encA e)) e.errs id
    done b
  | .stp => do
    let b ← b.writeNow i pc sp a (specialBytes (encA e)) (c.special (encA e)) e.errs
    done b
  | .lda => do
    let b ← b.loadOp i pc sp a 16 (.ac (encA e)) e.errs (fun v => v % 2 ^ 80)
    done b
  | .sta => do
    let b ← b.writeNow i pc sp a 16 (c.getAc (encA e)).toNat e.errs
    done b
  | _ => done b
/-- Control transfer and stack instructions. -/
def Block.flowIns (b : Block) (i : Nat) (pc next : W64) (op : EwOp) (e : Enc) : EwM EwDone :=
  let c := b.core i
  let rel := next + BitVec.ofNat 64 (immSext op e 64)
  let sp := c.getG 15
  match op with
  | .brk => .ok (b, some { code := 9, tpc := next, taddr := pc })
  | .syscall => .ok (b, some { code := 0x0D, tpc := next, taddr := pc, tinfo := BitVec.ofNat 64 (immRaw .syscall e) })
  | .fence => b.coreDone i Core.arriveAll
  | .rett =>
    if rettLegal i c.tst then done (b.rett i) else .error ({ code := 1, tpc := pc, taddr := pc }, b)
  | .wfi =>
    if c.quantum || b.dispDue i || (coreKind i == .s && b.cx.sIrq) || (coreKind i == .k && !b.cx.kInts.isEmpty) then done b
    else b.coreDone i (fun c => { c.arriveAll with
      wfi := true
      pc := pc })
  | .ret => do
    let (v, b) ← b.readNow i pc (stackSp e) sp 8 e.errs
    b.coreDone i (fun c => { c.wrG 15 (sp + 8).toNat with pc := BitVec.ofNat 64 v })
  | .jmp _ => b.jump i rel
  | .call => b.callTo i pc next rel e
  | .jmpr => b.jump i (c.getG (encA e))
  | .callr => b.callTo i pc next (c.getG (encA e)) e
  | .bcc k _ => if condHolds k c.fl then b.jump i rel else done b
  | .push => do
    let b ← b.writeNow i pc (stackSp e) (sp - 8) 8 (c.getG (encA e)).toNat e.errs
    b.coreDone i (fun c => c.wrG 15 (sp - 8).toNat)
  | .pop => do
    let f ← b.operand i pc (stackSp e) sp 8 [.rd]
    let (v, r, b) := b.readAt i (stackSp e) sp f 8 e.errs
    let far := if isFar e then some (f, 8) else none
    match r, isFar e with
    | some r, false => .error (dataUncorr pc sp r, b)
    | r, _ => done ((b.modCore i (fun c => c.wrG 15 (sp + 8).toNat)).startLoad i (.g (encA e)) v pc sp far r)
  | _ => done b
/-- What one instruction without a repeat prefix does; `next` stands in pc already. -/
def Block.insDo (b : Block) (i : Nat) (pc next : W64) (op : EwOp) (e : Enc) : EwM EwDone :=
  let c := b.core i
  let w := widthOf e.pre
  match op with
  | .alu o =>
    match aluRes o w (c.getG (encA e)).toNat (c.getG (encB e)).toNat c.fl with
    | none => .error ({ code := 8, tpc := pc, taddr := pc }, b)
    | some (r, f) => b.coreDone i (fun c => c.result (encA e) r f)
  | .imm o =>
    let (r, f) := immRes o w (c.getG (encA e)).toNat (immArg o e w)
    b.coreDone i (fun c => c.result (encA e) r f)
  | .load o => b.loadIns i pc o e
  | .rmw o => b.rmwIns i pc o e
  | .st | .sti | .lea | .ldp | .stp | .lda | .sta => b.memIns i pc op e
  | .get => b.coreDone i (fun c => c.wrG (encA e) (c.special (encB e)))
  | .put =>
    let v := c.getG (encB e)
    if encA e = 13 then b.coreDone i (fun c => { c with fl := v.setWidth 4 })
    else b.coreDone i (fun c => c.wr (specialDst (encA e)) (v.setWidth 80))
  | .addp => b.coreDone i (fun c => c.addp (encA e) (immSext .addp e 64))
  | .acc o => b.coreDone i (fun c => c.accIns o e)
  | .mfs =>
    let (v, b) := b.sysRead i (immRaw .mfs e)
    b.coreDone i (fun c => c.wrG (encA e) v)
  | .mts => done (b.sysWrite i (immRaw .mts e) (c.getG (encA e)))
  | .macd | .bxfr | .str _ => do
    let b ← b.iterate i pc op e
    done b
  | _ => b.flowIns i pc next op e

/-! ### Repeats (R601-R607) -/

/-- An iteration ends the repeat. -/
def repEnds (k : RepKind) (c : Core) : Bool := c.ct == 0 || (k == .rsd && !flZ c.fl) || (k == .rsm && flZ c.fl)
/-- Iterations are run until the repeat ends, the fuel is gone, or something is due between two of them. The flag says that the repeat
has ended. -/
def Block.repLoop (i : Nat) (pc : W64) (op : EwOp) (e : Enc) : Nat → Block → EwM (Bool × Block)
  | 0, b => .ok (false, b)
  | n + 1, b =>
    match b.iterate i pc op e with
    | .error (t, b1) =>
      let c := b.core i
      .error ({ t with inRpt := decide (0 < c.iters) }, b1.setCore i { c with icache := (b1.core i).icache })
    | .ok b =>
      let b := b.modCore i (fun c => ({ c with
        ct := c.ct - 1
        iters := c.iters + 1 }).checkWatch)
      let c := b.core i
      if repEnds (repOf e.pre) c then .ok (true, b)
      else if c.watch.isSome || !c.lates.isEmpty || c.haltReq.isSome then .ok (false, b)
      else Block.repLoop i pc op e n b
/-- A repeated instruction: it ends, with pc at the next one, or stays open between two iterations. -/
def Block.repDo (b : Block) (i : Nat) (pc next : W64) (op : EwOp) (e : Enc) : EwM (Bool × Block) :=
  let ct := (b.core i).ct.toNat
  if ct = 0 then .ok (true, b.modCore i (fun c => { c with pc := next }))
  else
    match Block.repLoop i pc op e (match e.cut with | some k => min ct (max 1 k.toNat) | none => ct) b with
    | .error x => .error x
    | .ok (ended, b) => .ok (ended, if ended then b.modCore i (fun c => { c with pc := next }) else b)

/-! ### One instruction -/

/-- A boundary after a completed instruction: STEP where st.TS was 1, delays that end, and a halt that waits (R545, R547, R737). -/
def Block.insEnd (b : Block) (i : Nat) (pc : W64) (ts : Bool) : Block :=
  let b := b.modCore i (fun c => { c with iters := 0 })
  let c := b.core i
  if ts && !c.watchTraps && c.lateOf.isNone && !c.wfi then b.takeTrap i { code := 0x0A, tpc := c.pc, taddr := pc } c.pc
  else (b.modCore i Core.settle).boundary i
/-- A trap of an instruction that has not completed: the core is as it was before it, but for what its fetch left in the cache. -/
def Block.insTrap (b : Block) (i : Nat) (before : Core) (t : TrapIn) : Block :=
  (b.setCore i { before with
    icache := (b.core i).icache
    acc := [] }).takeTrap i t before.pc
/-- An instruction with its bytes fetched and found legal. -/
def Block.insRun (b : Block) (i : Nat) (op : EwOp) (e : Enc) : Block :=
  let c := b.core i
  let next := c.pc + BitVec.ofNat 64 (ewLen op e)
  if repeatable op && repOf e.pre != .none then
    match b.repDo i c.pc next op e with
    | .error (t, b1) => (b1.modCore i (fun c => { c with acc := [] })).takeTrap i t c.pc
    | .ok (true, b1) => b1.insEnd i c.pc c.ts
    | .ok (false, b1) => b1.boundary i
  else
    match (b.modCore i (fun c => { c.oneSlot with pc := next })).insDo i c.pc next op e with
    | .error (t, b1) => b1.insTrap i c t
    | .ok (b1, some t) => (b1.modCore i (fun c => { c with iters := 0 })).takeTrap i t c.pc
    | .ok (b1, none) => (b1.modCore i Core.checkWatch).insEnd i c.pc c.ts
/-- The checks of an instruction's bytes, in the order of R547. -/
def Block.insCheck (b : Block) (i : Nat) (op : EwOp) (e : Enc) : EwM Block :=
  let c := b.core i
  let bad := fun (code : Nat) (b : Block) => ({ code := code, tpc := c.pc, taddr := c.pc : TrapIn }, b)
  match b.fetchIns i (min 15 (ewLen op e)) e.par with
  | .error x => .error x
  | .ok b =>
    if 15 < ewLen op e then .error (bad 3 b)
    else if !fieldsLegal op e || (c.user && privileged op) || (coreKind i == .s && absentOnS op e) || (op == .rett && !rettLegal i c.tst) then
      .error (bad 1 b)
    else if !pfxLegal op e then .error (bad 2 b)
    else .ok b
/-- A core issues an instruction: what is due at the boundary comes first; then the checks, then the effect. -/
def Block.ew (b : Block) (i : Nat) (op : EwOp) (e : Enc) : Block :=
  let c := b.core i
  if !b.coreLive i || c.wfi || !pfxBytes e then b
  else
    let hit := if b.mayHalt i then c.bpHit else none
    let c := (if repOf e.pre = .none then c else c.endDelay).stall
    match c.lateOf with
    | some (t, c1) => (b.setCore i c1).takeTrap i t c.pc
    | none =>
      if c.watch.isSome then (b.setCore i c).takeWatch i
      else if hit.isSome then b.bpHalt i (hit.getD 0)
      else
        let b := b.setCore i { c.settle with
          bpSkip := false
          acc := [] }
        match b.insCheck i op e with
        | .error (t, b1) => b1.insTrap i (b.core i) t
        | .ok b1 => b1.insRun i op e

end Sys2Proof.Machine
end

