-- ==== Sys2Proof/Machine/EowiftRows.lean ====
section
/-! DEFINITION. The commands of chapter 12: one Eowift instruction executed by one core. -/
namespace Sys2Proof.Machine

/-- A command to a core: the Eowift-S core 100 runs on the always-on supply, the others where clocks run. -/
def State.onCore (s : State) (core : BitVec 7) (f : Block → Block) : Host.Outcome State Fault Refusal :=
  if core.toNat ≥ 100 then s.runAon f else s.run f

/-- BRK. -/
def execEwBrk (core : BitVec 7) (e : Enc) (s : State) : Host.Outcome State Fault Refusal :=
  s.onCore core (fun b => b.ew core.toNat .brk e)
/-- NOP. -/
def execEwNop (core : BitVec 7) (e : Enc) (s : State) : Host.Outcome State Fault Refusal :=
  s.onCore core (fun b => b.ew core.toNat .nop e)
/-- SYSCALL. -/
def execEwSyscall (core : BitVec 7) (e : Enc) (s : State) : Host.Outcome State Fault Refusal :=
  s.onCore core (fun b => b.ew core.toNat .syscall e)
/-- FENCE. -/
def execEwFence (core : BitVec 7) (e : Enc) (s : State) : Host.Outcome State Fault Refusal :=
  s.onCore core (fun b => b.ew core.toNat .fence e)
/-- RETT. -/
def execEwRett (core : BitVec 7) (e : Enc) (s : State) : Host.Outcome State Fault Refusal :=
  s.onCore core (fun b => b.ew core.toNat .rett e)
/-- WFI. -/
def execEwWfi (core : BitVec 7) (e : Enc) (s : State) : Host.Outcome State Fault Refusal :=
  s.onCore core (fun b => b.ew core.toNat .wfi e)
/-- RET. -/
def execEwRet (core : BitVec 7) (e : Enc) (s : State) : Host.Outcome State Fault Refusal :=
  s.onCore core (fun b => b.ew core.toNat .ret e)
/-- JMP_REL8. -/
def execEwJmpRel8 (core : BitVec 7) (e : Enc) (s : State) : Host.Outcome State Fault Refusal :=
  s.onCore core (fun b => b.ew core.toNat (.jmp false) e)
/-- JMP_REL32. -/
def execEwJmpRel32 (core : BitVec 7) (e : Enc) (s : State) : Host.Outcome State Fault Refusal :=
  s.onCore core (fun b => b.ew core.toNat (.jmp true) e)
/-- CALL. -/
def execEwCall (core : BitVec 7) (e : Enc) (s : State) : Host.Outcome State Fault Refusal :=
  s.onCore core (fun b => b.ew core.toNat .call e)
/-- JMPR. -/
def execEwJmpr (core : BitVec 7) (e : Enc) (s : State) : Host.Outcome State Fault Refusal :=
  s.onCore core (fun b => b.ew core.toNat .jmpr e)
/-- CALLR. -/
def execEwCallr (core : BitVec 7) (e : Enc) (s : State) : Host.Outcome State Fault Refusal :=
  s.onCore core (fun b => b.ew core.toNat .callr e)
/-- BEQ. -/
def execEwBeq (core : BitVec 7) (e : Enc) (s : State) : Host.Outcome State Fault Refusal :=
  s.onCore core (fun b => b.ew core.toNat (.bcc 0 false) e)
/-- BNE. -/
def execEwBne (core : BitVec 7) (e : Enc) (s : State) : Host.Outcome State Fault Refusal :=
  s.onCore core (fun b => b.ew core.toNat (.bcc 1 false) e)
/-- BLT. -/
def execEwBlt (core : BitVec 7) (e : Enc) (s : State) : Host.Outcome State Fault Refusal :=
  s.onCore core (fun b => b.ew core.toNat (.bcc 2 false) e)
/-- BGE. -/
def execEwBge (core : BitVec 7) (e : Enc) (s : State) : Host.Outcome State Fault Refusal :=
  s.onCore core (fun b => b.ew core.toNat (.bcc 3 false) e)
/-- BLE. -/
def execEwBle (core : BitVec 7) (e : Enc) (s : State) : Host.Outcome State Fault Refusal :=
  s.onCore core (fun b => b.ew core.toNat (.bcc 4 false) e)
/-- BGT. -/
def execEwBgt (core : BitVec 7) (e : Enc) (s : State) : Host.Outcome State Fault Refusal :=
  s.onCore core (fun b => b.ew core.toNat (.bcc 5 false) e)
/-- BULT. -/
def execEwBult (core : BitVec 7) (e : Enc) (s : State) : Host.Outcome State Fault Refusal :=
  s.onCore core (fun b => b.ew core.toNat (.bcc 6 false) e)
/-- BUGE. -/
def execEwBuge (core : BitVec 7) (e : Enc) (s : State) : Host.Outcome State Fault Refusal :=
  s.onCore core (fun b => b.ew core.toNat (.bcc 7 false) e)
/-- BULE. -/
def execEwBule (core : BitVec 7) (e : Enc) (s : State) : Host.Outcome State Fault Refusal :=
  s.onCore core (fun b => b.ew core.toNat (.bcc 8 false) e)
/-- BUGT. -/
def execEwBugt (core : BitVec 7) (e : Enc) (s : State) : Host.Outcome State Fault Refusal :=
  s.onCore core (fun b => b.ew core.toNat (.bcc 9 false) e)
/-- BMI. -/
def execEwBmi (core : BitVec 7) (e : Enc) (s : State) : Host.Outcome State Fault Refusal :=
  s.onCore core (fun b => b.ew core.toNat (.bcc 10 false) e)
/-- BPL. -/
def execEwBpl (core : BitVec 7) (e : Enc) (s : State) : Host.Outcome State Fault Refusal :=
  s.onCore core (fun b => b.ew core.toNat (.bcc 11 false) e)
/-- BVS. -/
def execEwBvs (core : BitVec 7) (e : Enc) (s : State) : Host.Outcome State Fault Refusal :=
  s.onCore core (fun b => b.ew core.toNat (.bcc 12 false) e)
/-- BVC. -/
def execEwBvc (core : BitVec 7) (e : Enc) (s : State) : Host.Outcome State Fault Refusal :=
  s.onCore core (fun b => b.ew core.toNat (.bcc 13 false) e)
/-- BEQ_REL32. -/
def execEwBeqRel32 (core : BitVec 7) (e : Enc) (s : State) : Host.Outcome State Fault Refusal :=
  s.onCore core (fun b => b.ew core.toNat (.bcc 0 true) e)
/-- BNE_REL32. -/
def execEwBneRel32 (core : BitVec 7) (e : Enc) (s : State) : Host.Outcome State Fault Refusal :=
  s.onCore core (fun b => b.ew core.toNat (.bcc 1 true) e)
/-- BLT_REL32. -/
def execEwBltRel32 (core : BitVec 7) (e : Enc) (s : State) : Host.Outcome State Fault Refusal :=
  s.onCore core (fun b => b.ew core.toNat (.bcc 2 true) e)
/-- BGE_REL32. -/
def execEwBgeRel32 (core : BitVec 7) (e : Enc) (s : State) : Host.Outcome State Fault Refusal :=
  s.onCore core (fun b => b.ew core.toNat (.bcc 3 true) e)
/-- BLE_REL32. -/
def execEwBleRel32 (core : BitVec 7) (e : Enc) (s : State) : Host.Outcome State Fault Refusal :=
  s.onCore core (fun b => b.ew core.toNat (.bcc 4 true) e)
/-- BGT_REL32. -/
def execEwBgtRel32 (core : BitVec 7) (e : Enc) (s : State) : Host.Outcome State Fault Refusal :=
  s.onCore core (fun b => b.ew core.toNat (.bcc 5 true) e)
/-- BULT_REL32. -/
def execEwBultRel32 (core : BitVec 7) (e : Enc) (s : State) : Host.Outcome State Fault Refusal :=
  s.onCore core (fun b => b.ew core.toNat (.bcc 6 true) e)
/-- BUGE_REL32. -/
def execEwBugeRel32 (core : BitVec 7) (e : Enc) (s : State) : Host.Outcome State Fault Refusal :=
  s.onCore core (fun b => b.ew core.toNat (.bcc 7 true) e)
/-- BULE_REL32. -/
def execEwBuleRel32 (core : BitVec 7) (e : Enc) (s : State) : Host.Outcome State Fault Refusal :=
  s.onCore core (fun b => b.ew core.toNat (.bcc 8 true) e)
/-- BUGT_REL32. -/
def execEwBugtRel32 (core : BitVec 7) (e : Enc) (s : State) : Host.Outcome State Fault Refusal :=
  s.onCore core (fun b => b.ew core.toNat (.bcc 9 true) e)
/-- BMI_REL32. -/
def execEwBmiRel32 (core : BitVec 7) (e : Enc) (s : State) : Host.Outcome State Fault Refusal :=
  s.onCore core (fun b => b.ew core.toNat (.bcc 10 true) e)
/-- BPL_REL32. -/
def execEwBplRel32 (core : BitVec 7) (e : Enc) (s : State) : Host.Outcome State Fault Refusal :=
  s.onCore core (fun b => b.ew core.toNat (.bcc 11 true) e)
/-- BVS_REL32. -/
def execEwBvsRel32 (core : BitVec 7) (e : Enc) (s : State) : Host.Outcome State Fault Refusal :=
  s.onCore core (fun b => b.ew core.toNat (.bcc 12 true) e)
/-- BVC_REL32. -/
def execEwBvcRel32 (core : BitVec 7) (e : Enc) (s : State) : Host.Outcome State Fault Refusal :=
  s.onCore core (fun b => b.ew core.toNat (.bcc 13 true) e)
/-- MOV. -/
def execEwMov (core : BitVec 7) (e : Enc) (s : State) : Host.Outcome State Fault Refusal :=
  s.onCore core (fun b => b.ew core.toNat (.alu .mov) e)
/-- ADD. -/
def execEwAdd (core : BitVec 7) (e : Enc) (s : State) : Host.Outcome State Fault Refusal :=
  s.onCore core (fun b => b.ew core.toNat (.alu .add) e)
/-- SUB. -/
def execEwSub (core : BitVec 7) (e : Enc) (s : State) : Host.Outcome State Fault Refusal :=
  s.onCore core (fun b => b.ew core.toNat (.alu .sub) e)
/-- ADC. -/
def execEwAdc (core : BitVec 7) (e : Enc) (s : State) : Host.Outcome State Fault Refusal :=
  s.onCore core (fun b => b.ew core.toNat (.alu .adc) e)
/-- SBB. -/
def execEwSbb (core : BitVec 7) (e : Enc) (s : State) : Host.Outcome State Fault Refusal :=
  s.onCore core (fun b => b.ew core.toNat (.alu .sbb) e)
/-- AND. -/
def execEwAnd (core : BitVec 7) (e : Enc) (s : State) : Host.Outcome State Fault Refusal :=
  s.onCore core (fun b => b.ew core.toNat (.alu .and) e)
/-- OR. -/
def execEwOr (core : BitVec 7) (e : Enc) (s : State) : Host.Outcome State Fault Refusal :=
  s.onCore core (fun b => b.ew core.toNat (.alu .or) e)
/-- XOR. -/
def execEwXor (core : BitVec 7) (e : Enc) (s : State) : Host.Outcome State Fault Refusal :=
  s.onCore core (fun b => b.ew core.toNat (.alu .xor) e)
/-- CMP. -/
def execEwCmp (core : BitVec 7) (e : Enc) (s : State) : Host.Outcome State Fault Refusal :=
  s.onCore core (fun b => b.ew core.toNat (.alu .cmp) e)
/-- TST. -/
def execEwTst (core : BitVec 7) (e : Enc) (s : State) : Host.Outcome State Fault Refusal :=
  s.onCore core (fun b => b.ew core.toNat (.alu .tst) e)
/-- SHL. -/
def execEwShl (core : BitVec 7) (e : Enc) (s : State) : Host.Outcome State Fault Refusal :=
  s.onCore core (fun b => b.ew core.toNat (.alu .shl) e)
/-- SHR. -/
def execEwShr (core : BitVec 7) (e : Enc) (s : State) : Host.Outcome State Fault Refusal :=
  s.onCore core (fun b => b.ew core.toNat (.alu .shr) e)
/-- SAR. -/
def execEwSar (core : BitVec 7) (e : Enc) (s : State) : Host.Outcome State Fault Refusal :=
  s.onCore core (fun b => b.ew core.toNat (.alu .sar) e)
/-- ROL. -/
def execEwRol (core : BitVec 7) (e : Enc) (s : State) : Host.Outcome State Fault Refusal :=
  s.onCore core (fun b => b.ew core.toNat (.alu .rol) e)
/-- MUL. -/
def execEwMul (core : BitVec 7) (e : Enc) (s : State) : Host.Outcome State Fault Refusal :=
  s.onCore core (fun b => b.ew core.toNat (.alu .mul) e)
/-- MULH. -/
def execEwMulh (core : BitVec 7) (e : Enc) (s : State) : Host.Outcome State Fault Refusal :=
  s.onCore core (fun b => b.ew core.toNat (.alu .mulh) e)
/-- DIV. -/
def execEwDiv (core : BitVec 7) (e : Enc) (s : State) : Host.Outcome State Fault Refusal :=
  s.onCore core (fun b => b.ew core.toNat (.alu .div) e)
/-- DIVU. -/
def execEwDivu (core : BitVec 7) (e : Enc) (s : State) : Host.Outcome State Fault Refusal :=
  s.onCore core (fun b => b.ew core.toNat (.alu .divu) e)
/-- REM. -/
def execEwRem (core : BitVec 7) (e : Enc) (s : State) : Host.Outcome State Fault Refusal :=
  s.onCore core (fun b => b.ew core.toNat (.alu .rem) e)
/-- REMU. -/
def execEwRemu (core : BitVec 7) (e : Enc) (s : State) : Host.Outcome State Fault Refusal :=
  s.onCore core (fun b => b.ew core.toNat (.alu .remu) e)
/-- NEG. -/
def execEwNeg (core : BitVec 7) (e : Enc) (s : State) : Host.Outcome State Fault Refusal :=
  s.onCore core (fun b => b.ew core.toNat (.alu .neg) e)
/-- NOT. -/
def execEwNot (core : BitVec 7) (e : Enc) (s : State) : Host.Outcome State Fault Refusal :=
  s.onCore core (fun b => b.ew core.toNat (.alu .not) e)
/-- CLZ. -/
def execEwClz (core : BitVec 7) (e : Enc) (s : State) : Host.Outcome State Fault Refusal :=
  s.onCore core (fun b => b.ew core.toNat (.alu .clz) e)
/-- POPC. -/
def execEwPopc (core : BitVec 7) (e : Enc) (s : State) : Host.Outcome State Fault Refusal :=
  s.onCore core (fun b => b.ew core.toNat (.alu .popc) e)
/-- BSWAP. -/
def execEwBswap (core : BitVec 7) (e : Enc) (s : State) : Host.Outcome State Fault Refusal :=
  s.onCore core (fun b => b.ew core.toNat (.alu .bswap) e)
/-- MULHU. -/
def execEwMulhu (core : BitVec 7) (e : Enc) (s : State) : Host.Outcome State Fault Refusal :=
  s.onCore core (fun b => b.ew core.toNat (.alu .mulhu) e)
/-- MOVI. -/
def execEwMovi (core : BitVec 7) (e : Enc) (s : State) : Host.Outcome State Fault Refusal :=
  s.onCore core (fun b => b.ew core.toNat (.imm .movi) e)
/-- ADDI. -/
def execEwAddi (core : BitVec 7) (e : Enc) (s : State) : Host.Outcome State Fault Refusal :=
  s.onCore core (fun b => b.ew core.toNat (.imm .addi) e)
/-- SUBI. -/
def execEwSubi (core : BitVec 7) (e : Enc) (s : State) : Host.Outcome State Fault Refusal :=
  s.onCore core (fun b => b.ew core.toNat (.imm .subi) e)
/-- ANDI. -/
def execEwAndi (core : BitVec 7) (e : Enc) (s : State) : Host.Outcome State Fault Refusal :=
  s.onCore core (fun b => b.ew core.toNat (.imm .andi) e)
/-- ORI. -/
def execEwOri (core : BitVec 7) (e : Enc) (s : State) : Host.Outcome State Fault Refusal :=
  s.onCore core (fun b => b.ew core.toNat (.imm .ori) e)
/-- XORI. -/
def execEwXori (core : BitVec 7) (e : Enc) (s : State) : Host.Outcome State Fault Refusal :=
  s.onCore core (fun b => b.ew core.toNat (.imm .xori) e)
/-- CMPI. -/
def execEwCmpi (core : BitVec 7) (e : Enc) (s : State) : Host.Outcome State Fault Refusal :=
  s.onCore core (fun b => b.ew core.toNat (.imm .cmpi) e)
/-- TSTI. -/
def execEwTsti (core : BitVec 7) (e : Enc) (s : State) : Host.Outcome State Fault Refusal :=
  s.onCore core (fun b => b.ew core.toNat (.imm .tsti) e)
/-- SHLI. -/
def execEwShli (core : BitVec 7) (e : Enc) (s : State) : Host.Outcome State Fault Refusal :=
  s.onCore core (fun b => b.ew core.toNat (.imm .shli) e)
/-- SHRI. -/
def execEwShri (core : BitVec 7) (e : Enc) (s : State) : Host.Outcome State Fault Refusal :=
  s.onCore core (fun b => b.ew core.toNat (.imm .shri) e)
/-- SARI. -/
def execEwSari (core : BitVec 7) (e : Enc) (s : State) : Host.Outcome State Fault Refusal :=
  s.onCore core (fun b => b.ew core.toNat (.imm .sari) e)
/-- ADDI8. -/
def execEwAddi8 (core : BitVec 7) (e : Enc) (s : State) : Host.Outcome State Fault Refusal :=
  s.onCore core (fun b => b.ew core.toNat (.imm .addi8) e)
/-- CMPI8. -/
def execEwCmpi8 (core : BitVec 7) (e : Enc) (s : State) : Host.Outcome State Fault Refusal :=
  s.onCore core (fun b => b.ew core.toNat (.imm .cmpi8) e)
/-- LD. -/
def execEwLd (core : BitVec 7) (e : Enc) (s : State) : Host.Outcome State Fault Refusal :=
  s.onCore core (fun b => b.ew core.toNat (.load .ld) e)
/-- LDS. -/
def execEwLds (core : BitVec 7) (e : Enc) (s : State) : Host.Outcome State Fault Refusal :=
  s.onCore core (fun b => b.ew core.toNat (.load .lds) e)
/-- ST. -/
def execEwSt (core : BitVec 7) (e : Enc) (s : State) : Host.Outcome State Fault Refusal :=
  s.onCore core (fun b => b.ew core.toNat .st e)
/-- LEA. -/
def execEwLea (core : BitVec 7) (e : Enc) (s : State) : Host.Outcome State Fault Refusal :=
  s.onCore core (fun b => b.ew core.toNat .lea e)
/-- XCHG. -/
def execEwXchg (core : BitVec 7) (e : Enc) (s : State) : Host.Outcome State Fault Refusal :=
  s.onCore core (fun b => b.ew core.toNat (.load .xchg) e)
/-- XADD. -/
def execEwXadd (core : BitVec 7) (e : Enc) (s : State) : Host.Outcome State Fault Refusal :=
  s.onCore core (fun b => b.ew core.toNat (.load .xadd) e)
/-- CAS. -/
def execEwCas (core : BitVec 7) (e : Enc) (s : State) : Host.Outcome State Fault Refusal :=
  s.onCore core (fun b => b.ew core.toNat (.load .cas) e)
/-- ADDM. -/
def execEwAddm (core : BitVec 7) (e : Enc) (s : State) : Host.Outcome State Fault Refusal :=
  s.onCore core (fun b => b.ew core.toNat (.rmw .addm) e)
/-- ANDM. -/
def execEwAndm (core : BitVec 7) (e : Enc) (s : State) : Host.Outcome State Fault Refusal :=
  s.onCore core (fun b => b.ew core.toNat (.rmw .andm) e)
/-- ORM. -/
def execEwOrm (core : BitVec 7) (e : Enc) (s : State) : Host.Outcome State Fault Refusal :=
  s.onCore core (fun b => b.ew core.toNat (.rmw .orm) e)
/-- XORM. -/
def execEwXorm (core : BitVec 7) (e : Enc) (s : State) : Host.Outcome State Fault Refusal :=
  s.onCore core (fun b => b.ew core.toNat (.rmw .xorm) e)
/-- STI. -/
def execEwSti (core : BitVec 7) (e : Enc) (s : State) : Host.Outcome State Fault Refusal :=
  s.onCore core (fun b => b.ew core.toNat .sti e)
/-- PUSH. -/
def execEwPush (core : BitVec 7) (e : Enc) (s : State) : Host.Outcome State Fault Refusal :=
  s.onCore core (fun b => b.ew core.toNat .push e)
/-- POP. -/
def execEwPop (core : BitVec 7) (e : Enc) (s : State) : Host.Outcome State Fault Refusal :=
  s.onCore core (fun b => b.ew core.toNat .pop e)
/-- GET. -/
def execEwGet (core : BitVec 7) (e : Enc) (s : State) : Host.Outcome State Fault Refusal :=
  s.onCore core (fun b => b.ew core.toNat .get e)
/-- PUT. -/
def execEwPut (core : BitVec 7) (e : Enc) (s : State) : Host.Outcome State Fault Refusal :=
  s.onCore core (fun b => b.ew core.toNat .put e)
/-- ADDP. -/
def execEwAddp (core : BitVec 7) (e : Enc) (s : State) : Host.Outcome State Fault Refusal :=
  s.onCore core (fun b => b.ew core.toNat .addp e)
/-- LDP. -/
def execEwLdp (core : BitVec 7) (e : Enc) (s : State) : Host.Outcome State Fault Refusal :=
  s.onCore core (fun b => b.ew core.toNat .ldp e)
/-- STP. -/
def execEwStp (core : BitVec 7) (e : Enc) (s : State) : Host.Outcome State Fault Refusal :=
  s.onCore core (fun b => b.ew core.toNat .stp e)
/-- CLRA. -/
def execEwClra (core : BitVec 7) (e : Enc) (s : State) : Host.Outcome State Fault Refusal :=
  s.onCore core (fun b => b.ew core.toNat (.acc .clra) e)
/-- WRA. -/
def execEwWra (core : BitVec 7) (e : Enc) (s : State) : Host.Outcome State Fault Refusal :=
  s.onCore core (fun b => b.ew core.toNat (.acc .wra) e)
/-- RDA. -/
def execEwRda (core : BitVec 7) (e : Enc) (s : State) : Host.Outcome State Fault Refusal :=
  s.onCore core (fun b => b.ew core.toNat (.acc .rda) e)
/-- RDAH. -/
def execEwRdah (core : BitVec 7) (e : Enc) (s : State) : Host.Outcome State Fault Refusal :=
  s.onCore core (fun b => b.ew core.toNat (.acc .rdah) e)
/-- WRAH. -/
def execEwWrah (core : BitVec 7) (e : Enc) (s : State) : Host.Outcome State Fault Refusal :=
  s.onCore core (fun b => b.ew core.toNat (.acc .wrah) e)
/-- LDA. -/
def execEwLda (core : BitVec 7) (e : Enc) (s : State) : Host.Outcome State Fault Refusal :=
  s.onCore core (fun b => b.ew core.toNat .lda e)
/-- STA. -/
def execEwSta (core : BitVec 7) (e : Enc) (s : State) : Host.Outcome State Fault Refusal :=
  s.onCore core (fun b => b.ew core.toNat .sta e)
/-- MFS. -/
def execEwMfs (core : BitVec 7) (e : Enc) (s : State) : Host.Outcome State Fault Refusal :=
  s.onCore core (fun b => b.ew core.toNat .mfs e)
/-- MTS. -/
def execEwMts (core : BitVec 7) (e : Enc) (s : State) : Host.Outcome State Fault Refusal :=
  s.onCore core (fun b => b.ew core.toNat .mts e)
/-- MTS to the register `icinv` (R526). Another register is not this instruction. -/
def execEwIcinv (core : BitVec 7) (e : Enc) (s : State) : Host.Outcome State Fault Refusal :=
  s.onCore core (fun b => if e.imm.toNat % 256 = 0x0B then b.ew core.toNat .mts e else b)
/-- MACD. -/
def execEwMacd (core : BitVec 7) (e : Enc) (s : State) : Host.Outcome State Fault Refusal :=
  s.onCore core (fun b => b.ew core.toNat .macd e)
/-- SCPY. -/
def execEwScpy (core : BitVec 7) (e : Enc) (s : State) : Host.Outcome State Fault Refusal :=
  s.onCore core (fun b => b.ew core.toNat (.str .scpy) e)
/-- SFIL. -/
def execEwSfil (core : BitVec 7) (e : Enc) (s : State) : Host.Outcome State Fault Refusal :=
  s.onCore core (fun b => b.ew core.toNat (.str .sfil) e)
/-- SCMP. -/
def execEwScmp (core : BitVec 7) (e : Enc) (s : State) : Host.Outcome State Fault Refusal :=
  s.onCore core (fun b => b.ew core.toNat (.str .scmp) e)
/-- SFND. -/
def execEwSfnd (core : BitVec 7) (e : Enc) (s : State) : Host.Outcome State Fault Refusal :=
  s.onCore core (fun b => b.ew core.toNat (.str .sfnd) e)
/-- SCRC. -/
def execEwScrc (core : BitVec 7) (e : Enc) (s : State) : Host.Outcome State Fault Refusal :=
  s.onCore core (fun b => b.ew core.toNat (.str .scrc) e)
/-- BXFR with b = 0: memory to a bank (R597). Another b is not this instruction. -/
def execEwBxfrLoad (core : BitVec 7) (e : Enc) (s : State) : Host.Outcome State Fault Refusal :=
  s.onCore core (fun b => if encB e = 1 then b else b.ew core.toNat .bxfr e)
/-- BXFR with b = 1: a bank to memory (R597). b = 0 is not this instruction. -/
def execEwBxfrStore (core : BitVec 7) (e : Enc) (s : State) : Host.Outcome State Fault Refusal :=
  s.onCore core (fun b => if encB e = 0 then b else b.ew core.toNat .bxfr e)
/-- RESERVED_OPCODE (R563): an opcode byte the tables leave reserved, on the main page or the escape page. -/
def execEwReserved (core : BitVec 7) (esc : Bool) (e : Enc) (s : State) : Host.Outcome State Fault Refusal :=
  s.onCore core (fun b => b.ew core.toNat (.reserved esc) e)

end Sys2Proof.Machine
end

