-- ==== Sys2Proof/Machine/CoreEvents.lean ====
section
/-! DEFINITION. The events of an Eowift core between instructions: load data, late errors, interrupts, QUANTUM and context switches
(chapter 11), and the interrupt of a cluster's dispatcher (R632). -/
namespace Sys2Proof.Machine

/-- The first load whose data has not come takes a change. -/
def onFirstLoad (f : Delay → Delay) : List Delay → List Delay
  | [] => []
  | l :: ls => if l.arrived then l :: onFirstLoad f ls else f l :: ls
/-- LOAD_DATA_ARRIVAL: the oldest load that waits for its data gets it (R537). -/
def Block.loadArrival (b : Block) (i : Nat) : Block :=
  if !b.coreLive i then b
  else (b.modCore i (fun c => { c with loads := onFirstLoad (fun l => { l with arrived := true }) c.loads }.settle)).boundary i
/-- The oldest load that waits for its data is answered TIMEOUT by its port (R20). -/
def Block.loadTimeout (b : Block) (i : Nat) : Block :=
  match (b.core i).loads.find? (fun l => !l.arrived && l.err.isNone && l.bus.isSome) with
  | none => b
  | some l =>
    let a := l.bus.getD (0, 0)
    let b := b.elapse (b.rdF (pgBus + 0x100) 0 12)
    let q := { b.coreReq i a.1 a.2 with age := b.rdF (pgBus + 0x100) 0 12 }
    (b.btCode q false .timeout).modCore i (fun c =>
      { c with loads := c.loads.map (fun (x : Delay) => if x = l then { x with arrived := true, err := some .timeout } else x) })
/-- LATE_DATA_UNCORR: an access answered with an error raises DATA_UNCORR at this boundary (R543). -/
def Block.lateUncorr (b : Block) (i : Nat) (tmo : Bool) : Block :=
  if !b.coreLive i || (b.core i).wfi then b
  else
    let b := if tmo then b.loadTimeout i else b
    let c := b.core i
    let c := { c with loads := c.loads.map (fun (l : Delay) => if l.err.isSome then { l with arrived := true } else l) }
    match c.lateOf with
    | some (t, c') => (b.setCore i c').takeTrap i t c.pc
    | none => b
/-- An interrupt or QUANTUM is accepted at this boundary: st.IE is 1, st.TH is 0 and R539 allows (R550). -/
def Core.accepts (c : Core) : Bool := c.ie && !c.th && c.openAt
/-- The core enters its interrupt handler. -/
def Block.enterIntr (b : Block) (i tinfo : Nat) : Block :=
  let c := b.core i
  (b.trap i { code := 0, tpc := c.pc, tinfo := BitVec.ofNat 64 tinfo, inRpt := decide (0 < c.iters), intr := true }).boundary i
/-- DISPATCHER_INTERRUPT: a core in the idle loop is woken for a READY context, or a core is taken from a context that ends
(R632). -/
def Block.dispatch (b : Block) (i : Nat) : Block :=
  if !b.coreLive i || !b.dispDue i then b
  else
    let b := b.wake i
    let c := b.core i
    if !b.coreLive i || !c.accepts || c.quantum then b
    else
      let b := b.enterIntr i 0
      match c.onCtx with
      | some k =>
        let b := b.modCtx k (fun y => { y with core := none })
        (b.setBusy i false).modCore i (fun k => { k with ctx := k.ctx &&& 0xFFF })
      | none => b
/-- INTERRUPT_ACCEPT: a pending interrupt is accepted (R550): of an Eowift-K core a message of R58, of an Eowift-S core the
housekeeping interrupt, of an Eowift-C core its dispatcher's. -/
def Block.acceptIntr (b : Block) (i line tenant : Nat) : Block :=
  match coreKind i with
  | .c => b.dispatch i
  | .k =>
    if !b.coreLive i || !b.cx.kInts.contains (line, tenant) then b
    else
      let b := b.wake i
      let c := b.core i
      if !b.coreLive i || !c.accepts || c.quantum then b
      else (b.onCx (fun x => { x with kInts := x.kInts.erase (line, tenant) })).enterIntr i (line + tenant * 256)
  | .s =>
    if !b.coreLive i || !b.cx.sIrq then b
    else
      let b := b.wake i
      let c := b.core i
      if !b.coreLive i || !c.accepts || c.quantum then b
      else (b.onCx (fun x => { x with sIrq := false })).enterIntr i 0
/-- QTIMER_EXPIRY: QTIMER reaches 0; QUANTUM becomes pending if st.QE is 1 (R535). -/
def Block.qtimerEnd (b : Block) (i : Nat) : Block :=
  match (b.core i).qdue with
  | none => b
  | some q =>
    if !b.coreLive i then b
    else
      let b := (b.elapseTo q).modCore i (fun c => { c with
        qdue := none
        quantum := c.quantum || c.qe })
      if (b.core i).quantum then b.wake i else b
/-- QUANTUM: a pending QUANTUM is accepted (R550). -/
def Block.takeQuantum (b : Block) (i : Nat) : Block :=
  let c := b.core i
  if !b.coreLive i || !c.quantum || c.wfi || !c.accepts then b
  else
    ((b.modCore i (fun c => { c with quantum := false })).trap i
      { code := 0x0C, tpc := c.pc, inRpt := decide (0 < c.iters) }).boundary i

/-! ### The commands -/

/-- LOAD_DATA_ARRIVAL (R537). -/
def execLoadDataArrival (core : BitVec 7) (s : State) : Host.Outcome State Fault Refusal := s.onCore core (fun b => b.loadArrival core.toNat)
/-- LATE_DATA_UNCORR (R543). -/
def execLateDataUncorr (core : BitVec 7) (tmo : Bool) (s : State) : Host.Outcome State Fault Refusal :=
  s.onCore core (fun b => b.lateUncorr core.toNat tmo)
/-- INTERRUPT_ACCEPT (R550). -/
def execInterruptAccept (core : BitVec 7) (line : BitVec 8) (tenant : BitVec 6) (s : State) : Host.Outcome State Fault Refusal :=
  s.onCore core (fun b => b.acceptIntr core.toNat line.toNat tenant.toNat)
/-- QTIMER_EXPIRY (R535). -/
def execQtimerExpiry (core : BitVec 7) (s : State) : Host.Outcome State Fault Refusal := s.onCore core (fun b => b.qtimerEnd core.toNat)
/-- QUANTUM (R550). -/
def execQuantum (core : BitVec 7) (s : State) : Host.Outcome State Fault Refusal := s.onCore core (fun b => b.takeQuantum core.toNat)
/-- SLICE_END (R558). -/
def execSliceEnd (core : BitVec 7) (s : State) : Host.Outcome State Fault Refusal := s.run (fun b => b.sliceEnd core.toNat)
/-- CONTEXT_SWITCH (R553-R557). -/
def execContextSwitch (core : BitVec 7) (s : State) : Host.Outcome State Fault Refusal := s.run (fun b => b.ctxSwitch core.toNat)
/-- DISPATCHER_INTERRUPT (R632). -/
def execDispatcherInterrupt (core : BitVec 7) (s : State) : Host.Outcome State Fault Refusal := s.run (fun b => b.dispatch core.toNat)

end Sys2Proof.Machine
end

