-- ==== Sys2Proof/Machine/Dbg.lean ====
section
/-! DEFINITION. The Llyn debug port and the JTAG TAP (chapter 16). -/
namespace Sys2Proof.Machine

/-- The DBG page. -/
def pgDbg : Nat := pageBase .dbg 0
/-- Reply codes of a frame (R725). -/
def llynAccept : Nat := 5
/-- HOLD -/
def llynHold : Nat := 6
/-- REFUSE -/
def llynRefuse : Nat := 10

/-- What an access to a port register comes to: accepted or refused, its data, and the block after it. -/
abbrev PortRes := Bool × W64 × Block
/-- An access accepted. -/
def Block.yes (b : Block) (v : Nat) : PortRes := (true, BitVec.ofNat 64 v, b)
/-- An access refused that changes nothing. -/
def Block.no (b : Block) : PortRes := (false, 0, b)
/-- A core access that failed (ACC_ERR). -/
def Block.coreNo (b : Block) : PortRes := (false, 0, b.onDbg (fun d => { d with accErr := true }))

/-! ### Memory (R734) -/

/-- ADDR after an access. -/
def DbgSt.nextAddr (d : DbgSt) : Nat :=
  if d.memCtl.getLsbD 1 then (d.memAddr + (if d.memCtl.getLsbD 0 then 8 else 4)) % 2 ^ 48 else d.memAddr
/-- The access of MEM_DATA: tenant tag 0, class C1, port 47; while the fabric's clocks are stopped nothing answers it. -/
def Block.memAccess (b : Block) (write : Bool) (v : W64) : PortRes :=
  if b.rdF (pgDbg + 0x104) 3 3 = 0 then b.no
  else
    let n := if b.dbg.memCtl.getLsbD 0 then 8 else 4
    let q : BusReq := ⟨47, 1, 0, b.dbg.memAddr, n, 0, false⟩
    let (r, x, b) :=
      if b.dark then (.timeout, 0, b)
      else if write then
        let (r, b) := b.busWrite q [] (BitVec.ofNat 256 (2 ^ n - 1)) (v.setWidth 2048)
        (r, v.toNat, b)
      else b.busRead q []
    let b := b.onDbg (fun d => { d with memAddr := d.nextAddr })
    if r = .ok then (b.onDbg (fun d => { d with memData := BitVec.ofNat 64 x })).yes x
    else (false, 0, b.onDbg (fun d => { d with
      accErr := true
      resp := respCode r }))

/-! ### Cores (R735-R742) -/

/-- The core that CORE_SEL names. -/
def Block.selCore (b : Block) : Option Nat := b.coreList.find? (fun i => (coreId i).toNat % 4096 == b.dbg.coreSel.toNat)
/-- Two 32-bit words as one number. -/
def pair32 (lo hi : Nat) : Nat := lo % 2 ^ 32 + hi * 2 ^ 32
/-- Eight bytes of the record layout of R554, read from the live registers. -/
def Block.coreSlot (b : Block) (i k : Nat) : Nat :=
  let c := b.core i
  if k < 16 then (c.getG k).toNat
  else if k < 24 then
    let v := (c.getAc ((k - 16) / 2)).toNat
    if k % 2 = 0 then v % 2 ^ 64 else v / 2 ^ 64
  else if k < 28 then pair32 (c.getPtr (2 * (k - 24))).toNat (c.getPtr (2 * (k - 24) + 1)).toNat
  else match k with
    | 28 => pair32 c.xm.toNat c.ym.toNat
    | 29 => c.sa.toNat
    | 30 => c.da.toNat
    | 31 => pair32 c.ct.toNat c.fl.toNat
    | 32 => c.pc.toNat
    | _ => pair32 c.stRead.toNat (b.sliceLeft i)
/-- A write of one of them; of st all but MODE is written, since a halted core is in Monitor mode. -/
def Block.setCoreSlot (b : Block) (i k : Nat) (v : W64) : Block :=
  let lo : W32 := v.setWidth 32
  let hi : W32 := (v >>> 32).setWidth 32
  if k = 33 then (b.sysWrite i 13 v).modCore i (fun c => { c with
    slice := hi.toNat
    sliceAt := b.usec })
  else b.modCore i (fun c =>
    if k < 16 then c.setG k v
    else if k < 24 then
      let n := (k - 16) / 2
      let old := c.getAc n
      c.setAc n (if k % 2 = 0 then (old >>> 64 <<< 64) ||| v.setWidth 80 else (old.setWidth 64).setWidth 80 ||| (v.setWidth 80 <<< 64))
    else if k < 28 then (c.setPtr (2 * (k - 24)) lo).setPtr (2 * (k - 24) + 1) hi
    else match k with
      | 28 => { c with
        xm := maskOfWrite (lo.setWidth 17)
        ym := maskOfWrite (hi.setWidth 17) }
      | 29 => { c with sa := v }
      | 30 => { c with da := v }
      | 31 => { c with
        ct := lo
        fl := hi.setWidth 4 }
      | _ => { c with
        pc := v
        iters := 0 })
/-- CORE_REG_SEL names a register: offsets 0x00 to 0x21, system registers 0 to 13. -/
def regIndexOk (k : Nat) : Bool := decide (k ≤ 0x21) || decide (0x100 ≤ k ∧ k ≤ 0x10D)
/-- A read of CORE_REG_DATA. -/
def Block.coreRegRead (b : Block) : PortRes :=
  match b.selCore with
  | none => b.coreNo
  | some i =>
    let k := b.dbg.regSel.toNat
    if k < 256 then b.yes (b.coreSlot i k) else
      let (v, b) := b.sysRead i (k - 256)
      b.yes v
/-- A write of CORE_REG_DATA: only to a halted core (R735). -/
def Block.coreRegWrite (b : Block) (v : W64) : PortRes :=
  match b.selCore with
  | none => b.coreNo
  | some i =>
    if (b.core i).halted.isNone then b.coreNo
    else
      let k := b.dbg.regSel.toNat
      (if k < 256 then b.setCoreSlot i k v else b.sysWrite i (k - 256) v).yes 0
/-- CORE_CMD: HALT, RESUME and STEP of the selected core; OP 0b00, which the table does not list, is a reserved encoding (R733). -/
def Block.coreCmd (b : Block) (op : Nat) (own : Bool) : PortRes :=
  match b.selCore with
  | none => b.coreNo
  | some i =>
    if op = 0 then b.no
    else if (op = 1 ∨ op = 3) ∧ !b.mayHalt i then b.no
    else
      let b := b.onIf own (fun b => match (b.core i).onCtx with
        | some k => b.modCtx k (fun x => { x with owned := true })
        | none => b)
      let b := match op with
        | 1 => if (b.core i).halted.isSome then b else (b.modCore i (fun c => { c with haltReq := some .request })).boundary i
        | 2 => b.unhalt i none
        | 3 => if (b.core i).halted.isSome then b.unhalt i (some .step) else b.modCore i (fun c => { c with haltReq := some .step })
        | _ => b
      b.yes 0
/-- CORE_STATUS. -/
def Core.status (c : Core) : Nat :=
  match c.halted with
  | none => 0
  | some w => 1 + w.code * 2 + (if c.haltInfo.1 then 16 else 0) + c.haltInfo.2.1 * 32 + c.haltInfo.2.2 * 256
/-- A read of a register that belongs to the selected core. -/
def Block.coreView (b : Block) (f : Core → Nat) : PortRes :=
  match b.selCore with
  | none => b.coreNo
  | some i => b.yes (f (b.core i))
/-- A write of a register that belongs to the selected core. -/
def Block.corePut (b : Block) (f : Core → Core) : PortRes :=
  match b.selCore with
  | none => b.coreNo
  | some i => (b.modCore i f).yes 0
/-- Change the breakpoint that BP_SEL names. -/
def Core.putBp (c : Core) (k : Nat) (f : Bp → Bp) : Core := { c with bps := smSet {} c.bps k (f (smGet {} c.bps k)) }
/-- A BP_CTL value names no reserved encoding: of a data watchpoint, ACC is not 0 and MASK at most 12. -/
def bpCtlOk (k : Nat) (v : W64) : Bool :=
  decide (k < 4) || (decide (fld (v.setWidth 32) 2 3 ≠ 0) && decide (fld (v.setWidth 32) 4 7 ≤ 12))
/-- XT_RESUME (R742). -/
def Block.xtResume (b : Block) (g : BitVec 8) : Block :=
  b.each b.coreList (fun b i => if (((b.core i).xt >>> 8) &&& g.setWidth 16) != 0 then b.unhalt i none else b)

/-! ### Authentication (R729-R732) -/

/-- A 256-bit number from the random generator: free values. -/
def Block.freshNonce (b : Block) : BitVec 256 × Block :=
  let (x, b) := b.free
  let (y, b) := b.free
  let (z, b) := b.free
  let (w, b) := b.free
  (w ++ z ++ y ++ x, b)
/-- CHALLENGE0: a new nonce. -/
def Block.newNonce (b : Block) (n : BitVec 256) : PortRes :=
  (b.onDbg (fun d => { d with nonce := some n })).yes (n.toNat % 2 ^ 64)
/-- RESPONSE0-5; RESPONSE5 starts the check, which uses up the nonce. -/
def Block.putResponse (b : Block) (k : Nat) (v : W64) : PortRes :=
  let d := b.dbg
  let m : BitVec 384 := BitVec.ofNat 384 ((2 ^ 64 - 1) * 2 ^ (64 * k))
  let d := { d with response := (d.response &&& ~~~m) ||| (v.setWidth 384 <<< (64 * k)) }
  let d := if k = 5 then { d with
      checking := some (d.nonce, d.response)
      nonce := none } else d
  { b with dbg := d }.yes 0
/-- AUTH_CHECK_DONE (R731). -/
def Block.authDone (b : Block) : Block :=
  match b.dbg.checking with
  | none => b
  | some (n, r) =>
    let b := b.onDbg (fun d => { d with checking := none })
    if !b.dbg.lockout && n.any (fun n => Config.debugMac n b.fuses.uid == r) then
      (b.onDbg (fun d => { d with level := true })).raise pgDbg 0
    else
      let was := b.dbg.lockout
      let b := b.onDbg (fun d => { d with
        fails := min 8 (d.fails + 1)
        lockout := d.lockout || decide (7 ≤ d.fails) })
      let b := (b.record pgDbg { code := 0x0101, sev := .corrected }).raise pgDbg 1
      b.onIf (b.dbg.lockout && !was) (fun b => b.record pgDbg { code := 0x0102, sev := .corrected })
/-- CTRL: RELOCK, and a device reset under its KEY. -/
def Block.portCtrl (b : Block) (v : W64) : PortRes :=
  let bad := v.getLsbD 1 && fld (v.setWidth 32) 16 31 != 0x5EED
  if bad then b.no
  else
    let b := b.onIf (v.getLsbD 0) (fun b => b.onDbg (fun d => { d with level := false }))
    (b.onIf (v.getLsbD 1) (fun b => b.deviceReset 5)).yes 0

/-! ### Port registers (R733) -/

/-- STATUS. -/
def DbgSt.status (d : DbgSt) : Nat :=
  (if d.level then 1 else 0) + (if d.crcErr then 2 else 0) + (if d.accErr then 4 else 0) + d.fails * 8
    + (if d.lockout then 128 else 0) + d.resp * 256
/-- A read of a port register; WO registers read 0, an index the table does not list is refused. -/
def Block.portRead (b : Block) (r : Nat) : PortRes :=
  let d := b.dbg
  match r with
  | 0x00 => b.yes (pair32 0x14C59 (b.view (pgChip + 0x100)).toNat)
  | 0x01 => b.yes d.status
  | 0x02 | 0x08 | 0x09 | 0x0A | 0x0B | 0x0C | 0x0D | 0x21 | 0x31 => b.yes 0
  | 0x04 =>
    let (n, b) := b.freshNonce
    b.newNonce n
  | 0x05 | 0x06 | 0x07 => b.yes ((d.nonce.getD 0).toNat / 2 ^ (64 * (r - 4)) % 2 ^ 64)
  | 0x10 => b.yes d.memAddr
  | 0x11 => b.memAccess false 0
  | 0x12 => b.yes d.memCtl.toNat
  | 0x20 => b.yes d.coreSel.toNat
  | 0x22 => b.coreView Core.status
  | 0x23 => b.yes d.regSel.toNat
  | 0x24 => b.coreRegRead
  | 0x28 => b.yes d.bpSel.toNat
  | 0x29 => b.coreView (fun c => (smGet {} c.bps d.bpSel.toNat).addr.toNat)
  | 0x2A => b.coreView (fun c => (smGet {} c.bps d.bpSel.toNat).ctl.toNat)
  | 0x30 => b.coreView (fun c => c.xt.toNat)
  | _ => b.no
/-- A write of a port register. -/
def Block.portWrite (b : Block) (r : Nat) (v : W64) : PortRes :=
  let k := b.dbg.bpSel.toNat
  match r with
  | 0x00 | 0x04 | 0x05 | 0x06 | 0x07 | 0x22 => b.yes 0
  | 0x01 => (b.onDbg (fun d => { d with
      crcErr := d.crcErr && !v.getLsbD 1
      accErr := d.accErr && !v.getLsbD 2 })).yes 0
  | 0x02 => b.portCtrl v
  | 0x08 | 0x09 | 0x0A | 0x0B | 0x0C | 0x0D => b.putResponse (r - 8) v
  | 0x10 => (b.onDbg (fun d => { d with memAddr := v.toNat % 2 ^ 48 })).yes 0
  | 0x11 => b.memAccess true v
  | 0x12 => (b.onDbg (fun d => { d with memCtl := v.setWidth 2 })).yes 0
  | 0x20 => (b.onDbg (fun d => { d with coreSel := v.setWidth 12 })).yes 0
  | 0x21 => b.coreCmd (v.toNat % 4) (v.getLsbD 2)
  | 0x23 => if regIndexOk (v.toNat % 512) then (b.onDbg (fun d => { d with regSel := v.setWidth 9 })).yes 0 else b.no
  | 0x24 => b.coreRegWrite v
  | 0x28 => if v.toNat % 8 ≤ 5 then (b.onDbg (fun d => { d with bpSel := v.setWidth 3 })).yes 0 else b.no
  | 0x29 => b.corePut (fun c => c.putBp k (fun x => { x with addr := v }))
  | 0x2A => if bpCtlOk k v then b.corePut (fun c => c.putBp k (fun x => { x with ctl := v &&& 0x1FFFFF })) else b.no
  | 0x30 => b.corePut (fun c => { c with xt := v.setWidth 16 })
  | 0x31 => (b.xtResume (v.setWidth 8)).yes 0
  | _ => b.no

/-! ### Frames (R725-R728, R732) -/

/-- What is accessible while LEVEL is 0; of CTRL only RELOCK. -/
def openReg (r : Nat) (w : Option W64) : Bool :=
  match r with
  | 0x00 | 0x01 | 0x04 | 0x05 | 0x06 | 0x07 | 0x08 | 0x09 | 0x0A | 0x0B | 0x0C | 0x0D => true
  | 0x02 => w.all (fun v => !v.getLsbD 1)
  | _ => false
/-- The reply that a frame gets before it acts: none where it acts. -/
def Block.earlyReply (b : Block) (r : Nat) (w : Option W64) : Option Nat :=
  if b.dbg.checking.isSome then some llynHold
  else if b.dbg.crcErr && r != 1 then some llynRefuse
  else if !b.dbg.level && !openReg r w then some llynRefuse
  else none
/-- A reply frame. -/
def Block.reply (b : Block) (code : Nat) (tag : BitVec 3) (v : W64) : Block := b.send (.llyn code tag.toNat v)
/-- A read frame whose register answers `f`. -/
def Block.readFrame (b : Block) (r : Nat) (tag : BitVec 3) (f : Block → PortRes) : Block :=
  match b.earlyReply r none with
  | some c => b.reply c tag 0
  | none =>
    let (ok, v, b) := f b
    b.reply (if ok then llynAccept else llynRefuse) tag v
/-- A write frame: a repeat of the last one accepted is not performed again, and one whose DCHK fails is discarded. -/
def Block.writeFrame (b : Block) (r : Nat) (tag : BitVec 3) (v : W64) (dataOk : Bool) : Block :=
  match b.earlyReply r (some v) with
  | some c => b.reply c tag 0
  | none =>
    if !dataOk then (b.onDbg (fun d => { d with crcErr := true })).reply llynAccept tag 0
    else if b.dbg.last = some (r, tag.toNat, v) then b.reply llynAccept tag 0
    else
      let (ok, _, b) := b.portWrite r v
      let b := b.onIf ok (fun b => b.onDbg (fun d => { d with last := some (r, tag.toNat, v) }))
      b.reply (if ok then llynAccept else llynRefuse) tag 0

/-! ### Breakpoints, watchpoints and owned contexts -/

/-- BREAKPOINT: the core stands before an instruction that its breakpoint `k` holds (R739). -/
def Block.breakHit (b : Block) (i k : Nat) : Block :=
  let c := b.core i
  if b.coreLive i && !c.wfi && b.mayHalt i && c.lates.isEmpty && c.watch.isNone && c.bpHit == some k then b.bpHalt i k else b
/-- WATCHPOINT: a watchpoint that has matched acts at this boundary (R739). -/
def Block.watchAct (b : Block) (i k : Nat) (a : W64) (w : Bool) : Block :=
  if b.coreLive i && (b.core i).watch == some (k, a, w) then b.takeWatch i else b
/-- OWNED_CONTEXT_TRAP: the supervisor halts the core on an owned context's BREAK, STEP or WATCH (R741). -/
def Block.ownedTrap (b : Block) (i : Nat) : Block :=
  let c := b.core i
  match c.onCtx with
  | none => b
  | some k =>
    let code := fld c.tcause 0 7
    let trap := !c.tcause.getLsbD 8 && decide (9 ≤ code ∧ code ≤ 11)
    if b.coreLive i && b.mayHalt i && trap && (b.ctx k).any (fun x => decide (x.st = CtxSt.supervisor) && x.owned) then
      b.haltFire i .ownedTrap false 0 code
    else b

/-! ### JTAG (R745) -/

/-- A JTAG instruction, while the TAP is out of reset: its data register, and what it captures. Instruction numbers are the model's:
1 BYPASS, 2 IDCODE, 3 SAMPLE/PRELOAD, 4 EXTEST, 5 CLAMP, 6 HIGHZ. -/
def Block.tapIns (b : Block) (k len : Nat) (v : W64) : Block :=
  if b.dbg.jtagEn then (b.onDbg (fun d => { d with tap := k })).send (.jtag len v) else b
/-- An instruction on the boundary register, whose length and captured levels the spec does not give. -/
def Block.tapBoundary (b : Block) (k : Nat) : Block :=
  let (v, b) := b.free
  b.tapIns k 0 v

/-! ### The commands -/

/-- LLYN_READ_FRAME (R725). -/
def execLlynReadFrame (reg : BitVec 6) (tag : BitVec 3) (hdrOk : Bool) (s : State) : Host.Outcome State Fault Refusal :=
  s.runAon (fun b => if hdrOk then b.readFrame reg.toNat tag (fun b => b.portRead reg.toNat) else b)
/-- LLYN_WRITE_FRAME (R726, R727). -/
def execLlynWriteFrame (reg : BitVec 6) (tag : BitVec 3) (data : W64) (hdrOk dataOk : Bool) (s : State) : Host.Outcome State Fault Refusal :=
  s.runAon (fun b => if hdrOk then b.writeFrame reg.toNat tag data dataOk else b)
/-- LLYN_RESYNC (R728): the search for MARK starts again, and nothing else changes. -/
def execLlynResync (s : State) : Host.Outcome State Fault Refusal := s.runAon (fun b => b)
/-- CHALLENGE (R730): a read of CHALLENGE0, with the nonce that the random generator gives. -/
def execChallenge (tag : BitVec 3) (nonce : BitVec 256) (s : State) : Host.Outcome State Fault Refusal :=
  s.runAon (fun b => b.readFrame 4 tag (fun b => b.newNonce nonce))
/-- RESPONSE (R730): a write of RESPONSE5. -/
def execResponse (tag : BitVec 3) (data : W64) (s : State) : Host.Outcome State Fault Refusal :=
  s.runAon (fun b => b.writeFrame 0x0D tag data true)
/-- AUTH_CHECK_DONE (R731). -/
def execAuthCheckDone (s : State) : Host.Outcome State Fault Refusal := s.runAon (fun b => b.authDone)
/-- RELOCK (R732): a write of CTRL with RELOCK. -/
def execRelock (tag : BitVec 3) (s : State) : Host.Outcome State Fault Refusal := s.runAon (fun b => b.writeFrame 2 tag 1 true)
/-- LLYN_DEV_RESET (R733): a write of CTRL with DEV_RESET and a key. -/
def execLlynDevReset (tag : BitVec 3) (key : BitVec 16) (s : State) : Host.Outcome State Fault Refusal :=
  s.runAon (fun b => b.writeFrame 2 tag (key.setWidth 64 <<< 16 ||| 2) true)
/-- STATUS_W1C (R727): a write of STATUS. -/
def execStatusW1c (tag : BitVec 3) (data : W64) (s : State) : Host.Outcome State Fault Refusal :=
  s.runAon (fun b => b.writeFrame 1 tag data true)
/-- MEM_DATA_ACCESS (R734). -/
def execMemDataAccess (tag : BitVec 3) (write : Bool) (data : W64) (s : State) : Host.Outcome State Fault Refusal :=
  s.runAon (fun b => if write then b.writeFrame 0x11 tag data true else b.readFrame 0x11 tag (fun b => b.memAccess false 0))
/-- HALT (R736): a write of CORE_CMD. -/
def execHalt (tag : BitVec 3) (own : Bool) (s : State) : Host.Outcome State Fault Refusal :=
  s.runAon (fun b => b.writeFrame 0x21 tag (if own then 5 else 1) true)
/-- CORE_RESUME (R736). -/
def execCoreResume (tag : BitVec 3) (s : State) : Host.Outcome State Fault Refusal := s.runAon (fun b => b.writeFrame 0x21 tag 2 true)
/-- STEP (R738). -/
def execStepCore (tag : BitVec 3) (s : State) : Host.Outcome State Fault Refusal := s.runAon (fun b => b.writeFrame 0x21 tag 3 true)
/-- CORE_REG_WRITE (R735). -/
def execCoreRegWrite (tag : BitVec 3) (data : W64) (s : State) : Host.Outcome State Fault Refusal :=
  s.runAon (fun b => b.writeFrame 0x24 tag data true)
/-- BREAKPOINT (R739). -/
def execBreakpoint (core : BitVec 7) (k : BitVec 2) (s : State) : Host.Outcome State Fault Refusal :=
  s.onCore core (fun b => b.breakHit core.toNat k.toNat)
/-- WATCHPOINT (R739). -/
def execWatchpoint (core : BitVec 7) (k : BitVec 1) (addr : W64) (write : Bool) (s : State) : Host.Outcome State Fault Refusal :=
  s.onCore core (fun b => b.watchAct core.toNat k.toNat addr write)
/-- OWNED_CONTEXT_TRAP (R741). -/
def execOwnedContextTrap (core : BitVec 7) (s : State) : Host.Outcome State Fault Refusal := s.run (fun b => b.ownedTrap core.toNat)
/-- XT_RESUME (R742). -/
def execXtResume (tag : BitVec 3) (groups : BitVec 8) (s : State) : Host.Outcome State Fault Refusal :=
  s.runAon (fun b => b.writeFrame 0x31 tag (groups.setWidth 64) true)
/-- BYPASS (R745). -/
def execBypass (s : State) : Host.Outcome State Fault Refusal := s.runAon (fun b => b.tapIns 1 1 0)
/-- IDCODE (R745). -/
def execIdcode (s : State) : Host.Outcome State Fault Refusal := s.runAon (fun b => b.tapIns 2 32 0xB1280E2F)
/-- SAMPLE_PRELOAD (R745). -/
def execSamplePreload (s : State) : Host.Outcome State Fault Refusal := s.runAon (fun b => b.tapBoundary 3)
/-- EXTEST (R745). -/
def execExtest (s : State) : Host.Outcome State Fault Refusal := s.runAon (fun b => b.tapBoundary 4)
/-- CLAMP (R745). -/
def execClamp (s : State) : Host.Outcome State Fault Refusal := s.runAon (fun b => b.tapIns 5 1 0)
/-- HIGHZ (R745). -/
def execHighz (s : State) : Host.Outcome State Fault Refusal := s.runAon (fun b => b.tapIns 6 1 0)

end Sys2Proof.Machine
end

