-- ==== Sys2Proof/Machine/RegRows.lean ====
section
/-! DEFINITION. The commands that are one access to the register space (chapter 2), with those of the other chapters that are one
write of a control register. -/
namespace Sys2Proof.Machine

/-- The register-space offset of a register on a page. -/
def onPage (page : BitVec 13) (o : Nat) : Nat := page.toNat * 0x1000 + o
/-- A KEY in bits [31:16] and a code in the low bits. -/
def keyed (key : BitVec 16) (code : Nat) : W32 := BitVec.ofNat 32 (key.toNat * 65536 + code)
/-- A register value with a command field set. -/
def withOp (v : W32) (lo hi op : Nat) : W32 := setFld v lo hi op
/-- A register access: the CHIP, HK, PA and DBG pages stand in the always-on domain (R717). -/
def State.onReg (s : State) (off : Nat) (f : Block → Block) : Host.Outcome State Fault Refusal :=
  if unitOf off ≤ 4 then s.runAon f else s.run f
/-- REGISTER_WRITE: a tag other than 0 is answered TENANT, and recorded (R47, R33). -/
def Block.taggedWrite (b : Block) (port tag : BitVec 6) (off n : Nat) (data : W64) : Block :=
  if tag = 0 then b.regWrite (port.setWidth 8) off n data
  else b.btCode ⟨port.setWidth 8, 0, tag, 0x030000000000 + off, n, 0, false⟩ true .tenant

/-- REGISTER_WRITE (R46, R47, R78). -/
def execRegisterWrite (port tag : BitVec 6) (off : BitVec 25) (len1 : BitVec 8) (data : W64) (s : State) : Host.Outcome State Fault Refusal :=
  s.onReg off.toNat (fun b => b.taggedWrite port tag off.toNat (len1.toNat + 1) data)
/-- EVT_SET (R55). -/
def execEvtSet (port : BitVec 6) (page : BitVec 13) (v : W32) (s : State) : Host.Outcome State Fault Refusal :=
  s.onReg (onPage page 0x01C) (fun b => b.regWrite4 port (onPage page 0x01C) v)
/-- EVT_CLR (R55). -/
def execEvtClr (port : BitVec 6) (page : BitVec 13) (v : W32) (s : State) : Host.Outcome State Fault Refusal :=
  s.onReg (onPage page 0x020) (fun b => b.regWrite4 port (onPage page 0x020) v)
/-- EVT_EN_WRITE (R57). -/
def execEvtEnWrite (port : BitVec 6) (page : BitVec 13) (v : W32) (s : State) : Host.Outcome State Fault Refusal :=
  s.onReg (onPage page 0x014) (fun b => b.regWrite4 port (onPage page 0x014) v)
/-- ERR_POP with POP (R65). -/
def execErrPop (port : BitVec 6) (page : BitVec 13) (s : State) : Host.Outcome State Fault Refusal :=
  s.onReg (onPage page 0x038) (fun b => b.regWrite4 port (onPage page 0x038) 1)
/-- ERR_POP with CLR_OVF (R64). -/
def execClrOvf (port : BitVec 6) (page : BitVec 13) (s : State) : Host.Outcome State Fault Refusal :=
  s.onReg (onPage page 0x038) (fun b => b.regWrite4 port (onPage page 0x038) 2)
/-- UNIT_RESET, kind SOFT (R69, R71). -/
def execUnitResetSoft (port : BitVec 6) (page : BitVec 13) (key : BitVec 16) (s : State) : Host.Outcome State Fault Refusal :=
  s.onReg (onPage page 0x080) (fun b => b.regWrite4 port (onPage page 0x080) (keyed key 1))
/-- UNIT_RESET, kind HARD (R69, R71). -/
def execUnitResetHard (port : BitVec 6) (page : BitVec 13) (key : BitVec 16) (s : State) : Host.Outcome State Fault Refusal :=
  s.onReg (onPage page 0x080) (fun b => b.regWrite4 port (onPage page 0x080) (keyed key 2))
/-- UNIT_RESET, kind RECOVER (R69, R71). -/
def execUnitResetRecover (port : BitVec 6) (page : BitVec 13) (key : BitVec 16) (s : State) : Host.Outcome State Fault Refusal :=
  s.onReg (onPage page 0x080) (fun b => b.regWrite4 port (onPage page 0x080) (keyed key 3))
/-- LOCK (R74). -/
def execLockWrite (port : BitVec 6) (page : BitVec 13) (v : W32) (s : State) : Host.Outcome State Fault Refusal :=
  s.onReg (onPage page 0x084) (fun b => b.regWrite4 port (onPage page 0x084) v)
/-- A read of CHIP.USEC_LO, or of both halves (R85). -/
def execUsecLoRead (port : BitVec 6) (wide : Bool) (s : State) : Host.Outcome State Fault Refusal :=
  s.onReg pgChip (fun b => b.regReadOut port (pgChip + 0x120) (if wide then 8 else 4))
/-- A read of a LO half, or of both halves (R85). -/
def execLoHalfRead (port : BitVec 6) (off : BitVec 25) (wide : Bool) (s : State) : Host.Outcome State Fault Refusal :=
  s.onReg off.toNat (fun b => b.regReadOut port off.toNat (if wide then 8 else 4))
/-- BAR2_ACCESS (R86, R163). -/
def execBar2Access (write : Bool) (off : BitVec 25) (len1 : BitVec 8) (data : W64) (s : State) : Host.Outcome State Fault Refusal :=
  s.run (fun b => b.bar2 write off.toNat (len1.toNat + 1) data)
/-- QC_CMD with OP 0b01 (R92). -/
def execQcCmdCopy (port : BitVec 6) (s : State) : Host.Outcome State Fault Refusal :=
  s.onReg (pgCe + 0x134) (fun b => b.regWrite4 port (pgCe + 0x134) 1)
/-- QC_CMD with OP 0b10 (R89-R92). -/
def execQcCmdWrite (port : BitVec 6) (s : State) : Host.Outcome State Fault Refusal :=
  s.onReg (pgCe + 0x134) (fun b => b.regWrite4 port (pgCe + 0x134) 2)
/-- CE.CTL.FETCH_STOP (R137). -/
def execFetchStopWrite (port : BitVec 6) (stop : Bool) (s : State) : Host.Outcome State Fault Refusal :=
  s.onReg (pgCe + 0x100) (fun b => b.regWrite4 port (pgCe + 0x100) (if stop then 1 else 0))
/-- CE.TENANT_RESET (R133). -/
def execTenantReset (port tenant : BitVec 6) (key : BitVec 16) (s : State) : Host.Outcome State Fault Refusal :=
  s.onReg (pgCe + 0x120) (fun b => b.regWrite4 port (pgCe + 0x120) (keyed key tenant.toNat))
/-- CE.NS_DATA (R150). -/
def execNsDataWrite (port : BitVec 6) (v : W32) (s : State) : Host.Outcome State Fault Refusal :=
  s.onReg (pgCe + 0x184) (fun b => b.regWrite4 port (pgCe + 0x184) v)
/-- CE[t].VF_BIND (R786). -/
def execVfBindWrite (port t : BitVec 6) (v : W32) (s : State) : Host.Outcome State Fault Refusal :=
  s.onReg (pgCeT t.toNat + 0x114) (fun b => b.regWrite4 port (pgCeT t.toNat + 0x114) v)
/-- HP[0].WPOOL (R202). -/
def execWpoolWrite (port : BitVec 6) (v : W32) (s : State) : Host.Outcome State Fault Refusal :=
  s.onReg (pgHp 0 + 0x110) (fun b => b.regWrite4 port (pgHp 0 + 0x110) v)
/-- FP[p].MODE (R205). -/
def execFpModeWrite (port : BitVec 6) (p : BitVec 2) (v : W32) (s : State) : Host.Outcome State Fault Refusal :=
  s.onReg (pgFpP p.toNat + 0x100) (fun b => b.regWrite4 port (pgFpP p.toNat + 0x100) v)
/-- PROF_CMD with OP 1 (R292, R293). -/
def execProfileLoad (port : BitVec 6) (slot : BitVec 4) (s : State) : Host.Outcome State Fault Refusal :=
  s.onReg (pgFc + 0x108) (fun b => b.regWrite4 port (pgFc + 0x108) (BitVec.ofNat 32 (slot.toNat + 16)))
/-- PROF_CMD with OP 2 (R292, R293). -/
def execProfileEmpty (port : BitVec 6) (slot : BitVec 4) (s : State) : Host.Outcome State Fault Refusal :=
  s.onReg (pgFc + 0x108) (fun b => b.regWrite4 port (pgFc + 0x108) (BitVec.ofNat 32 (slot.toNat + 32)))
/-- KEY_CMD with OP 1 (R309). -/
def execGenerate (port : BitVec 6) (s : State) : Host.Outcome State Fault Refusal :=
  s.onReg (pgFc + 0x154) (fun b => b.regWrite4 port (pgFc + 0x154) 1)
/-- KEY_CMD with OP 2 (R309). -/
def execUnwrap (port : BitVec 6) (s : State) : Host.Outcome State Fault Refusal :=
  s.onReg (pgFc + 0x154) (fun b => b.regWrite4 port (pgFc + 0x154) 2)
/-- KEY_CMD with OP 3 (R309). -/
def execWrapOut (port : BitVec 6) (s : State) : Host.Outcome State Fault Refusal :=
  s.onReg (pgFc + 0x154) (fun b => b.regWrite4 port (pgFc + 0x154) 3)
/-- KEY_CMD with OP 4 (R309). -/
def execClear (port : BitVec 6) (s : State) : Host.Outcome State Fault Refusal :=
  s.onReg (pgFc + 0x154) (fun b => b.regWrite4 port (pgFc + 0x154) 4)
/-- FC.KEY_EPOCH (R310). -/
def execKeyEpochWrite (port : BitVec 6) (v : W32) (s : State) : Host.Outcome State Fault Refusal :=
  s.onReg (pgFc + 0x15C) (fun b => b.regWrite4 port (pgFc + 0x15C) v)
/-- BOOTH_CMD with OP 1 (R328). -/
def execBringUp (port : BitVec 6) (b : BitVec 3) (key : BitVec 16) (s : State) : Host.Outcome State Fault Refusal :=
  s.onReg (pgBooth b.toNat + 0x100) (fun x => x.regWrite4 port (pgBooth b.toNat + 0x100) (keyed key 1))
/-- BOOTH_CMD with OP 2 (R333). -/
def execDrain (port : BitVec 6) (b : BitVec 3) (key : BitVec 16) (s : State) : Host.Outcome State Fault Refusal :=
  s.onReg (pgBooth b.toNat + 0x100) (fun x => x.regWrite4 port (pgBooth b.toNat + 0x100) (keyed key 2))
/-- BOOTH_CMD with OP 3 (R335). -/
def execAbortDrain (port : BitVec 6) (b : BitVec 3) (key : BitVec 16) (s : State) : Host.Outcome State Fault Refusal :=
  s.onReg (pgBooth b.toNat + 0x100) (fun x => x.regWrite4 port (pgBooth b.toNat + 0x100) (keyed key 3))
/-- BOOTH_CMD with OP 4 (R336). -/
def execPowerOff (port : BitVec 6) (b : BitVec 3) (key : BitVec 16) (s : State) : Host.Outcome State Fault Refusal :=
  s.onReg (pgBooth b.toNat + 0x100) (fun x => x.regWrite4 port (pgBooth b.toNat + 0x100) (keyed key 4))
/-- BOOTH_CMD with OP 5 (R338). -/
def execForget (port : BitVec 6) (b : BitVec 3) (key : BitVec 16) (s : State) : Host.Outcome State Fault Refusal :=
  s.onReg (pgBooth b.toNat + 0x100) (fun x => x.regWrite4 port (pgBooth b.toNat + 0x100) (keyed key 5))
/-- TBL_CMD with OP 1 (R351). -/
def execTableCommit (port : BitVec 6) (s : State) : Host.Outcome State Fault Refusal :=
  s.onReg (pgCz + 0x134) (fun b => b.regWrite4 port (pgCz + 0x134) 1)
/-- TBL_CMD with OP 2 (R353). -/
def execTableEmpty (port : BitVec 6) (s : State) : Host.Outcome State Fault Refusal :=
  s.onReg (pgCz + 0x134) (fun b => b.regWrite4 port (pgCz + 0x134) 2)
/-- JOB_CMD with GO (R354). -/
def execJobCmdGo (port : BitVec 6) (s : State) : Host.Outcome State Fault Refusal :=
  s.onReg (pgCz + 0x240) (fun b => b.regWrite4 port (pgCz + 0x240) 1)
/-- REGION_CTL with OP 1 (R408). -/
def execRegionEnable (port : BitVec 6) (v : W32) (s : State) : Host.Outcome State Fault Refusal :=
  s.onReg (pgMs + 0x13C) (fun b => b.regWrite4 port (pgMs + 0x13C) (withOp v 9 10 1))
/-- REGION_CTL with OP 2 (R409). -/
def execRegionDisable (port : BitVec 6) (v : W32) (s : State) : Host.Outcome State Fault Refusal :=
  s.onReg (pgMs + 0x13C) (fun b => b.regWrite4 port (pgMs + 0x13C) (withOp v 9 10 2))
/-- MS.CFG (R392). -/
def execMsCfgWrite (port : BitVec 6) (v : W32) (s : State) : Host.Outcome State Fault Refusal :=
  s.onReg (pgMs + 0x100) (fun b => b.regWrite4 port (pgMs + 0x100) v)
/-- MS.ST_BUDGET (R425). -/
def execStBudgetWrite (port : BitVec 6) (v : W32) (s : State) : Host.Outcome State Fault Refusal :=
  s.onReg (pgStg + 0x100) (fun b => b.regWrite4 port (pgStg + 0x100) v)
/-- PART_CFG with OP 1 (R480). -/
def execPartitionEnable (port : BitVec 6) (bank : BitVec 3) (v : W32) (s : State) : Host.Outcome State Fault Refusal :=
  s.onReg (pgSeB bank.toNat + 0x104) (fun b => b.regWrite4 port (pgSeB bank.toNat + 0x104) (withOp v 8 9 1))
/-- PART_CFG with OP 2 (R480). -/
def execPartitionDisable (port : BitVec 6) (bank : BitVec 3) (v : W32) (s : State) : Host.Outcome State Fault Refusal :=
  s.onReg (pgSeB bank.toNat + 0x104) (fun b => b.regWrite4 port (pgSeB bank.toNat + 0x104) (withOp v 8 9 2))
/-- SE.OP_CMD with GO (R483). -/
def execOpCmdGo (port : BitVec 6) (s : State) : Host.Outcome State Fault Refusal :=
  s.onReg (pgSe + 0x180) (fun b => b.regWrite4 port (pgSe + 0x180) 1)
/-- CX[n].CL_DLV (R635). -/
def execClDlvWrite (port : BitVec 6) (cluster : BitVec 4) (v : W32) (s : State) : Host.Outcome State Fault Refusal :=
  s.onReg (pgCl cluster.toNat + 0x108) (fun b => b.regWrite4 port (pgCl cluster.toNat + 0x108) v)
/-- HK.KHB (R660). -/
def execKhb (port : BitVec 6) (v : W32) (s : State) : Host.Outcome State Fault Refusal :=
  s.onReg (pgHk + 0x408) (fun b => b.regWrite4 port (pgHk + 0x408) v)
/-- HK.IN_STATUS.MASKED (R702). -/
def execMaskedClear (port : BitVec 6) (s : State) : Host.Outcome State Fault Refusal :=
  s.onReg (pgHk + 0x128) (fun b => b.regWrite4 port (pgHk + 0x128) 4)
/-- HK.FW_CMD with SET_PENDING (R716). -/
def execSetPending (port : BitVec 6) (key : BitVec 16) (slot : Bool) (s : State) : Host.Outcome State Fault Refusal :=
  s.onReg (pgHk + 0x144) (fun b => b.regWrite4 port (pgHk + 0x144) (keyed key (if slot then 5 else 1)))
/-- HK.FW_CMD with CONFIRM (R716). -/
def execConfirm (port : BitVec 6) (key : BitVec 16) (s : State) : Host.Outcome State Fault Refusal :=
  s.onReg (pgHk + 0x144) (fun b => b.regWrite4 port (pgHk + 0x144) (keyed key 2))
/-- HK.FW_CMD with CLEAR_PENDING (R716). -/
def execClearPending (port : BitVec 6) (key : BitVec 16) (s : State) : Host.Outcome State Fault Refusal :=
  s.onReg (pgHk + 0x144) (fun b => b.regWrite4 port (pgHk + 0x144) (keyed key 3))
/-- HK.DEV_RESET (R718). -/
def execDevReset (port : BitVec 6) (v : W32) (s : State) : Host.Outcome State Fault Refusal :=
  s.onReg (pgHk + 0x150) (fun b => b.regWrite4 port (pgHk + 0x150) v)

end Sys2Proof.Machine
end

