-- ==== Sys2Proof/Machine/MediaRows.lean ====
section
/-! DEFINITION. The commands of the media channels (chapter 6) that are no register write. -/
namespace Sys2Proof.Machine

/-! ### Posting (R296) -/

/-- A page of a die that takes part in service, by the profile of its booth. -/
def Block.pageOk (b : Block) (d blk page : Nat) : Bool :=
  (b.die d).inService && b.boothOpen (boothOf d) && decide (blk < (b.dieProf d).blocks)
    && decide (page < (if (b.fblk (d * 4096 + blk)).slc then (b.dieProf d).pagesSlc else (b.dieProf d).pages))
/-- A READ is posted. -/
def Block.postRead (b : Block) (d blk page cls rung : Nat) : Block :=
  if b.pageOk d blk page then b.postOp d blk page .read (b.fblk (d * 4096 + blk)).slc cls rung .direct else b
/-- A PROGRAM of one page is posted. -/
def Block.postProgram (b : Block) (d blk page cls : Nat) : Block :=
  if b.pageOk d blk page && !b.ft.frozen then b.postOp d blk page .program (b.fblk (d * 4096 + blk)).slc cls 0 .direct else b
/-- An ERASE of a block is posted: the flash translation engine posts none for a block that is open, or holds mapped extents or extents
whose units are not committed (R240). -/
def Block.postEraseOf (b : Block) (d blk cls : Nat) : Block :=
  let k := d * 4096 + blk
  if b.pageOk d blk 0 && !b.ft.frozen && (b.mappedOn k).isEmpty && !b.blkPending k && decide ((b.fblk k).st ≠ .opened) then b.postErase k cls else b
/-- A RAW_PROGRAM is posted, by an overwrite sanitize only (R296, R308). -/
def Block.postRaw (b : Block) (d blk page : Nat) : Block :=
  match b.ft.san with
  | some x =>
    if b.pageOk d blk page && decide (x.act = .overwrite) then b.postOp d blk page .rawProgram (b.fblk (d * 4096 + blk)).slc 3 0 (.raw x.passPattern)
    else b
  | none => b
/-- A DIE_RESET is posted. -/
def Block.postReset (b : Block) (d : Nat) : Block :=
  if (b.die d).answered && b.boothUp (boothOf d) then b.postOp d 0 0 .dieReset false 0 0 .direct else b

/-! ### At the die -/

/-- SUSPEND_RESUME: a suspended operation goes on when its die has no waiting C0 or C1 read (R298). -/
def Block.resumeOp (b : Block) (d : Nat) : Block :=
  let mine := b.fc.ops.filter (fun o => o.die == d)
  let held := mine.any (fun o => decide (o.stage = .issued) || (decide (o.kind = .read) && decide (o.stage = .queued) && decide (b.opCls o ≤ 1)))
  match mine.find? (fun o => decide (o.stage = .suspended)) with
  | some o => if held then b else b.modOp o.id (fun p => { p with
      stage := .issued
      resumed := b.usec })
  | none => b
/-- FLASH_OP_COMPLETE: the die of an issued operation reports how it ended (R17). -/
def Block.opComplete (b : Block) (id : Nat) (res : FlashRes) : Block :=
  match b.op id with
  | some o => if o.stage = .issued && resFits o.kind res then (b.opEnds o res).afterOp else b
  | none => b
/-- LADDER_TIMEOUT: FC.LADDER.MAX_US has passed since a READ's first read, with its codeword at rung `rung` (R316). -/
def Block.ladderTimeout (b : Block) (id rung : Nat) (lost : Bool) : Block :=
  match b.op id with
  | some o =>
    if o.stage = .issued && o.kind = .read then 
      (((b.elapseTo (o.issued + b.rdF (pgFc + 0x1C0) 0 15)).noteRung o (min rung (b.lastRung o.die))).ladderFail o (min rung (b.lastRung o.die))
        lost).afterOp
    else b
  | none => b
/-- DIE_TIMEOUT (R300). -/
def Block.dieTimeout (b : Block) (id : Nat) : Block :=
  match b.op id with
  | some o => if o.stage = .issued then (b.opTimeout o).afterOp else b
  | none => b
/-- A channel is due to retrain: at its interval, or when the diode has moved by DELTA (R290). -/
def Block.retrainMoved (b : Block) (ch : Nat) : Bool :=
  let t := fun (x : Nat) => (BitVec.ofNat 16 x).toInt
  let now := t (b.rdF (pgHk + 0x100) 0 15)
  let old := t ((smFind b.fc.trainedT ch).getD 0)
  decide (10 * b.rdF (pgFc + 0x1C4) 16 23 ≤ (now - old).natAbs)
/-- RETRAIN_INTERVAL: a channel in service retrains under its ticket (R290, R301); not after PWRFAIL# is accepted. -/
def Block.retrain (b : Block) (ch : Nat) (rates : List Nat) : Block :=
  match smFind b.fc.trainedAt ch, b.prof (ch / 8) with
  | some at_, some p =>
    if !b.boothUp (ch / 8) || b.plossSt != 0 || b.rdF (pgCh ch + 0x100) 7 7 = 0 then b
    else
      let b := if b.retrainMoved ch then b else b.elapseTo (at_ + b.rdF (pgFc + 0x1C4) 0 15 * 1000000)
      let (a, b) := b.ticket ⟨.chip, .training ch, 450, 1, b.usec, false, false, false, false⟩
      if a = .granted then ((b.trainCh ch p.body rates).chDies ch).untick (.training ch) else b
  | _, _ => b
/-- PARITY_GROUP_TIMEOUT: a group closes 10 ms after its first member was issued (R318). -/
def Block.groupTimeout (b : Block) (id : Nat) : Block :=
  match b.fc.grps.find? (fun (g : ParGrp) => g.id == id) with
  | some g =>
    if g.closed then b
    else
      let b := b.elapseTo (g.first + 10000)
      (b.onFc (fun e => { e with grps := e.grps.map (fun (x : ParGrp) => if x.id = id then { x with closed := true } else x) })).parityUsed
  | none => b

/-! ### Booths -/

/-- BOOTH_PRES_ASSERT (R327). -/
def Block.presUp (b : Block) (k : Nat) : Block := if b.variant.hasBooth k && !b.boothPres k then b.presAssert k else b
/-- PRESENCE_STABLE: BOOTH_PRES# has been asserted for 100 ms, and the bring-up asks for its inrush ticket (R328, R780). -/
def Block.presStable (b : Block) (k : Nat) : Block :=
  if b.boothSt k = 1 && b.boothPres k && !b.boothPwr k && !b.holds (.inrush k) then
    (b.elapseTo ((smFind b.fc.presAt k).getD 0 + 100000)).inrushAsk k
  else b
/-- INRUSH_HOLD_END: 20 ms after BOOTH_PWREN rose its ticket returns, and the bring-up goes on with what the cartridge reports
(R301, R328). -/
def Block.inrushEnd (b : Block) (k : Nat) (cart : Cart) : Block :=
  match smFind b.fc.inrush k with
  | none => b
  | some t =>
    let b := (b.elapseTo (t + 20000)).untick (.inrush k)
    let b := b.onFc (fun e => { e with inrush := smErase e.inrush k })
    if b.boothSt k = 1 then b.bringRest k cart else b
/-- SURPRISE_REMOVAL (R339). -/
def Block.presLost (b : Block) (k : Nat) : Block :=
  if b.boothPres k && (b.boothSt k == 1 || b.boothUp k) then b.surprise k else b
/-- REMOVED (R781). -/
def Block.presGone (b : Block) (k : Nat) : Block :=
  if b.boothPres k && !(b.boothSt k == 1 || b.boothUp k) then b.removedIn k else b
/-- DRAIN_DONE (R334). -/
def Block.drainEnds (b : Block) (k : Nat) : Block :=
  if b.boothSt k = 3 && b.boothValid k == 0 && !b.fc.ops.any (fun o => boothOf o.die == k) && !b.metaBooths.contains k &&
      !b.fc.ops.any (fun o => decide (o.why = .page .meta_)) then (b.setBooth k 4).raise (pgBooth k) 5 else b
/-- PROFILE_LOADED: a running load ends within 20 ms (R292). -/
def Block.profLoaded (b : Block) (signed fabricErr : Bool) (body : ProfBody) : Block :=
  match b.fc.profLoad with
  | some slot => b.loadEnds slot signed fabricErr body
  | none => b

/-! ### The commands -/

/-- FLASH_READ (R296). -/
def execFlashRead (die : BitVec 10) (block page : BitVec 12) (cls : BitVec 2) (rung : BitVec 5) (s : State) : Host.Outcome State Fault Refusal :=
  s.run (fun b => b.postRead die.toNat block.toNat page.toNat cls.toNat rung.toNat)
/-- FLASH_PROGRAM (R296). -/
def execFlashProgram (die : BitVec 10) (block page : BitVec 12) (cls : BitVec 2) (s : State) : Host.Outcome State Fault Refusal :=
  s.run (fun b => b.postProgram die.toNat block.toNat page.toNat cls.toNat)
/-- FLASH_ERASE (R296). -/
def execFlashErase (die : BitVec 10) (block : BitVec 12) (cls : BitVec 2) (s : State) : Host.Outcome State Fault Refusal :=
  s.run (fun b => b.postEraseOf die.toNat block.toNat cls.toNat)
/-- RAW_PROGRAM (R308). -/
def execRawProgram (die : BitVec 10) (block page : BitVec 12) (s : State) : Host.Outcome State Fault Refusal :=
  s.run (fun b => b.postRaw die.toNat block.toNat page.toNat)
/-- DIE_RESET (R300). -/
def execDieReset (die : BitVec 10) (s : State) : Host.Outcome State Fault Refusal := s.run (fun b => b.postReset die.toNat)
/-- FLASH_OP_ISSUE (R297, R301, R302). -/
def execFlashOpIssue (ch : BitVec 6) (s : State) : Host.Outcome State Fault Refusal := s.run (fun b => b.promoteAged.issueNext ch.toNat)
/-- SUSPEND_RESUME (R298). -/
def execSuspendResume (die : BitVec 10) (s : State) : Host.Outcome State Fault Refusal := s.run (fun b => b.resumeOp die.toNat)
/-- FLASH_OP_COMPLETE (R17). -/
def execFlashOpComplete (id : W32) (res : FlashRes) (s : State) : Host.Outcome State Fault Refusal := s.run (fun b => b.opComplete id.toNat res)
/-- LADDER_TIMEOUT (R316). -/
def execLadderTimeout (id : W32) (rung : BitVec 5) (recordLost : Bool) (s : State) : Host.Outcome State Fault Refusal :=
  s.run (fun b => b.ladderTimeout id.toNat rung.toNat recordLost)
/-- DIE_TIMEOUT (R300). -/
def execDieTimeout (id : W32) (s : State) : Host.Outcome State Fault Refusal := s.run (fun b => b.dieTimeout id.toNat)
/-- RETRAIN_INTERVAL (R290). -/
def execRetrainInterval (ch : BitVec 6) (rates : List Nat) (s : State) : Host.Outcome State Fault Refusal :=
  s.run (fun b => b.retrain ch.toNat rates)
/-- PARITY_GROUP_TIMEOUT (R318). -/
def execParityGroupTimeout (id : W32) (s : State) : Host.Outcome State Fault Refusal := s.run (fun b => b.groupTimeout id.toNat)
/-- KEY_DONE (R313). -/
def execKeyDone (s : State) : Host.Outcome State Fault Refusal := s.run (fun b => b.keyEnds)
/-- BOOTH_PRES_ASSERT (R327). -/
def execBoothPresAssert (b : BitVec 3) (s : State) : Host.Outcome State Fault Refusal := s.run (fun x => x.presUp b.toNat)
/-- PRESENCE_STABLE (R328). -/
def execPresenceStable (b : BitVec 3) (s : State) : Host.Outcome State Fault Refusal := s.run (fun x => x.presStable b.toNat)
/-- INRUSH_HOLD_END (R301). -/
def execInrushHoldEnd (b : BitVec 3) (cart : Cart) (s : State) : Host.Outcome State Fault Refusal := s.run (fun x => x.inrushEnd b.toNat cart)
/-- SURPRISE_REMOVAL (R339). -/
def execSurpriseRemoval (b : BitVec 3) (s : State) : Host.Outcome State Fault Refusal := s.run (fun x => x.presLost b.toNat)
/-- REMOVED (R781). -/
def execRemoved (b : BitVec 3) (s : State) : Host.Outcome State Fault Refusal := s.run (fun x => x.presGone b.toNat)
/-- DRAIN_DONE (R334). -/
def execDrainDone (b : BitVec 3) (s : State) : Host.Outcome State Fault Refusal := s.run (fun x => x.drainEnds b.toNat)
/-- PROFILE_LOADED (R292). -/
def execProfileLoaded (signed fabricErr : Bool) (body : ProfBody) (s : State) : Host.Outcome State Fault Refusal :=
  s.run (fun b => b.profLoaded signed fabricErr body)

end Sys2Proof.Machine
end

