-- ==== Sys2Proof/Machine/DataRows.lean ====
section
/-! DEFINITION. The commands of the Big Top (chapter 1), of compression (chapter 7), of the memory system (chapter 8) and of the search
engine (chapter 10) that are no register write. -/
namespace Sys2Proof.Machine

/-! ### The memory system -/

/-- DRAM_TRAINING: the bring-up; a channel that fails at 4,800 MT/s is DEVICE_FATAL (R387, R388). -/
def Block.dramTraining (b : Block) (reached : List (Option (BitVec 3))) (soft : List Nat) : Block :=
  if b.dramReady || reached.length != b.variant.drams then b
  else match b.trainBad reached with
    | c :: _ => b.fatalError (pgMsCh c) { code := 0x109, sev := .deviceFatal }
    | [] => b.trainDram reached soft
/-- ROW_IDLE_CLOSE and REFRESH: the open row of a bank closes (R397, R398). -/
def Block.rowCloses (b : Block) (ch sub rank bg bank : Nat) : Block :=
  if decide (ch < b.variant.drams) && b.dramReady then b.closeRow (bankKey ch sub rank bg bank) else b
/-- A row idle for IDLE_CLOSE clocks closes; 0 means that every row has closed after its access (R397). -/
def Block.rowIdle (b : Block) (ch sub rank bg bank : Nat) : Block := b.rowCloses ch sub rank bg bank
/-- A refresh falls due; refreshes go on in service only (R398). -/
def Block.refreshBank (b : Block) (ch sub rank bg bank : Nat) : Block := if b.ms.stopped then b else b.rowCloses ch sub rank bg bank

/-! ### The search engine -/

/-- A request of one kind from a fabric port; a request with a reserved OP is taken with the SEARCH requests. -/
def Block.seFrom (b : Block) (op : Nat) (port tag : BitVec 6) (d : BitVec 512) (hold : Bool) : Block :=
  let kind := if qOp d = 2 ∨ qOp d = 3 ∨ qOp d = 4 then qOp d else 1
  if kind = op && portPresent b.variant port.toNat then b.seRequest (.port port) tag port.toNat d hold else b
/-- A bank of this part. -/
def Block.ifBank (b : Block) (k : BitVec 3) (f : Block → Block) : Block := if b.variant.hasBank k.toNat then f b else b

/-! ### The commands of chapter 1 -/

/-- FABRIC_TRANSACTION (R15-R29). -/
def execFabricTransaction (t : Txn) (answers : Bool) (errs : List (FAddr × Bool)) (s : State) : Host.Outcome State Fault Refusal :=
  s.run (fun b => b.fabricTxn t answers errs)
/-- BUSY_REISSUE (R21). -/
def execBusyReissue (id : BitVec 16) (s : State) : Host.Outcome State Fault Refusal := s.run (fun b => b.busyReissue id)
/-- BT_TIMEOUT (R20). -/
def execBtTimeout (id : BitVec 16) (s : State) : Host.Outcome State Fault Refusal := s.run (fun b => b.btTimeout id)
/-- LATE_RESPONSE (R20). -/
def execLateResponse (id : BitVec 16) (s : State) : Host.Outcome State Fault Refusal := s.run (fun b => b.lateResponse id)
/-- AGE_PROMOTION (R26). -/
def execAgePromotion (r : AgedReq) (s : State) : Host.Outcome State Fault Refusal := s.run (fun b => b.agePromote r)

/-! ### The commands of chapter 7 -/

/-- LANE_JOB_SUBMIT (R354-R356). -/
def execLaneJobSubmit (port : BitVec 6) (desc : BitVec 512) (s : State) : Host.Outcome State Fault Refusal :=
  s.run (fun b => if portPresent b.variant port.toNat then b.submitJob desc (.other port) else b)
/-- LANE_JOB_GRANT (R358, R359). -/
def execLaneJobGrant (decomp : Bool) (s : State) : Host.Outcome State Fault Refusal := s.run (fun b => b.promoteAged.grantLane decomp)
/-- LANE_WAKE (R361, R362). -/
def execLaneWake (decomp : Bool) (n : BitVec 6) (s : State) : Host.Outcome State Fault Refusal := s.run (fun b => b.wakeLane decomp n.toNat)
/-- LANE_POWER_GATE (R361). -/
def execLanePowerGate (decomp : Bool) (n : BitVec 6) (s : State) : Host.Outcome State Fault Refusal := s.run (fun b => b.gateLane decomp n.toNat)
/-- LANE_JOB_COMPLETE (R357). -/
def execLaneJobComplete (decomp : Bool) (n : BitVec 6) (res : JobRes) (s : State) : Host.Outcome State Fault Refusal :=
  s.run (fun b => b.laneJobEnds decomp n.toNat res)

/-! ### The commands of chapter 8 -/

/-- DRAM_TRAINING (R387, R388). -/
def execDramTraining (reached : List (Option (BitVec 3))) (soft : List (BitVec 8)) (s : State) : Host.Outcome State Fault Refusal :=
  s.run (fun b => b.dramTraining reached (soft.map (·.toNat)))
/-- DRAM_READ (R404). -/
def execDramRead (t : Txn) (errs : List (FAddr × Bool)) (s : State) : Host.Outcome State Fault Refusal :=
  s.run (fun b => b.serveIn (fun p => decide (p = .dram)) false t (BitVec.allOnes 256) errs)
/-- DRAM_WRITE: whole lines (R396). -/
def execDramWrite (t : Txn) (s : State) : Host.Outcome State Fault Refusal :=
  s.run (fun b => if t.addr.toNat % 64 = 0 ∧ txnLen t % 64 = 0 then b.serveIn (fun p => decide (p = .dram)) true t (BitVec.allOnes 256) [] else b)
/-- PARTIAL_WRITE (R410). -/
def execPartialWrite (t : Txn) (be : BitVec 256) (errs : List (FAddr × Bool)) (s : State) : Host.Outcome State Fault Refusal :=
  s.run (fun b => b.serveIn (fun p => decide (p = .dram)) true t be errs)
/-- ROW_IDLE_CLOSE (R397). -/
def execRowIdleClose (ch : BitVec 3) (sub rank : BitVec 1) (bg : BitVec 3) (bank : BitVec 2) (s : State) : Host.Outcome State Fault Refusal :=
  s.run (fun b => b.rowIdle ch.toNat sub.toNat rank.toNat bg.toNat bank.toNat)
/-- REFRESH (R398). -/
def execRefresh (ch : BitVec 3) (sub rank : BitVec 1) (bg : BitVec 3) (bank : BitVec 2) (s : State) : Host.Outcome State Fault Refusal :=
  s.run (fun b => b.refreshBank ch.toNat sub.toNat rank.toNat bg.toNat bank.toNat)
/-- PATROL_SCRUB (R413). -/
def execPatrolScrub (errs : List (FAddr × Bool)) (s : State) : Host.Outcome State Fault Refusal := s.run (fun b => b.patrol errs)
/-- LAP_OVERDUE (R413). -/
def execLapOverdue (s : State) : Host.Outcome State Fault Refusal := s.run (fun b => b.lapOverdue)
/-- IMBALANCE (R393). -/
def execImbalance (s : State) : Host.Outcome State Fault Refusal := s.run (fun b => b.imbalance)
/-- REGION_DONE (R409). -/
def execRegionDone (idx : BitVec 5) (s : State) : Host.Outcome State Fault Refusal := s.run (fun b => b.regionEnds idx.toNat)
/-- STAGING_ACCESS (R422). -/
def execStagingAccess (t : Txn) (be : BitVec 256) (errs : List (FAddr × Bool)) (s : State) : Host.Outcome State Fault Refusal :=
  s.run (fun b => b.serveIn (fun p => decide (p = .staging)) t.write t be errs)
/-- STAGING_SCRUB (R421). -/
def execStagingScrub (errs : List (FAddr × Bool)) (s : State) : Host.Outcome State Fault Refusal := s.run (fun b => b.stgPatrol errs)
/-- ST_LAP_OVERDUE (R421). -/
def execStLapOverdue (s : State) : Host.Outcome State Fault Refusal := s.run (fun b => b.stgLapOverdue)

/-! ### The commands of chapter 10 -/

/-- SEARCH (R487). -/
def execSearch (port tag : BitVec 6) (req : BitVec 512) (hold : Bool) (s : State) : Host.Outcome State Fault Refusal :=
  s.run (fun b => b.seFrom 1 port tag req hold)
/-- SE_WRITE (R492). -/
def execSeWrite (port tag : BitVec 6) (req : BitVec 512) (hold : Bool) (s : State) : Host.Outcome State Fault Refusal :=
  s.run (fun b => b.seFrom 2 port tag req hold)
/-- INVALIDATE (R492). -/
def execInvalidate (port tag : BitVec 6) (req : BitVec 512) (hold : Bool) (s : State) : Host.Outcome State Fault Refusal :=
  s.run (fun b => b.seFrom 3 port tag req hold)
/-- SE_READ (R485). -/
def execSeRead (port tag : BitVec 6) (req : BitVec 512) (hold : Bool) (s : State) : Host.Outcome State Fault Refusal :=
  s.run (fun b => b.seFrom 4 port tag req hold)
/-- BANK_SLOT_GRANT (R490). -/
def execBankSlotGrant (bank : BitVec 3) (s : State) : Host.Outcome State Fault Refusal := s.run (fun b => b.ifBank bank (fun b => (b.promoteAged.seReissues.seGrant bank.toNat)))
/-- PART_CLEARED (R480). -/
def execPartCleared (bank : BitVec 3) (part : BitVec 6) (s : State) : Host.Outcome State Fault Refusal :=
  s.run (fun b => b.ifBank bank (fun b => b.partCleared bank.toNat part.toNat))
/-- BANK_WAKE (R482). -/
def execBankWake (bank : BitVec 3) (s : State) : Host.Outcome State Fault Refusal := s.run (fun b => b.ifBank bank (fun b => b.bankWakes bank.toNat))
/-- MIRROR_CHECK (R499). -/
def execMirrorCheck (bank : BitVec 3) (flipped : Bool) (s : State) : Host.Outcome State Fault Refusal :=
  s.run (fun b => b.ifBank bank (fun b => b.mirrorVisit bank.toNat flipped))
/-- SE_LAP_OVERDUE (R502). -/
def execSeLapOverdue (bank : BitVec 3) (s : State) : Host.Outcome State Fault Refusal :=
  s.run (fun b => b.ifBank bank (fun b => b.seLapLate bank.toNat))

end Sys2Proof.Machine
end

