-- ==== Sys2Proof/Machine/Reports.lean ====
section
/-! DEFINITION. What the device reports of itself to its hosts: the Identify values, the controller properties, the power states, and the
values of the SMART log (chapters 3 to 5 and 15). No command of the table reads them; a host's Identify or Get Log Page is answered with
these. -/
namespace Sys2Proof.Machine

/-- What a controller reports (R131, R132, R140, R165, R187, R199, R693). -/
structure IdCtlr where
  /-- CAP.DSTRD -/
  dstrd : Nat
  /-- CAP.MQES, 0's based -/
  mqes : Nat
  /-- CAP.TO in 500 ms units -/
  timeout : Nat
  /-- MDTS -/
  mdts : Nat
  /-- I/O queue pairs supported, before the tenant's QC_MAX -/
  queuePairs : Nat
  /-- Abort Command Limit, 0's based -/
  acl : Nat
  /-- Maximum Time for Firmware Activation in 100 ms units -/
  mtfa : Nat
  /-- Volatile Write Cache Present -/
  vwc : Bool
  /-- Keep Alive granularity in 100 ms units -/
  kas : Nat
  /-- IOCCSZ and IORCSZ in 16-byte units -/
  capsules : Nat × Nat
  /-- WCTEMP and CCTEMP in kelvins -/
  temps : Nat × Nat
deriving DecidableEq, Repr

/-- The I/O queue pairs of a controller: 4,095 of a PF, 255 of a VF (R165); of an NVMe/TCP controller what 16-bit identifiers allow. -/
def queuePairs (k : Nat) : Nat := if k = 0 ∨ k = 0x40 then 4095 else if k < 0x40 then 255 else 65535
/-- The Identify values of a controller. -/
def idCtlr (k : Nat) : IdCtlr :=
  { dstrd := 0, mqes := 65535, timeout := 10, mdts := 8, queuePairs := queuePairs k, acl := 15, mtfa := 2, vwc := false, kas := 1,
    capsules := (516, 1), temps := (368, 378) }
/-- What a namespace reports (R124, R131, R222). -/
structure IdNs where
  /-- size in LBAs -/
  nsze : Nat
  /-- Namespace Atomic Write Unit Normal, 0's based -/
  nawun : Nat
  /-- Namespace Atomic Write Unit Power Fail, 0's based -/
  nawupf : Nat
  /-- Namespace Atomic Boundary Size Power Fail -/
  nabspf : Nat
  /-- DLFEAT -/
  dlfeat : Byte
deriving DecidableEq, Repr
/-- The Identify values of a namespace. -/
def Block.idNs (b : Block) (nsx : Nat) : IdNs :=
  { nsze := smGet 0 b.ft.nsze nsx, nawun := 0xFFFF, nawupf := 262144 / b.lbaSize nsx - 1, nabspf := 0, dlfeat := 0x09 }
/-- The namespaces attached to a controller of a tenant, by index (R186). -/
def Block.attached (b : Block) (t : Nat) : List Nat := (List.range 1024).filter (fun k => b.nsValid k && b.nsTenant k == t)
/-- CC.EN and CSTS.CFS of a controller (R152, R656, R778). -/
def Block.csts (b : Block) (k : Nat) : Bool × Bool := ((b.ctlr k).en, (b.ctlr k).cfs)

/-- A power state as a controller reports it: Max Power in mW, media fraction, non-operational, ENLAT and EXLAT in µs (R689). -/
def powerState (v : Variant) (ps : Nat) : Nat × Nat × Bool × Nat × Nat :=
  (psLimit v ps, psMedia ps, decide (3 ≤ ps), if ps = 0 then 0 else if ps = 4 then 2000 else 1000, if ps = 0 then 0 else if ps = 4 then 500 else 100)

/-- The composite temperature in kelvins (R693). -/
def Block.compositeK (b : Block) : Int := ((BitVec.ofNat 16 (b.rdF (pgHk + 0x100) 0 15)).toInt + 5) / 10 + 273
/-- SMART critical warning bit 1, for the default Over Temperature Threshold, HK.THRESH.WARN (R693, R694). -/
def Block.overTemp (b : Block) : Bool :=
  decide ((BitVec.ofNat 16 (b.rdF (pgHk + 0x100) 0 15)).toInt > 10 * (b.rdF (pgHk + 0x104) 0 7 : Int))
/-- The SMART critical warning bits 0 (spare below threshold) and 3 (media read-only) that read-only end of life sets, and bit 1 (R270, R694). -/
def Block.critWarning (b : Block) : Byte := BitVec.ofNat 8 (bit b.ft.eol + 2 * bit b.overTemp + 8 * bit b.ft.eol)
/-- Percentage Used (R266); the average goes over the good blocks against their native rated cycles (DESIGN CHOICE, log entry 59). -/
def Block.percentUsed (b : Block) : Nat :=
  let good := b.ft.blks.filter (fun e => b.diesIn.contains (e.1 / 4096) && decide (e.2.st ≠ .retired) && decide (e.2.st ≠ .bad))
  let erases := (good.map (·.2.erases)).sum
  let rated := (b.diesIn.map (fun d => (b.dieProf d).blocks * b.rated d false)).sum
  let gone := if b.ft.retireInit = 0 then 0 else (b.ft.retireInit - b.retireLeft) * 100 / b.ft.retireInit
  min 255 (max (if rated = 0 then 0 else erases * 100 / rated) gone)
/-- Available Spare and its threshold (R266). -/
def Block.availSpare (b : Block) : Nat × Nat := (if b.ft.retireInit = 0 then 0 else b.retireLeft * 100 / b.ft.retireInit, 10)

end Sys2Proof.Machine
end

