-- ==== Sys2Proof/Machine/ComputeRows.lean ====
section
/-! DEFINITION. The commands of the compute service (chapter 13) that programs, contexts and clusters raise. -/
namespace Sys2Proof.Machine

/-- EXIT (R629, R642). -/
def execExit (ctx : BitVec 12) (s : State) : Host.Outcome State Fault Refusal := s.run (fun b => b.sysExit ctx.toNat)
/-- YIELD (R629). -/
def execYield (ctx : BitVec 12) (s : State) : Host.Outcome State Fault Refusal := s.run (fun b => b.sysYield ctx.toNat)
/-- SYSCALL_WAIT (R629). -/
def execSyscallWait (ctx : BitVec 12) (s : State) : Host.Outcome State Fault Refusal := s.run (fun b => b.sysWait ctx.toNat)
/-- WAIT_TIMEOUT (R629). -/
def execWaitTimeout (ctx : BitVec 12) (s : State) : Host.Outcome State Fault Refusal := s.run (fun b => b.waitTimeout ctx.toNat)
/-- SYSCALL_DMA (R630). -/
def execSyscallDma (ctx : BitVec 12) (s : State) : Host.Outcome State Fault Refusal := s.run (fun b => b.sysDma ctx.toNat)
/-- XLATE (R629). -/
def execXlate (ctx : BitVec 12) (s : State) : Host.Outcome State Fault Refusal := s.run (fun b => b.sysXlate ctx.toNat)
/-- CONTEXT_READY (R633). -/
def execContextReady (ctx : BitVec 12) (ev : BitVec 2) (s : State) : Host.Outcome State Fault Refusal :=
  s.run (fun b => b.ctxReady ctx.toNat ev.toNat)
/-- CONTEXT_END (R641-R643). -/
def execContextEnd (ctx : BitVec 12) (s : State) : Host.Outcome State Fault Refusal := s.run (fun b => b.ctxEnds ctx.toNat)
/-- CONTEXT_FREE (R643). -/
def execContextFree (ctx : BitVec 12) (s : State) : Host.Outcome State Fault Refusal := s.run (fun b => b.ctxFree ctx.toNat)
/-- SEARCH_DOORBELL (R627). -/
def execSearchDoorbell (ctx : BitVec 12) (v : W32) (s : State) : Host.Outcome State Fault Refusal := s.run (fun b => b.searchBell ctx.toNat v)
/-- SEARCH_RESPONSE (R627). -/
def execSearchResponse (ctx : BitVec 12) (s : State) : Host.Outcome State Fault Refusal := s.run (fun b => b.searchArrives ctx.toNat)
/-- SEARCH_CLEAR (R626). -/
def execSearchClear (ctx : BitVec 12) (v : W32) (s : State) : Host.Outcome State Fault Refusal := s.run (fun b => b.searchClear ctx.toNat v)
/-- LINE_DOORBELL (R628). -/
def execLineDoorbell (ctx : BitVec 12) (v : W32) (s : State) : Host.Outcome State Fault Refusal := s.run (fun b => b.lineBell ctx.toNat v)
/-- LINE_STATUS_CLEAR (R626): a store of any value. -/
def execLineStatusClear (ctx : BitVec 12) (_v : W32) (s : State) : Host.Outcome State Fault Refusal := s.run (fun b => b.lineOk ctx.toNat)
/-- DELIVERY_UNIT (R636). -/
def execDeliveryUnit (seq : W64) (unit : BitVec 40) (s : State) : Host.Outcome State Fault Refusal := s.run (fun b => b.deliver seq.toNat unit.toNat)
/-- DLV_RESTART (R638). -/
def execDlvRestart (cluster : BitVec 4) (s : State) : Host.Outcome State Fault Refusal :=
  s.run (fun b => if b.variant.hasCluster cluster.toNat then b.dlvRestart cluster.toNat else b)
/-- DVFS_STEP_UP (R609). -/
def execDvfsStepUp (cluster : BitVec 4) (s : State) : Host.Outcome State Fault Refusal := s.run (fun b => b.stepUp cluster.toNat)
/-- DVFS_STEP_DOWN (R609). -/
def execDvfsStepDown (cluster : BitVec 4) (s : State) : Host.Outcome State Fault Refusal := s.run (fun b => b.stepDown cluster.toNat)
/-- CLUSTER_POWER_GATE (R609). -/
def execClusterPowerGate (cluster : BitVec 4) (s : State) : Host.Outcome State Fault Refusal := s.run (fun b => b.clGate cluster.toNat)

end Sys2Proof.Machine
end

