-- ==== Sys2Proof/Machine/CommandEngine.lean ====
section
/-! DEFINITION. The commands of the command engine (chapter 3), with the admin commands that chapters 4, 5 and 15 describe. -/
namespace Sys2Proof.Machine

/-! ### I/O commands -/

/-- A lane may fetch from this context now (R96, R102), an entry given. -/
def Block.mayFetch (b : Block) (qc : Nat) : Bool :=
  let q := b.qc qc
  qSqEn q && (qType q == 2 || qType q == 4) && qState q == 1 && !b.fetchStop && !b.resetting (qTenant q) && b.laneUp (qLane q) && !b.ce.stalled
    && (qInflMax q == 0 || decide (b.srcInflight (.queue qc) < qInflMax q))
    && decide (b.tenInflight (qTenant q) < b.rdF (pgCeT (qTenant q) + 0x104) 0 16)
/-- The slot of a command that comes with no entry waiting is submitted with it. -/
def Block.submit (b : Block) (qc : Nat) : Block := b.qcF qc 160 175 ((qSqTail (b.qc qc) + 1) % (qSqSize (b.qc qc) + 1))
/-- A queue's next entry is this command: of an NVMe/TCP queue the first waiting capsule, with the status it may end with. A queue with no
entry waiting has this one submitted (DESIGN CHOICE, log entry 59). -/
def Block.takeEntry (b : Block) (qc : Nat) (e : Sqe) : Option (Option Stat × Block) :=
  if qIsTcp (b.qc qc) then
    match b.fp.capsules.find? (fun c => c.1 == qc) with
    | some c => if c.2.1 = e then some (c.2.2, b.onFp (fun f => { f with capsules := f.capsules.erase c })) else none
    | none => some (none, b.submit qc)
  else some (none, if qSqHead (b.qc qc) = qSqTail (b.qc qc) then b.submit qc else b)
/-- A command of one opcode is fetched through its queue's lane, and sequenced if nothing is before it (R99, R103, R104, R114). -/
def Block.fetchCmd (b : Block) (qc : Nat) (e : Sqe) : Block :=
  if !b.mayFetch qc then b
  else match b.takeEntry qc e with
    | none => b
    | some (ended, b) =>
      let b := b.passLane qc e ended
      match b.ce.lanes.getLast? with
      | some f => b.seqIf f
      | none => b
/-- An I/O command of one opcode. -/
def Block.ioCommand (b : Block) (opc : BitVec 8) (qc : Nat) (e : Sqe) : Block := b.fetchCmd qc { e with opc := opc, prog := none }
/-- A command of a compute or memory namespace. -/
def Block.progCommand (b : Block) (qc : BitVec 14) (cid : BitVec 16) (p : ProgOp) : Block :=
  b.fetchCmd qc.toNat { opc := 0, fuse := 0, cid := cid, nsid := 0, slba := 0, count := 0, deac := false, ord := false, ranges := [], buf := (0, 0),
                        data := none, ptrs := [], mptr := false, pi := 0, prog := some p, posted := true }
/-- A Flush all of whose covered writes are durable or ended completes (R129). -/
def Block.flushEnds (b : Block) (seq : Nat) (posted : Bool) : Block :=
  match b.cmd seq with
  | none => b
  | some c =>
    if decide (c.op = .flush) && c.started && c.covers.all (fun w => (b.cmd w).isNone) then (b.complete seq stOk posted).lostWith c posted else b
/-- SEQUENCER_RESUME: the stalled sequencer proceeds once there is room (R114). -/
def Block.resume (b : Block) : Block :=
  match b.nextFetched with
  | some f => if b.ce.stalled && b.collRoom (b.entriesOf f) then b.seqAssign else b
  | none => b

/-! ### Admin commands -/

/-- An admin command reaches firmware: already fetched, or fetched now (R101, R137). -/
def Block.adminRow (b : Block) (qc : Nat) (cid : BitVec 16) (f : Block → Block) : Block :=
  if !b.isAdminQc qc then b
  else if b.ce.admin.any (fun a => a.1 == qc && a.2.1 == cid.toNat) then f b
  else if qState (b.qc qc) ≠ 1 ∨ b.fetchStop then b
  else
    let b := b.onIf (qSqHead (b.qc qc) != qSqTail (b.qc qc)) (fun b => b.advanceHead qc)
    f (b.onCe (fun e => { e with admin := e.admin ++ [(qc, cid.toNat, true)] }))

/-- An Abort may end a command in this state (R127). -/
def CmdState.abortable : CmdState → Bool
  | .writeDurable | .readSending => false
  | _ => true
/-- An Abort may end this command: one that has not ended. -/
def Cmd.abortable (c : Cmd) : Bool := !c.fin && c.st.abortable
/-- Command Abort Requested. -/
def stAborted : Stat := statU 0 0x07
/-- ABORT: the command named ends as R127 gives; DW0 bit 0 says that it was not aborted (R132). -/
def Block.abortCmd (b : Block) (qc : Nat) (cid : BitVec 16) (sqid target : Nat) : Block :=
  let no := fun (b : Block) => b.admDone qc cid 1 stOk
  match b.sqOf (qCntlid (b.qc qc)) sqid with
  | none => no b
  | some i => match b.ce.cmds.find? (fun c => decide (c.src = .queue i) && c.cid == target) with
    | some c =>
      if !c.abortable then no b
      else (match c.op with
        | .program => b.abortProgram c.seq
        | _ => b.complete c.seq stAborted).admDone qc cid 0 stOk
    | none => match b.ce.lanes.find? (fun f => decide (f.src = .queue i) && f.sqe.cid.toNat == target) with
      | some f => (b.onCe (fun e => { e with
          lanes := e.lanes.map (fun g => if g = f then { g with ended := some stAborted } else g) })).admDone qc cid 0 stOk
      | none => no b

/-- The I/O queue of a controller that CDW11 [15:0] names. -/
def Block.ioQueueOf (b : Block) (qc : Nat) (w : W32) : Option Nat :=
  (b.sqOf (qCntlid (b.qc qc)) (fld w 0 15)).bind (fun i => if qIsAdmin (b.qc i) then none else some i)
/-- Set Features 0xC0 (R116). -/
def Block.setOrdered (b : Block) (qc : Nat) (cid : BitVec 16) (w : W32) : Block :=
  match b.ioQueueOf qc w with
  | some i => (b.qcF i 10 10 (fld w 16 16)).admDone qc cid 0 stOk
  | none => b.admDone qc cid 0 (statU 0 0x02)
/-- Get Features 0xC0 (R116). -/
def Block.getOrdered (b : Block) (qc : Nat) (cid : BitVec 16) (w : W32) : Block :=
  match b.ioQueueOf qc w with
  | some i => b.admDone qc cid (BitVec.ofNat 32 (fld w 0 15 + (if qOrdered (b.qc i) then 65536 else 0))) stOk
  | none => b.admDone qc cid 0 (statU 0 0x02)
/-- Set Features 0xC1 (R106). -/
def Block.setReport (b : Block) (qc : Nat) (cid : BitVec 16) (w : W32) : Block :=
  let k := qCntlid (b.qc qc)
  (b.each (b.qcsWhere (fun q => qSqEn q && !qIsAdmin q && qCntlid q == k)) (fun b i => b.qcF i 432 432 (fld w 0 0))).admDone qc cid 0 stOk
/-- A feature of the controller of an admin queue is set. -/
def Block.setFeature (b : Block) (qc : Nat) (cid : BitVec 16) (f : Ctlr → Ctlr) : Block :=
  (b.modCtlr (qCntlid (b.qc qc)) f).admDone qc cid 0 stOk
/-- Set Features 0x09 (R168): coalescing of one vector is disabled or enabled. -/
def Block.setVector (b : Block) (qc : Nat) (cid : BitVec 16) (w : W32) : Block :=
  b.setFeature qc cid (fun c => { c with
    noCoal := c.noCoal.filter (fun v => v != fld w 0 15) ++ (if w.getLsbD 16 then [fld w 0 15] else []) })

/-- Invalid Queue Identifier. -/
def stBadQid : Stat := statU 1 0x01
/-- A create command: firmware writes the record (R89-R94), for an identifier within the queue pairs of the controller (R165). -/
def Block.createQueue (b : Block) (qc : Nat) (cid : BitVec 16) (ctx : Nat) (rec : BitVec 512) (sub : Bool) : Block :=
  let k := qCntlid (b.qc qc)
  let new := b.qcNew ctx rec
  let most := queuePairs k
  let inRange := fun n => decide (1 ≤ n ∧ n ≤ most)
  let mine := qCntlid new == k && inRange (if sub then qSqid new else qCqid new) && (if sub then qSqEn new && qType new == 2 && (b.sqOf k (qSqid new)).isNone
    else qCqEn new && (b.cqOf k (qCqid new)).isNone)
  if !mine then b.admDone qc cid 0 stBadQid
  else if b.qcWriteOk ctx rec then (b.qcApply ctx rec).admDone qc cid 0 stOk
  else (b.refuse pgCe 1 0xFF (pgCe + 0x134)).admDone qc cid 0 stBadQid
/-- The commands of a queue that is deleted end with Command Aborted due to SQ Deletion. -/
def Block.endQueue (b : Block) (i : Nat) : Block :=
  let st := statU 0 0x08
  let b := b.each (b.ce.cmds.filter (fun c => decide (c.src = .queue i))) (fun b c => match c.op with
    | .program => match b.cx.ctxs.find? (fun e => e.2.seq == c.seq && decide (e.2.st ≠ .ending)) with
      | some e => b.ctxEnd e.1 (some (0, st))
      | none => b.complete c.seq st
    | _ => b.complete c.seq st)
  let fs := b.ce.lanes.filter (fun f => decide (f.src = .queue i))
  (b.keepLanes (fun f => decide (f.src ≠ .queue i))).each fs (fun b f => b.quick i f.sqe st)
/-- Delete I/O Submission Queue (R89). -/
def Block.deleteSq (b : Block) (qc : Nat) (cid : BitVec 16) (sqid : Nat) : Block :=
  match b.sqOf (qCntlid (b.qc qc)) sqid with
  | none => b.admDone qc cid 0 stBadQid
  | some i =>
    if qIsAdmin (b.qc i) then b.admDone qc cid 0 stBadQid
    else (((b.endQueue i).qcF i 0 0 0).qcF i 18 20 0).admDone qc cid 0 stOk
/-- Delete I/O Completion Queue (R89); one that a submission queue uses stays: Invalid Queue Deletion. -/
def Block.deleteCq (b : Block) (qc : Nat) (cid : BitVec 16) (cqid : Nat) : Block :=
  match b.cqOf (qCntlid (b.qc qc)) cqid with
  | none => b.admDone qc cid 0 stBadQid
  | some i =>
    if qSqEn (b.qc i) && qIsAdmin (b.qc i) then b.admDone qc cid 0 stBadQid
    else if (b.qcsWhere (fun q => qSqEn q && qCqCtx q == i)).isEmpty then
      ((b.dropWaits (fun w => qCqCtx (b.qc w.qc) == i)).qcF i 192 192 0).admDone qc cid 0 stOk
    else b.admDone qc cid 0 (statU 1 0x0C)

/-! ### Namespaces, format and sanitize -/

/-- The namespaces and their logical bytes, with `bytes` for one that is created or resized. -/
def Block.nsBytes (b : Block) (nsx bytes : Nat) : List (Nat × Nat) :=
  (List.range 1024).filterMap (fun k =>
    if k = nsx then some (k, bytes) else if b.nsValid k then some (k, smGet 0 b.ft.nsze k * b.lbaSize k) else none)
/-- Units of a namespace (R208). -/
def unitCount (bytes : Nat) : Nat := (bytes + 16383) / 16384
/-- The map areas of namespaces, one after another from an address (R223; the order is a DESIGN CHOICE, log entry 60). -/
def mapAreas : Nat → List (Nat × Nat) → List (Nat × Nat × Nat)
  | _, [] => []
  | a, x :: xs => (x.1, a, unitCount x.2) :: mapAreas (a + 6 * unitCount x.2) xs
/-- The map areas take their places, and every unit's entry is written to its own (R223). -/
def Block.layMap (b : Block) (xs : List (Nat × Nat × Nat)) : Block :=
  (b.onFt (fun t => { t with mapAt := xs.foldl (fun m x => smPut m x.1 x.2) [] })).each xs (fun b x =>
    b.each (List.range x.2.2) (fun b u => b.mapStore (mkey x.1 u) (b.mapGet (mkey x.1 u))))
/-- Namespace creation or resize (R223, R224): firmware names the region entry set aside for the map, a STRONG one of tenant 0. -/
def Block.manageNs (b : Block) (qc : Nat) (cid : BitVec 16) (nsx tenant shift lbas entry : Nat) : Block :=
  let shift := if b.nsValid nsx then fld (b.nsWord nsx) 8 11 else shift
  let all := b.nsBytes nsx (lbas * 2 ^ shift)
  let total := (all.map (·.2)).sum
  let units := (all.map (fun x => unitCount x.2)).sum
  let r := b.region entry
  let room := if r.st = .on ∧ !r.light ∧ r.owner = 0 then r.size * 2 ^ 20 else 0
  if total > 2 * (b.spaceUser * 256) ∨ 6 * units > room ∨ units > 2 ^ 35 then b.admDone qc cid 0 (statU 1 0x15)
  else
    let w := if b.nsValid nsx then b.nsWord nsx else BitVec.ofNat 32 (tenant + 64 + shift * 256)
    let b := (b.onCe (fun e => { e with ns := smSet 0xC00 e.ns nsx w })).onFt (fun t => { t with nsze := smSet 0 t.nsze nsx lbas })
    (b.layMap (mapAreas (r.base * 2 ^ 20) all)).admDone qc cid 0 stOk
/-- Format NVM (R276-R278): the format record is written and the format begins; it waits while the namespace has work in flight (R150). -/
def Block.formatNvm (b : Block) (qc : Nat) (cid : BitVec 16) (nsid shift ses : Nat) : Block :=
  let end_ := fun (b : Block) (st : Stat) => b.adminRow qc cid (fun b => b.admDone qc cid 0 st)
  if !(decide (1 ≤ nsid ∧ nsid ≤ 1024) && b.nsValid (nsid - 1)) then end_ b (statU 0 0x0B)
  else if ses > 2 then end_ b (statU 0 0x02)
  else if b.ft.san.isSome then end_ b (stat 0 0x1D false)
  else if b.nsBusy (nsid - 1) || !b.ftLive || b.ft.fmt.isSome then b
  else b.adminRow qc cid (fun b => (b.onFt (fun t => { t with fmt := some ⟨nsid - 1, shift, ses, (qc, cid.toNat)⟩ })).recUpdate id)
/-- What an empty queue lets happen: one microsecond passes while VDD_AON is held (R84); the interrupts due by then are signalled (R168),
and a format in progress completes (log entry 3). -/
def Block.tick (b : Block) : Block :=
  if b.hk.off then b
  else ((b.elapse 1).each ((b.ce.ctlrs.filter (fun e => !e.2.unsent.isEmpty)).map (·.1)) Block.coalesced).lit Block.formatEnds
/-- The action that a Sanitize names. -/
def sanAct : Nat → Option SanAct
  | 2 => some .blockErase
  | 3 => some .overwrite
  | 4 => some .crypto
  | _ => none
/-- SANITIZE (R271-R274). -/
def Block.sanitizeCmd (b : Block) (qc : Nat) (cid : BitVec 16) (act passes : Nat) (pattern : W32) (invert ndas : Bool) : Block :=
  if !b.ftLive || b.ft.fmt.isSome then b
  else b.adminRow qc cid (fun b =>
    match sanAct act with
    | none => b.admDone qc cid 0 (statU 0 0x02)
    | some a =>
      if ndas then b.admDone qc cid 0 (statU 0 0x02)
      else if b.ft.san.isSome then b.admDone qc cid 0 (stat 0 0x1D false)
      else (b.sanStart ⟨a, 0, if passes = 0 then 16 else passes, pattern, invert, 0⟩).admDone qc cid 0 stOk)

/-! ### Firmware activation (R137-R140, R716) -/

/-- FIRMWARE_COMMIT: an image that R714 accepts goes into its slot; activation without reset stops fetching and drains. -/
def Block.fwCommit (b : Block) (qc : Nat) (cid : BitVec 16) (one noReset imageOk : Bool) (svn : Nat) : Block :=
  if !imageOk || decide (svn < b.hk.fused) then b.admDone qc cid 0 (statU 1 0x07)
  else if noReset && b.ce.activation.isSome then b.admDone qc cid 0 (statU 1 0x12)
  else
    let b := b.onHk (fun h => { h with slotSvn := if one then (h.slotSvn.1, svn) else (svn, h.slotSvn.2) })
    if !noReset then b.admDone qc cid 0 stOk
    else ((b.setFetchStop 1).onCe (fun e => { e with activation := some (qc, cid.toNat, b.usec, one) })).actDone
/-- ACTIVATION_TIMEOUT (R139). -/
def Block.actTimeout (b : Block) : Block :=
  match b.ce.activation with
  | some (qc, cid, at_, _) => if b.inflight = 0 then b.actDone else (b.elapseTo (at_ + 150000)).actEnds qc cid (statU 1 0x12)
  | none => b

/-! ### Controllers, lanes, local queues -/

/-- A controller of the PCIe functions exists in the present mode (R161). -/
def Block.pcieCtlr (b : Block) (k : Nat) : Bool :=
  k == 0 || (k == 0x40 && b.isSplit) || (b.vfsOf false).contains k || (b.vfsOf true).contains k
/-- CONTROLLER_ENABLE: CC.EN rises; firmware writes the admin context by its own commands (R778). -/
def Block.ctlrEnable (b : Block) (k : Nat) : Block :=
  if b.pcieCtlr k || decide (0x41 ≤ k ∧ k ≤ 0xFFEF) then b.modCtlr k (fun c => { c with en := true }) else b
/-- CC.EN falls (R133). -/
def Block.ctlrDisable (b : Block) (k : Nat) : Block :=
  if !((b.ctlr k).en || (b.ctlr k).cfs) then b
  else if decide (0x41 ≤ k) then b.endAssoc k else b.ctlrReset [k]
/-- VF FLR (R133, R162). -/
def Block.vfReset (b : Block) (n : Nat) : Block :=
  if (b.vfsOf false).contains n || (b.vfsOf true).contains n then b.ctlrReset [n] else b
/-- LANE_RETURN (R152). -/
def Block.laneBack (b : Block) (n : Nat) (pass : Bool) : Block :=
  b.onIf pass (fun b => b.onCe (fun e => { e with laneOut := e.laneOut.filter (· ≠ n) }))
/-- A refused doorbell store is recorded, and traps the program that made it (R145, R152). -/
def Block.lqTrap (b : Block) (c n : Nat) (l : LqSt) : Block :=
  let b := b.lqRefused c n
  match b.ctx c with
  | some x => match x.core, x.st with
    | some i, .running => b.trap i { code := 0x0E, tpc := BitVec.ofNat 64 (b.core i).pc.toNat, taddr := BitVec.ofNat 64 (x.scrBase + 0x600) }
    | _, _ => b
  | none => let _ := l; b
/-- LQ_DOORBELL: a program's store to the doorbell of its local queue; a refused one traps the program (R145, R152). -/
def Block.lqStore (b : Block) (c : Nat) (v : W32) : Block :=
  match smFind b.ce.lq c with
  | none => b
  | some l =>
    if l.refuses v then b.lqTrap c v.toNat l else b.lqSubmit c v.toNat (BitVec.ofNat 256 (b.load (l.base + 32 * v.toNat) 32))
/-- A command of one opcode is submitted in the slot of its tag, and sequenced if nothing is before it (the LQ rows). -/
def Block.lqRun (b : Block) (c : Nat) (op : Nat) (d : BitVec 256) : Block :=
  let n := (d.toNat >>> 8) % 32
  match smFind b.ce.lq c with
  | none => b
  | some l =>
    if d.toNat % 256 ≠ op then b
    else if l.busy.contains n then b.lqTrap c n l
    else (b.lqSubmit c n d).seqIf (b.lqFetched c n d)
/-- An Asynchronous Event Request stays outstanding, or reports the oldest event that waits (R166). -/
def Block.aerCmd (b : Block) (qc : Nat) (cid : BitVec 16) : Block :=
  let k := qCntlid (b.qc qc)
  if (b.ctlr k).aers.contains cid.toNat then b else
  match (b.ctlr k).events with
  | dw0 :: rest => (b.modCtlr k (fun c => { c with events := rest })).admDone qc cid (BitVec.ofNat 32 dw0) stOk
  | [] => b.modCtlr k (fun c => { c with aers := c.aers ++ [cid.toNat] })

/-! ### The commands -/

/-- RESET_DONE (R135). -/
def execResetDone (s : State) : Host.Outcome State Fault Refusal := s.run (fun b => b.resetDone)
/-- SQ_TAIL_DOORBELL (R166). -/
def execSqTailDoorbell (cntlid qid v : BitVec 16) (s : State) : Host.Outcome State Fault Refusal :=
  s.run (fun b => b.sqTail cntlid.toNat qid.toNat v.toNat)
/-- CQ_HEAD_DOORBELL (R166). -/
def execCqHeadDoorbell (cntlid qid v : BitVec 16) (s : State) : Host.Outcome State Fault Refusal :=
  s.run (fun b => b.cqHead cntlid.toNat qid.toNat v.toNat)
/-- LANE_FETCH_SLOT (R102). -/
def execLaneFetchSlot (lane : BitVec 4) (entry : Option Sqe) (s : State) : Host.Outcome State Fault Refusal :=
  s.run (fun b => b.fetchSlot lane.toNat entry)
/-- ADMIN_FETCH (R101). -/
def execAdminFetch (cntlid : BitVec 16) (entry : Option (BitVec 16 × Bool)) (s : State) : Host.Outcome State Fault Refusal :=
  s.run (fun b => b.fetchAdmin cntlid.toNat entry)
/-- SEQUENCE_ASSIGN (R103). -/
def execSequenceAssign (s : State) : Host.Outcome State Fault Refusal := s.run (fun b => b.seqAssign)
/-- SEQUENCER_RESUME (R114). -/
def execSequencerResume (s : State) : Host.Outcome State Fault Refusal := s.run (fun b => b.resume)
/-- COMMAND_UNBLOCK (R111). -/
def execCommandUnblock (seq : W64) (s : State) : Host.Outcome State Fault Refusal := s.run (fun b => b.goOn seq.toNat)
/-- ORDERED_START (R117, R118). -/
def execOrderedStart (seq : W64) (s : State) : Host.Outcome State Fault Refusal :=
  s.run (fun b => if (b.cmd seq.toNat).any (·.ordered) then b.goOn seq.toNat else b)
/-- READ (R108, R227). -/
def execRead (qc : BitVec 14) (e : Sqe) (s : State) : Host.Outcome State Fault Refusal := s.run (fun b => b.ioCommand 0x02 qc.toNat e)
/-- WRITE (R108, R120-R122). -/
def execWrite (qc : BitVec 14) (e : Sqe) (s : State) : Host.Outcome State Fault Refusal := s.run (fun b => b.ioCommand 0x01 qc.toNat e)
/-- WRITE_ZEROES (R108, R120). -/
def execWriteZeroes (qc : BitVec 14) (e : Sqe) (s : State) : Host.Outcome State Fault Refusal := s.run (fun b => b.ioCommand 0x08 qc.toNat e)
/-- COMPARE (R108). -/
def execCompare (qc : BitVec 14) (e : Sqe) (s : State) : Host.Outcome State Fault Refusal := s.run (fun b => b.ioCommand 0x05 qc.toNat e)
/-- VERIFY (R108). -/
def execVerify (qc : BitVec 14) (e : Sqe) (s : State) : Host.Outcome State Fault Refusal := s.run (fun b => b.ioCommand 0x0C qc.toNat e)
/-- DATASET_MANAGEMENT (R108). -/
def execDatasetManagement (qc : BitVec 14) (e : Sqe) (s : State) : Host.Outcome State Fault Refusal :=
  s.run (fun b => b.ioCommand 0x09 qc.toNat e)
/-- FLUSH (R128). -/
def execFlush (qc : BitVec 14) (e : Sqe) (s : State) : Host.Outcome State Fault Refusal := s.run (fun b => b.ioCommand 0x00 qc.toNat e)
/-- FLUSH_COMPLETE (R129). -/
def execFlushComplete (seq : W64) (posted : Bool) (s : State) : Host.Outcome State Fault Refusal :=
  s.run (fun b => b.flushEnds seq.toNat posted)
/-- ORDERED_WRITE (R115). -/
def execOrderedWrite (qc : BitVec 14) (e : Sqe) (s : State) : Host.Outcome State Fault Refusal := s.run (fun b => b.ioCommand 0x81 qc.toNat e)
/-- ORDERED_READ (R115). -/
def execOrderedRead (qc : BitVec 14) (e : Sqe) (s : State) : Host.Outcome State Fault Refusal := s.run (fun b => b.ioCommand 0x82 qc.toNat e)
/-- ORDERED_FLUSH (R115). -/
def execOrderedFlush (qc : BitVec 14) (e : Sqe) (s : State) : Host.Outcome State Fault Refusal := s.run (fun b => b.ioCommand 0x85 qc.toNat e)
/-- ABORT (R127, R132). -/
def execAbort (qc : BitVec 14) (cid sqid target : BitVec 16) (s : State) : Host.Outcome State Fault Refusal :=
  s.run (fun b => b.adminRow qc.toNat cid (fun b => b.abortCmd qc.toNat cid sqid.toNat target.toNat))
/-- SET_FEATURES_ORDERED_QUEUE (R116). -/
def execSetFeaturesOrderedQueue (qc : BitVec 14) (cid : BitVec 16) (cdw11 : W32) (s : State) : Host.Outcome State Fault Refusal :=
  s.run (fun b => b.adminRow qc.toNat cid (fun b => b.setOrdered qc.toNat cid cdw11))
/-- GET_FEATURES_ORDERED_QUEUE (R116). -/
def execGetFeaturesOrderedQueue (qc : BitVec 14) (cid : BitVec 16) (cdw11 : W32) (s : State) : Host.Outcome State Fault Refusal :=
  s.run (fun b => b.adminRow qc.toNat cid (fun b => b.getOrdered qc.toNat cid cdw11))
/-- SET_FEATURES_FETCH_SEQUENCE_REPORT (R106). -/
def execSetFeaturesFetchSequenceReport (qc : BitVec 14) (cid : BitVec 16) (cdw11 : W32) (s : State) : Host.Outcome State Fault Refusal :=
  s.run (fun b => b.adminRow qc.toNat cid (fun b => b.setReport qc.toNat cid cdw11))
/-- SET_FEATURES_POWER_MANAGEMENT (R689, R690). -/
def execSetFeaturesPowerManagement (qc : BitVec 14) (cid : BitVec 16) (ps : BitVec 5) (s : State) : Host.Outcome State Fault Refusal :=
  s.run (fun b => b.adminRow qc.toNat cid (fun b => b.powerFeature qc.toNat cid ps.toNat))
/-- INTERRUPT_COALESCING (R168). -/
def execInterruptCoalescing (qc : BitVec 14) (cid : BitVec 16) (cdw11 : W32) (s : State) : Host.Outcome State Fault Refusal :=
  s.run (fun b => b.adminRow qc.toNat cid (fun b => b.setFeature qc.toNat cid (fun c => { c with coal := cdw11.setWidth 16 })))
/-- INTERRUPT_VECTOR_CONFIGURATION (R168). -/
def execInterruptVectorConfiguration (qc : BitVec 14) (cid : BitVec 16) (cdw11 : W32) (s : State) : Host.Outcome State Fault Refusal :=
  s.run (fun b => b.adminRow qc.toNat cid (fun b => b.setVector qc.toNat cid cdw11))
/-- DOORBELL_BUFFER_CONFIG: Invalid Command Opcode (R167). -/
def execDoorbellBufferConfig (qc : BitVec 14) (cid : BitVec 16) (s : State) : Host.Outcome State Fault Refusal :=
  s.run (fun b => b.adminRow qc.toNat cid (fun b => b.admDone qc.toNat cid 0 (statU 0 0x01)))
/-- VIRTUALIZATION_MANAGEMENT: Invalid Command Opcode (R167). -/
def execVirtualizationManagement (qc : BitVec 14) (cid : BitVec 16) (s : State) : Host.Outcome State Fault Refusal :=
  s.run (fun b => b.adminRow qc.toNat cid (fun b => b.admDone qc.toNat cid 0 (statU 0 0x01)))
/-- CREATE_IO_SUBMISSION_QUEUE (R89). -/
def execCreateIoSubmissionQueue (qc : BitVec 14) (cid : BitVec 16) (ctx : BitVec 14) (rec : BitVec 512) (s : State) :
    Host.Outcome State Fault Refusal :=
  s.run (fun b => b.adminRow qc.toNat cid (fun b => b.createQueue qc.toNat cid ctx.toNat rec true))
/-- CREATE_IO_COMPLETION_QUEUE (R89). -/
def execCreateIoCompletionQueue (qc : BitVec 14) (cid : BitVec 16) (ctx : BitVec 14) (rec : BitVec 512) (s : State) :
    Host.Outcome State Fault Refusal :=
  s.run (fun b => b.adminRow qc.toNat cid (fun b => b.createQueue qc.toNat cid ctx.toNat rec false))
/-- DELETE_IO_SUBMISSION_QUEUE (R89). -/
def execDeleteIoSubmissionQueue (qc : BitVec 14) (cid sqid : BitVec 16) (s : State) : Host.Outcome State Fault Refusal :=
  s.run (fun b => b.adminRow qc.toNat cid (fun b => b.deleteSq qc.toNat cid sqid.toNat))
/-- DELETE_IO_COMPLETION_QUEUE (R89). -/
def execDeleteIoCompletionQueue (qc : BitVec 14) (cid cqid : BitVec 16) (s : State) : Host.Outcome State Fault Refusal :=
  s.run (fun b => b.adminRow qc.toNat cid (fun b => b.deleteCq qc.toNat cid cqid.toNat))
/-- NAMESPACE_MANAGEMENT (R224). -/
def execNamespaceManagement (qc : BitVec 14) (cid : BitVec 16) (nsx : BitVec 10) (tenant : BitVec 6) (shift12 : Bool) (lbas : W64) (entry : BitVec 5)
    (s : State) : Host.Outcome State Fault Refusal :=
  s.run (fun b => b.adminRow qc.toNat cid (fun b =>
    b.manageNs qc.toNat cid nsx.toNat tenant.toNat (if shift12 then 12 else 9) lbas.toNat entry.toNat))
/-- FIRMWARE_COMMIT (R137, R138, R716). -/
def execFirmwareCommit (qc : BitVec 14) (cid : BitVec 16) (slot noReset imageOk : Bool) (svn : BitVec 8) (s : State) :
    Host.Outcome State Fault Refusal :=
  s.run (fun b => b.adminRow qc.toNat cid (fun b => b.fwCommit qc.toNat cid slot noReset imageOk svn.toNat))
/-- ACTIVATION_TIMEOUT (R139). -/
def execActivationTimeout (s : State) : Host.Outcome State Fault Refusal := s.run (fun b => b.actTimeout)
/-- FORMAT_NVM (R276). -/
def execFormatNvm (qc : BitVec 14) (cid : BitVec 16) (nsid : W32) (shift12 : Bool) (ses : BitVec 2) (s : State) :
    Host.Outcome State Fault Refusal :=
  s.run (fun b => b.formatNvm qc.toNat cid nsid.toNat (if shift12 then 12 else 9) ses.toNat)
/-- SANITIZE (R271). -/
def execSanitize (qc : BitVec 14) (cid : BitVec 16) (act : BitVec 3) (passes : BitVec 4) (pattern : W32) (invert ndas : Bool) (s : State) :
    Host.Outcome State Fault Refusal :=
  s.run (fun b => b.sanitizeCmd qc.toNat cid act.toNat passes.toNat pattern invert ndas)
/-- VF_FLR (R133). -/
def execVfFlr (vf : BitVec 6) (s : State) : Host.Outcome State Fault Refusal := s.run (fun b => b.vfReset vf.toNat)
/-- PF_FLR (R133, R162). -/
def execPfFlr (pfB : Bool) (s : State) : Host.Outcome State Fault Refusal := s.run (fun b => if pfB && !b.isSplit then b else b.pfFlr pfB)
/-- CC_EN_CLEAR (R133). -/
def execCcEnClear (cntlid : BitVec 16) (s : State) : Host.Outcome State Fault Refusal := s.run (fun b => b.ctlrDisable cntlid.toNat)
/-- NVM_SUBSYSTEM_RESET: on PF A a device reset (R717). -/
def execNvmSubsystemReset (pfB : Bool) (s : State) : Host.Outcome State Fault Refusal :=
  s.runAon (fun b => if pfB then b else b.deviceReset 5)
/-- LANE_CHECK (R152). -/
def execLaneCheck (lane : BitVec 4) (s : State) : Host.Outcome State Fault Refusal := s.run (fun b => b.laneCheck lane.toNat)
/-- LANE_RETURN (R152). -/
def execLaneReturn (lane : BitVec 4) (pass : Bool) (s : State) : Host.Outcome State Fault Refusal := s.run (fun b => b.laneBack lane.toNat pass)
/-- LANE_SAT_WINDOW (R151, R779). -/
def execLaneSatWindow (s : State) : Host.Outcome State Fault Refusal := s.run (fun b => b.laneSat)
/-- LQ_DOORBELL (R145). -/
def execLqDoorbell (ctx : BitVec 12) (v : W32) (s : State) : Host.Outcome State Fault Refusal := s.run (fun b => b.lqStore ctx.toNat v)
/-- LQ_COMPLETION_HEAD (R144). -/
def execLqCompletionHead (ctx : BitVec 12) (v : W32) (s : State) : Host.Outcome State Fault Refusal :=
  s.run (fun b => b.lqHead ctx.toNat v.toNat)
/-- LQ_FLUSH (R142). -/
def execLqFlush (ctx : BitVec 12) (cmd : BitVec 256) (s : State) : Host.Outcome State Fault Refusal :=
  s.run (fun b => b.lqRun ctx.toNat 0 cmd)
/-- LQ_WRITE (R142). -/
def execLqWrite (ctx : BitVec 12) (cmd : BitVec 256) (s : State) : Host.Outcome State Fault Refusal :=
  s.run (fun b => b.lqRun ctx.toNat 1 cmd)
/-- LQ_READ (R142). -/
def execLqRead (ctx : BitVec 12) (cmd : BitVec 256) (s : State) : Host.Outcome State Fault Refusal :=
  s.run (fun b => b.lqRun ctx.toNat 2 cmd)
/-- LQ_DEALLOCATE (R142). -/
def execLqDeallocate (ctx : BitVec 12) (cmd : BitVec 256) (s : State) : Host.Outcome State Fault Refusal :=
  s.run (fun b => b.lqRun ctx.toNat 9 cmd)
/-- LOAD_PROGRAM (R621). -/
def execLoadProgram (qc : BitVec 14) (cid : BitVec 16) (slot : BitVec 6) (size off : W32) (data : List Byte) (s : State) :
    Host.Outcome State Fault Refusal :=
  s.run (fun b => b.progCommand qc cid (.load slot size off data))
/-- PROGRAM_ACTIVATION_MANAGEMENT (R622). -/
def execProgramActivationManagement (qc : BitVec 14) (cid : BitVec 16) (slot : BitVec 6) (act : Bool) (s : State) :
    Host.Outcome State Fault Refusal :=
  s.run (fun b => b.progCommand qc cid (.activate slot act))
/-- EXECUTE_PROGRAM (R612-R619). -/
def execExecuteProgram (qc : BitVec 14) (cid : BitVec 16) (slot : BitVec 6) (ranges : List (W64 × W64 × Bool)) (transit : Option (FAddr × W32))
    (params : List Byte) (s : State) : Host.Outcome State Fault Refusal :=
  s.run (fun b => b.progCommand qc cid (.execute slot ranges transit params))
/-- EXECUTE_WAIT_END (R612). -/
def execExecuteWaitEnd (seq : W64) (s : State) : Host.Outcome State Fault Refusal := s.run (fun b => b.progRetry seq.toNat)
/-- READ_MEMORY (R625, R639). -/
def execReadMemory (qc : BitVec 14) (cid : BitVec 16) (transit : Option (FAddr × W32)) (off : W64) (len : W32) (s : State) :
    Host.Outcome State Fault Refusal :=
  s.run (fun b => b.progCommand qc cid (.readMem transit off len))
/-- WRITE_MEMORY (R625, R639). -/
def execWriteMemory (qc : BitVec 14) (cid : BitVec 16) (transit : Option (FAddr × W32)) (off : W64) (data : List Byte) (s : State) :
    Host.Outcome State Fault Refusal :=
  s.run (fun b => b.progCommand qc cid (.writeMem transit off data))
/-- MEMORY_COPY (R625, R639). -/
def execMemoryCopy (qc : BitVec 14) (cid : BitVec 16) (toMem : Bool) (nsid : W32) (slba : W64) (count : W32) (transit : Option (FAddr × W32))
    (off : W64) (s : State) : Host.Outcome State Fault Refusal :=
  s.run (fun b => b.progCommand qc cid (.copy toMem nsid slba count transit off))
/-- CONTROLLER_ENABLE (R778). -/
def execControllerEnable (cntlid : BitVec 16) (s : State) : Host.Outcome State Fault Refusal := s.run (fun b => b.ctlrEnable cntlid.toNat)
/-- ASYNC_EVENT_REQUEST (R166). -/
def execAsyncEventRequest (qc : BitVec 14) (cid : BitVec 16) (s : State) : Host.Outcome State Fault Refusal :=
  s.run (fun b => b.adminRow qc.toNat cid (fun b => b.aerCmd qc.toNat cid))
/-- KEEP_ALIVE (R199). -/
def execKeepAlive (qc : BitVec 14) (cid : BitVec 16) (s : State) : Host.Outcome State Fault Refusal :=
  s.run (fun b => b.adminRow qc.toNat cid (fun b => b.setFeature qc.toNat cid (fun c => { c with kaAt := b.usec })))
/-- SET_FEATURES_ARBITRATION (R102). -/
def execSetFeaturesArbitration (qc : BitVec 14) (cid : BitVec 16) (cdw11 : W32) (s : State) : Host.Outcome State Fault Refusal :=
  s.run (fun b => b.adminRow qc.toNat cid (fun b => b.setFeature qc.toNat cid (fun c => { c with arb := cdw11 })))

end Sys2Proof.Machine
end

