-- ==== Sys2Proof/Machine/Dispatch.lean ====
section
/-! DEFINITION. The dispatcher: one arm per row of the opcode table. -/
namespace Sys2Proof.Machine

/-- A command's effect on everything but the queue. -/
def exec (i : Instr) (s : State) : Host.Outcome State Fault Refusal :=
  match i with
  | .registerWrite port tag off len1 data => Sys2Proof.Machine.execRegisterWrite port tag off len1 data s
  | .evtSet port page v => Sys2Proof.Machine.execEvtSet port page v s
  | .evtClr port page v => Sys2Proof.Machine.execEvtClr port page v s
  | .evtEnWrite port page v => Sys2Proof.Machine.execEvtEnWrite port page v s
  | .errPop port page => Sys2Proof.Machine.execErrPop port page s
  | .clrOvf port page => Sys2Proof.Machine.execClrOvf port page s
  | .unitResetSoft port page key => Sys2Proof.Machine.execUnitResetSoft port page key s
  | .unitResetHard port page key => Sys2Proof.Machine.execUnitResetHard port page key s
  | .unitResetRecover port page key => Sys2Proof.Machine.execUnitResetRecover port page key s
  | .lockWrite port page v => Sys2Proof.Machine.execLockWrite port page v s
  | .usecLoRead port wide => Sys2Proof.Machine.execUsecLoRead port wide s
  | .loHalfRead port off wide => Sys2Proof.Machine.execLoHalfRead port off wide s
  | .bar2Access write off len1 data => Sys2Proof.Machine.execBar2Access write off len1 data s
  | .fabricTransaction t answers errs => Sys2Proof.Machine.execFabricTransaction t answers errs s
  | .busyReissue id => Sys2Proof.Machine.execBusyReissue id s
  | .btTimeout id => Sys2Proof.Machine.execBtTimeout id s
  | .lateResponse id => Sys2Proof.Machine.execLateResponse id s
  | .agePromotion r => Sys2Proof.Machine.execAgePromotion r s
  | .routeSubst route => Sys2Proof.Machine.execRouteSubst route s
  | .qcCmdCopy port => Sys2Proof.Machine.execQcCmdCopy port s
  | .qcCmdWrite port => Sys2Proof.Machine.execQcCmdWrite port s
  | .fetchStopWrite port stop => Sys2Proof.Machine.execFetchStopWrite port stop s
  | .tenantReset port tenant key => Sys2Proof.Machine.execTenantReset port tenant key s
  | .resetDone => Sys2Proof.Machine.execResetDone s
  | .nsDataWrite port v => Sys2Proof.Machine.execNsDataWrite port v s
  | .vfBindWrite port t v => Sys2Proof.Machine.execVfBindWrite port t v s
  | .sqTailDoorbell cntlid qid v => Sys2Proof.Machine.execSqTailDoorbell cntlid qid v s
  | .cqHeadDoorbell cntlid qid v => Sys2Proof.Machine.execCqHeadDoorbell cntlid qid v s
  | .laneFetchSlot lane entry => Sys2Proof.Machine.execLaneFetchSlot lane entry s
  | .adminFetch cntlid entry => Sys2Proof.Machine.execAdminFetch cntlid entry s
  | .sequenceAssign => Sys2Proof.Machine.execSequenceAssign s
  | .sequencerResume => Sys2Proof.Machine.execSequencerResume s
  | .commandUnblock seq => Sys2Proof.Machine.execCommandUnblock seq s
  | .orderedStart seq => Sys2Proof.Machine.execOrderedStart seq s
  | .read qc e => Sys2Proof.Machine.execRead qc e s
  | .write qc e => Sys2Proof.Machine.execWrite qc e s
  | .writeZeroes qc e => Sys2Proof.Machine.execWriteZeroes qc e s
  | .compare qc e => Sys2Proof.Machine.execCompare qc e s
  | .verify qc e => Sys2Proof.Machine.execVerify qc e s
  | .datasetManagement qc e => Sys2Proof.Machine.execDatasetManagement qc e s
  | .flush qc e => Sys2Proof.Machine.execFlush qc e s
  | .flushComplete seq posted => Sys2Proof.Machine.execFlushComplete seq posted s
  | .orderedWrite qc e => Sys2Proof.Machine.execOrderedWrite qc e s
  | .orderedRead qc e => Sys2Proof.Machine.execOrderedRead qc e s
  | .orderedFlush qc e => Sys2Proof.Machine.execOrderedFlush qc e s
  | .abort qc cid sqid target => Sys2Proof.Machine.execAbort qc cid sqid target s
  | .setFeaturesOrderedQueue qc cid cdw11 => Sys2Proof.Machine.execSetFeaturesOrderedQueue qc cid cdw11 s
  | .getFeaturesOrderedQueue qc cid cdw11 => Sys2Proof.Machine.execGetFeaturesOrderedQueue qc cid cdw11 s
  | .setFeaturesFetchSequenceReport qc cid cdw11 => Sys2Proof.Machine.execSetFeaturesFetchSequenceReport qc cid cdw11 s
  | .setFeaturesPowerManagement qc cid ps => Sys2Proof.Machine.execSetFeaturesPowerManagement qc cid ps s
  | .interruptCoalescing qc cid cdw11 => Sys2Proof.Machine.execInterruptCoalescing qc cid cdw11 s
  | .interruptVectorConfiguration qc cid cdw11 => Sys2Proof.Machine.execInterruptVectorConfiguration qc cid cdw11 s
  | .doorbellBufferConfig qc cid => Sys2Proof.Machine.execDoorbellBufferConfig qc cid s
  | .virtualizationManagement qc cid => Sys2Proof.Machine.execVirtualizationManagement qc cid s
  | .createIoSubmissionQueue qc cid ctx rec => Sys2Proof.Machine.execCreateIoSubmissionQueue qc cid ctx rec s
  | .createIoCompletionQueue qc cid ctx rec => Sys2Proof.Machine.execCreateIoCompletionQueue qc cid ctx rec s
  | .deleteIoSubmissionQueue qc cid sqid => Sys2Proof.Machine.execDeleteIoSubmissionQueue qc cid sqid s
  | .deleteIoCompletionQueue qc cid cqid => Sys2Proof.Machine.execDeleteIoCompletionQueue qc cid cqid s
  | .namespaceManagement qc cid nsx tenant shift12 lbas entry => Sys2Proof.Machine.execNamespaceManagement qc cid nsx tenant shift12 lbas entry s
  | .firmwareCommit qc cid slot noReset imageOk svn => Sys2Proof.Machine.execFirmwareCommit qc cid slot noReset imageOk svn s
  | .activationTimeout => Sys2Proof.Machine.execActivationTimeout s
  | .formatNvm qc cid nsid shift12 ses => Sys2Proof.Machine.execFormatNvm qc cid nsid shift12 ses s
  | .sanitize qc cid act passes pattern invert ndas => Sys2Proof.Machine.execSanitize qc cid act passes pattern invert ndas s
  | .vfFlr vf => Sys2Proof.Machine.execVfFlr vf s
  | .pfFlr pfB => Sys2Proof.Machine.execPfFlr pfB s
  | .ccEnClear cntlid => Sys2Proof.Machine.execCcEnClear cntlid s
  | .nvmSubsystemReset pfB => Sys2Proof.Machine.execNvmSubsystemReset pfB s
  | .laneCheck lane => Sys2Proof.Machine.execLaneCheck lane s
  | .laneReturn lane pass => Sys2Proof.Machine.execLaneReturn lane pass s
  | .laneSatWindow => Sys2Proof.Machine.execLaneSatWindow s
  | .lqDoorbell ctx v => Sys2Proof.Machine.execLqDoorbell ctx v s
  | .lqCompletionHead ctx v => Sys2Proof.Machine.execLqCompletionHead ctx v s
  | .lqFlush ctx cmd => Sys2Proof.Machine.execLqFlush ctx cmd s
  | .lqWrite ctx cmd => Sys2Proof.Machine.execLqWrite ctx cmd s
  | .lqRead ctx cmd => Sys2Proof.Machine.execLqRead ctx cmd s
  | .lqDeallocate ctx cmd => Sys2Proof.Machine.execLqDeallocate ctx cmd s
  | .hostDataPull seq piece off len data res => Sys2Proof.Machine.execHostDataPull seq piece off len data res s
  | .pieceDurable seq piece data posted => Sys2Proof.Machine.execPieceDurable seq piece data posted s
  | .stagingReservation first => Sys2Proof.Machine.execStagingReservation first s
  | .wpoolWait seq piece => Sys2Proof.Machine.execWpoolWait seq piece s
  | .wpoolWrite port v => Sys2Proof.Machine.execWpoolWrite port v s
  | .perstAssert => Sys2Proof.Machine.execPerstAssert s
  | .perstDeassert split => Sys2Proof.Machine.execPerstDeassert split s
  | .linkDown l => Sys2Proof.Machine.execLinkDown l s
  | .linkUp l rate width => Sys2Proof.Machine.execLinkUp l rate width s
  | .l12Entry l => Sys2Proof.Machine.execL12Entry l s
  | .l12Exit l => Sys2Proof.Machine.execL12Exit l s
  | .basicManagementCommand => Sys2Proof.Machine.execBasicManagementCommand s
  | .mctpRequest req => Sys2Proof.Machine.execMctpRequest req s
  | .smbusReset => Sys2Proof.Machine.execSmbusReset s
  | .syn flow frame opts => Sys2Proof.Machine.execSyn flow frame opts s
  | .segmentReceive flow frame kind => Sys2Proof.Machine.execSegmentReceive flow frame kind s
  | .tlsHandshake sess keys => Sys2Proof.Machine.execTlsHandshake sess keys s
  | .icreq sess pfv hpda hdgst ddgst maxR2t => Sys2Proof.Machine.execIcreq sess pfv hpda hdgst ddgst maxR2t s
  | .fabricsConnect sess admin nqnOk cntlid kato ctx rec => Sys2Proof.Machine.execFabricsConnect sess admin nqnOk cntlid kato ctx rec s
  | .propertySet sess cid off v => Sys2Proof.Machine.execPropertySet sess cid off v s
  | .commandCapsule sess e dataLen sglLen ddgst formatOk => Sys2Proof.Machine.execCommandCapsule sess e dataLen sglLen ddgst formatOk s
  | .h2cData sess cid off len data ddgst formatOk => Sys2Proof.Machine.execH2cData sess cid off len data ddgst formatOk s
  | .tlsResume rekey => Sys2Proof.Machine.execTlsResume rekey s
  | .icreqTimeout sess => Sys2Proof.Machine.execIcreqTimeout sess s
  | .h2cTimeout sess => Sys2Proof.Machine.execH2cTimeout sess s
  | .keepAliveTimeout cntlid => Sys2Proof.Machine.execKeepAliveTimeout cntlid s
  | .retransmissionTimeout sess => Sys2Proof.Machine.execRetransmissionTimeout sess s
  | .connectionClose sess => Sys2Proof.Machine.execConnectionClose sess s
  | .fpModeWrite port p v => Sys2Proof.Machine.execFpModeWrite port p v s
  | .sessionInstall sess flow opts irs iss tls => Sys2Proof.Machine.execSessionInstall sess flow opts irs iss tls s
  | .sessionNumberReuse sess => Sys2Proof.Machine.execSessionNumberReuse sess s
  | .compressUnit nsx unit => Sys2Proof.Machine.execCompressUnit nsx unit s
  | .pageFillTimeout die block => Sys2Proof.Machine.execPageFillTimeout die block s
  | .pieceCommit seq piece => Sys2Proof.Machine.execPieceCommit seq piece s
  | .verifyBlock die block => Sys2Proof.Machine.execVerifyBlock die block s
  | .verifyDone die block named rebuilt => Sys2Proof.Machine.execVerifyDone die block named rebuilt s
  | .reclaimSelect => Sys2Proof.Machine.execReclaimSelect s
  | .sourceErase die block => Sys2Proof.Machine.execSourceErase die block s
  | .retireDie die readable => Sys2Proof.Machine.execRetireDie die readable s
  | .checkpointSegment copiesLost => Sys2Proof.Machine.execCheckpointSegment copiesLost s
  | .mapRebuild intact copiesLost => Sys2Proof.Machine.execMapRebuild intact copiesLost s
  | .rebuildDone => Sys2Proof.Machine.execRebuildDone s
  | .bootVerify die block named => Sys2Proof.Machine.execBootVerify die block named s
  | .wearSummary => Sys2Proof.Machine.execWearSummary s
  | .sanitizeStep => Sys2Proof.Machine.execSanitizeStep s
  | .sanitizeDone failed => Sys2Proof.Machine.execSanitizeDone failed s
  | .flashRead die block page cls rung => Sys2Proof.Machine.execFlashRead die block page cls rung s
  | .flashProgram die block page cls => Sys2Proof.Machine.execFlashProgram die block page cls s
  | .flashErase die block cls => Sys2Proof.Machine.execFlashErase die block cls s
  | .rawProgram die block page => Sys2Proof.Machine.execRawProgram die block page s
  | .dieReset die => Sys2Proof.Machine.execDieReset die s
  | .flashOpIssue ch => Sys2Proof.Machine.execFlashOpIssue ch s
  | .suspendResume die => Sys2Proof.Machine.execSuspendResume die s
  | .flashOpComplete id res => Sys2Proof.Machine.execFlashOpComplete id res s
  | .ladderTimeout id rung recordLost => Sys2Proof.Machine.execLadderTimeout id rung recordLost s
  | .dieTimeout id => Sys2Proof.Machine.execDieTimeout id s
  | .retrainInterval ch rates => Sys2Proof.Machine.execRetrainInterval ch rates s
  | .parityGroupTimeout id => Sys2Proof.Machine.execParityGroupTimeout id s
  | .profileLoad port slot => Sys2Proof.Machine.execProfileLoad port slot s
  | .profileEmpty port slot => Sys2Proof.Machine.execProfileEmpty port slot s
  | .generate port => Sys2Proof.Machine.execGenerate port s
  | .wrapOut port => Sys2Proof.Machine.execWrapOut port s
  | .unwrap port => Sys2Proof.Machine.execUnwrap port s
  | .clear port => Sys2Proof.Machine.execClear port s
  | .keyDone => Sys2Proof.Machine.execKeyDone s
  | .keyEpochWrite port v => Sys2Proof.Machine.execKeyEpochWrite port v s
  | .bringUp port b key => Sys2Proof.Machine.execBringUp port b key s
  | .drain port b key => Sys2Proof.Machine.execDrain port b key s
  | .abortDrain port b key => Sys2Proof.Machine.execAbortDrain port b key s
  | .powerOff port b key => Sys2Proof.Machine.execPowerOff port b key s
  | .forget port b key => Sys2Proof.Machine.execForget port b key s
  | .boothPresAssert b => Sys2Proof.Machine.execBoothPresAssert b s
  | .presenceStable b => Sys2Proof.Machine.execPresenceStable b s
  | .inrushHoldEnd b cart => Sys2Proof.Machine.execInrushHoldEnd b cart s
  | .surpriseRemoval b => Sys2Proof.Machine.execSurpriseRemoval b s
  | .removed b => Sys2Proof.Machine.execRemoved b s
  | .drainDone b => Sys2Proof.Machine.execDrainDone b s
  | .laneJobSubmit port desc => Sys2Proof.Machine.execLaneJobSubmit port desc s
  | .laneJobGrant decomp => Sys2Proof.Machine.execLaneJobGrant decomp s
  | .laneWake decomp n => Sys2Proof.Machine.execLaneWake decomp n s
  | .lanePowerGate decomp n => Sys2Proof.Machine.execLanePowerGate decomp n s
  | .laneJobComplete decomp n res => Sys2Proof.Machine.execLaneJobComplete decomp n res s
  | .laneFault decomp n spareOk => Sys2Proof.Machine.execLaneFault decomp n spareOk s
  | .tableCommit port => Sys2Proof.Machine.execTableCommit port s
  | .tableEmpty port => Sys2Proof.Machine.execTableEmpty port s
  | .jobCmdGo port => Sys2Proof.Machine.execJobCmdGo port s
  | .dramTraining reached soft => Sys2Proof.Machine.execDramTraining reached soft s
  | .dramRead t errs => Sys2Proof.Machine.execDramRead t errs s
  | .dramWrite t => Sys2Proof.Machine.execDramWrite t s
  | .partialWrite t be errs => Sys2Proof.Machine.execPartialWrite t be errs s
  | .rowIdleClose ch sub rank bg bank => Sys2Proof.Machine.execRowIdleClose ch sub rank bg bank s
  | .refresh ch sub rank bg bank => Sys2Proof.Machine.execRefresh ch sub rank bg bank s
  | .patrolScrub errs => Sys2Proof.Machine.execPatrolScrub errs s
  | .lapOverdue => Sys2Proof.Machine.execLapOverdue s
  | .imbalance => Sys2Proof.Machine.execImbalance s
  | .regionEnable port v => Sys2Proof.Machine.execRegionEnable port v s
  | .regionDisable port v => Sys2Proof.Machine.execRegionDisable port v s
  | .regionDone idx => Sys2Proof.Machine.execRegionDone idx s
  | .msCfgWrite port v => Sys2Proof.Machine.execMsCfgWrite port v s
  | .stBudgetWrite port v => Sys2Proof.Machine.execStBudgetWrite port v s
  | .stagingAccess t be errs => Sys2Proof.Machine.execStagingAccess t be errs s
  | .stagingScrub errs => Sys2Proof.Machine.execStagingScrub errs s
  | .stLapOverdue => Sys2Proof.Machine.execStLapOverdue s
  | .start port ch => Sys2Proof.Machine.execStart port ch s
  | .stop port ch => Sys2Proof.Machine.execStop port ch s
  | .resume port ch => Sys2Proof.Machine.execResume port ch s
  | .move ch tmo => Sys2Proof.Machine.execMove ch tmo s
  | .moveZjob ch tmo => Sys2Proof.Machine.execMoveZjob ch tmo s
  | .zjobCompletion ch tmo => Sys2Proof.Machine.execZjobCompletion ch tmo s
  | .pacedBurst ch late tmo => Sys2Proof.Machine.execPacedBurst ch late tmo s
  | .loop ch => Sys2Proof.Machine.execLoop ch s
  | .waitJobs ch => Sys2Proof.Machine.execWaitJobs ch s
  | .waitReq ch => Sys2Proof.Machine.execWaitReq ch s
  | .waitMemEq ch tmo => Sys2Proof.Machine.execWaitMemEq ch tmo s
  | .waitMemGe ch tmo => Sys2Proof.Machine.execWaitMemGe ch tmo s
  | .waitPoll ch tmo => Sys2Proof.Machine.execWaitPoll ch tmo s
  | .signal ch tmo => Sys2Proof.Machine.execSignal ch tmo s
  | .setReg ch => Sys2Proof.Machine.execSetReg ch s
  | .endProg ch tmo => Sys2Proof.Machine.execEndProg ch tmo s
  | .channelFault ch => Sys2Proof.Machine.execChannelFault ch s
  | .reqSwWrite port k v => Sys2Proof.Machine.execReqSwWrite port k v s
  | .reqSwcWrite port k v => Sys2Proof.Machine.execReqSwcWrite port k v s
  | .search port tag req hold => Sys2Proof.Machine.execSearch port tag req hold s
  | .seWrite port tag req hold => Sys2Proof.Machine.execSeWrite port tag req hold s
  | .invalidate port tag req hold => Sys2Proof.Machine.execInvalidate port tag req hold s
  | .seRead port tag req hold => Sys2Proof.Machine.execSeRead port tag req hold s
  | .bankSlotGrant bank => Sys2Proof.Machine.execBankSlotGrant bank s
  | .partitionEnable port bank v => Sys2Proof.Machine.execPartitionEnable port bank v s
  | .partitionDisable port bank v => Sys2Proof.Machine.execPartitionDisable port bank v s
  | .partCleared bank part => Sys2Proof.Machine.execPartCleared bank part s
  | .bankWake bank => Sys2Proof.Machine.execBankWake bank s
  | .mirrorCheck bank flipped => Sys2Proof.Machine.execMirrorCheck bank flipped s
  | .seLapOverdue bank => Sys2Proof.Machine.execSeLapOverdue bank s
  | .opCmdGo port => Sys2Proof.Machine.execOpCmdGo port s
  | .bankFault bank permanent => Sys2Proof.Machine.execBankFault bank permanent s
  | .ewBrk core e => Sys2Proof.Machine.execEwBrk core e s
  | .ewNop core e => Sys2Proof.Machine.execEwNop core e s
  | .ewSyscall core e => Sys2Proof.Machine.execEwSyscall core e s
  | .ewFence core e => Sys2Proof.Machine.execEwFence core e s
  | .ewRett core e => Sys2Proof.Machine.execEwRett core e s
  | .ewWfi core e => Sys2Proof.Machine.execEwWfi core e s
  | .ewRet core e => Sys2Proof.Machine.execEwRet core e s
  | .ewJmpRel8 core e => Sys2Proof.Machine.execEwJmpRel8 core e s
  | .ewJmpRel32 core e => Sys2Proof.Machine.execEwJmpRel32 core e s
  | .ewCall core e => Sys2Proof.Machine.execEwCall core e s
  | .ewJmpr core e => Sys2Proof.Machine.execEwJmpr core e s
  | .ewCallr core e => Sys2Proof.Machine.execEwCallr core e s
  | .ewBeq core e => Sys2Proof.Machine.execEwBeq core e s
  | .ewBne core e => Sys2Proof.Machine.execEwBne core e s
  | .ewBlt core e => Sys2Proof.Machine.execEwBlt core e s
  | .ewBge core e => Sys2Proof.Machine.execEwBge core e s
  | .ewBle core e => Sys2Proof.Machine.execEwBle core e s
  | .ewBgt core e => Sys2Proof.Machine.execEwBgt core e s
  | .ewBult core e => Sys2Proof.Machine.execEwBult core e s
  | .ewBuge core e => Sys2Proof.Machine.execEwBuge core e s
  | .ewBule core e => Sys2Proof.Machine.execEwBule core e s
  | .ewBugt core e => Sys2Proof.Machine.execEwBugt core e s
  | .ewBmi core e => Sys2Proof.Machine.execEwBmi core e s
  | .ewBpl core e => Sys2Proof.Machine.execEwBpl core e s
  | .ewBvs core e => Sys2Proof.Machine.execEwBvs core e s
  | .ewBvc core e => Sys2Proof.Machine.execEwBvc core e s
  | .ewBeqRel32 core e => Sys2Proof.Machine.execEwBeqRel32 core e s
  | .ewBneRel32 core e => Sys2Proof.Machine.execEwBneRel32 core e s
  | .ewBltRel32 core e => Sys2Proof.Machine.execEwBltRel32 core e s
  | .ewBgeRel32 core e => Sys2Proof.Machine.execEwBgeRel32 core e s
  | .ewBleRel32 core e => Sys2Proof.Machine.execEwBleRel32 core e s
  | .ewBgtRel32 core e => Sys2Proof.Machine.execEwBgtRel32 core e s
  | .ewBultRel32 core e => Sys2Proof.Machine.execEwBultRel32 core e s
  | .ewBugeRel32 core e => Sys2Proof.Machine.execEwBugeRel32 core e s
  | .ewBuleRel32 core e => Sys2Proof.Machine.execEwBuleRel32 core e s
  | .ewBugtRel32 core e => Sys2Proof.Machine.execEwBugtRel32 core e s
  | .ewBmiRel32 core e => Sys2Proof.Machine.execEwBmiRel32 core e s
  | .ewBplRel32 core e => Sys2Proof.Machine.execEwBplRel32 core e s
  | .ewBvsRel32 core e => Sys2Proof.Machine.execEwBvsRel32 core e s
  | .ewBvcRel32 core e => Sys2Proof.Machine.execEwBvcRel32 core e s
  | .ewMov core e => Sys2Proof.Machine.execEwMov core e s
  | .ewAdd core e => Sys2Proof.Machine.execEwAdd core e s
  | .ewSub core e => Sys2Proof.Machine.execEwSub core e s
  | .ewAdc core e => Sys2Proof.Machine.execEwAdc core e s
  | .ewSbb core e => Sys2Proof.Machine.execEwSbb core e s
  | .ewAnd core e => Sys2Proof.Machine.execEwAnd core e s
  | .ewOr core e => Sys2Proof.Machine.execEwOr core e s
  | .ewXor core e => Sys2Proof.Machine.execEwXor core e s
  | .ewCmp core e => Sys2Proof.Machine.execEwCmp core e s
  | .ewTst core e => Sys2Proof.Machine.execEwTst core e s
  | .ewShl core e => Sys2Proof.Machine.execEwShl core e s
  | .ewShr core e => Sys2Proof.Machine.execEwShr core e s
  | .ewSar core e => Sys2Proof.Machine.execEwSar core e s
  | .ewRol core e => Sys2Proof.Machine.execEwRol core e s
  | .ewMul core e => Sys2Proof.Machine.execEwMul core e s
  | .ewMulh core e => Sys2Proof.Machine.execEwMulh core e s
  | .ewDiv core e => Sys2Proof.Machine.execEwDiv core e s
  | .ewDivu core e => Sys2Proof.Machine.execEwDivu core e s
  | .ewRem core e => Sys2Proof.Machine.execEwRem core e s
  | .ewRemu core e => Sys2Proof.Machine.execEwRemu core e s
  | .ewNeg core e => Sys2Proof.Machine.execEwNeg core e s
  | .ewNot core e => Sys2Proof.Machine.execEwNot core e s
  | .ewClz core e => Sys2Proof.Machine.execEwClz core e s
  | .ewPopc core e => Sys2Proof.Machine.execEwPopc core e s
  | .ewBswap core e => Sys2Proof.Machine.execEwBswap core e s
  | .ewMulhu core e => Sys2Proof.Machine.execEwMulhu core e s
  | .ewMovi core e => Sys2Proof.Machine.execEwMovi core e s
  | .ewAddi core e => Sys2Proof.Machine.execEwAddi core e s
  | .ewSubi core e => Sys2Proof.Machine.execEwSubi core e s
  | .ewAndi core e => Sys2Proof.Machine.execEwAndi core e s
  | .ewOri core e => Sys2Proof.Machine.execEwOri core e s
  | .ewXori core e => Sys2Proof.Machine.execEwXori core e s
  | .ewCmpi core e => Sys2Proof.Machine.execEwCmpi core e s
  | .ewTsti core e => Sys2Proof.Machine.execEwTsti core e s
  | .ewShli core e => Sys2Proof.Machine.execEwShli core e s
  | .ewShri core e => Sys2Proof.Machine.execEwShri core e s
  | .ewSari core e => Sys2Proof.Machine.execEwSari core e s
  | .ewAddi8 core e => Sys2Proof.Machine.execEwAddi8 core e s
  | .ewCmpi8 core e => Sys2Proof.Machine.execEwCmpi8 core e s
  | .ewLd core e => Sys2Proof.Machine.execEwLd core e s
  | .ewLds core e => Sys2Proof.Machine.execEwLds core e s
  | .ewSt core e => Sys2Proof.Machine.execEwSt core e s
  | .ewLea core e => Sys2Proof.Machine.execEwLea core e s
  | .ewXchg core e => Sys2Proof.Machine.execEwXchg core e s
  | .ewXadd core e => Sys2Proof.Machine.execEwXadd core e s
  | .ewCas core e => Sys2Proof.Machine.execEwCas core e s
  | .ewAddm core e => Sys2Proof.Machine.execEwAddm core e s
  | .ewAndm core e => Sys2Proof.Machine.execEwAndm core e s
  | .ewOrm core e => Sys2Proof.Machine.execEwOrm core e s
  | .ewXorm core e => Sys2Proof.Machine.execEwXorm core e s
  | .ewSti core e => Sys2Proof.Machine.execEwSti core e s
  | .ewPush core e => Sys2Proof.Machine.execEwPush core e s
  | .ewPop core e => Sys2Proof.Machine.execEwPop core e s
  | .ewGet core e => Sys2Proof.Machine.execEwGet core e s
  | .ewPut core e => Sys2Proof.Machine.execEwPut core e s
  | .ewAddp core e => Sys2Proof.Machine.execEwAddp core e s
  | .ewLdp core e => Sys2Proof.Machine.execEwLdp core e s
  | .ewStp core e => Sys2Proof.Machine.execEwStp core e s
  | .ewClra core e => Sys2Proof.Machine.execEwClra core e s
  | .ewWra core e => Sys2Proof.Machine.execEwWra core e s
  | .ewRda core e => Sys2Proof.Machine.execEwRda core e s
  | .ewRdah core e => Sys2Proof.Machine.execEwRdah core e s
  | .ewWrah core e => Sys2Proof.Machine.execEwWrah core e s
  | .ewLda core e => Sys2Proof.Machine.execEwLda core e s
  | .ewSta core e => Sys2Proof.Machine.execEwSta core e s
  | .ewMfs core e => Sys2Proof.Machine.execEwMfs core e s
  | .ewMts core e => Sys2Proof.Machine.execEwMts core e s
  | .ewIcinv core e => Sys2Proof.Machine.execEwIcinv core e s
  | .ewMacd core e => Sys2Proof.Machine.execEwMacd core e s
  | .ewScpy core e => Sys2Proof.Machine.execEwScpy core e s
  | .ewSfil core e => Sys2Proof.Machine.execEwSfil core e s
  | .ewScmp core e => Sys2Proof.Machine.execEwScmp core e s
  | .ewSfnd core e => Sys2Proof.Machine.execEwSfnd core e s
  | .ewScrc core e => Sys2Proof.Machine.execEwScrc core e s
  | .ewBxfrLoad core e => Sys2Proof.Machine.execEwBxfrLoad core e s
  | .ewBxfrStore core e => Sys2Proof.Machine.execEwBxfrStore core e s
  | .ewReserved core esc e => Sys2Proof.Machine.execEwReserved core esc e s
  | .loadDataArrival core => Sys2Proof.Machine.execLoadDataArrival core s
  | .lateDataUncorr core tmo => Sys2Proof.Machine.execLateDataUncorr core tmo s
  | .interruptAccept core line tenant => Sys2Proof.Machine.execInterruptAccept core line tenant s
  | .qtimerExpiry core => Sys2Proof.Machine.execQtimerExpiry core s
  | .quantum core => Sys2Proof.Machine.execQuantum core s
  | .sliceEnd core => Sys2Proof.Machine.execSliceEnd core s
  | .contextSwitch core => Sys2Proof.Machine.execContextSwitch core s
  | .coreCheck core testOk => Sys2Proof.Machine.execCoreCheck core testOk s
  | .loadProgram qc cid slot size off data => Sys2Proof.Machine.execLoadProgram qc cid slot size off data s
  | .programActivationManagement qc cid slot act => Sys2Proof.Machine.execProgramActivationManagement qc cid slot act s
  | .executeProgram qc cid slot ranges transit params => Sys2Proof.Machine.execExecuteProgram qc cid slot ranges transit params s
  | .executeWaitEnd seq => Sys2Proof.Machine.execExecuteWaitEnd seq s
  | .readMemory qc cid transit off len => Sys2Proof.Machine.execReadMemory qc cid transit off len s
  | .writeMemory qc cid transit off data => Sys2Proof.Machine.execWriteMemory qc cid transit off data s
  | .memoryCopy qc cid toMem nsid slba count transit off => Sys2Proof.Machine.execMemoryCopy qc cid toMem nsid slba count transit off s
  | .exit ctx => Sys2Proof.Machine.execExit ctx s
  | .yield ctx => Sys2Proof.Machine.execYield ctx s
  | .syscallWait ctx => Sys2Proof.Machine.execSyscallWait ctx s
  | .waitTimeout ctx => Sys2Proof.Machine.execWaitTimeout ctx s
  | .syscallDma ctx => Sys2Proof.Machine.execSyscallDma ctx s
  | .xlate ctx => Sys2Proof.Machine.execXlate ctx s
  | .contextReady ctx ev => Sys2Proof.Machine.execContextReady ctx ev s
  | .contextEnd ctx => Sys2Proof.Machine.execContextEnd ctx s
  | .contextFree ctx => Sys2Proof.Machine.execContextFree ctx s
  | .dispatcherInterrupt core => Sys2Proof.Machine.execDispatcherInterrupt core s
  | .searchDoorbell ctx v => Sys2Proof.Machine.execSearchDoorbell ctx v s
  | .searchResponse ctx => Sys2Proof.Machine.execSearchResponse ctx s
  | .searchClear ctx v => Sys2Proof.Machine.execSearchClear ctx v s
  | .lineDoorbell ctx v => Sys2Proof.Machine.execLineDoorbell ctx v s
  | .lineStatusClear ctx v => Sys2Proof.Machine.execLineStatusClear ctx v s
  | .deliveryUnit seq unit => Sys2Proof.Machine.execDeliveryUnit seq unit s
  | .dlvRestart cluster => Sys2Proof.Machine.execDlvRestart cluster s
  | .clDlvWrite port cluster v => Sys2Proof.Machine.execClDlvWrite port cluster v s
  | .dvfsStepUp cluster => Sys2Proof.Machine.execDvfsStepUp cluster s
  | .dvfsStepDown cluster => Sys2Proof.Machine.execDvfsStepDown cluster s
  | .clusterPowerGate cluster => Sys2Proof.Machine.execClusterPowerGate cluster s
  | .unitFatal page code again testOk spareOk => Sys2Proof.Machine.execUnitFatal page code again testOk spareOk s
  | .deviceFatal page code => Sys2Proof.Machine.execDeviceFatal page code s
  | .khb port v => Sys2Proof.Machine.execKhb port v s
  | .heartbeatMiss core => Sys2Proof.Machine.execHeartbeatMiss core s
  | .kFailover => Sys2Proof.Machine.execKFailover s
  | .failoverSelfTest ok => Sys2Proof.Machine.execFailoverSelfTest ok s
  | .sCoreFailover => Sys2Proof.Machine.execSCoreFailover s
  | .bistRotation kind n ok => Sys2Proof.Machine.execBistRotation kind n ok s
  | .agingMeasure slow short sent => Sys2Proof.Machine.execAgingMeasure slow short sent s
  | .ticketRequest booth id mw cls refusable rcl => Sys2Proof.Machine.execTicketRequest booth id mw cls refusable rcl s
  | .ticketReturn id => Sys2Proof.Machine.execTicketReturn id s
  | .redivision => Sys2Proof.Machine.execRedivision s
  | .ticketRefused k => Sys2Proof.Machine.execTicketRefused k s
  | .recall => Sys2Proof.Machine.execRecall s
  | .wrateCapUpdate => Sys2Proof.Machine.execWrateCapUpdate s
  | .crUpdate => Sys2Proof.Machine.execCrUpdate s
  | .rclStarved b => Sys2Proof.Machine.execRclStarved b s
  | .nonOperationalWake => Sys2Proof.Machine.execNonOperationalWake s
  | .pllStop p => Sys2Proof.Machine.execPllStop p s
  | .unitWake page => Sys2Proof.Machine.execUnitWake page s
  | .housekeepingRound temp chans => Sys2Proof.Machine.execHousekeepingRound temp chans s
  | .rorHoldEnd => Sys2Proof.Machine.execRorHoldEnd s
  | .inputEdge k level => Sys2Proof.Machine.execInputEdge k level s
  | .inputStuck k => Sys2Proof.Machine.execInputStuck k s
  | .maskedClear port => Sys2Proof.Machine.execMaskedClear port s
  | .recordStoreUpdate => Sys2Proof.Machine.execRecordStoreUpdate s
  | .recordStoreReadback ok => Sys2Proof.Machine.execRecordStoreReadback ok s
  | .pwrfail => Sys2Proof.Machine.execPwrfail s
  | .powerLossDone => Sys2Proof.Machine.execPowerLossDone s
  | .powerLossResume => Sys2Proof.Machine.execPowerLossResume s
  | .powerOn jtagEn => Sys2Proof.Machine.execPowerOn jtagEn s
  | .boot ok0 ok1 bar2 route => Sys2Proof.Machine.execBoot ok0 ok1 bar2 route s
  | .setPending port key slot => Sys2Proof.Machine.execSetPending port key slot s
  | .confirm port key => Sys2Proof.Machine.execConfirm port key s
  | .clearPending port key => Sys2Proof.Machine.execClearPending port key s
  | .devReset port v => Sys2Proof.Machine.execDevReset port v s
  | .vddAonFall => Sys2Proof.Machine.execVddAonFall s
  | .llynReadFrame reg tag hdrOk => Sys2Proof.Machine.execLlynReadFrame reg tag hdrOk s
  | .llynWriteFrame reg tag data hdrOk dataOk => Sys2Proof.Machine.execLlynWriteFrame reg tag data hdrOk dataOk s
  | .llynResync => Sys2Proof.Machine.execLlynResync s
  | .challenge tag nonce => Sys2Proof.Machine.execChallenge tag nonce s
  | .response tag data => Sys2Proof.Machine.execResponse tag data s
  | .authCheckDone => Sys2Proof.Machine.execAuthCheckDone s
  | .relock tag => Sys2Proof.Machine.execRelock tag s
  | .llynDevReset tag key => Sys2Proof.Machine.execLlynDevReset tag key s
  | .statusW1c tag data => Sys2Proof.Machine.execStatusW1c tag data s
  | .memDataAccess tag write data => Sys2Proof.Machine.execMemDataAccess tag write data s
  | .halt tag own => Sys2Proof.Machine.execHalt tag own s
  | .coreResume tag => Sys2Proof.Machine.execCoreResume tag s
  | .stepCore tag => Sys2Proof.Machine.execStepCore tag s
  | .coreRegWrite tag data => Sys2Proof.Machine.execCoreRegWrite tag data s
  | .breakpoint core k => Sys2Proof.Machine.execBreakpoint core k s
  | .watchpoint core k addr write => Sys2Proof.Machine.execWatchpoint core k addr write s
  | .ownedContextTrap core => Sys2Proof.Machine.execOwnedContextTrap core s
  | .xtResume tag groups => Sys2Proof.Machine.execXtResume tag groups s
  | .bypass => Sys2Proof.Machine.execBypass s
  | .idcode => Sys2Proof.Machine.execIdcode s
  | .samplePreload => Sys2Proof.Machine.execSamplePreload s
  | .extest => Sys2Proof.Machine.execExtest s
  | .clamp => Sys2Proof.Machine.execClamp s
  | .highz => Sys2Proof.Machine.execHighz s
  | .profileLoaded signed fabricErr body => Sys2Proof.Machine.execProfileLoaded signed fabricErr body s
  | .ethLinkUp p l => Sys2Proof.Machine.execEthLinkUp p l s
  | .ethLinkDown p l => Sys2Proof.Machine.execEthLinkDown p l s
  | .fecDegrade p l => Sys2Proof.Machine.execFecDegrade p l s
  | .cleanShutdown => Sys2Proof.Machine.execCleanShutdown s
  | .controllerEnable cntlid => Sys2Proof.Machine.execControllerEnable cntlid s
  | .asyncEventRequest qc cid => Sys2Proof.Machine.execAsyncEventRequest qc cid s
  | .keepAlive qc cid => Sys2Proof.Machine.execKeepAlive qc cid s
  | .setFeaturesArbitration qc cid cdw11 => Sys2Proof.Machine.execSetFeaturesArbitration qc cid cdw11 s
  | .ageUnitElapsed die block => Sys2Proof.Machine.execAgeUnitElapsed die block s

end Sys2Proof.Machine
end

