-- ==== Sys2Proof/Safety.lean ====
section
/-! DEFINITION. What counts as a safe run: the block answers every command that waits, and neither faults nor refuses. -/
namespace Sys2Proof

/-- However many steps it takes, the block never stops. -/
def Safe (s : Machine.State) : Prop := ∀ k, ∃ t, Host.Core.run core k s = .next t

end Sys2Proof
end

