-- ==== Sys2Proof/WellFormed.lean ====
section
/-! DEFINITION. Which commands a sender can spell: operands that name something the part can have, and instruction bytes that the
layout of R560 can hold. The meanings are total and need none of these checks. -/
namespace Sys2Proof
open Sys2Proof.Machine

/-- A fabric port is one of 0 to 47 (R13). -/
def portWf (p : BitVec 6) : Bool := decide (p.toNat ≤ 47)
/-- A core is one of 0 to 100: 96 Eowift-C, 4 control cores, and the Eowift-S core. -/
def coreWf (c : BitVec 7) : Bool := decide (c.toNat ≤ 100)
/-- A compressor is one of 0 to 31, a decompressor one of 0 to 63 (R343). -/
def laneWf (decomp : Bool) (n : BitVec 6) : Bool := decomp || decide (n.toNat ≤ 31)
/-- A transaction comes from a port and stays below the top of the 48-bit space (R15). -/
def txnWf (t : Txn) : Bool := portWf t.port && decide (t.addr.toNat + t.len1.toNat < 2 ^ 48)
/-- Bytes by offset stay inside a length. -/
def bytesWf (n : Nat) (bs : List (Nat × Byte)) : Bool := bs.all (fun e => decide (e.1 < n))
/-- A Dataset Management names at most 256 ranges. -/
def sqeWf (e : Sqe) : Bool := decide (e.ranges.length ≤ 256)
/-- The bytes of an instruction are those its layout holds (R560, R572, R573): prefixes that are prefixes, no more displacement and
immediate than the mode byte and the opcode call for, nothing in a part that the form has not, at most 15 bytes, and a listed
opcode. -/
def encWf (o : EwOp) (e : Enc) : Bool :=
  pfxBytes e && decide (ewLen o e ≤ 15) && (formReg (formOf o) || e.reg == 0) && (formMode (formOf o) || e.mode == 0) &&
    decide (e.disp.toNat < 256 ^ (if formMode (formOf o) then dispBytes e.mode else 0)) &&
    decide (e.imm.toNat < 256 ^ immBytes o (widthOf e.pre)) &&
    (match o with
      | .reserved _ => false
      | .bcc k _ => decide (k ≤ 13)
      | _ => true)

/-- A command is well-formed. -/
def wellFormed (c : Instr) : Bool :=
  match c with
  | .registerWrite port _ _ _ _ => portWf port
  | .evtSet port _ _ => portWf port
  | .evtClr port _ _ => portWf port
  | .evtEnWrite port _ _ => portWf port
  | .errPop port _ => portWf port
  | .clrOvf port _ => portWf port
  | .unitResetSoft port _ _ => portWf port
  | .unitResetHard port _ _ => portWf port
  | .unitResetRecover port _ _ => portWf port
  | .lockWrite port _ _ => portWf port
  | .usecLoRead port _ => portWf port
  | .loHalfRead port _ _ => portWf port
  | .qcCmdCopy port => portWf port
  | .qcCmdWrite port => portWf port
  | .fetchStopWrite port _ => portWf port
  | .tenantReset port _ _ => portWf port
  | .nsDataWrite port _ => portWf port
  | .vfBindWrite port _ _ => portWf port
  | .wpoolWrite port _ => portWf port
  | .fpModeWrite port _ _ => portWf port
  | .profileLoad port _ => portWf port
  | .profileEmpty port _ => portWf port
  | .generate port => portWf port
  | .wrapOut port => portWf port
  | .unwrap port => portWf port
  | .clear port => portWf port
  | .keyEpochWrite port _ => portWf port
  | .bringUp port _ _ => portWf port
  | .drain port _ _ => portWf port
  | .abortDrain port _ _ => portWf port
  | .powerOff port _ _ => portWf port
  | .forget port _ _ => portWf port
  | .laneJobSubmit port _ => portWf port
  | .tableCommit port => portWf port
  | .tableEmpty port => portWf port
  | .jobCmdGo port => portWf port
  | .regionEnable port _ => portWf port
  | .regionDisable port _ => portWf port
  | .msCfgWrite port _ => portWf port
  | .stBudgetWrite port _ => portWf port
  | .start port _ => portWf port
  | .stop port _ => portWf port
  | .resume port _ => portWf port
  | .reqSwWrite port _ _ => portWf port
  | .reqSwcWrite port _ _ => portWf port
  | .search port _ _ _ => portWf port
  | .seWrite port _ _ _ => portWf port
  | .invalidate port _ _ _ => portWf port
  | .seRead port _ _ _ => portWf port
  | .opCmdGo port => portWf port
  | .khb port _ => portWf port
  | .maskedClear port => portWf port
  | .setPending port _ _ => portWf port
  | .confirm port _ => portWf port
  | .clearPending port _ => portWf port
  | .devReset port _ => portWf port
  | .fabricTransaction t _ _ => txnWf t
  | .dramRead t _ => txnWf t
  | .dramWrite t => txnWf t
  | .partialWrite t _ _ => txnWf t
  | .stagingAccess t _ _ => txnWf t
  | .read _ e => sqeWf e
  | .write _ e => sqeWf e
  | .writeZeroes _ e => sqeWf e
  | .compare _ e => sqeWf e
  | .verify _ e => sqeWf e
  | .datasetManagement _ e => sqeWf e
  | .flush _ e => sqeWf e
  | .orderedWrite _ e => sqeWf e
  | .orderedRead _ e => sqeWf e
  | .orderedFlush _ e => sqeWf e
  | .commandCapsule _ e _ _ _ _ => sqeWf e
  | .hostDataPull _ _ _ _ data _ => bytesWf 262144 data
  | .pieceDurable _ _ data _ => bytesWf 262144 data
  | .h2cData _ _ _ _ data _ _ => bytesWf 262144 data
  | .laneWake decomp n => laneWf decomp n
  | .lanePowerGate decomp n => laneWf decomp n
  | .laneJobComplete decomp n _ => laneWf decomp n
  | .laneFault decomp n _ => laneWf decomp n
  | .bankSlotGrant bank => decide (bank.toNat ≤ 4)
  | .partCleared bank _ => decide (bank.toNat ≤ 4)
  | .bankWake bank => decide (bank.toNat ≤ 4)
  | .mirrorCheck bank _ => decide (bank.toNat ≤ 4)
  | .seLapOverdue bank => decide (bank.toNat ≤ 4)
  | .bankFault bank _ => decide (bank.toNat ≤ 4)
  | .partitionEnable port bank _ => portWf port && decide (bank.toNat ≤ 4)
  | .partitionDisable port bank _ => portWf port && decide (bank.toNat ≤ 4)
  | .loadDataArrival core => coreWf core
  | .lateDataUncorr core _ => coreWf core
  | .interruptAccept core _ _ => coreWf core
  | .qtimerExpiry core => coreWf core
  | .quantum core => coreWf core
  | .sliceEnd core => coreWf core
  | .contextSwitch core => coreWf core
  | .coreCheck core _ => coreWf core
  | .dispatcherInterrupt core => coreWf core
  | .breakpoint core _ => coreWf core
  | .watchpoint core _ _ _ => coreWf core
  | .ownedContextTrap core => coreWf core
  | .dlvRestart cluster => decide (cluster.toNat ≤ 11)
  | .dvfsStepUp cluster => decide (cluster.toNat ≤ 11)
  | .dvfsStepDown cluster => decide (cluster.toNat ≤ 11)
  | .clusterPowerGate cluster => decide (cluster.toNat ≤ 11)
  | .clDlvWrite port cluster _ => portWf port && decide (cluster.toNat ≤ 11)
  | .agingMeasure slow _ _ => decide (slow.length ≤ 16)
  | .pllStop p => decide (p.toNat ≤ 15)
  | .inputEdge k _ => decide (k.toNat ≤ 14)
  | .inputStuck k => decide (k.toNat ≤ 14)
  | c =>
    match ewOf c with
    | some (core, o, e) => coreWf core && encWf o e
    | none => true

end Sys2Proof
end

