-- ==== Sys2Proof/Certificates/Slice0/Obligations.lean ====
section
/-! DEFINITION. The statements for the provers. -/
namespace Sys2Proof.Claims
open Sys2Proof.Machine

/-- The command answers a next state with the queue as it was: the block `b` becomes `b'`. -/
abbrev Answers (c : Instr) (q : List Instr) (b b' : Block) : Prop := exec c ⟨q, b⟩ = .next ⟨q, b'⟩
/-- The page of class `c`, instance `i` holds the offset, and the write of one register is not refused (R776). -/
abbrev Takes (b : Block) (off : Nat) (d : W32) (c : PageClass) (i : Nat) : Prop :=
  presentPageAt b.variant off = some (c, i) ∧
    b.firstRefusal (b.putWord c i (off % 0x1000, d)) c i [(off % 0x1000, d)] = none

/-- A transaction as it is when it is issued, with the bytes that a write writes. -/
abbrev freshBe (b : Block) (t : Txn) (be : BitVec 256) : OpenTxn := ⟨t, b.usec, b.usec, 0, false, false, be⟩
/-- The same, where every byte is enabled. -/
abbrev fresh (b : Block) (t : Txn) : OpenTxn := freshBe b t (BitVec.allOnes 256)
/-- A transaction is open. -/
abbrev issued (b : Block) (o : OpenTxn) : Block := b.onFab (fun f => { f with opened := f.opened ++ [o] })
/-- Its target's arbiter has granted it: it is the last of those at the target, and its port the last winner (R24). -/
abbrev atPlace (b : Block) (o : OpenTxn) : Block := b.onFab (fun f => { f with
  opened := f.opened.filter (fun (x : OpenTxn) => x.txn.id ≠ o.txn.id) ++ [{ o with granted := true }]
  last := smPut f.last (b.targetOf o.txn) o.txn.port.toNat })

/-- How a queue gives its next entry `e`: an NVMe/TCP queue as its first waiting capsule, with the status it may end with, any queue as an
entry of its ring, which is submitted with it where none waits. `x` is the block after it (R102, R187). -/
def Takeable (b : Block) (qc : Nat) (e : Sqe) (ended : Option Stat) (x : Block) : Prop :=
  (qIsTcp (b.qc qc) = true ∧ ∃ c, b.fp.capsules.find? (fun c => c.1 == qc) = some c ∧ c.2.1 = e ∧ ended = c.2.2 ∧
    x = b.onFp (fun f => { f with capsules := f.capsules.erase c })) ∨
  ((qIsTcp (b.qc qc) = false ∨ b.fp.capsules.find? (fun c => c.1 == qc) = none) ∧ ended = none ∧
    x = if qIsTcp (b.qc qc) = false ∧ qSqHead (b.qc qc) ≠ qSqTail (b.qc qc) then b
      else b.qcF qc 160 175 ((qSqTail (b.qc qc) + 1) % (qSqSize (b.qc qc) + 1)))
/-- A fetched command as its lane holds it. -/
abbrev inLane (b : Block) (qc : Nat) (e : Sqe) (ended : Option Stat) : Fetched :=
  ⟨qLane (b.qc qc), .queue qc, e, opOrdered (.queue qc) e || qOrdered (b.qc qc), false, ended⟩
/-- The sequencer with a command `f` just fetched: it takes it where it serves it next and the collision table has room, it stalls on it
where the table has none, and it leaves it waiting behind what it serves before (R103, R104, R114). -/
def sequenced (b : Block) (f : Fetched) : Block :=
  if b.nextFetched ≠ some f then b
  else if b.coll + b.entriesOf f ≤ 65536 then
    ((b.onCe (fun e => { e with lanes := e.lanes.erase f, rr := (f.lane + 1) % 17, stalled := false })).sequence f).stopRise b
  else b.stall f.lane
/-- A command of a queue is fetched through the queue's lane and sequenced: `x` is the block once the queue has given the entry. -/
abbrev ioEnters (x : Block) (qc : Nat) (e : Sqe) (ended : Option Stat) : Block := sequenced (x.passLane qc e ended) (inLane x qc e ended)
/-- An entry with an opcode of the NVM command set. -/
abbrev withOpc (e : Sqe) (opc : BitVec 8) : Sqe := { e with opc := opc, prog := none }
/-- The block once a transaction is issued, granted at once by its target's arbiter, and answered: it is open no longer. -/
abbrev goneThrough (b : Block) (t : Txn) (be : BitVec 256) : Block :=
  (atPlace (issued b (freshBe b t be)) (freshBe b t be)).closeTxn t.id
/-- A transaction of a present port is new, its bytes lie in one place of the wanted kind, its target's arbiter grants it at once, and the
target serves it at once (R20-R24, R394, R396). -/
abbrev accepted (b : Block) (t : Txn) (be : BitVec 256) (p : Place) (write : Bool) : Prop :=
  let x := issued b (freshBe b t be)
  let y := atPlace x (freshBe b t be)
  t.write = write ∧ portPresent b.variant t.port.toNat = true ∧ b.fab.dead.contains t.id = false ∧ b.openOf t.id = none ∧
    0 < b.rdF (pgBus + 0x100) 0 12 ∧ x.agedClasses = [] ∧ x.nextGrant (b.targetOf t) = some (freshBe b t be) ∧ y.isBusy t = false ∧
    y.itsTurn { freshBe b t be with granted := true } = true ∧
    b.placeAt t.addr.toNat (txnLen t) = some p ∧ b.busCheck (txnReq t 0 false) write = .ok
/-- The answer to a read once the block `x` stands after it: the bytes, OK or POISON, and the poison mask (R19, R404). -/
abbrev readAnswer (x : Block) (t : Txn) : Block :=
  let a := t.addr.toNat
  let n := txnLen t
  x.send (.fabResp t.id (if x.anyPoison a n then .poison else .ok) n (BitVec.ofNat 2048 (x.load a n)) (if x.anyPoison a n then x.poisonMask a n else 0))
/-- A request of the search engine passes every check before its slot, and nothing waits at its bank. -/
abbrev seReady (b : Block) (tag : BitVec 6) (d : BitVec 512) : Prop :=
  b.variant.hasUnit 14 = true ∧ b.variant.hasBank (qBank d) = true ∧ b.seAdmits tag d = true ∧ b.seEarly d = none ∧ b.seQueue (qBank d) = []

/-- The entry of a command of a compute or memory namespace. -/
abbrev progEntry (cid : BitVec 16) (p : ProgOp) : Sqe :=
  { opc := 0, fuse := 0, cid := cid, nsid := 0, slba := 0, count := 0, deac := false, ord := false, ranges := [], buf := (0, 0), data := none,
    ptrs := [], mptr := false, pi := 0, prog := some p, posted := true }
/-- A channel executes instructions and its next one is `i`, legal and of kind `k`; `x` is the block after its fetch (R437, R438, R451). -/
abbrev dmReady (b : Block) (n : Nat) (k : DmKind) (i : BitVec 128) (x : Block) : Prop :=
  b.chLive n = true ∧ b.chFetch n = (0, i, x) ∧ b.chIllegal n i = false ∧ dKind i = some k
/-- The instruction is counted, and its channel has not reached SPIN_LIMIT (R466). -/
abbrev dmCounted (x : Block) (n : Nat) : Block := x.modChan n (fun c => { c with spin := c.spin + 1 })
/-- The counted instruction does not reach the limit. -/
abbrev spinOk (x : Block) (n : Nat) : Prop := ((dmCounted x n).chan n).spin < (dmCounted x n).rdF (pgDm + 0x100) 0 19
/-- A MOVE passes the checks made before its first byte (R440, R441, R452, R455). -/
abbrev moveReady (x : Block) (n : Nat) (i : BitVec 128) : Prop :=
  (x.chan n).waiting = false ∧ (x.chan n).mid = false ∧ dWord i ≠ 0 ∧ (dPaced i = true → (dmCounted x n).chLineOk n (dReq i) = true) ∧
    moveMisaligned n (x.chan n) i = false ∧ moveOverflows (x.chan n) i = false
/-- The MOVE has begun: no byte moved yet. -/
def moveBegun (x : Block) (n : Nat) (i : BitVec 128) : Block :=
  (dmCounted x n).modChan n (fun c => { c with mid := true, moved := 0, remain := dWord i, pat := none })

/-- The instance records its own fatal error: a lane with a job by its job's end, a channel by its halt (R380, R468). -/
def fatalOwn (b : Block) (c : PageClass) (i : Nat) : Bool :=
  match c with
  | .czC => ((b.lane false i).job).isSome
  | .czD => ((b.lane true i).job).isSome
  | .dmCh => true
  | _ => false

/-- A frame of register `r` is neither held nor refused before it acts: no check runs, CRC_ERR is 0, and LEVEL is 1 or the register is open
(R727, R730, R732). -/
abbrev frameActs (b : Block) (r : Nat) (w : Option W64) : Prop :=
  b.dbg.checking = none ∧ b.dbg.crcErr = false ∧ (b.dbg.level = true ∨ openReg r w = true)
/-- A write accepted: remembered for its repeat, and answered ACCEPT (R726). -/
def wrote (b : Block) (r : Nat) (tag : BitVec 3) (v : W64) : Block :=
  (b.onDbg (fun d => { d with last := some (r, tag.toNat, v) })).reply 5 tag 0
/-- The nonce that four free values spell. -/
def nonceOf (n : Nat) : BitVec 256 :=
  Config.freeValue (n + 3) ++ Config.freeValue (n + 2) ++ Config.freeValue (n + 1) ++ Config.freeValue n

/-- The supply that a core needs is up: the Eowift-S core 100 runs on the always-on supply. -/
abbrev powered (b : Block) (core : BitVec 7) : Prop := if 100 ≤ core.toNat then b.hk.off = false else b.dark = false
/-- The core as it stands at the boundary: a repeated instruction has ended the delays (R544), the core has waited for the data of loads
whose slots are over (R537), and those loads have written their registers. -/
abbrev atBoundary (c : Core) (e : Enc) : Core :=
  { ((if repOf e.pre = .none then c else c.endDelay).stall).settle with
    bpSkip := false
    acc := [] }
/-- The core is about to start the instruction: it runs, no late error, watchpoint or breakpoint comes first (R543, R739). -/
abbrev starts (b : Block) (i : Nat) (e : Enc) : Prop :=
  b.coreLive i = true ∧ (b.core i).wfi = false ∧ pfxBytes e = true ∧
    ((if repOf e.pre = .none then b.core i else (b.core i).endDelay).stall).lateOf = none ∧ (b.core i).watch = none ∧
    (b.mayHalt i = true → (b.core i).bpHit = none)
/-- Its bytes are fetched, which leaves `b1`, and raise none of the traps of R547's first four rows. -/
abbrev legalAt (b : Block) (i : Nat) (op : EwOp) (e : Enc) (b1 : Block) : Prop :=
  let b0 := b.setCore i (atBoundary (b.core i) e)
  b0.fetchIns i (min 15 (ewLen op e)) e.par = .ok b1 ∧ ewLen op e ≤ 15 ∧ fieldsLegal op e = true ∧
    ((b0.core i).user = true → privileged op = false) ∧ (coreKind i = .s → absentOnS op e = false) ∧
    (op = .rett → rettLegal i (b0.core i).tst = true) ∧ pfxLegal op e = true
/-- The instruction starts and executes, in `b1`. -/
abbrev issues (b : Block) (i : Nat) (op : EwOp) (e : Enc) (b1 : Block) : Prop := starts b i e ∧ legalAt b i op e b1
/-- The block while the instruction executes: pc at the next one, a slot of each pending delay used. -/
def running (b1 : Block) (i : Nat) (op : EwOp) (e : Enc) : Block :=
  b1.modCore i (fun c => { c.oneSlot with pc := c.pc + BitVec.ofNat 64 (ewLen op e) })
/-- The boundary after the instruction: watchpoints, STEP, delays that end, a halt that waits. -/
def completes (b1 : Block) (i : Nat) (b2 : Block) : Block :=
  (b2.modCore i Core.checkWatch).insEnd i (b1.core i).pc (b1.core i).ts
/-- A trap of the instruction, of which nothing has taken effect: `b2` is the block as the trap found it. -/
def trapped (b1 : Block) (i : Nat) (t : TrapIn) (b2 : Block) : Block := b2.insTrap i (b1.core i) t
/-- The address of the instruction. -/
def pcOf (b1 : Block) (i : Nat) : W64 := (b1.core i).pc
/-- The address of the next instruction. -/
def nextOf (b1 : Block) (i : Nat) (op : EwOp) (e : Enc) : W64 := (b1.core i).pc + BitVec.ofNat 64 (ewLen op e)
/-- The operand's space. -/
def spOf (e : Enc) : Nat := modeSpace e.mode
/-- The operand's size in bytes at the instruction's width. -/
def szOf (e : Enc) : Nat := widthOf e.pre / 8
/-- The core's destination register takes a value read: a delay of two slots begins, and an older load to that register writes it no more
(R536-R538). -/
def loading (x : Block) (i : Nat) (d : LDst) (v : Nat) (pc a : W64) (far : Option (Nat × Nat)) : Block :=
  x.modCore i (fun c => { c.killLoads d with loads := (c.killLoads d).loads ++ [⟨d, BitVec.ofNat 80 v, 2, far.isNone, pc, a, far, none, false⟩] })
/-- What a far load waits for. -/
def farOf (sp f n : Nat) : Option (Nat × Nat) := if sp = 2 then some (f, n) else none
/-- A doubleword beside stack pointers: the FAR prefix names the space. -/
def stackOf (e : Enc) : Nat := if isFar e then 2 else 3

/-- The operand widths (R567, R571). -/
abbrev opWidth (w : Nat) : Prop := w = 8 ∨ w = 16 ∨ w = 32 ∨ w = 64
/-- One bit of the CRC step, in the words of R598. -/
abbrev crc32cBit (c : W32) : W32 := if c.getLsbD 0 then (c >>> 1) ^^^ 0x82F63B78 else c >>> 1
/-- One byte of the CRC step, in the words of R598: eight bits. -/
def crc32cByte (c : W32) (x : Byte) : W32 :=
  crc32cBit (crc32cBit (crc32cBit (crc32cBit (crc32cBit (crc32cBit (crc32cBit (crc32cBit (c ^^^ x.setWidth 32))))))))
/-- The bytes of an element, lowest address first. -/
def elementBytes (s : Nat) : Nat → List Byte
  | 0 => []
  | n + 1 => BitVec.ofNat 8 s :: elementBytes (s / 256) n
/-- A window matches a program address (R520). -/
abbrev winMatches (w : Win) (p : Nat) : Prop := w.size ≠ 0 ∧ w.pbase ≤ p ∧ p < w.pbase + 2 ^ w.size
/-- The bytes of an instruction written in the order of memory. -/
abbrev decodesTo (bs : List Byte) (o : EwOp) (e : Enc) : Prop := decodeEowift bs = .ok (o, e, [])
/-- The bytes of an instruction without model-side marks. -/
def enc (pre : List Byte) (reg mode : Byte) (disp : W32) (imm : W64) : Enc := ⟨pre, reg, mode, disp, imm, false, [], none⟩

end Sys2Proof.Claims

open Sys2Proof Sys2Proof.Machine Sys2Proof.Claims

/-- Header commands (R55, R57, R64, R65, R71, R75): EVT_SET, EVT_CLR, EVT_EN_WRITE, ERR_POP, CLR_OVF, UNIT_RESET_SOFT, UNIT_RESET_HARD,
UNIT_RESET_RECOVER and LOCK_WRITE. -/
def Obligations.HeaderCommands : Prop :=
  ∀ (q : List Instr) (b : Block) (port : BitVec 6) (page : BitVec 13) (v : W32) (key : BitVec 16) (c : PageClass) (i : Nat), b.dark = false →
    (Takes b (onPage page 0x01C) v c i → Answers (.evtSet port page v) q b (b.raiseMask (pageBase c i) v)) ∧
    (Takes b (onPage page 0x020) v c i →
      Answers (.evtClr port page v) q b (b.setEvt (pageBase c i) (b.rd (pageBase c i + 0x010) &&& ~~~v) (b.rd (pageBase c i + 0x014)))) ∧
    (Takes b (onPage page 0x014) v c i →
      Answers (.evtEnWrite port page v) q b (b.setEvt (pageBase c i) (b.rd (pageBase c i + 0x010)) (v &&& b.evtMask (pageBase c i)))) ∧
    (Takes b (onPage page 0x038) 1 c i →
      Answers (.errPop port page) q b (b.setErrQ (pageBase c i) { b.errQ (pageBase c i) with recs := (b.errQ (pageBase c i)).recs.drop 1 })) ∧
    (Takes b (onPage page 0x038) 2 c i →
      Answers (.clrOvf port page) q b (b.setErrQ (pageBase c i) { b.errQ (pageBase c i) with lost := 0, maxSev := 0 })) ∧
    (Takes b (onPage page 0x080) (keyed key 1) c i →
      Answers (.unitResetSoft port page key) q b (b.unitReset (port.setWidth 8) (pageBase c i) key.toNat 1)) ∧
    (Takes b (onPage page 0x080) (keyed key 2) c i →
      Answers (.unitResetHard port page key) q b (b.unitReset (port.setWidth 8) (pageBase c i) key.toNat 2)) ∧
    (Takes b (onPage page 0x080) (keyed key 3) c i →
      Answers (.unitResetRecover port page key) q b (b.unitReset (port.setWidth 8) (pageBase c i) key.toNat 3)) ∧
    (Takes b (onPage page 0x084) v c i →
      Answers (.lockWrite port page v) q b (b.wr (pageBase c i + 0x084) (b.rd (pageBase c i + 0x084) ||| (v &&& lockMask b.variant c i))))


/-- REGISTER_WRITE, USEC_LO_READ, LO_HALF_READ and BAR2_ACCESS (R46, R47, R81, R82, R85, R86). -/
def Obligations.RegisterSpaceAccesses : Prop :=
  ∀ (q : List Instr) (b : Block) (port tag : BitVec 6) (off : BitVec 25) (len1 : BitVec 8) (data : W64) (write : Bool) (c : PageClass) (i : Nat),
    b.dark = false →
    (Takes b off.toNat (data.setWidth 32) c i → off.toNat % 4 = 0 →
      Answers (.registerWrite port 0 off 3 data) q b (b.takeWrite (port.setWidth 8) c i (off.toNat % 0x1000, data.setWidth 32))) ∧
    (regSized off.toNat (len1.toNat + 1) = false →
      Answers (.registerWrite port 0 off len1 data) q b (b.refuse (b.recPage off.toNat) 4 (port.setWidth 8) off.toNat)) ∧
    (regSized off.toNat (len1.toNat + 1) = true → presentPageAt b.variant off.toNat = none →
      Answers (.registerWrite port 0 off len1 data) q b (b.absentWrite (port.setWidth 8) off.toNat)) ∧
    (tag ≠ 0 → Answers (.registerWrite port tag off len1 data) q b
      (b.btRec ⟨port.setWidth 8, 0, tag, 0x030000000000 + off.toNat, len1.toNat + 1, 0, false⟩ true 0x102 3)) ∧
    Answers (.usecLoRead port false) q b
      ({ b with latches := smPut b.latches (pgChip + 0x124) (b.view (pgChip + 0x124)) }.send
        (.regData (pgChip + 0x120) ((b.view (pgChip + 0x120)).setWidth 64))) ∧
    Answers (.usecLoRead port true) q b
      ({ b with latches := smErase (smPut b.latches (pgChip + 0x124) (b.view (pgChip + 0x124))) (pgChip + 0x124) }.send
        (.regData (pgChip + 0x120) ((b.view (pgChip + 0x120)).setWidth 64 ||| ((b.view (pgChip + 0x124)).setWidth 64 <<< 32)))) ∧
    (presentPageAt b.variant off.toNat = some (c, i) → latchOf c (off.toNat % 0x1000) = true → off.toNat % 8 = 0 →
      Answers (.loHalfRead port off false) q b
        ({ b with latches := smPut b.latches (pageBase c i + off.toNat % 0x1000 + 4) (b.view (off.toNat + 4)) }.send
          (.regData off.toNat ((b.view off.toNat).setWidth 64))) ∧
      Answers (.loHalfRead port off true) q b
      ({ b with latches := smErase (smPut b.latches (off.toNat + 4) (b.view (off.toNat + 4))) (off.toNat + 4) }.send
        (.regData off.toNat ((b.view off.toNat).setWidth 64 ||| ((b.view (off.toNat + 4)).setWidth 64 <<< 32))))) ∧
    (b.rdF (pgChip + 0x140) 0 0 = 0 →
      Answers (.bar2Access write off len1 data) q b (if write then b else b.send (.regData off.toNat 0))) ∧
    (b.rdF (pgChip + 0x140) 0 0 = 1 → Answers (.bar2Access false off len1 data) q b (b.regReadOut 0 off.toNat (len1.toNat + 1))) ∧
    (b.rdF (pgChip + 0x140) 0 0 = 1 → b.rdF (pgChip + 0x140) 1 1 = 0 →
      Answers (.bar2Access true off len1 data) q b (b.regWrite 0 off.toNat (len1.toNat + 1) data))

/-- FABRIC_TRANSACTION, BUSY_REISSUE, BT_TIMEOUT, LATE_RESPONSE, AGE_PROMOTION and ROUTE_SUBST (R15, R19-R22, R26, R657). -/
def Obligations.BigTopCommands : Prop :=
  ∀ (q : List Instr) (b : Block) (t : Txn) (errs : List (FAddr × Bool)) (id : BitVec 16) (o : OpenTxn) (route : BitVec 8), b.dark = false →
    (portPresent b.variant t.port.toNat = true → b.fab.dead.contains t.id = false → b.openOf t.id = none →
      Answers (.fabricTransaction t false errs) q b (issued b (fresh b t)) ∧
      (0 < b.rdF (pgBus + 0x100) 0 12 → (issued b (fresh b t)).agedClasses = [] →
        (issued b (fresh b t)).nextGrant (b.targetOf t) = some (fresh b t) →
        (atPlace (issued b (fresh b t)) (fresh b t)).isBusy t = false →
        (atPlace (issued b (fresh b t)) (fresh b t)).itsTurn { fresh b t with granted := true } = true →
        Answers (.fabricTransaction t true errs) q b
          (((atPlace (issued b (fresh b t)) (fresh b t)).closeTxn t.id).serve t (BitVec.allOnes 256) errs 0 false))) ∧
    (b.openOf id = some o → o.granted = true → b.agedClasses = [] → b.usec < o.issued + b.rdF (pgBus + 0x100) 0 12 →
      (b.rdF (pgBus + 0x108) 0 9 ≤ o.busy + 1 →
        Answers (.busyReissue id) q b ((b.closeTxn id).send (.fabResp id .offline 0 0 0))) ∧
      (o.busy + 1 < b.rdF (pgBus + 0x108) 0 9 →
        Answers (.busyReissue id) q b { b with
          usec := b.usec + 1
          fab := { b.fab with opened := b.fab.opened.map (fun (x : OpenTxn) =>
            if x.txn.id = id then { x with busy := x.busy + 1, issued := b.usec + 1, granted := false } else x) } })) ∧
    (b.openOf id = some o →
      Answers (.btTimeout id) q b
        (let due := o.issued + b.rdF (pgBus + 0x100) 0 12
         let gone := (b.elapseTo due).closeTxn id
         (((gone.inc (pgBus + 0x110)).btRec (txnReq o.txn (due - o.born) o.promoted) o.txn.write 0x103 0).send
           (.fabResp id .timeout 0 0 0)).onFab (fun f => { f with dead := f.dead ++ [id] }))) ∧
    (b.fab.dead.contains id = true →
      Answers (.lateResponse id) q b
        (((b.onFab (fun f => { f with dead := f.dead.filter (· ≠ id) })).inc (pgBus + 0x114)).raise pgBus 1)) ∧
    (b.openOf id = some o → o.txn.cls ≠ 0 → o.promoted = false →
      Answers (.agePromotion (.fabric id)) q b (b.elapseTo (o.born + b.ageLimit o.txn.cls.toNat + 1)).promoteAged ∧
      ((b.elapseTo (o.born + b.ageLimit o.txn.cls.toNat + 1)).promoteAged.openOf id).any (·.promoted) = true) ∧
    (1 < b.rdF (pgBt + 0x124) 4 7 →
      Answers (.routeSubst route) q b
        (((((((b.addSat (pgBt + 0x124) 0 3 1).wrF (pgBt + 0x124) 4 7 (b.rdF (pgBt + 0x124) 4 7 - 1)).raise pgBt 4).setSpared pgBt true).noteSubst
          .route route.toNat false).spareRec 0x0202 .corrected pgBt (8 - b.rdF (pgBt + 0x124) 4 7)).raise pgHk 17))

/-- The register writes of the command engine and the ports: QC_CMD_COPY, QC_CMD_WRITE, FETCH_STOP_WRITE, TENANT_RESET, NS_DATA_WRITE,
VF_BIND_WRITE, WPOOL_WRITE and FP_MODE_WRITE (R92, R133, R137, R149, R150, R202, R205, R786). -/
def Obligations.HostSideRegisterCommands : Prop :=
  ∀ (q : List Instr) (b : Block) (port t : BitVec 6) (p : BitVec 2) (v : W32) (key : BitVec 16) (stop : Bool), b.dark = false →
    (Takes b (pgCe + 0x134) 1 .ceCtl 0 → Answers (.qcCmdCopy port) q b (b.each (List.range 16) (fun x k =>
      x.wr (pgCe + 0x140 + 4 * k) ((b.qcRead (b.rdF (pgCe + 0x130) 0 13) >>> (32 * k)).setWidth 32)))) ∧
    (Takes b (pgCe + 0x134) 2 .ceCtl 0 → Answers (.qcCmdWrite port) q b (b.qcApply (b.rdF (pgCe + 0x130) 0 13) b.qcData)) ∧
    (Takes b (pgCe + 0x100) (if stop then 1 else 0) .ceCtl 0 →
      Answers (.fetchStopWrite port stop) q b
        (let x := b.putWord .ceCtl 0 (0x100, if stop then 1 else 0)
         let y := if x.stopped && !b.stopped then x.raise pgCe 1 else x
         if b.fetchStop && !x.fetchStop then y.actDone.release else y)) ∧
    (Takes b (pgCe + 0x120) (keyed key t.toNat) .ceCtl 0 → Answers (.tenantReset port t key) q b (b.resetTenant t.toNat)) ∧
    (Takes b (pgCe + 0x184) v .ceCtl 0 → Answers (.nsDataWrite port v) q b (b.putWord .ceCtl 0 (0x184, v))) ∧
    (Takes b (pgCeT t.toNat + 0x114) v .ceTenant t.toNat →
      Answers (.vfBindWrite port t v) q b (b.putWord .ceTenant t.toNat (0x114, v))) ∧
    (Takes b (pgHp 0 + 0x110) v .hp 0 → Answers (.wpoolWrite port v) q b (b.putWord .hp 0 (0x110, v)).keepPloss) ∧
    (Takes b (pgFpP p.toNat + 0x100) v .fpPort p.toNat →
      Answers (.fpModeWrite port p v) q b ((b.putWord .fpPort p.toNat (0x100, v)).fpTickets p.toNat))

/-- The register writes of the media channels and compression: PROFILE_LOAD, PROFILE_EMPTY, GENERATE, UNWRAP, WRAP_OUT, CLEAR,
KEY_EPOCH_WRITE, BRING_UP, DRAIN, ABORT_DRAIN, POWER_OFF, FORGET, TABLE_COMMIT, TABLE_EMPTY and JOB_CMD_GO (R292, R309, R310, R326-R338,
R351-R354). -/
def Obligations.FlashSideRegisterCommands : Prop :=
  ∀ (q : List Instr) (b : Block) (port : BitVec 6) (slot : BitVec 4) (k : BitVec 3) (v : W32) (key : BitVec 16), b.dark = false →
    (Takes b (pgFc + 0x108) (BitVec.ofNat 32 (slot.toNat + 16)) .fcCtl 0 →
      Answers (.profileLoad port slot) q b ((b.onFc (fun e => { e with profLoad := some slot.toNat })).profStatus true 0)) ∧
    (Takes b (pgFc + 0x108) (BitVec.ofNat 32 (slot.toNat + 32)) .fcCtl 0 →
      Answers (.profileEmpty port slot) q b ((b.onFc (fun e => { e with profs := smErase e.profs slot.toNat })).profReg slot.toNat)) ∧
    (Takes b (pgFc + 0x154) 1 .fcCtl 0 → Answers (.generate port) q b b.keyGenerate) ∧
    (Takes b (pgFc + 0x154) 2 .fcCtl 0 → Answers (.unwrap port) q b b.keyUnwrap) ∧
    (Takes b (pgFc + 0x154) 3 .fcCtl 0 → Answers (.wrapOut port) q b b.keyWrapOut) ∧
    (Takes b (pgFc + 0x154) 4 .fcCtl 0 → Answers (.clear port) q b b.keyClear) ∧
    (Takes b (pgFc + 0x15C) v .fcCtl 0 → Answers (.keyEpochWrite port v) q b ((b.putWord .fcCtl 0 (0x15C, v)).recUpdate id)) ∧
    (Takes b (pgBooth k.toNat + 0x100) (keyed key 1) .fcBooth k.toNat → Answers (.bringUp port k key) q b (b.bringUp k.toNat)) ∧
    (Takes b (pgBooth k.toNat + 0x100) (keyed key 2) .fcBooth k.toNat → Answers (.drain port k key) q b (b.drain k.toNat)) ∧
    (Takes b (pgBooth k.toNat + 0x100) (keyed key 3) .fcBooth k.toNat → Answers (.abortDrain port k key) q b (b.abortDrain k.toNat)) ∧
    (Takes b (pgBooth k.toNat + 0x100) (keyed key 4) .fcBooth k.toNat → Answers (.powerOff port k key) q b (b.powerOff k.toNat)) ∧
    (Takes b (pgBooth k.toNat + 0x100) (keyed key 5) .fcBooth k.toNat → Answers (.forget port k key) q b (b.forget k.toNat)) ∧
    (Takes b (pgCz + 0x134) 1 .czCtl 0 → tblResult b.tblData = 0 →
      Answers (.tableCommit port) q b
        (let set := b.rdF (pgCz + 0x130) 0 3
         let x := b.wrF (pgCz + 0x138) 1 2 0
         ((x.holdImage set).onCz (fun e => { e with tables := smPut e.tables set b.tblData })).raise pgCz 1)) ∧
    (Takes b (pgCz + 0x134) 1 .czCtl 0 → tblResult b.tblData ≠ 0 →
      Answers (.tableCommit port) q b ((b.wrF (pgCz + 0x138) 1 2 (tblResult b.tblData)).raise pgCz 2)) ∧
    (Takes b (pgCz + 0x134) 2 .czCtl 0 →
      Answers (.tableEmpty port) q b
        (((b.holdImage (b.rdF (pgCz + 0x130) 0 3)).onCz (fun e => { e with tables := smErase e.tables (b.rdF (pgCz + 0x130) 0 3) })).raise pgCz 1)) ∧
    (Takes b (pgCz + 0x240) 1 .czCtl 0 → Answers (.jobCmdGo port) q b ((b.wrF (pgCz + 0x244) 0 0 1).submitJob b.jobDesc .firmware))

/-- The register writes of the memory system, the DMA engine, the search engine, the compute service and housekeeping: REGION_ENABLE,
REGION_DISABLE, MS_CFG_WRITE, ST_BUDGET_WRITE, START, STOP, RESUME, REQ_SW_WRITE, REQ_SWC_WRITE, PARTITION_ENABLE, PARTITION_DISABLE,
OP_CMD_GO, CL_DLV_WRITE, KHB, MASKED_CLEAR, SET_PENDING, CONFIRM, CLEAR_PENDING and DEV_RESET (R392, R408, R409, R425, R455, R460, R480,
R483, R635, R646, R660, R702, R716, R718). -/
def Obligations.DataSideRegisterCommands : Prop :=
  ∀ (q : List Instr) (b : Block) (port ch : BitVec 6) (k : BitVec 3) (n : BitVec 4) (v : W32) (key : BitVec 16) (slot : Bool), b.dark = false →
    (Takes b (pgMs + 0x13C) (withOp v 9 10 1) .msCtl 0 →
      Answers (.regionEnable port v) q b
        (let x := b.putWord .msCtl 0 (0x13C, withOp v 9 10 1); x.regionStart x.selRegion .on)) ∧
    (Takes b (pgMs + 0x13C) (withOp v 9 10 2) .msCtl 0 →
      Answers (.regionDisable port v) q b
        (let x := b.putWord .msCtl 0 (0x13C, withOp v 9 10 2); x.regionStart x.selRegion .off)) ∧
    (Takes b (pgMs + 0x100) v .msCtl 0 → Answers (.msCfgWrite port v) q b (b.putWord .msCtl 0 (0x100, v))) ∧
    (Takes b (pgStg + 0x100) v .msStg 0 → Answers (.stBudgetWrite port v) q b (b.putWord .msStg 0 (0x100, v))) ∧
    (Takes b (pgDmCh ch.toNat + 0x110) 1 .dmCh ch.toNat →
      Answers (.start port ch) q b (b.setChan ch.toNat { st := 1, pc := b.chPcReg ch.toNat })) ∧
    (Takes b (pgDmCh ch.toNat + 0x110) 2 .dmCh ch.toNat →
      Answers (.stop port ch) q b ((b.modChan ch.toNat (fun c => { c with st := 3, waiting := c.mid && c.waiting })).chBoundary ch.toNat)) ∧
    (Takes b (pgDmCh ch.toNat + 0x110) 3 .dmCh ch.toNat →
      Answers (.resume port ch) q b (b.modChan ch.toNat (fun c => { c with st := 1, spin := 0 }))) ∧
    (Takes b (pgDm + 0x120 + 4 * k.toNat) v .dmCtl 0 →
      Answers (.reqSwWrite port k v) q b (b.each (b.swLines k.toNat v) Block.lineSet)) ∧
    (Takes b (pgDm + 0x160 + 4 * k.toNat) v .dmCtl 0 →
      Answers (.reqSwcWrite port k v) q b (b.each (b.swLines k.toNat v) Block.lineClr)) ∧
    (Takes b (pgSeB k.toNat + 0x104) (withOp v 8 9 1) .seBank k.toNat →
      Answers (.partitionEnable port k v) q b
        (let x := b.putWord .seBank k.toNat (0x104, withOp v 8 9 1); x.partEnable k.toNat (x.selPart k.toNat))) ∧
    (Takes b (pgSeB k.toNat + 0x104) (withOp v 8 9 2) .seBank k.toNat →
      Answers (.partitionDisable port k v) q b
        (let x := b.putWord .seBank k.toNat (0x104, withOp v 8 9 2); x.startClear false k.toNat (x.selPart k.toNat))) ∧
    (Takes b (pgSe + 0x180) 1 .seCtl 0 →
      Answers (.opCmdGo port) q b ((b.wrF (pgSe + 0x184) 0 0 1).seRequest .fw 0 0xFF b.opReq false)) ∧
    (Takes b (pgCl n.toNat + 0x108) v .cxCluster n.toNat → v.getLsbD 14 = true → b.dlvOn n.toNat = false →
      Answers (.clDlvWrite port n v) q b ((b.putWord .cxCluster n.toNat (0x108, v)).dlvStart n.toNat)) ∧
    (Takes b (pgHk + 0x408) v .hk 0 → Answers (.khb port v) q b (b.onHk (fun h => { h with khb := smPut h.khb (fld v 0 1) b.usec }))) ∧
    (Takes b (pgHk + 0x128) 4 .hk 0 →
      Answers (.maskedClear port) q b (b.modInp (b.rdF (pgHk + 0x120) 0 3) (fun x => { x with masked := false }))) ∧
    (Takes b (pgHk + 0x144) (keyed key (if slot then 5 else 1)) .hk 0 → Answers (.setPending port key slot) q b (b.fwCmd 1 slot)) ∧
    (Takes b (pgHk + 0x144) (keyed key 2) .hk 0 → Answers (.confirm port key) q b (b.fwCmd 2 false)) ∧
    (Takes b (pgHk + 0x144) (keyed key 3) .hk 0 → Answers (.clearPending port key) q b (b.fwCmd 3 false)) ∧
    (Takes b (pgHk + 0x150) v .hk 0 → b.devResetIgnored .hk 0x150 = false → Answers (.devReset port v) q b (b.deviceReset 5))

/-- The I/O rows: each is its opcode, fetched through its queue's lane while the lane may fetch from the queue, and sequenced as the
sequencer's turn and the collision table let it (R96, R99, R102-R108, R114, R115). -/
def Obligations.IoCommandsEnter : Prop :=
  ∀ (q : List Instr) (b x : Block) (qc : BitVec 14) (e : Sqe) (ended : Option Stat), b.dark = false → b.mayFetch qc.toNat = true →
    (Takeable b qc.toNat (withOpc e 0x00) ended x → Answers (.flush qc e) q b (ioEnters x qc.toNat (withOpc e 0x00) ended)) ∧
    (Takeable b qc.toNat (withOpc e 0x01) ended x → Answers (.write qc e) q b (ioEnters x qc.toNat (withOpc e 0x01) ended)) ∧
    (Takeable b qc.toNat (withOpc e 0x02) ended x → Answers (.read qc e) q b (ioEnters x qc.toNat (withOpc e 0x02) ended)) ∧
    (Takeable b qc.toNat (withOpc e 0x05) ended x → Answers (.compare qc e) q b (ioEnters x qc.toNat (withOpc e 0x05) ended)) ∧
    (Takeable b qc.toNat (withOpc e 0x08) ended x → Answers (.writeZeroes qc e) q b (ioEnters x qc.toNat (withOpc e 0x08) ended)) ∧
    (Takeable b qc.toNat (withOpc e 0x09) ended x → Answers (.datasetManagement qc e) q b (ioEnters x qc.toNat (withOpc e 0x09) ended)) ∧
    (Takeable b qc.toNat (withOpc e 0x0C) ended x → Answers (.verify qc e) q b (ioEnters x qc.toNat (withOpc e 0x0C) ended)) ∧
    (Takeable b qc.toNat (withOpc e 0x81) ended x → Answers (.orderedWrite qc e) q b (ioEnters x qc.toNat (withOpc e 0x81) ended)) ∧
    (Takeable b qc.toNat (withOpc e 0x82) ended x → Answers (.orderedRead qc e) q b (ioEnters x qc.toNat (withOpc e 0x82) ended)) ∧
    (Takeable b qc.toNat (withOpc e 0x85) ended x → Answers (.orderedFlush qc e) q b (ioEnters x qc.toNat (withOpc e 0x85) ended))

/-- The events of the command engine: RESET_DONE, SQ_TAIL_DOORBELL, CQ_HEAD_DOORBELL, LANE_FETCH_SLOT, ADMIN_FETCH, SEQUENCE_ASSIGN,
SEQUENCER_RESUME, COMMAND_UNBLOCK, ORDERED_START, FLUSH_COMPLETE, VF_FLR, PF_FLR, CC_EN_CLEAR, CONTROLLER_ENABLE, NVM_SUBSYSTEM_RESET,
LANE_CHECK, LANE_RETURN and LANE_SAT_WINDOW (R101-R118, R129, R133-R135, R151, R152, R166, R201, R717, R778, R779). -/
def Obligations.CommandEngineEvents : Prop :=
  ∀ (q : List Instr) (b : Block) (cntlid qid v cid : BitVec 16) (lane : BitVec 4) (entry : Option Sqe) (i : Nat) (x : Block) (seq : W64)
    (vf : BitVec 6) (c : Cmd) (r : CtlReset) (rs : List CtlReset) (posted : Bool) (f : Fetched) (p : Nat × Sqe × Option Stat), b.dark = false →
    (b.ce.resets = r :: rs → r.tenant = none →
      Answers .resetDone q b (((b.onCe (fun e => { e with resets := rs })).each r.qcs Block.qcFree).raise pgCe 2)) ∧
    (b.sqOf cntlid.toNat qid.toNat = some i → v.toNat ≤ qSqSize (b.qc i) → qIsPcie (b.qc i) = true →
      Answers (.sqTailDoorbell cntlid qid v) q b (b.qcF i 160 175 v.toNat)) ∧
    (b.cqOf cntlid.toNat qid.toNat = some i → v.toNat ≤ qCqSize (b.qc i) → qIsPcie (b.qc i) = true →
      Answers (.cqHeadDoorbell cntlid qid v) q b ((b.qcF i 320 335 v.toNat).drainCq i)) ∧
    (b.pickFetch lane.toNat = some (i, x) →
      (qIsTcp (x.qc i) = false → Answers (.laneFetchSlot lane entry) q b (match entry with
        | some e => x.passLane i e
        | none => x.faultQc i 0x0101 0)) ∧
      (qIsTcp (x.qc i) = true → x.fp.capsules.find? (fun c => c.1 == i) = some p → Answers (.laneFetchSlot lane entry) q b
        ((x.onFp (fun f => { f with capsules := f.capsules.erase p })).passLane i p.2.1 p.2.2))) ∧
    (b.adminQc cntlid.toNat = some i → qState (b.qc i) = 1 → b.fetchStop = false → b.hasEntry i = true → qIsTcp (b.qc i) = false →
      Answers (.adminFetch cntlid (some (cid, posted))) q b
        ((b.advanceHead i).onCe (fun e => { e with admin := e.admin ++ [(i, cid.toNat, posted)] })) ∧
      Answers (.adminFetch cntlid none) q b (b.faultQc i 0x0101 0)) ∧
    (b.nextFetched = some f → Answers .sequenceAssign q b (sequenced b f)) ∧
    (b.nextFetched = some f → b.ce.stalled = true → b.coll + b.entriesOf f ≤ 65536 → Answers .sequencerResume q b (sequenced b f)) ∧
    Answers (.commandUnblock seq) q b ((b.tryStart seq.toNat).progRun seq.toNat) ∧
    (b.cmd seq.toNat = some c → c.ordered = true → Answers (.orderedStart seq) q b ((b.tryStart seq.toNat).progRun seq.toNat)) ∧
    (b.cmd seq.toNat = some c → c.op = .flush → c.started = true → (∀ w ∈ c.covers, b.cmd w = none) →
      Answers (.flushComplete seq posted) q b ((b.complete seq.toNat stOk posted).lostWith c posted)) ∧
    ((b.vfsOf false).contains vf.toNat = true → Answers (.vfFlr vf) q b (b.ctlrReset [vf.toNat])) ∧
    Answers (.pfFlr false) q b (b.pfFlr false) ∧
    ((b.ctlr cntlid.toNat).en = true → cntlid.toNat < 0x41 → Answers (.ccEnClear cntlid) q b (b.ctlrReset [cntlid.toNat])) ∧
    (b.pcieCtlr cntlid.toNat = true → Answers (.controllerEnable cntlid) q b (b.modCtlr cntlid.toNat (fun k => { k with en := true }))) ∧
    Answers (.nvmSubsystemReset false) q b (b.deviceReset 5) ∧
    (b.laneUp lane.toNat = true →
      Answers (.laneCheck lane) q b
        (let y := (b.record pgCe { code := 0x0105, sev := .corrected, detail := detailOf [(0, lane.toNat)] }).onCe (fun e =>
            { e with laneOut := e.laneOut ++ [lane.toNat] })
         y.rebindAll lane.toNat [] (y.qcsWhere (fun k => qSqEn k && !qIsAdmin k && qLane k == lane.toNat)))) ∧
    Answers (.laneReturn lane true) q b { b with ce := { b.ce with laneOut := b.ce.laneOut.filter (· ≠ lane.toNat) } } ∧
    Answers (.laneReturn lane false) q b b ∧
    Answers .laneSatWindow q b
      (if ∃ n, n < 16 ∧ 12500 ≤ (b.ce.laneLog.filter (fun e => e.1 == n && e.2.1 / 1000 == b.usec / 1000)).length then
        (b.elapseTo ((b.usec / 1000 + 1) * 1000)).raise pgCe 3
      else b.elapseTo ((b.usec / 1000 + 1) * 1000))

/-- The local queue's doorbells and commands (R142-R145): LQ_DOORBELL, LQ_COMPLETION_HEAD, LQ_FLUSH, LQ_WRITE, LQ_READ, LQ_DEALLOCATE. -/
def Obligations.LocalQueueCommands : Prop :=
  ∀ (q : List Instr) (b : Block) (ctx : BitVec 12) (v : W32) (cmd : BitVec 256) (l : LqSt), b.dark = false → smFind b.ce.lq ctx.toNat = some l →
    (l.refuses v = false →
      Answers (.lqDoorbell ctx v) q b (b.lqSubmit ctx.toNat v.toNat (BitVec.ofNat 256 (b.load (l.base + 32 * v.toNat) 32)))) ∧
    (l.refuses v = true → Answers (.lqDoorbell ctx v) q b (b.lqTrap ctx.toNat v.toNat l)) ∧
    (let n := min ((v.toNat % 32 + 32 - l.head) % 32) l.ring.length
     Answers (.lqCompletionHead ctx v) q b { b with ce := { b.ce with lq := smPut b.ce.lq ctx.toNat { l with
      head := v.toNat % 32
      ring := l.ring.drop n
      busy := l.busy.filter (fun t => !(l.ring.take n).contains t) } } }) ∧
    (let n := cmd.toNat / 256 % 32
     let x := sequenced (b.lqSubmit ctx.toNat n cmd) (b.lqFetched ctx.toNat n cmd)
     let y := b.lqTrap ctx.toNat n l
     (cmd.toNat % 256 = 0 → Answers (.lqFlush ctx cmd) q b (if l.busy.contains n then y else x)) ∧
      (cmd.toNat % 256 = 1 → Answers (.lqWrite ctx cmd) q b (if l.busy.contains n then y else x)) ∧
      (cmd.toNat % 256 = 2 → Answers (.lqRead ctx cmd) q b (if l.busy.contains n then y else x)) ∧
      (cmd.toNat % 256 = 9 → Answers (.lqDeallocate ctx cmd) q b (if l.busy.contains n then y else x)))

/-- The admin commands with firmware (R101, R106, R116, R127, R132, R137-R139, R166-R168, R223, R224, R271-R278, R689): ABORT,
SET_FEATURES_ORDERED_QUEUE, GET_FEATURES_ORDERED_QUEUE, SET_FEATURES_FETCH_SEQUENCE_REPORT, SET_FEATURES_POWER_MANAGEMENT,
SET_FEATURES_ARBITRATION, INTERRUPT_COALESCING, INTERRUPT_VECTOR_CONFIGURATION, KEEP_ALIVE, ASYNC_EVENT_REQUEST, DOORBELL_BUFFER_CONFIG,
VIRTUALIZATION_MANAGEMENT, CREATE_IO_SUBMISSION_QUEUE, CREATE_IO_COMPLETION_QUEUE, DELETE_IO_SUBMISSION_QUEUE,
DELETE_IO_COMPLETION_QUEUE, NAMESPACE_MANAGEMENT, FIRMWARE_COMMIT, ACTIVATION_TIMEOUT, FORMAT_NVM and SANITIZE. -/
def Obligations.AdminCommands : Prop :=
  ∀ (q : List Instr) (b : Block) (qc ctx : BitVec 14) (cid sqid target : BitVec 16) (w : W32) (ps : BitVec 5) (rec : BitVec 512) (c : Cmd) (i : Nat)
    (nsx : BitVec 10) (tenant : BitVec 6) (shift12 slot invert : Bool) (lbas : W64) (entry : BitVec 5) (svn : BitVec 8) (nsid : W32) (ses : BitVec 2)
    (passes : BitVec 4) (a : Nat × Nat × Nat × Bool), b.dark = false → b.isAdminQc qc.toNat = true → b.ce.admin.any (fun a => a.1 == qc.toNat && a.2.1 == cid.toNat) = true →
    let k := qCntlid (b.qc qc.toNat)
    (b.sqOf k sqid.toNat = some i → b.ce.cmds.find? (fun c => decide (c.src = .queue i) && c.cid == target.toNat) = some c →
      c.abortable = true → c.op ≠ .program →
      Answers (.abort qc cid sqid target) q b ((b.complete c.seq stAborted).admDone qc.toNat cid 0 stOk)) ∧
    (b.ioQueueOf qc.toNat w = some i →
      Answers (.setFeaturesOrderedQueue qc cid w) q b ((b.qcF i 10 10 (fld w 16 16)).admDone qc.toNat cid 0 stOk)) ∧
    (b.ioQueueOf qc.toNat w = some i → Answers (.getFeaturesOrderedQueue qc cid w) q b
      (b.admDone qc.toNat cid (BitVec.ofNat 32 (fld w 0 15 + (if qOrdered (b.qc i) then 65536 else 0))) stOk)) ∧
    Answers (.setFeaturesFetchSequenceReport qc cid w) q b
      ((b.each (b.qcsWhere (fun r => qSqEn r && !qIsAdmin r && qCntlid r == k)) (fun b i => b.qcF i 432 432 (fld w 0 0))).admDone qc.toNat cid 0 stOk) ∧
    Answers (.setFeaturesPowerManagement qc cid ps) q b (b.powerFeature qc.toNat cid ps.toNat) ∧
    Answers (.setFeaturesArbitration qc cid w) q b ((b.modCtlr k (fun t => { t with arb := w })).admDone qc.toNat cid 0 stOk) ∧
    Answers (.interruptCoalescing qc cid w) q b ((b.modCtlr k (fun t => { t with coal := w.setWidth 16 })).admDone qc.toNat cid 0 stOk) ∧
    Answers (.interruptVectorConfiguration qc cid w) q b ((b.modCtlr k (fun t => { t with
      noCoal := t.noCoal.filter (fun v => v != fld w 0 15) ++ (if w.getLsbD 16 then [fld w 0 15] else []) })).admDone qc.toNat cid 0 stOk) ∧
    Answers (.keepAlive qc cid) q b ((b.modCtlr k (fun t => { t with kaAt := b.usec })).admDone qc.toNat cid 0 stOk) ∧
    ((b.ctlr k).events = [] → (b.ctlr k).aers.contains cid.toNat = false → Answers (.asyncEventRequest qc cid) q b (b.modCtlr k (fun t => { t with aers := t.aers ++ [cid.toNat] }))) ∧
    Answers (.doorbellBufferConfig qc cid) q b (b.admDone qc.toNat cid 0 (statU 0 0x01)) ∧
    Answers (.virtualizationManagement qc cid) q b (b.admDone qc.toNat cid 0 (statU 0 0x01)) ∧
    (let new := b.qcNew ctx.toNat rec
     qCntlid new = k → b.qcWriteOk ctx.toNat rec = true →
      (qSqEn new = true → qType new = 2 → b.sqOf k (qSqid new) = none → 1 ≤ qSqid new → qSqid new ≤ queuePairs k →
        Answers (.createIoSubmissionQueue qc cid ctx rec) q b ((b.qcApply ctx.toNat rec).admDone qc.toNat cid 0 stOk)) ∧
      (qCqEn new = true → b.cqOf k (qCqid new) = none → 1 ≤ qCqid new → qCqid new ≤ queuePairs k →
        Answers (.createIoCompletionQueue qc cid ctx rec) q b ((b.qcApply ctx.toNat rec).admDone qc.toNat cid 0 stOk))) ∧
    (b.sqOf k sqid.toNat = some i → qIsAdmin (b.qc i) = false →
      Answers (.deleteIoSubmissionQueue qc cid sqid) q b ((((b.endQueue i).qcF i 0 0 0).qcF i 18 20 0).admDone qc.toNat cid 0 stOk)) ∧
    (b.cqOf k sqid.toNat = some i → (qSqEn (b.qc i) && qIsAdmin (b.qc i)) = false → b.qcsWhere (fun r => qSqEn r && qCqCtx r == i) = [] →
      Answers (.deleteIoCompletionQueue qc cid sqid) q b
        (((b.dropWaits (fun w => qCqCtx (b.qc w.qc) == i)).qcF i 192 192 0).admDone qc.toNat cid 0 stOk)) ∧
    (let shift := if shift12 then 12 else 9
     let all := b.nsBytes nsx.toNat (lbas.toNat * 2 ^ shift)
     let units := (all.map (fun x => unitCount x.2)).sum
     let r := b.region entry.toNat
     b.nsValid nsx.toNat = false → (all.map (·.2)).sum ≤ 2 * (b.spaceUser * 256) → r.st = .on → r.light = false → r.owner = 0 →
     6 * units ≤ r.size * 2 ^ 20 → units ≤ 2 ^ 35 →
      Answers (.namespaceManagement qc cid nsx tenant shift12 lbas entry) q b
        ((((b.onCe (fun e => { e with ns := smSet 0xC00 e.ns nsx.toNat (BitVec.ofNat 32 (tenant.toNat + 64 + shift * 256)) })).onFt (fun t =>
          { t with nsze := smSet 0 t.nsze nsx.toNat lbas.toNat })).layMap (mapAreas (r.base * 2 ^ 20) all)).admDone qc.toNat cid 0 stOk)) ∧
    (b.hk.fused ≤ svn.toNat → b.ce.activation = none →
      Answers (.firmwareCommit qc cid slot true true svn) q b
        (let x := b.onHk (fun h => { h with slotSvn := if slot then (h.slotSvn.1, svn.toNat) else (svn.toNat, h.slotSvn.2) })
         ((x.setFetchStop 1).onCe (fun e => { e with activation := some (qc.toNat, cid.toNat, x.usec, slot) })).actDone)) ∧
    (b.ce.activation = some a → b.inflight ≠ 0 →
      Answers .activationTimeout q b ((b.elapseTo (a.2.2.1 + 150000)).actEnds a.1 a.2.1 (statU 1 0x12))) ∧
    (1 ≤ nsid.toNat → nsid.toNat ≤ 1024 → b.nsValid (nsid.toNat - 1) = true → ses.toNat ≤ 2 → b.ft.san = none → b.ft.fmt = none →
      b.nsBusy (nsid.toNat - 1) = false → b.ftLive = true →
      Answers (.formatNvm qc cid nsid shift12 ses) q b
        ((b.onFt (fun t => { t with
          fmt := some ⟨nsid.toNat - 1, if shift12 then 12 else 9, ses.toNat, (qc.toNat, cid.toNat)⟩ })).recUpdate id)) ∧
    (b.ftLive = true → b.ft.san = none → b.ft.fmt = none →
      Answers (.sanitize qc cid 4 passes w invert false) q b
        ((b.sanStart ⟨.crypto, 0, if passes.toNat = 0 then 16 else passes.toNat, w, invert, 0⟩).admDone qc.toNat cid 0 stOk))

/-- Host data, the PCI Express links and the sideband: HOST_DATA_PULL, PIECE_DURABLE, STAGING_RESERVATION, WPOOL_WAIT, PERST_ASSERT,
PERST_DEASSERT, LINK_DOWN, LINK_UP, L1_2_ENTRY, L1_2_EXIT, BASIC_MANAGEMENT_COMMAND, MCTP_REQUEST and SMBUS_RESET (R122, R154, R160,
R170-R177, R203). -/
def Obligations.HostPortCommands : Prop :=
  ∀ (q : List Instr) (b : Block) (seq : W64) (piece : BitVec 16) (off len : BitVec 20) (data : List (Nat × Byte)) (p : Piece) (c : Cmd) (qc : Nat)
    (posted split : Bool) (first : BitVec 17) (l : BitVec 1) (rate : BitVec 3) (width : BitVec 5) (addr : BitVec 7) (req : W32) (pec : BitVec 8), b.dark = false →
    (b.pulling seq.toNat piece.toNat = some p →
      (off.toNat + len.toNat ≤ p.len → p.landed + len.toNat ≤ p.len →
        Answers (.hostDataPull seq piece off len data .ok) q b
          (b.land (b.portOf seq.toNat) seq.toNat piece.toNat off.toNat len.toNat (mkBytes (data.filter (fun x => decide (x.1 < len.toNat)))))) ∧
      (b.cmd seq.toNat = some c → c.src = .queue qc →
        Answers (.hostDataPull seq piece off len data .timeout) q b
          (((b.hpRecord qc seq.toNat (p.off - b.cmdStart c + off.toNat) 0x0101).raise (pgHp (b.linkOf (qCntlid (b.qc qc)))) 4).complete seq.toNat
            (statU 0 0x04)) ∧
        Answers (.hostDataPull seq piece off len data .piGuard) q b
          ((b.hpRecord qc seq.toNat (p.off - b.cmdStart c + off.toNat) 0x0102).complete seq.toNat (statU 2 0x82)))) ∧
    (b.pulling seq.toNat piece.toNat = none → b.cmd seq.toNat = some c → c.started = true → off.toNat + c.owed = b.cmdBytes c → len.toNat < c.owed →
      Answers (.hostDataPull seq piece off len data .ok) q b (b.modCmd seq.toNat (fun d => { d with
        capsule := some ((data.filter (fun x => decide (x.1 < len.toNat))).foldl (fun m x => smSet 0 m (off.toNat + x.1) x.2) (c.capsule.getD []))
        owed := d.owed - len.toNat }))) ∧
    (b.piece seq.toNat piece.toNat = some p → p.resv.isSome = true → p.durable = false → b.cmd seq.toNat = some c →
      Answers (.pieceDurable seq piece data posted) q b
        (let x := b.land (b.portOf seq.toNat) seq.toNat piece.toNat p.landed (p.len - p.landed)
          (mkBytes (data.filter (fun x => decide (x.1 < p.len - p.landed)))) posted
         if (x.cmd seq.toNat).isNone then x.lostWith c posted else x)) ∧
    Answers (.stagingReservation first) q b (b.reserveStep first.toNat) ∧
    (b.piece seq.toNat piece.toNat = some p → p.resv = none → p.waited = false →
      Answers (.wpoolWait seq piece) q b
        (((b.elapseTo (p.asked + 1001)).modPiece seq.toNat piece.toNat (fun x => { x with waited := true })).raise (pgHp 0) 6)) ∧
    (b.isSplit = false → Answers .perstAssert q b ((((b.linkDown 0).raise (pgHp 0) 3).onHp (fun h => { h with perst := true })).setLevel 0 false)) ∧
    (b.isSplit = true → Answers .perstAssert q b
      ((((((b.linkDown 0).linkDown 1).raise (pgHp 0) 3).raise (pgHp 1) 3).onHp (fun h => { h with perst := true })).setLevel 0 false)) ∧
    Answers (.perstDeassert split) q b
      (let x := (b.onHp (fun h => { h with perst := false, split := some (h.split.getD split) })).setLevel 0 true
       let y := (x.wrF (pgHp 0 + 0x100) 10 10 (if x.isSplit then 1 else 0)).wrF (pgHp 1 + 0x100) 10 10 (if x.isSplit then 1 else 0)
       y.each (if y.isSplit then [0, 1] else [0]) (fun z l => (z.linkTicket l).2)) ∧
    (b.linkIsUp l.toNat = true → Answers (.linkDown l) q b (b.linkDown l.toNat)) ∧
    (b.trainOk l.toNat rate.toNat width.toNat = true → (b.linkTicket l.toNat).1 = .granted →
      Answers (.linkUp l rate width) q b
        (let x := (b.linkTicket l.toNat).2
         let top := x.rdF (pgHp l.toNat + 0x100) 11 13
         let y := x.wrF (pgHp l.toNat + 0x100) 0 9 (rate.toNat + width.toNat * 8 + (if 3 ≤ rate.toNat then 256 else 0) + 512)
         let z := ((y.onHp (fun h => { h with trained := smPut h.trained l.toNat top })).pllOn 11).raise (pgHp l.toNat) 0
         if rate.toNat < top ∨ width.toNat < (if z.isSplit then 8 else 16) then z.raise (pgHp l.toNat) 2 else z)) ∧
    (b.linkIsUp l.toNat = true → b.hp.l12.contains l.toNat = false →
      Answers (.l12Entry l) q b ((b.onHp (fun h => { h with l12 := h.l12 ++ [l.toNat] })).untick (.link l.toNat))) ∧
    (b.hp.l12.contains l.toNat = true → (b.linkTicket l.toNat).2.holds (.link l.toNat) = true →
      Answers (.l12Exit l) q b ((b.linkTicket l.toNat).2.onHp (fun h => { h with l12 := h.l12.filter (· ≠ l.toNat) }))) ∧
    (b.hp.l12.contains l.toNat = true → (b.linkTicket l.toNat).2.holds (.link l.toNat) = false → 3 ≤ (b.linkTicket l.toNat).2.pa.ps →
      (((b.linkTicket l.toNat).2.psWake.linkTicket l.toNat).2.redivide).holds (.link l.toNat) = true →
      Answers (.l12Exit l) q b
        ((((b.linkTicket l.toNat).2.psWake.linkTicket l.toNat).2.redivide).onHp (fun h => { h with l12 := h.l12.filter (· ≠ l.toNat) }))) ∧
    Answers .basicManagementCommand q b b.basicMi ∧
    (b.rdF (pgHp 0 + 0x120) 7 7 = 1 → addr.toNat = b.rdF (pgHp 0 + 0x120) 0 6 → pec = mctpPec addr req →
      (b.ce.activation = none → b.hk.failover = none → Answers (.mctpRequest ⟨addr, req, pec⟩) q b (b.send (.mctp req))) ∧
      ((b.ce.activation.isSome = true ∨ b.hk.failover.isSome = true) →
        Answers (.mctpRequest ⟨addr, req, pec⟩) q b (b.onHp (fun h => { h with mctp := h.mctp ++ [req] })))) ∧
    ((b.rdF (pgHp 0 + 0x120) 7 7 ≠ 1 ∨ addr.toNat ≠ b.rdF (pgHp 0 + 0x120) 0 6 ∨ pec ≠ mctpPec addr req) →
      Answers (.mctpRequest ⟨addr, req, pec⟩) q b b) ∧
    ((b.inp 11).level = true → Answers .smbusReset q b b) ∧
    ((b.inp 11).level = false → Answers .smbusReset q b
      (((b.elapseTo ((b.inp 11).since + 35001)).modInp 11 (fun x => { x with since := (b.elapseTo ((b.inp 11).since + 35001)).usec })).raise (pgHp 0) 5))

/-- Connections of the fabric port: SYN, SESSION_INSTALL, SEGMENT_RECEIVE, TLS_HANDSHAKE, ICREQ, FABRICS_CONNECT, PROPERTY_SET,
COMMAND_CAPSULE, H2CDATA, TLS_RESUME, CONNECTION_CLOSE, SESSION_NUMBER_REUSE and the timeouts ICREQ_TIMEOUT, H2C_TIMEOUT,
KEEP_ALIVE_TIMEOUT and RETRANSMISSION_TIMEOUT; ETH_LINK_UP, ETH_LINK_DOWN and FEC_DEGRADE (R179-R201, R206, R497). -/
def Obligations.FabricPortCommands : Prop :=
  ∀ (q : List Instr) (b : Block) (n : BitVec 14) (x : Sess) (f : Flow) (fr : Frame) (opts offer : TcpOpts) (irs iss sq ack : W32)
    (sl : BitVec 16) (kind : SegKind) (tenant : BitVec 6) (tls hd dd : Bool) (keys : TlsKeys) (acl : Nat × SeEnt)
    (pfv : BitVec 16) (hpda : BitVec 8) (maxR2t : BitVec 32) (cid cntlid kato : BitVec 16) (ctx : BitVec 14)
    (rec : BitVec 512) (v : W32) (e : Sqe) (qc : Nat) (r : R2t) (rs : List R2t) (c : Nat × Nat) (k i : Nat) (cmd : Cmd) (pc : Piece)
    (o len : BitVec 21) (data : List (Nat × Byte)) (p : BitVec 2) (l : BitVec 3), b.dark = false →
    (b.variant.hasUnit 7 = true → takenIn f fr = true → (b.lookup 4 (aclKey f)).1 = none → Answers (.syn f fr opts) q b ((b.lookup 4 (aclKey f)).2.raise pgFp 0)) ∧
    (b.variant.hasUnit 7 = true → takenIn f fr = true → (b.lookup 4 (aclKey f)).1 = some acl →
      (acl.2.result.toNat % 4 = 0 → Answers (.syn f fr opts) q b ((b.lookup 4 (aclKey f)).2.raise pgFp 0)) ∧
      (acl.2.result.toNat % 4 = 1 → Answers (.syn f fr opts) q b (((b.lookup 4 (aclKey f)).2.send (.rstSyn f.lport)).raise pgFp 0)) ∧
      (acl.2.result.toNat % 4 = 2 → (b.lookup 4 (aclKey f)).2.sessFree = true → (b.lookup 4 (aclKey f)).2.qcFreeOne = true →
        Answers (.syn f fr opts) q b (((b.lookup 4 (aclKey f)).2.toFw 0).onFp (fun z => { z with
          accepted := z.accepted.filter (fun y => y.1 != f) ++ [(f, BitVec.ofNat 6 (acl.2.result.toNat / 4), opts)] }))) ∧
      (acl.2.result.toNat % 4 = 2 → (b.lookup 4 (aclKey f)).2.sessFree = false →
        Answers (.syn f fr opts) q b (((b.lookup 4 (aclKey f)).2.send (.rstSyn f.lport)).raise pgFp 1))) ∧
    (takenIn f fr = false → Answers (.syn f fr opts) q b b ∧ Answers (.segmentReceive f fr kind) q b b) ∧
    (b.variant.hasUnit 7 = true → b.hk.failover = none → b.sess n.toNat = none → b.fp.cooling.any (fun z => z.1 == n.toNat) = false →
      b.fp.accepted.find? (fun y => y.1 == f) = some (f, tenant, offer) → optsWithin opts offer = true → b.roomiest = some k →
      (b.freeIx k 0).head? = some i →
      Answers (.sessionInstall n f opts irs iss tls) q b
        ((b.putEntry k i ⟨connKey f, 0, 0, BitVec.ofNat 32 n.toNat, 0, true⟩).onFp (fun z =>
          { z with sess := smPut z.sess n.toNat (b.newSess f tenant opts irs iss tls), accepted := z.accepted.filter (fun y => y.1 != f) }))) ∧
    (b.variant.hasUnit 7 = true → takenIn f fr = true →
      Answers (.segmentReceive f fr .fragment) q b { b with fp := { b.fp with frags := b.fp.frags + 1 } }) ∧
    (b.variant.hasUnit 7 = true → takenIn f fr = true → (b.sessOf (connKey f)).1 = some n.toNat → (b.sessOf (connKey f)).2.sess n.toNat = some x → x.flow = f → kind ≠ .fragment →
      (b.sessOf (connKey f)).2.fp.kept.any (fun z => z.1 == n.toNat) = false →
      (x.held = false → Answers (.segmentReceive f fr (.good sq sl ack)) q b
        (let y := (b.sessOf (connKey f)).2
         let z := y.goodSeg x sq sl ack
         let w := y.modSess n.toNat (fun _ => z)
         if sl = 0 then w else w.send (.ack n.toNat z.rcvNxt (w.rxWindow z) (z.opts.ecn && fr.ce)))) ∧
      (x.held = false → Answers (.segmentReceive f fr .badPdu) q b ((b.sessOf (connKey f)).2.pduError n.toNat)) ∧
      (x.held = true → Answers (.segmentReceive f fr kind) q b
        ((b.sessOf (connKey f)).2.onFp (fun z => { z with kept := z.kept ++ [(n.toNat, .segment kind fr.ce)] })))) ∧
    (b.sess n.toNat = some x → x.phase = .tls → b.hk.failover = none →
      (keys.suite ≠ .other → Answers (.tlsHandshake n (some keys)) q b (b.modSess n.toNat (fun y => { y with phase := .icreq, keys := some keys }))) ∧
      (keys.suite = .other → Answers (.tlsHandshake n (some keys)) q b (b.closeSess n.toNat)) ∧
      Answers (.tlsHandshake n none) q b (b.closeSess n.toNat)) ∧
    (b.sess n.toNat = some x → x.held = false → b.fp.kept.any (fun z => z.1 == n.toNat) = false →
      (x.phase = .icreq → hpda.toNat ≤ 31 →
        Answers (.icreq n 0 hpda hd dd maxR2t) q b
          ((b.modSess n.toNat (fun y => { y with phase := .connect, digests := (hd, dd), maxR2t := maxR2t.toNat })).send
            (.icResp n.toNat 65536 hd dd))) ∧
      (x.phase = .icreq → (pfv ≠ 0 ∨ 31 < hpda.toNat) → Answers (.icreq n pfv hpda hd dd maxR2t) q b (b.pduError n.toNat)) ∧
      (b.fetchStop = false → x.phase = .connect → b.fp.sess.any (fun z => z.2.isAdmin && z.2.cntlid == cntlid.toNat) = false →
        b.connectOk n.toNat x true cntlid.toNat ctx.toNat rec = true →
        Answers (.fabricsConnect n true true cntlid kato ctx rec) q b
          (let y := (b.qcApply ctx.toNat rec).modSess n.toNat (fun y => { y with phase := .ready, qc := some ctx.toNat, cntlid := cntlid.toNat, isAdmin := true })
           (y.modCtlr cntlid.toNat (fun z => { z with kato := kato.toNat, kaAt := y.usec })).send
            (.capsule n.toNat (BitVec.ofNat 32 cntlid.toNat) 0 0 0 stOk))) ∧
      (b.fetchStop = false → x.isAdmin = true → x.phase = .ready → v.getLsbD 0 = true →
        Answers (.propertySet n cid 0x14 v) q b ((b.send (.capsule n.toNat 0 0 0 cid.toNat stOk)).modCtlr x.cntlid (fun z => { z with en := true }))) ∧
      (x.qc = some qc → qSqEn (b.qc qc) = true →
        Answers (.commandCapsule n e 0 0 0 true) q b
          ((b.qcF qc 160 175 ((qSqTail (b.qc qc) + 1) % (qSqSize (b.qc qc) + 1))).onFp (fun z =>
            { z with capsules := z.capsules ++ [(qc, { e with data := none }, none)] }))) ∧
      (b.r2tFor n.toNat cid.toNat o.toNat len.toNat = some (r, cmd) → len.toNat ≤ 65536 → x.digests.2 = false →
        (let y := b.modSess n.toNat (fun z => { z with
          r2ts := (z.r2ts.map (fun t => if t = r then { t with off := t.off + len.toNat, len := t.len - len.toNat } else t)).filter (fun t => decide (t.len ≠ 0)) })
         y.piece r.seq r.piece = some pc →
          Answers (.h2cData n cid o len data 0 true) q b
            ((y.land (y.portOf r.seq) r.seq r.piece (o.toNat - (pc.off - y.cmdStart cmd)) len.toNat
              (mkBytes (data.filter (fun z => decide (z.1 < len.toNat))))).issueAll n.toNat r.seq))) ∧
      (b.fp.kept = [] → keys.suite ≠ .other →
        Answers (.tlsResume ⟨n, some keys⟩) q b (b.modSess n.toNat (fun y => { y with held := false, keys := some keys })))) ∧
    (x.held = true → b.sess n.toNat = some x →
      Answers (.commandCapsule n e len o v true) q b
        (b.onFp (fun z => { z with kept := z.kept ++ [(n.toNat, .capsule e len.toNat o.toNat v true)] }))) ∧
    Answers (.tlsResume ⟨n, none⟩) q b (b.modSess n.toNat (fun y => { y with held := false })).release ∧
    Answers (.connectionClose n) q b (b.closeSess n.toNat) ∧
    (b.fp.cooling.find? (fun z => z.1 == n.toNat) = some c →
      Answers (.sessionNumberReuse n) q b ((b.elapseTo c.2).onFp (fun f => { f with cooling := f.cooling.filter (fun d => d.1 ≠ n.toNat) }))) ∧
    (b.sess n.toNat = some x → (x.phase = .icreq ∨ x.phase = .tls) →
      Answers (.icreqTimeout n) q b ((b.elapseTo (x.since + 100000 * b.rdF (pgFp + 0x104) 12 19)).closeSess n.toNat)) ∧
    (b.sess n.toNat = some x → x.r2ts = r :: rs →
      Answers (.h2cTimeout n) q b
        (let y := b.elapseTo (r.sent + 100000 * b.rdF (pgFp + 0x104) 20 27)
         (y.free.2.send (.termReq n.toNat (y.free.1.toNat % 65536))).closeSess n.toNat)) ∧
    ((b.ctlr cntlid.toNat).kato ≠ 0 →
      Answers (.keepAliveTimeout cntlid) q b
        ((b.elapseTo ((b.ctlr cntlid.toNat).kaAt + 100000 * (b.ctlr cntlid.toNat).kato)).endAssoc cntlid.toNat)) ∧
    (b.sess n.toNat = some x → x.retries < b.rdF (pgFp + 0x104) 8 11 →
      Answers (.retransmissionTimeout n) q b
        (((b.elapse x.rto).send (.resend n.toNat)).modSess n.toNat (fun y => { y with retries := y.retries + 1, rto := min (2 * y.rto) 1000000 }))) ∧
    (b.has .fpPort p.toNat = true → b.rdF (pgFpP p.toNat + 0x104) l.toNat l.toNat = 1 →
      Answers (.ethLinkDown p l) q b
        (((b.wrF (pgFpP p.toNat + 0x104) l.toNat l.toNat 0).wrF (pgFpP p.toNat + 0x104) (8 + l.toNat) (8 + l.toNat) 0).raise (pgFpP p.toNat) 1) ∧
      Answers (.fecDegrade p l) q b ((b.wrF (pgFpP p.toNat + 0x104) (8 + l.toNat) (8 + l.toNat) 1).raise (pgFpP p.toNat) 2)) ∧
    (b.has .fpPort p.toNat = true → b.rdF (pgFpP p.toNat + 0x104) l.toNat l.toNat = 0 → b.holds (.eth p.toNat l.toNat) = true →
      b.rdF (pgFpP p.toNat + 0x100) (5 + l.toNat) (5 + l.toNat) = 1 →
      Answers (.ethLinkUp p l) q b (((b.wrF (pgFpP p.toNat + 0x104) l.toNat l.toNat 1).pllOn (12 + p.toNat)).raise (pgFpP p.toNat) 0))

/-- Flash translation in the background: COMPRESS_UNIT, PAGE_FILL_TIMEOUT, PIECE_COMMIT, VERIFY_BLOCK, VERIFY_DONE, RECLAIM_SELECT,
SOURCE_ERASE, RETIRE_DIE, CHECKPOINT_SEGMENT, MAP_REBUILD, REBUILD_DONE, BOOT_VERIFY, WEAR_SUMMARY, SANITIZE_STEP, SANITIZE_DONE and
AGE_UNIT_ELAPSED (R214, R217, R229, R235-R240, R244-R248, R254, R255, R265, R266, R272-R275, R365). -/
def Obligations.FlashTranslationCommands : Prop :=
  ∀ (q : List Instr) (b : Block) (nsx die : BitVec 10) (unit : BitVec 40) (seq intact : W64) (piece : BitVec 16) (block : BitVec 12)
    (rebuilt : Bool) (readable : List (BitVec 12)) (failed : List (BitVec 22)) (u : Staged) (p : Piece) (e : JEnt) (es : List JEnt) (x : San) (src : Nat), b.dark = false →
    let k := die.toNat * 4096 + block.toNat
    let f := b.fblk k
    (b.ft.staged.reverse.find? (fun u => u.nsx == nsx.toNat && u.unit == unit.toNat && decide (u.phase = .staged)) = some u → b.ftRuns = true →
      let m := b.stagedMask u
      let data := zeroLbas (b.lbaSize nsx.toNat) m (b.stagedBytes u)
      let y := (b.bufRead ftPort 1 (BitVec.ofNat 6 (b.nsTenant nsx.toNat)) u.pages u.skip 16384).zeroPoison u m
      (data = [] → m = 0 → Answers (.compressUnit nsx unit) q b
        (y.modStaged u.seq u.idx u.unit (fun v => { v with phase := .noStore, loc := locZero }))) ∧
      ((data ≠ [] ∨ m ≠ 0) → Answers (.compressUnit nsx unit) q b
        ((y.modStaged u.seq u.idx u.unit (fun v => { v with phase := .compressing, data := data, pmask := m })).submitJob
          (mkDesc [(0, y.rdF (pgCz + 0x108) 0 3 * 32 + y.nsTenant nsx.toNat * 8192 + 524288), (192, 16384), (224, 16383)])
          (.ftCompress u.seq u.idx nsx.toNat unit.toNat)))) ∧
    (f.st = .opened → f.fill % 64 ≠ 0 → b.ft.frozen = false →
      Answers (.pageFillTimeout die block) q b
        (let n := f.fill / 64 + 1
         let w := (b.elapseTo (f.lastFill + 2000)).modBlk k (fun z => { z with fill := 64 * n })
         let y := w.postPages k n (w.streamCls f.stream)
         if y.blkSlots k ≤ 64 * n then y.closeBlk k (y.streamCls f.stream) else y)) ∧
    (b.piece seq.toNat piece.toNat = some p → b.committable p = true → Answers (.pieceCommit seq piece) q b (b.commitPiece p)) ∧
    (b.verifies k = true → f.readBack = false → b.ft.bootVerify = [] →
      Answers (.verifyBlock die block) q b (b.readBack k (b.verifyCls k))) ∧
    (b.verifies k = true → f.readBack = true → b.readingBack k = false → b.badSlots k [] = [] →
      (f.stream ≠ .reclaim → Answers (.verifyDone die block [] rebuilt) q b
        (let y := ((b.modBlk k (fun y => { y with st := .verified })).releaseGroups).placeAll
         if y.boothSt (boothOf (k / 4096)) = 3 then y.copyBlk k 1 else y)) ∧
      (f.stream = .reclaim → Answers (.verifyDone die block [] rebuilt) q b
        (((((b.moveEntries k).modBlk k (fun y => { y with st := .verified })).freeSources.retireEmpty).releaseGroups).refreshMode))) ∧
    (b.ftRuns = true → b.rclass ≠ 0 → b.ft.bootVerify = [] → b.reclaimSource = some src →
      Answers .reclaimSelect q b
        (b.copyBlk src b.rclCls)) ∧
    ((f.st = .verified ∨ f.st = .closed ∧ f.failed = true) → b.validOf k = 0 → b.blkPending k = false →
      (∀ o ∈ b.fc.ops, o.die * 4096 + o.block = k → o.kind ≠ .erase) → b.ftRuns = true → b.ft.eol = false →
      (f.doomed = false → f.erases < b.eraseLimit k → Answers (.sourceErase die block) q b (b.postErase k (if b.rclass = 2 then 1 else 3))) ∧
      ((f.doomed = true ∨ b.eraseLimit k ≤ f.erases) → Answers (.sourceErase die block) q b (b.retireBlk k))) ∧
    (b.dieWorn die.toNat = true → b.ft.frozen = false →
      Answers (.retireDie die readable) q b
        (let y := (b.modDie die.toNat (fun z => { z with inService := false, retired := true })).onFt (fun t =>
           { t with opens := t.opens.filter (fun o => o.2.1 ≠ die.toNat) })
         let ks := (y.ft.blks.filter (fun e => e.1 / 4096 == die.toNat)).map (·.1)
         let y := (y.each ks (Block.emptyBlk · (readable.map (·.toNat)))).each ks Block.redoCopies
         let y := match y.spareDie (boothOf die.toNat) with
           | some s => (y.modDie s (fun z => { z with inService := true, spareIn := true })).chDies (chOf s)
           | none => y.takeReserve (b.goodOn die.toNat)
         (((y.chDies (chOf die.toNat)).raise pgFt 4).metaRefresh.retarget).refreshMode)) ∧
    (b.ftRuns = true → b.ft.journal = e :: es →
      Answers (.checkpointSegment 0) q b
        ((b.ckptOne.metaPage).onFt (fun t => { t with metaLost := 0 }))) ∧
    (b.rdF (pgFt + 0x100) 0 2 = 5 →
      Answers (.mapRebuild intact 0) q b
        (let js := b.ft.journal.take intact.toNat
         let y := b.onFt (fun t => { t with map := t.ckpt, journal := js, endMark := false, frozen := false, loaded := true })
         let y := y.each b.ft.ckpt (fun z e => z.mapStore e.1 e.2)
         ((y.each js Block.applyEntry).wrSat (pgFt + 0x180) 8 23 y.journalMib).onFt (fun t => { t with metaLost := 0 })) ∧
      (b.ft.loaded = true → b.ft.fmt = none →
        Answers .rebuildDone q b
          (let y := b.wrSat (pgFt + 0x10C) 0 22 (b.ft.retireInit - (b.ft.blks.filter (fun e => decide (e.2.st = .retired))).length)
           (((y.wrF (pgFt + 0x100) 0 2 0).metaRefresh.retarget).refreshMode).raise pgFt 9))) ∧
    (b.ft.bootVerify.contains k = true → b.ftRuns = true → b.readingBack k = false → f.readBack = false →
      Answers (.bootVerify die block []) q b (b.readBack k 1)) ∧
    (b.ft.bootVerify.contains k = true → b.ftRuns = true → b.readingBack k = false → f.readBack = true → b.badSlots k [] = [] → f.stream = .host →
      Answers (.bootVerify die block []) q b
        (let y := (b.onFt (fun t => { t with bootVerify := t.bootVerify.filter (· ≠ k) })).loseUnits []
         (((y.modBlk k (fun z => { z with st := if z.st = .opened ∨ z.st = .closed then .verified else z.st })).freeSources).retireEmpty).refreshMode)) ∧
    Answers .wearSummary q b
      (let y := b.elapseTo (b.hk.wearAt + 86400000000)
       (y.onHk (fun h => { h with wear := y.peRange, wearAt := y.usec })).recUpdate id) ∧
    (b.ft.san = some x → b.ft.frozen = false →
      let ks := b.sanErased x (failed.map (·.toNat))
      (x.act ≠ .crypto → x.cursor < x.total →
        Answers .sanitizeStep q b
          (let last := decide (x.cursor / 4096 + 1 = x.passes)
           let ovw := decide (x.act = .overwrite)
           let y := b.eraseWave (x.cursor % 4096) (if ovw && last then 2 else 1) (if ovw && !last then some x.passPattern else none)
           let due := decide (x.recorded + 64 ≤ x.cursor + 1)
           let v := y.onFt (fun t => { t with san := some { x with cursor := x.cursor + 1, recorded := if due then x.cursor + 1 else x.recorded } })
           if due then v.recUpdate id else v)) ∧
      (b.retireLeft < ks.length → Answers (.sanitizeDone failed) q b (b.each ks Block.sanRetire).sanFail) ∧
      (x.act ≠ .crypto → x.cursor < x.total → ks.length ≤ b.retireLeft → Answers (.sanitizeDone failed) q b (b.each ks Block.sanRetire)) ∧
      ((x.act = .crypto ∨ x.total ≤ x.cursor) → ks.length ≤ b.retireLeft →
        Answers (.sanitizeDone failed) q b
          (let u := b.each ks Block.sanRetire
           let y := (if x.act = .crypto then u.newKeys else u).unmapAll (u.ft.map.map (·.1))
           let z := y.onFt (fun t => { t with map := [], ckpt := [], journal := [], pieces := [], staged := [], san := none, sanFailed := false })
           (((((z.wrSat (pgFt + 0x180) 8 23 0).retarget.metaRefresh).metaPage).refreshMode).raise pgFt 8).recUpdate id))) ∧
    ((f.st = .closed ∨ f.st = .verified) →
      Answers (.ageUnitElapsed die block) q b 
        (b.elapseTo (f.closedAt + ((b.ageOf f + 1) * (b.rdF (pgFt + 0x134) 0 7 * 3600000000) : Nat)).toNat))

/-- Flash operations: FLASH_READ, FLASH_PROGRAM, FLASH_ERASE, RAW_PROGRAM, DIE_RESET, FLASH_OP_ISSUE, SUSPEND_RESUME, FLASH_OP_COMPLETE,
LADDER_TIMEOUT, DIE_TIMEOUT, RETRAIN_INTERVAL, PARITY_GROUP_TIMEOUT and KEY_DONE (R17, R290, R296-R302, R308, R313-R318). -/
def Obligations.FlashOperationCommands : Prop :=
  ∀ (q : List Instr) (b : Block) (die : BitVec 10) (block page : BitVec 12) (cls : BitVec 2) (rung : BitVec 5) (ch : BitVec 6) (id : W32)
    (o : FlashOp) (san : San) (n0 n12 nr r : Nat) (lost : Bool) (rates : List Nat) (g : ParGrp) (t : Nat) (p : Profile)
    (s : Nat) (key : KeySlot), b.dark = false →
    let k := die.toNat * 4096 + block.toNat
    let slc := (b.fblk k).slc
    let pg := pgCh (chOf o.die)
    (b.pageOk die.toNat block.toNat page.toNat = true →
      Answers (.flashRead die block page cls rung) q b (b.postOp die.toNat block.toNat page.toNat .read slc cls.toNat rung.toNat .direct) ∧
      (b.ft.frozen = false →
        Answers (.flashProgram die block page cls) q b (b.postOp die.toNat block.toNat page.toNat .program slc cls.toNat 0 .direct)) ∧
      (b.ft.san = some san → san.act = .overwrite →
        Answers (.rawProgram die block page) q b (b.postOp die.toNat block.toNat page.toNat .rawProgram slc 3 0 (.raw san.passPattern)))) ∧
    (b.pageOk die.toNat block.toNat 0 = true → b.ft.frozen = false → b.mappedOn k = [] → b.blkPending k = false → (b.fblk k).st ≠ .opened →
      Answers (.flashErase die block cls) q b (b.postErase k cls.toNat)) ∧
    ((b.die die.toNat).answered = true → b.boothUp (boothOf die.toNat) = true →
      Answers (.dieReset die) q b (b.postOp die.toNat 0 0 .dieReset false 0 0 .direct)) ∧
    (∀ os, b.promoteAged.opOrder ch.toNat = o :: os → o.kind = .read → (b.promoteAged.die o.die).stopped = false →
      b.promoteAged.pageReset (pgCh (chOf o.die)) = 0 →
      (let w := b.promoteAged
       let x := w.ticket ⟨.booth (boothOf o.die), .flashOp o.id, w.opMw o, o.cls, o.born, true, decide (o.why = .page .reclaim), false, false⟩
       let y := x.2.ticket ⟨.chip, .transfer (chOf o.die), transferMw (x.2.rdF (pgCh (chOf o.die) + 0x100) 1 6), o.cls, o.born, true, false, false, false⟩
       x.1 = .granted → y.1 = .granted → y.2.fc.ops.all (fun p => decide (p.stage = .queued)) = true → o.why = .direct →
        Answers (.flashOpIssue ch) q b
          (y.2.onFc (fun e => { e with ops := e.ops.map (fun (p : FlashOp) => if p.id = o.id then { p with stage := .issued, issued := y.2.usec } else p) })))) ∧
    ((b.fc.ops.filter (fun z => z.die == die.toNat)).find? (fun z => decide (z.stage = .suspended)) = some o →
      (∀ z ∈ b.fc.ops, z.die = die.toNat → z.stage ≠ .issued ∧ (z.kind = .read → z.stage = .queued → 1 < b.opCls z)) →
      Answers (.suspendResume die) q b (b.modOp o.id (fun z => { z with stage := .issued, resumed := b.usec }))) ∧
    (b.op id.toNat = some o → o.stage = .issued →
      (o.kind = .read → (r = 0 ∨ (b.softTicket o).1 = .granted) → (∀ i, o.why ≠ .rebuild i) →
        Answers (.flashOpComplete id (.decoded n0 n12 nr r)) q b
          (let y := if r = 0 then b else (b.softTicket o).2
           let x := ((y.addSat (pg + 0x110) 0 31 n0).addSat (pg + 0x114) 0 31 n12).addSat (pg + 0x118) 0 31 nr
           let top := min r (x.lastRung o.die)
           (((x.noteRung o top).dropOp o.id).pageRead o top).afterOp)) ∧
      (o.kind = .read → (b.softTicket o).1 = .granted → Answers (.flashOpComplete id (.failedLadder lost)) q b
        ((((b.softTicket o).2.noteRung o ((b.softTicket o).2.lastRung o.die)).ladderFail o ((b.softTicket o).2.lastRung o.die) lost).afterOp)) ∧
      (o.kind = .rawProgram → Answers (.flashOpComplete id .done) q b (b.rawDone o).afterOp) ∧
      (o.kind = .program → Answers (.flashOpComplete id .done) q b (b.progDone o).afterOp) ∧
      (o.kind = .program → Answers (.flashOpComplete id .failed) q b (b.progFail o).afterOp) ∧
      (o.kind = .erase → Answers (.flashOpComplete id .done) q b (b.eraseDone o).afterOp) ∧
      (o.kind = .erase → Answers (.flashOpComplete id .failed) q b (b.eraseFail o).afterOp) ∧
      (o.kind = .read → Answers (.ladderTimeout id rung lost) q b
        (let top := min rung.toNat (b.lastRung o.die)
         (((b.elapseTo (o.issued + b.rdF (pgFc + 0x1C0) 0 15)).noteRung o top).ladderFail o top lost).afterOp)) ∧
      Answers (.dieTimeout id) q b (b.opTimeout o).afterOp) ∧
    (smFind b.fc.trainedAt ch.toNat = some t → b.prof (ch.toNat / 8) = some p → b.boothUp (ch.toNat / 8) = true → b.plossSt = 0 →
      b.rdF (pgCh ch.toNat + 0x100) 7 7 = 1 →
      (let x := if b.retrainMoved ch.toNat then b else b.elapseTo (t + b.rdF (pgFc + 0x1C4) 0 15 * 1000000)
       let y := x.ticket ⟨.chip, .training ch.toNat, 450, 1, x.usec, false, false, false, false⟩
       y.1 = .granted → Answers (.retrainInterval ch rates) q b (((y.2.trainCh ch.toNat p.body rates).chDies ch.toNat).untick (.training ch.toNat)))) ∧
    (b.fc.grps.find? (fun (z : ParGrp) => z.id == id.toNat) = some g → g.closed = false →
      Answers (.parityGroupTimeout id) q b
        (((b.elapseTo (g.first + 10000)).onFc (fun e => { e with
          grps := e.grps.map (fun (z : ParGrp) => if z.id = id.toNat then { z with closed := true } else z) })).parityUsed)) ∧
    (b.fc.keyOp = some (s, key, some false) →
      Answers .keyDone q b
        ((((b.onFc (fun e => { e with keyOp := none, keys := smSet {} e.keys s key })).wrF (pgFc + 0x158) 0 0 0).wrF (pgFc + 0x158) 2 2 0).raise pgFc 2)) ∧
    (b.fc.keyOp = some (s, key, some true) →
      Answers .keyDone q b
        (((((b.onFc (fun e => { e with keyOp := none, keys := smSet {} e.keys s key })).wrF (pgFc + 0x158) 0 0 0).record pgFc
          { code := 0x0108, sev := .corrected, detail := fcDetail 0 0 0 s 0 }).wrF (pgFc + 0x158) 2 2 1).raise pgFc 2)) ∧
    (b.fc.keyOp = some (s, key, none) →
      Answers .keyDone q b
        (((b.onFc (fun e => { e with keyOp := none, keys := smSet {} e.keys s key })).wrF (pgFc + 0x158) 0 0 0).raise pgFc 2))

/-- Booths and profiles: BOOTH_PRES_ASSERT, PRESENCE_STABLE, INRUSH_HOLD_END, SURPRISE_REMOVAL, REMOVED, DRAIN_DONE and PROFILE_LOADED
(R292, R301, R327, R328, R334, R339, R780, R781). -/
def Obligations.BoothCommands : Prop :=
  ∀ (q : List Instr) (b : Block) (k : BitVec 3) (cart : Cart) (signed fabricErr : Bool) (body : ProfBody) (t slot : Nat), b.dark = false →
    let n := k.toNat
    (b.variant.hasBooth n = true → b.boothPres n = false →
      Answers (.boothPresAssert k) q b
        (let x := ((b.wrF (pgBooth n + 0x104) 4 4 1).raise (pgBooth n) 0).setLevel (2 + n) false
         let y := x.onFc (fun e => { e with presAt := smPut e.presAt n x.usec })
         if y.rdF (pgBooth n + 0x108) 0 0 = 1 ∧ (y.boothSt n = 0 ∨ y.boothSt n = 5) then
           (y.onFc (fun e => { e with bringFrom := smPut e.bringFrom n (y.boothSt n) })).setBooth n 1 else y)) ∧
    (b.boothSt n = 1 → b.boothPres n = true → b.boothPwr n = false → b.holds (.inrush n) = false → b.fc.profs ≠ [] →
      (let y := b.elapseTo ((smFind b.fc.presAt n).getD 0 + 100000)
       let z := y.ticket ⟨.booth n, .inrush n, y.inrushMw, 1, y.usec, false, false, false, false⟩
       z.1 = .granted →
        Answers (.presenceStable k) q b
          (((z.2.setPwr n true).pllOn 9).onFc (fun e => { e with inrush := smPut e.inrush n z.2.usec })))) ∧
    (smFind b.fc.inrush n = some t → b.boothSt n = 1 →
      (let y := ((b.elapseTo (t + 20000)).untick (.inrush n)).onFc (fun e => { e with inrush := smErase e.inrush n })
       y.boothSt n = 1 → Answers (.inrushHoldEnd k cart) q b (y.bringRest n cart))) ∧
    (b.boothPres n = true →
      ((b.boothSt n = 1 ∨ b.boothUp n = true) → Answers (.surpriseRemoval k) q b (b.surprise n)) ∧
      (b.boothSt n ≠ 1 → b.boothUp n = false → Answers (.removed k) q b (b.removedIn n))) ∧
    (b.boothSt n = 3 → b.boothValid n = 0 → b.metaBooths.contains n = false → (∀ o ∈ b.fc.ops, boothOf o.die ≠ n ∧ o.why ≠ .page .meta_) →
      Answers (.drainDone k) q b ((b.setBooth n 4).raise (pgBooth n) 5)) ∧
    (b.fc.profLoad = some slot →
      (let r := (b.profResult signed fabricErr body).1
       let y := (b.profResult signed fabricErr body).2.onFc (fun e => { e with profLoad := none })
       (r = 0 →
        Answers (.profileLoaded signed fabricErr body) q b
          ((((y.onFc (fun e => { e with profs := smPut e.profs slot (y.profOf body) })).profReg slot).profStatus false 0).raise pgFc 0)) ∧
       (r ≠ 0 →
        Answers (.profileLoaded signed fabricErr body) q b
          (((((y.onFc (fun e => { e with profs := smErase e.profs slot })).profReg slot).profStatus false r).record pgFc
            { code := 0x0106, sev := .corrected }).raise pgFc 1))))

/-- Compression lanes: LANE_JOB_SUBMIT, LANE_JOB_GRANT, LANE_WAKE, LANE_POWER_GATE and LANE_JOB_COMPLETE (R354-R362, R371, R378). What an
independent compress job that ends with OK wrote decodes to what it read, and what such a decompress job wrote is what its input decodes to
(R350, R363); the decoder follows the standards R346 names (log entry 53). -/
def Obligations.LaneCommands : Prop :=
  ∀ (q : List Instr) (b : Block) (port n : BitVec 6) (desc : BitVec 512) (decomp : Bool) (j : LaneJob) (k st : Nat) (r : JobRes), b.dark = false →
    (portPresent b.variant port.toNat = true →
      (let x := b.queueJob desc (.other port)
       (x.badJob desc = false → Answers (.laneJobSubmit port desc) q b x) ∧
       (x.badJob desc = true → x.cz.jobs.find? (fun z => z.id == b.cz.nextJob) = some j →
        Answers (.laneJobSubmit port desc) q b (x.jobEndsEarly j 0x20)))) ∧
    (let y := b.promoteAged
     y.nextLaneJob decomp = some j → y.freeLane decomp = some k →
      (y.grantCheck j.desc = none →
        Answers (.laneJobGrant decomp) q b
          ((y.unqueue j.id).modLane decomp k (fun l => { l with job := some j, image := smFind y.cz.tables (jTable j.desc) }))) ∧
      (y.grantCheck j.desc = some st → Answers (.laneJobGrant decomp) q b (y.jobEndsEarly j st))) ∧
    (b.holds (laneHolder decomp n.toNat) = true → (b.lane decomp n.toNat).awake = false → n.toNat < b.lanesOf decomp →
      Answers (.laneWake decomp n) q b
        (let x := (b.elapse (b.wakeTime 7)).pllOn 7
         x.modLane decomp n.toNat (fun l => { l with awake := true, idle := x.usec }))) ∧
    ((b.lane decomp n.toNat).awake = true → (b.lane decomp n.toNat).job = none →
      (if decomp then b.rdF (pgCz + 0x104) 14 20 else b.rdF (pgCz + 0x104) 8 13) < b.awake decomp →
      Answers (.lanePowerGate decomp n) q b
        (((b.elapseTo ((b.lane decomp n.toNat).idle + b.rdF (pgCz + 0x104) 0 7)).modLane decomp n.toNat (fun l => { l with awake := false })).untick
          (laneHolder decomp n.toNat))) ∧
    ((b.lane decomp n.toNat).job = some j → endOk j.desc j.who.isFt r = true → b.laneAgrees decomp n.toNat j.desc j.who.isFt r = true →
      Answers (.laneJobComplete decomp n r) q b
        (let e := b.mkEnd decomp n.toNat j.desc r
         let key := b.finderKey n.toNat j.desc
         let w := if !decomp && !j.who.isFt && ranOut r then
           b.onCz (fun z => { z with finder := (key, r) :: z.finder.filter (fun x => decide (x.1 ≠ key)) }) else b
         let v := w.each (if jRestores j.desc && !j.who.isFt then w.slotReqs decomp n.toNat j.desc (w.slot (jSlot j.desc)) else [])
           (fun z a => (z.busRead a []).2.2)
         let x := (v.freeTheLane decomp n.toNat).laneCount (pgLane decomp n.toNat) e.inUsed e.outUsed
         let y := if j.who.isFt then x else x.laneData decomp n.toNat j.desc r
         (y.slotEnd decomp n.toNat j.desc r (b.laneInput decomp n.toNat j.desc)).jobEnds (pgLane decomp n.toNat) j e
          (b.endAddr decomp n.toNat j.desc r))) ∧
    (jStream j.desc = false → r.status = 0 → b.laneAgrees decomp n.toNat j.desc false r = true →
      (let read := (b.laneInput decomp n.toNat j.desc).take (b.cleanInput j.desc)
       let wrote := denseBytes (mkBytes r.out) r.outUsed.toNat
       (decomp = false → (decodeStream (jFormat j.desc) true wrote []).out.reverse = read.take r.inUsed.toNat) ∧
       (decomp = true → wrote = (decodeStream (jFormat j.desc) true read []).out.reverse)))

/-- The memory system: DRAM_TRAINING, DRAM_READ, DRAM_WRITE, PARTIAL_WRITE, ROW_IDLE_CLOSE, REFRESH, PATROL_SCRUB, LAP_OVERDUE,
IMBALANCE, REGION_DONE, STAGING_ACCESS, STAGING_SCRUB and ST_LAP_OVERDUE (R387, R388, R393-R398, R404, R409-R413, R417-R422, R779). -/
def Obligations.MemoryCommands : Prop :=
  ∀ (q : List Instr) (b : Block) (t : Txn) (be : BitVec 256) (errs : List (FAddr × Bool)) (reached : List (Option (BitVec 3)))
    (soft : List (BitVec 8)) (ch bg : BitVec 3) (sub rank : BitVec 1) (bank : BitVec 2) (idx : BitVec 5), b.dark = false →
    let port := t.port.setWidth 8
    let a := t.addr.toNat
    let n := txnLen t
    let req := txnReq t 0 false
    (b.dramReady = false → reached.length = b.variant.drams → b.trainBad reached = [] →
      Answers (.dramTraining reached soft) q b
        (let rate := b.rdF (pgMs + 0x100) 0 2
         let low := reached.foldl (fun m r => match r with | some x => min m x.toNat | none => m) rate
         let x := b.each b.msChans (fun y c => (y.wrF (pgMsCh c + 0x100) 0 0 1).wrF (pgMsCh c + 0x100) 1 1 0)
         let y := ((x.each x.msChans (Block.bootRepairs · (soft.map (·.toNat)))).bootMap (soft.map (·.toNat))).zeroSpan 0 (2 ^ 39)
         let z := (y.onMs (fun m => { m with openRows := [], wq := [], paused := [], stopped := false }))
         let w := (z.wrF (pgMs + 0x104) 0 0 1).wrF (pgMs + 0x104) 1 3 low
         (w.wrF (pgMs + 0x104) 4 13 z.dramGib).raise pgMs 0)) ∧
    (b.dramReady = false → reached.length = b.variant.drams → ∀ c cs, b.trainBad reached = c :: cs →
      Answers (.dramTraining reached soft) q b (b.fatalError (pgMsCh c) { code := 0x109, sev := .deviceFatal })) ∧
    (accepted b t (BitVec.allOnes 256) .dram false → Answers (.dramRead t errs) q b
      (readAnswer (((goneThrough b t (BitVec.allOnes 256)).dramDecode errs t.tag port a n).dramTouch req false) t)) ∧
    (accepted b t (BitVec.allOnes 256) .dram true → a % 64 = 0 → n % 64 = 0 → Answers (.dramWrite t) q b
      ((((goneThrough b t (BitVec.allOnes 256)).dramPut [] (BitVec.allOnes 256) t.tag port a n t.data).dramTouch req true).send
        (.fabResp t.id .ok 0 0 0))) ∧
    (accepted b t be .dram true → Answers (.partialWrite t be errs) q b
      ((((goneThrough b t be).dramPut errs be t.tag port a n t.data).dramTouch req true).send (.fabResp t.id .ok 0 0 0))) ∧
    (ch.toNat < b.variant.drams → b.dramReady = true →
      (let key := bankKey ch.toNat sub.toNat rank.toNat bg.toNat bank.toNat
       Answers (.rowIdleClose ch sub rank bg bank) q b { b with ms := { b.ms with openRows := smErase b.ms.openRows key } } ∧
       (b.ms.stopped = false →
        Answers (.refresh ch sub rank bg bank) q b { b with ms := { b.ms with openRows := smErase b.ms.openRows key } }))) ∧
    (b.dramReady = true → b.ms.stopped = false → b.rdF (pgMs + 0x10C) 8 8 = 1 →
      b.ctlQueue (b.dramRow (b.ms.scrubAt * 64)).subKey = [] →
      Answers (.patrolScrub errs) q b
        (let at_ := b.ms.scrubAt * 64
         let y := b.drained at_
         let x := y.each (y.readOrder y.dramGrain (errsIn errs at_ 64)) (Block.dramErr 0 0xFF)
         if at_ + 64 < x.dramCap then x.onMs (fun m => { m with scrubAt := m.scrubAt + 1 })
         else
           let y := x.wrSat (pgMs + 0x110) 0 31 ((x.usec - x.ms.lapStart) / 1000000)
           y.onMs (fun m => { m with scrubAt := 0, lapStart := y.usec, lapLate := false, seen := [] }))) ∧
    (b.ms.lapLate = false → b.ms.stopped = false → b.rdF (pgMs + 0x10C) 8 8 = 1 →
      Answers .lapOverdue q b
        (((b.elapseTo (b.ms.lapStart + b.rdF (pgMs + 0x10C) 0 7 * 3600000000 + 1)).onMs (fun m => { m with lapLate := true })).raise pgMs 2)) ∧
    Answers .imbalance q b
      (let x := b.elapseTo ((b.usec / 1000 + 1) * 1000)
       let reqs := fun c => smGet 0 x.ms.reqs c
       let cs := List.range x.variant.drams
       let total := (cs.map reqs).sum
       let top := cs.foldl (fun (m : Nat × Nat) c => if m.2 < reqs c then (c, reqs c) else m) (0, 0)
       let y := x.onMs (fun m => { m with reqs := [], reqWin := x.usec / 1000 })
       if x.rdF (pgMs + 0x118) 0 7 * total < top.2 * 16 * x.variant.drams then
         ((y.wrF (pgMs + 0x11C) 0 2 top.1).wrF (pgMs + 0x11C) 8 15 (top.2 * 100 / total)).raise pgMs 1
       else y) ∧
    ((b.region idx.toNat).st = .init → b.ms.stopped = false →
      Answers (.regionDone idx) q b
        (let r := b.region idx.toNat
         ((b.zeroSpan (r.base * 2 ^ 20) ((r.base + r.size) * 2 ^ 20)).setRegion idx.toNat { r with st := r.goal }).raise pgMs 3)) ∧
    (accepted b t be .staging false → Answers (.stagingAccess t be errs) q b
      (readAnswer ((goneThrough b t be).each ((goneThrough b t be).readOrder (fun _ => 8) (errsWord errs a n)) (Block.stgErr t.tag port)) t)) ∧
    (accepted b t be .staging true → Answers (.stagingAccess t be errs) q b
      (((goneThrough b t be).stgPut errs be t.tag port a n t.data).send (.fabResp t.id .ok 0 0 0))) ∧
    (b.ms.stopped = false →
      Answers (.stagingScrub errs) q b
        (let o := b.ms.stScrubAt * 64
         let x := b.each (b.readOrder (fun _ => 8) (errsIn errs (stgBase + o) 64)) (Block.stgErr 0 0xFF)
         if o + 64 < stgSize then x.onMs (fun m => { m with stScrubAt := m.stScrubAt + 1 })
         else
           let y := x.wrSat (pgStg + 0x104) 16 31 ((x.usec - x.ms.stLapStart) / 1000)
           y.onMs (fun m => { m with stScrubAt := 0, stLapStart := y.usec, stLapLate := false })) ∧
      (b.ms.stLapLate = false →
        Answers .stLapOverdue q b
          (((b.elapseTo (b.ms.stLapStart + b.rdF (pgStg + 0x104) 0 15 * 1000000 + 1)).onMs (fun m => { m with stLapLate := true })).raise pgStg 1)))

/-- The search engine: SEARCH, SE_WRITE, INVALIDATE, SE_READ, BANK_SLOT_GRANT, PART_CLEARED, BANK_WAKE, MIRROR_CHECK and SE_LAP_OVERDUE
(R480-R502): what each does in its slot, and what a request does that finds its bank busy. -/
def Obligations.SearchCommands : Prop :=
  ∀ (q : List Instr) (b : Block) (port tag : BitVec 6) (d : BitVec 512) (k : BitVec 3) (p : BitVec 6) (r first : SeReq), b.dark = false →
    let n := qBank d
    let who := SeWho.port port
    let x := b.seReissues
    let late := x.setSeQueue n [⟨d, tag, who, x.usec, qCls d, false⟩]
    (portPresent b.variant port.toNat = true → seReady x tag d →
      (qOp d = 1 → Answers (.search port tag d false) q b ((x.inc (pgSeB n + 0x118)).send (.seResp port (x.searchRsp n d))) ∧
        Answers (.search port tag d true) q b late) ∧
      (qOp d = 2 → x.lineCode (x.shadowAt n (qIx d)) = .ok →
        Answers (.seWrite port tag d false) q b
          ((((x.putShadow n (qIx d) (writeEnt d)).inc (pgSeB n + 0x11C)).setEnt n (qIx d) (writeEnt d)).send (.seResp port (seRsp d 0 [])))) ∧
      (qOp d = 3 → x.lineCode (x.shadowAt n (qIx d)) = .ok →
        Answers (.invalidate port tag d false) q b
          ((((x.putShadow n (qIx d) {}).inc (pgSeB n + 0x11C)).setEnt n (qIx d) {}).send (.seResp port (seRsp d 0 [])))) ∧
      (qOp d = 4 → Answers (.seRead port tag d false) q b (x.send (.seResp port (readRsp d (x.seEnt n (qIx d))))))) ∧
    (b.variant.hasBank k.toNat = true →
      (let y := b.promoteAged.seReissues
       y.seNext (y.seQueue k.toNat) = some r →
        ((y.seQueue k.toNat).find? (fun z => qOp r.req != 1 && qOp z.req != 1 && qIx z.req == qIx r.req)).getD r = first →
        Answers (.bankSlotGrant k) q b ((y.setSeQueue k.toNat ((y.seQueue k.toNat).erase first)).seSlot first)) ∧
      ((b.sePart k.toNat p.toNat).st = .clearing →
        Answers (.partCleared k p) q b
          (let x := b.sePart k.toNat p.toNat
           (((b.clearRange k.toNat x.base x.size).setPart k.toNat p.toNat { x with st := if x.toOn then .on else .off, toOn := false }).raise
            (pgSeB k.toNat) 4).bankGates k.toNat)) ∧
      (b.holds (.bank k.toNat) = true → b.se.awake.contains k.toNat = false →
        Answers (.bankWake k) q b
          (let x := ((b.elapse (b.wakeTime 8)).pllOn 8).onSe (fun s => { s with awake := s.awake ++ [k.toNat], waking := smErase s.waking k.toNat })
           ((x.wrF (pgSeB k.toNat + 0x110) 15 15 0).setPower (pgSeB k.toNat) 2).each (smGet [] b.se.waking k.toNat) (fun y p =>
            if y.partRefused k.toNat p then y else y.startClear true k.toNat p))) ∧
      (b.rdF (pgSe + 0x108) 0 0 = 1 → b.bankServes k.toNat = true → b.se.awake.contains k.toNat = true → b.seQueue k.toNat = [] →
        (let i := smGet 0 b.se.mirAt k.toNat
         b.deadRow k.toNat i = false → b.lineCode (b.shadowAt k.toNat i) = .ok → b.anyPoison (b.shadowAt k.toNat i) 64 = false →
          b.seEnt k.toNat i = b.getShadow k.toNat i →
          Answers (.mirrorCheck k false) q b
            ((b.onSe (fun s => { s with mism := s.mism.filter (· ≠ entKey k.toNat i) })).mirrorNext k.toNat))) ∧
      (b.se.mirLate.contains k.toNat = false → b.rdF (pgSe + 0x108) 0 0 = 1 →
        Answers (.seLapOverdue k) q b
          (((b.elapseTo (smGet 0 b.se.mirStart k.toNat + b.rdF (pgSe + 0x108) 1 16 * 1000000 + 1)).onSe (fun s =>
            { s with mirLate := s.mirLate ++ [k.toNat] })).raise (pgSeB k.toNat) 3)))

/-- Programs, memory namespaces and Execute Program: LOAD_PROGRAM, PROGRAM_ACTIVATION_MANAGEMENT, EXECUTE_PROGRAM, EXECUTE_WAIT_END,
READ_MEMORY, WRITE_MEMORY and MEMORY_COPY (R612-R625, R639): each is fetched through its queue's lane and sequenced as every I/O command is
(R99, R102-R104, R114, R117), and, once nothing holds it back, does its work. -/
def Obligations.ProgramCommands : Prop :=
  ∀ (q : List Instr) (b x : Block) (qc : BitVec 14) (cid : BitVec 16) (ended : Option Stat) (slot : BitVec 6) (size off : W32) (act toMem : Bool)
    (data params : List Byte) (ranges : List (W64 × W64 × Bool)) (transit : Option (FAddr × W32)) (a : Nat) (p : Prog) (m : Nat × Nat)
    (seq at_ slba : W64) (nsid count : W32) (c : Cmd) (img n k scr : Nat) (z : Block), b.dark = false →
    let entry (p : ProgOp) := progEntry cid p
    (b.mayFetch qc.toNat = true →
      (let e := entry (.load slot size off data)
       Takeable b qc.toNat e ended x → Answers (.loadProgram qc cid slot size off data) q b (ioEnters x qc.toNat e ended)) ∧
      (let e := entry (.activate slot act)
       Takeable b qc.toNat e ended x → Answers (.programActivationManagement qc cid slot act) q b (ioEnters x qc.toNat e ended)) ∧
      (let e := entry (.execute slot ranges transit params)
       Takeable b qc.toNat e ended x → Answers (.executeProgram qc cid slot ranges transit params) q b (ioEnters x qc.toNat e ended)) ∧
      (let e := entry (.readMem transit at_ size)
       Takeable b qc.toNat e ended x → Answers (.readMemory qc cid transit at_ size) q b (ioEnters x qc.toNat e ended)) ∧
      (let e := entry (.writeMem transit at_ data)
       Takeable b qc.toNat e ended x → Answers (.writeMemory qc cid transit at_ data) q b (ioEnters x qc.toNat e ended)) ∧
      (let e := entry (.copy toMem nsid slba count transit at_)
       Takeable b qc.toNat e ended x →
        Answers (.memoryCopy qc cid toMem nsid slba count transit at_) q b (ioEnters x qc.toNat e ended))) ∧
    (let y := b.tryStart seq.toNat
     let t := c.tenant.toNat
     let o := off.toNat
     y.cmd seq.toNat = some c → c.started = true → c.st = .fetched → c.src = .queue qc.toNat →
      (c.prog = some (.load slot size off data) → y.slotPlace t slot.toNat = some a → ((y.prog t slot.toNat).getD ⟨0, false, false⟩) = p →
        p.active = false → y.slotRunning t slot.toNat = false → (o = 0 ∨ o = (if p.whole then 0 else p.got)) → size.toNat ≤ 2 ^ 24 →
        o + data.length ≤ size.toNat →
        (let v := (y.storeBytes (a + o) data).cleanWhole (a + o) data.length
         (o + data.length < size.toNat → Answers (.commandUnblock seq) q b
          ((v.setProg t slot.toNat (some ⟨o + data.length, false, false⟩)).complete seq.toNat stOk)) ∧
         (o + data.length = size.toNat → v.headerOk a size.toNat = true → Answers (.commandUnblock seq) q b
          (let w := v.setProg t slot.toNat (some ⟨size.toNat, true, false⟩)
           (w.each ((List.range 96).filter w.hasCore) Block.icinv).complete seq.toNat stOk)) ∧
         (o + data.length = size.toNat → v.headerOk a size.toNat = false → Answers (.commandUnblock seq) q b
          ((((v.setProg t slot.toNat none).record pgCx { code := 0x0104, sev := .corrected, tenant := BitVec.ofNat 6 t }).raise pgCx 0).complete
            seq.toNat (statU 0 0x02))))) ∧
      (c.prog = some (.activate slot act) → y.prog t slot.toNat = some p → p.whole = true → y.slotRunning t slot.toNat = false →
        Answers (.commandUnblock seq) q b ((y.setProg t slot.toNat (some { p with active := act })).complete seq.toNat stOk)) ∧
      (c.prog = some (.readMem transit at_ size) → y.memNs t transit = some m → at_.toNat + size.toNat ≤ m.2 →
        y.anyPoison (m.1 + at_.toNat) size.toNat = false →
        Answers (.commandUnblock seq) q b
          ((y.send (.memData qc.toNat c.cid (y.bytes (m.1 + at_.toNat) size.toNat))).complete seq.toNat stOk)) ∧
      (c.prog = some (.writeMem transit at_ data) → y.memNs t transit = some m → at_.toNat + data.length ≤ m.2 →
        Answers (.commandUnblock seq) q b
          (((y.storeBytes (m.1 + at_.toNat) data).cleanWhole (m.1 + at_.toNat) data.length).complete seq.toNat stOk)) ∧
      (c.prog = some (.copy toMem nsid slba count transit at_) → y.memNs t transit = some m →
        at_.toNat + count.toNat * y.lbaSize (nsid.toNat - 1) ≤ m.2 →
        (let lba := y.lbaSize (nsid.toNat - 1)
         let kids := (cutLbas (count.toNat + 1) (262144 / lba) slba.toNat count.toNat).map (c.kid (qLane (y.qc qc.toNat)) toMem nsid)
         kids ≠ [] → Answers (.commandUnblock seq) q b
          (((y.modCmd seq.toNat (fun d => { d with st := .readMedia, buf := m.1 + at_.toNat })).onCe (fun e => { e with
            lanes := e.lanes ++ kids })).each kids (fun w f => w.kidEnters slba.toNat (m.1 + at_.toNat) lba f)))) ∧
      (c.prog = some (.execute slot ranges transit params) → params.length ≤ 4096 → y.memNs t transit = some m → rangesOk ranges m.2 = true →
        y.rdF (pgCxT t + 0x100) 0 12 ≠ 0 → (y.maskOfT t).any y.clHope = true → y.ctxHeld t < y.rdF (pgCxT t + 0x100) 0 12 →
        y.slotPlace t slot.toNat = some img → y.prog t slot.toNat = some p → p.active = true →
        (let log := (y.byte (img + 7)).toNat
         let order := y.roomOn (2 ^ log) (((y.maskOfT t).filter y.clUp).foldl (fun ns n => y.byLoad n ns) [])
         order ≠ [] → y.askClusters order = (some n, z) → z.freeCtx = some k → z.freeScr n (2 ^ log) = some scr →
          Answers (.commandUnblock seq) q b
            (z.makeCtx seq.toNat slot.toNat (ranges.map (fun r => (m.1 + r.1.toNat, r.2.1.toNat, r.2.2))) transit.isSome params t n k scr log
              img)))) ∧
    (b.cmd seq.toNat = some c → c.execWaits = true → Answers (.executeWaitEnd seq) q b (b.progRun seq.toNat))

/-- Contexts and their service areas: EXIT, YIELD, SYSCALL_WAIT, SYSCALL_DMA, XLATE, WAIT_TIMEOUT, CONTEXT_READY, CONTEXT_END, CONTEXT_FREE,
SEARCH_DOORBELL, SEARCH_RESPONSE, SEARCH_CLEAR, LINE_DOORBELL and LINE_STATUS_CLEAR (R626-R630, R633, R641-R643). -/
def Obligations.ContextCommands : Prop :=
  ∀ (q : List Instr) (b : Block) (ctx : BitVec 12) (ev : BitVec 2) (v : W32) (x : Ctx) (i u n : Nat) (d : BitVec 512), b.dark = false →
    let c := ctx.toNat
    let r := b.core i
    (b.inSyscall c 0 = some i →
      (r.getG 2 = 0 → Answers (.exit ctx) q b (b.ctxEnd c (some ((r.getG 1).setWidth 32, stOk)))) ∧
      (r.getG 2 = 1 → Answers (.exit ctx) q b (b.ctxEnd c (some (0, stat 7 0xC1 true)))) ∧
      (r.getG 2 ≠ 0 → r.getG 2 ≠ 1 →
        Answers (.exit ctx) q b ((b.cxRec c 0x0101 .contained 0 r.taddr).ctxEnd c (some (0, stat 7 0xC3 false))))) ∧
    (b.inSyscall c 1 = some i → Answers (.yield ctx) q b (((b.rett i).switchOut i c).makeReady c)) ∧
    (b.inSyscall c 2 = some i →
      (let mask := (r.getG 1).toNat % 8
       let tmo := (r.getG 2).toNat
       let p := b.pendEvents c
       (p &&& mask ≠ 0 → Answers (.syscallWait ctx) q b (((b.modCore i (fun k => k.setG 1 (BitVec.ofNat 64 p))).clearEvents c).rett i)) ∧
       (p &&& mask = 0 → Answers (.syscallWait ctx) q b
        (let y := (b.rett i).switchOut i c
         y.modCtx c (fun z => { z with st := .waiting, mask := mask, until_ := if tmo = 0 then none else some (y.usec + tmo) }))))) ∧
    (b.inSyscall c 3 = some i → b.ctx c = some x →
      (let ch := (r.getG 1).toNat
       let op := (r.getG 2).toNat
       let answer := fun (y : Block) (v : W64) => (y.modCore i (fun k => k.setG 1 v)).rett i
       (64 ≤ ch → Answers (.syscallDma ctx) q b (answer b 1)) ∧
       (ch < 64 → b.chTenant ch ≠ x.tenant.toNat → Answers (.syscallDma ctx) q b (answer (b.startRefused ch c x.tenant) 1)) ∧
       (ch < 64 → b.chTenant ch = x.tenant.toNat → op ≠ 1 → b.chAccepts ch op = true →
        Answers (.syscallDma ctx) q b (answer (b.chCommand ch op (some c)) 0)))) ∧
    (b.inSyscall c 4 = some i →
      Answers (.xlate ctx) q b
        ((b.modCore i (fun k => k.setG 1 (match translate r.wins (r.getG 1).toNat (if r.getG 2 = 0 then .rd else .wr) with
          | .ok a => BitVec.ofNat 64 a
          | _ => BitVec.allOnes 64))).rett i)) ∧
    (b.ctx c = some x →
      (x.st = .waiting → x.until_ = some u →
        Answers (.waitTimeout ctx) q b (let y := b.elapseTo u; y.wakeCtx c (y.pendEvents c + 8))) ∧
      (x.st = .waiting → b.pendEvents c / 2 ^ ev.toNat % 2 = 1 → x.mask / 2 ^ ev.toNat % 2 = 1 →
        Answers (.contextReady ctx ev) q b (b.wakeCtx c (b.pendEvents c))) ∧
      (b.cmd x.seq = none → Answers (.contextEnd ctx) q b (b.ctxEnd c none)) ∧
      ((b.cmd x.seq).isSome = true → x.st = .supervisor → x.core = some i → r.tcause = 0x04 → x.tried = some (4, r.tpc) →
        Answers (.contextEnd ctx) q b ((b.cxRec c 0x0101 .contained 4 r.tpc).ctxEnd c (some (0, stat 7 0xC2 true)))) ∧
      (x.st = .ending → x.core = none → b.lqBusy c = false →
        Answers (.contextFree ctx) q b
          (let y := b.onCx (fun e => { e with ctxs := smErase e.ctxs c })
           if y.cx.ctxs.any (fun e => e.2.cluster == x.cluster) then y
           else y.onCx (fun e => { e with emptyAt := smPut e.emptyAt x.cluster y.usec }))) ∧
      (v.toNat < 8 → (b.svcWord c 0xC04).getLsbD v.toNat = false →
        Answers (.searchDoorbell ctx v) q b
          (let y := b.setSvc c 0xC04 (b.svcWord c 0xC04 ||| BitVec.ofNat 32 (2 ^ v.toNat))
           let d := y.load (y.svc c + 0x800 + 64 * v.toNat) 64
           let d := d - d / 2 ^ 12 % 4 * 2 ^ 12 + 2 * 2 ^ 12
           let d := d - d / 2 ^ 384 % 2 ^ 64 * 2 ^ 384 + v.toNat * 2 ^ 384
           y.seRequest (.ctx c v.toNat) x.tenant (28 + x.cluster / 2) (BitVec.ofNat 512 d) false)) ∧
      ((8 ≤ v.toNat ∨ (b.svcWord c 0xC04).getLsbD v.toNat = true) →
        Answers (.searchDoorbell ctx v) q b (b.setSvc c 0xC04 (b.svcWord c 0xC04 ||| 0x10000))) ∧
      (b.se.resps.find? (fun z => z.1 == c) = some (c, n, d) →
        Answers (.searchResponse ctx) q b
          (let y := b.onSe (fun s => { s with resps := s.resps.erase (c, n, d) })
           let z := (y.store (y.svc c + 0xA00 + 64 * n) 64 d).poisonSpan (y.svc c + 0xA00 + 64 * n) 64 false
           z.setSvc c 0xC04 (z.svcWord c 0xC04 ||| BitVec.ofNat 32 (2 ^ (8 + n))))) ∧
      Answers (.searchClear ctx v) q b
        (let ns := (List.range 8).filter (fun n => v.getLsbD (8 + n))
         let off := ns.foldl (fun m n => m ||| BitVec.ofNat 32 (2 ^ n + 2 ^ (8 + n))) (if v.getLsbD 16 then (0x10000 : W32) else 0)
         b.setSvc c 0xC04 (b.svcWord c 0xC04 &&& ~~~off)) ∧
      (v.toNat < 512 → b.lineSrc (fld v 0 7) = 2 → b.lineTenant (fld v 0 7) = x.tenant.toNat →
        Answers (.lineDoorbell ctx v) q b (if v.getLsbD 8 then b.lineClr (fld v 0 7) else b.lineSet (fld v 0 7))) ∧
      ((512 ≤ v.toNat ∨ b.lineSrc (fld v 0 7) ≠ 2 ∨ b.lineTenant (fld v 0 7) ≠ x.tenant.toNat) →
        Answers (.lineDoorbell ctx v) q b (b.setSvc c 0xC14 (b.svcWord c 0xC14 ||| 1))) ∧
      Answers (.lineStatusClear ctx v) q b (b.setSvc c 0xC14 0))

/-- Clusters and delivery: DELIVERY_UNIT, DLV_RESTART, DVFS_STEP_UP, DVFS_STEP_DOWN and CLUSTER_POWER_GATE; and the events of a core between
instructions: LOAD_DATA_ARRIVAL, LATE_DATA_UNCORR, INTERRUPT_ACCEPT, QTIMER_EXPIRY, QUANTUM, SLICE_END, CONTEXT_SWITCH and
DISPATCHER_INTERRUPT (R535-R544, R550, R553-R558, R609, R631, R632, R636-R638). -/
def Obligations.ClusterAndCoreEvents : Prop :=
  ∀ (q : List Instr) (b : Block) (cluster : BitVec 4) (core : BitVec 7) (seq : W64) (unit : BitVec 40) (line : BitVec 8) (tenant : BitVec 6)
    (c : Cmd) (s : Staged) (ctx k u m : Nat) (xo : Option Ext) (rung : Nat) (t : TrapIn) (c' : Core) (z : Block), b.dark = false →
    let n := cluster.toNat
    let i := core.toNat
    (b.cmd seq.toNat = some c → c.src = .localQ ctx → c.ready.find? (fun r => r.1 == unit.toNat) = some (unit.toNat, xo, rung) →
      b.newest (c.nsid - 1) unit.toNat = some s → b.stagedMask s = 0 →
      Answers (.deliveryUnit seq unit) q b
        (let first := (c.ranges.head?).elim 0 (fun r => (unitsOf (b.byteRange (c.nsid - 1) r).1 (b.byteRange (c.nsid - 1) r).2).1)
         (b.modCmd seq.toNat (fun y => { y with ready := y.ready.filter (fun r => r.1 ≠ unit.toNat) })).copyUnit seq.toNat unit.toNat
          (c.buf + 16384 * (unit.toNat - first)) (b.stagedBytes s))) ∧
    (b.variant.hasCluster n = true → b.dlvOn n = true → 0x10 ≤ (b.chan (b.dlvCh n)).st →
      Answers (.dlvRestart cluster) q b
        (let ds := (b.dlvOut n).map (fun d => { d with sent := false })
         let pos := (ds.head?).elim (smGet 0 b.cx.dlvPos n) (·.pos)
         let y := (b.setDlv n ds).modChan (b.dlvCh n) (fun z => { z with
           st := 1
           pc := clBase n + 0x40
           src := clBase n + 0x2000 + 64 * pos
           dst := clBase n + 0x1000 + 32 * pos
           srcWrap := 13
           dstWrap := 12
           mid := false
           waiting := false
           jobs := []
           ended := []
           ahead := [] })
         ((if ds.isEmpty then y else y.lineSet (y.dlvLine n)).record (pgCl n) { code := 0x0103, sev := .corrected }).raise (pgCl n) 0)) ∧
    (b.clUp n = true → b.clStep n < min (b.rdF (pgCl n + 0x104) 0 2) (smGet 4 b.cx.avsCap n) → b.readyOn n ≠ [] →
      (b.stepTicket n (b.clStep n + 1)).1 = .granted →
      Answers (.dvfsStepUp cluster) q b ((b.stepTicket n (b.clStep n + 1)).2.setStep n (b.clStep n + 1))) ∧
    (1 < b.clStep n → Answers (.dvfsStepDown cluster) q b ((b.untick (.cluster n (b.clStep n))).setStep n (b.clStep n - 1))) ∧
    (b.clStep n ≠ 0 → b.cx.ctxs.any (fun e => e.2.cluster == n) = false → b.has .cxCluster n = true →
      Answers (.clusterPowerGate cluster) q b
        (((b.elapseTo (smGet 0 b.cx.emptyAt n + b.rdF (pgCl n + 0x104) 3 10)).each [1, 2, 3, 4] (fun y k => y.untick (.cluster n k))).setStep n 0)) ∧
    (b.coreLive i = true →
      Answers (.loadDataArrival core) q b
        ((b.modCore i (fun c => { c with loads := onFirstLoad (fun l => { l with arrived := true }) c.loads }.settle)).boundary i) ∧
      ((b.core i).wfi = false →
        Core.lateOf { b.core i with loads := (b.core i).loads.map (fun (l : Delay) => if l.err.isSome then { l with arrived := true } else l) } =
          some (t, c') → Answers (.lateDataUncorr core false) q b ((b.setCore i c').takeTrap i t (b.core i).pc)) ∧
      ((b.core i).wfi = false → (b.core i).quantum = false → (b.core i).accepts = true →
        (coreKind i = .k → b.cx.kInts.contains (line.toNat, tenant.toNat) = true →
          Answers (.interruptAccept core line tenant) q b
            ((b.onCx (fun x => { x with kInts := x.kInts.erase (line.toNat, tenant.toNat) })).enterIntr i (line.toNat + tenant.toNat * 256))) ∧
        (coreKind i = .s → b.cx.sIrq = true →
          Answers (.interruptAccept core line tenant) q b ((b.onCx (fun x => { x with sIrq := false })).enterIntr i 0)) ∧
        (coreKind i = .c → b.dispDue i = true →
          (b.core i).onCtx = none →
          Answers (.interruptAccept core line tenant) q b (b.enterIntr i 0) ∧ Answers (.dispatcherInterrupt core) q b (b.enterIntr i 0))) ∧
      ((b.core i).qdue = some u → (b.core i).wfi = false →
        Answers (.qtimerExpiry core) q b
          ((b.elapseTo u).modCore i (fun c => { c with qdue := none, quantum := c.quantum || c.qe }))) ∧
      ((b.core i).quantum = true → (b.core i).wfi = false → (b.core i).accepts = true →
        Answers (.quantum core) q b
          (((b.modCore i (fun c => { c with quantum := false })).trap i
            { code := 0x0C, tpc := (b.core i).pc, inRpt := decide (0 < (b.core i).iters) }).boundary i)) ∧
      (coreKind i = .c → (b.core i).loads = [] →
        ((b.core i).onCtx = none → b.pickCtx (i / 8) = some (k, z) →
          Answers (.contextSwitch core) q b ((z.switchIn i k).showReady (i / 8))) ∧
        ((b.core i).onCtx = some k → (b.core i).user = true → (b.core i).lates = [] → (b.core i).watch = none → b.sliceLeft i = 0 →
          (b.core i).quantum = false → (b.dispDue i = false ∨ (b.core i).ie = false) →
          (b.pickCtx (i / 8) = some (m, z) →
            Answers (.contextSwitch core) q b ((((z.switchOut i k).makeReady k).switchIn i m).showReady (i / 8))) ∧
          (b.pickCtx (i / 8) = none →
            Answers (.contextSwitch core) q b (b.modCore i (fun c => { c with
              slice := b.rdF (pgCxT (b.coreTenant i).toNat + 0x104) 8 23
              sliceAt := b.usec }))))) ∧
      (coreKind i = .c → (b.core i).onCtx.isSome = true → (b.core i).user = true →
        Answers (.sliceEnd core) q b ((b.elapse (b.sliceLeft i)).ctxSwitch i)))

/-- Channel programs: MOVE, MOVE_ZJOB, ZJOB_COMPLETION, PACED_BURST, LOOP, WAIT_JOBS, WAIT_REQ, WAIT_MEM_EQ, WAIT_MEM_GE, WAIT_POLL, SIGNAL,
SET and END, where the instruction runs to its end (R437-R448, R452-R459). -/
def Obligations.ChannelProgramCommands : Prop :=
  ∀ (q : List Instr) (b x : Block) (ch : BitVec 6) (i : BitVec 128) (tmo : Option W32) (late : Bool), b.dark = false →
    let n := ch.toNat
    let done := fun (y : Block) => (y.modChan n (fun c => { c with pc := (c.pc + 16) % 2 ^ 48, mid := false, waiting := false, pat := none })).chBoundary n
    let y := moveBegun x n i
    (dmReady b n .move i x → moveReady x n i → dPaced i = false →
      ∀ a z, Block.movePieces n i (tmo.map (·.toNat)) ((y.chan n).remain + 1) y 0 (y.chan n).remain = (0, a, z) → Answers (.move ch tmo) q b (done z)) ∧
    (dmReady b n .move i x → moveReady x n i → dPaced i = true → (y.chan n).remain ≠ 0 →
      Answers (.move ch tmo) q b (y.modChan n (fun c => { c with waiting := true }))) ∧
    (dmReady b n .zjob i x → moveReady x n i → dPaced i = false → (y.chan n).jobsOut < 8 →
      ∀ a xs z, y.pieceData n i 64 tmo.isSome = (0, a, xs, z) →
        Answers (.moveZjob ch tmo) q b
          (let c := z.chan n
           let out := (List.range 64).map (fun k => xs[swapIx (dSwap i) k]?.getD 0)
           let w := z.setChan n { c with
             jobs := c.jobs ++ [(z.cz.nextJob, c.dst)]
             crc := if dCrc i then z.chCrcOver n c.crc xs else c.crc
             moved := 64
             remain := 0
             spin := 0
             src := if dSinc i then advance c.srcWrap c.src 64 else c.src
             dst := if dDinc i then advance c.dstWrap c.dst 32 else c.dst }
           done (w.submitJob (w.zjobDesc n (bytesNat out)) (.dma n)))) ∧
    (∀ a w rest z, (b.chan n).ended = (a, w) :: rest →
      (b.setChan n { b.chan n with ended := rest }).chWrite n a 32 w.toNat tmo.isSome = (0, z) →
      Answers (.zjobCompletion ch tmo) q b ((z.dlvLands n a (w.toNat % 256)).chBoundary n)) ∧
    (b.chLive n = true → (b.chan n).mid = true → (b.chan n).waiting = true → b.chFetch n = (0, i, x) → b.chIllegal n i = false → dOp i = 1 →
      dPaced i = true → dZjob i = false → b.lineUp (dReq i) = true →
      ∀ a z, Block.movePieces n i (tmo.map (·.toNat)) (min (dBurst i) (b.chan n).remain + 1) x 0 (min (dBurst i) (b.chan n).remain) = (0, a, z) →
        Answers (.pacedBurst ch late tmo) q b
          (let w := z.chAck n (dReq i) late
           if (w.chan n).remain = 0 then done w else w)) ∧
    (dmReady b n .loop i x → spinOk x n →
      (let y := dmCounted x n
       let c := y.chan n
       let ctr := if i.getLsbD 8 then c.lc.2 else c.lc.1
       let dest := jumpPc c.pc (sgn32 (dWord i))
       (i.getLsbD 9 = true → Answers (.loop ch) q b ((y.setChan n { c with pc := dest, ahead := [] }).chBoundary n)) ∧
       (i.getLsbD 9 = false → ctr = 0 → Answers (.loop ch) q b (done y)) ∧
       (i.getLsbD 9 = false → ctr ≠ 0 → Answers (.loop ch) q b
        ((y.setChan n { c with pc := dest, ahead := [], lc := if i.getLsbD 8 then (c.lc.1, ctr - 1) else (ctr - 1, c.lc.2) }).chBoundary n)))) ∧
    (spinOk x n → (x.chan n).waiting = false →
      (let y := (dmCounted x n).modChan n (fun c => { c with waiting := true })
       let ends := fun (c : Bool) (z : Block) => if c then done z else z.chBoundary n
       (dmReady b n .waitJobs i x → Answers (.waitJobs ch) q b (ends ((y.chan n).jobsOut == 0) y)) ∧
       (dmReady b n .waitReq i x → y.chLineOk n (dReq i) = true → Answers (.waitReq ch) q b (ends (y.lineUp (dReq i)) y)) ∧
       (∀ v z, dAddr i % 4 = 0 → y.chRead n (dAddr i) 4 0 tmo.isSome = (0, v, z) →
        (let w := z.modChan n (fun c => { c with polled := z.usec })
         (dmReady b n .waitEq i x → Answers (.waitMemEq ch tmo) q b (ends (BitVec.ofNat 32 v == BitVec.ofNat 32 (dWord i)) w)) ∧
         (dmReady b n .waitGe i x →
          Answers (.waitMemGe ch tmo) q b (ends (decide (0 ≤ (BitVec.ofNat 32 v - BitVec.ofNat 32 (dWord i)).toInt)) w)))))) ∧
    (b.chLive n = true → (b.chan n).waiting = true → b.chFetch n = (0, i, x) → (dKind i = some .waitEq ∨ dKind i = some .waitGe) →
      dAddr i % 4 = 0 → ∀ v z, (x.elapseTo ((b.chan n).polled + 1)).chRead n (dAddr i) 4 0 tmo.isSome = (0, v, z) →
        Answers (.waitPoll ch tmo) q b
          (let w := z.modChan n (fun c => { c with polled := z.usec })
           if waitTrue i (BitVec.ofNat 32 v) then done w else w.chBoundary n)) ∧
    (dmReady b n .signal i x → spinOk x n →
      (let y := dmCounted x n
       let ev := fun (z : Block) => done (if i.getLsbD 8 then (z.raise (pgDmCh n) 1).chWakes n else z)
       (i.getLsbD 9 = false → Answers (.signal ch tmo) q b (ev y)) ∧
       (i.getLsbD 9 = true → dAddr i % 4 = 0 → ∀ z, y.chWrite n (dAddr i) 4 (dWord i) tmo.isSome = (0, z) → Answers (.signal ch tmo) q b (ev z)))) ∧
    (dmReady b n .set i x → spinOk x n →
      (let y := dmCounted x n
       let c := y.chan n
       let r := dReg i
       (i.getLsbD 11 = false → Answers (.setReg ch) q b (done (y.setChan n (c.setReg r (dVal i))))) ∧
       (i.getLsbD 11 = true → r = 0 → (c.srcWrap ≠ 0 ∨ c.src + dVal i ≤ 2 ^ 48) →
        Answers (.setReg ch) q b (done (y.setChan n { c with src := advance c.srcWrap c.src (dVal i) }))) ∧
       (i.getLsbD 11 = true → r = 1 → (c.dstWrap ≠ 0 ∨ c.dst + dVal i ≤ 2 ^ 48) →
        Answers (.setReg ch) q b (done (y.setChan n { c with dst := advance c.dstWrap c.dst (dVal i) }))) ∧
       (i.getLsbD 11 = true → 2 ≤ r →
        Answers (.setReg ch) q b (done (y.setChan n (c.setReg r ((c.regOf r + dVal i) % 2 ^ dRegBits 64 r))))))) ∧
    (dmReady b n .end_ i x → spinOk x n → (x.chan n).mid = false → ((dmCounted x n).chan n).jobsOut = 0 →
      (let y := dmCounted x n
       let len := x.chCrcBits n / 8
       let ends := fun (z : Block) =>
         let w := z.modChan n (fun c => { c with st := 2, mid := false, waiting := false, pc := (c.pc + 16) % 2 ^ 48, ahead := [] })
         if i.getLsbD 9 then (w.raise (pgDmCh n) 0).chWakes n else w
       (i.getLsbD 8 = false → Answers (.endProg ch tmo) q b (ends y)) ∧
       (i.getLsbD 8 = true → dAddr i % len = 0 → ∀ z, y.chWrite n (dAddr i) len (crcStored (y.chan n).crc len (i.getLsbD 10)) tmo.isSome = (0, z) →
        Answers (.endProg ch tmo) q b (ends z))))

/-- Faults and spares: UNIT_FATAL, DEVICE_FATAL, LANE_FAULT, BANK_FAULT, CHANNEL_FAULT, HEARTBEAT_MISS, K_FAILOVER, FAILOVER_SELF_TEST,
S_CORE_FAILOVER, CORE_CHECK, BIST_ROTATION and AGING_MEASURE (R380, R468, R506, R652-R656, R660-R673). -/
def Obligations.FaultCommands : Prop :=
  ∀ (q : List Instr) (b : Block) (page : BitVec 13) (code : BitVec 16) (ok testOk spareOk decomp sent : Bool) (n : BitVec 6) (bank kind : BitVec 3)
    (core rn : BitVec 7) (kc : BitVec 2) (slow : List (BitVec 16)) (short : List (BitVec 4)) (c : PageClass) (i l p at_ s : Nat) (rest : List Nat)
    (k : SpKind) (pg : Nat), b.dark = false →
    let pgU := page.toNat * 0x1000
    (presentPageAt b.variant pgU = some (c, i) →
      Answers (.deviceFatal page code) q b (b.fatalError pgU { code := code.toNat, sev := .deviceFatal }) ∧
      (b.pageReset pgU = 0 → 5 < c.unit →
        (let w := if fatalOwn b c i then b else b.record pgU { code := code.toNat, sev := .unitFatal }
         let x := ((w.addStrike pgU).fatalWork c i).wrF (pgU + 0x00C) 8 11 1
         (x.rdF (pgHk + 0x400) 0 0 = 1 →
          (uncovered c = false → Answers (.unitFatal page code false testOk spareOk) q b (x.recover c i testOk spareOk)) ∧
          (uncovered c = true → Answers (.unitFatal page code false testOk spareOk) q b (x.goOffline c i))) ∧
          (let z := (x.record pgU { code := code.toNat, sev := .unitFatal }).addStrike pgU
           z.rdF (pgHk + 0x400) 0 0 = 1 → Answers (.unitFatal page code true testOk spareOk) q b (z.goOffline c i))))) ∧
    (n.toNat < b.lanesOf decomp → (b.lane decomp n.toNat).dead = false → ((b.lane decomp n.toNat).job).isSome = true →
      (let x := ((b.stopJob decomp n.toNat 0x30).addStrike (pgLane decomp n.toNat)).raise (pgLane decomp n.toNat) 0
       x.spareReady (laneKind decomp) n.toNat = true →
        Answers (.laneFault decomp n true) q b
          (let y := (x.spareIn (laneKind decomp) n.toNat (pgLane decomp n.toNat)).freeTest
           (y.2.testReplaced (laneKind decomp) n.toNat (x.physOf (laneKind decomp) n.toNat) (pgLane decomp n.toNat) y.1).raise pgCz 5))) ∧
    (b.has .seBank bank.toNat = true → b.bankServes bank.toNat = true →
      Answers (.bankFault bank ok) q b (b.unitFatal (pgSeB bank.toNat) 0x0106 false (!ok) false)) ∧
    Answers (.channelFault n) q b ((b.addStrike (pgDmCh n.toNat)).chFault n.toNat) ∧
    (b.hk.booted = true → b.hk.failover = none → (b.core (96 + kc.toNat)).halted = none → (b.core (96 + kc.toNat)).stopped = false →
      b.rdF (pgHk + 0x40C) (b.kphys kc.toNat) (b.kphys kc.toNat) = 1 →
      Answers (.heartbeatMiss kc) q b
        (let x := b.elapseTo (smGet 0 b.hk.khb kc.toNat + b.rdF (pgHk + 0x404) 0 9 + 1)
         let y := x.modCore (96 + kc.toNat) (fun c => { c with stopped := true })
         (y.setActive (x.kphys kc.toNat) false).onHk (fun h => { h with failover := some (kc.toNat, x.kphys kc.toNat, y.usec) }))) ∧
    (b.hk.failover = some (l, p, at_) → b.standby ≠ 7 →
      Answers .kFailover q b
        (let st := b.standby
         let x := (b.onHk (fun h => { h with failover := none, kTest := some p })).answerHeld
         let y := (x.setStandby 7).setActive st true
         let z := y.onHk (fun h => { h with kphys := smSet l h.kphys l st, khb := smPut h.khb l x.usec })
         let w := (z.free.2.setCore (96 + l) { (z.free.2.core (96 + l)).renew (96 + l) with
           stopped := false
           pc := z.free.1
           st := 5
           resetAt := z.free.2.usec }).setSpared (pgKc l) true
         (((w.addSat (pgHk + 0x40C) 8 15 1).noteSubst .coreK l false).spareRec 0x0201 .corrected (pgKc l) st).raise pgHk 16)) ∧
    (b.hk.kTest = some p →
      Answers (.failoverSelfTest true) q b ((b.onHk (fun h => { h with kTest := none })).setStandby p) ∧
      Answers (.failoverSelfTest false) q b
        ((((((b.onHk (fun h => { h with kTest := none })).noteSubst .coreK p true).spareRec 0x0203 .corrected (pgKc 0) p)).setStandby 7).raise pgHk 18)) ∧
    (b.spares .coreS 0 = s :: rest →
      Answers .sCoreFailover q b
        (let x := (b.spareIn .coreS 0 pgHk).free
         let y := (x.2.setCore 100 { (x.2.core 100).renew 100 with pc := x.1, resetAt := x.2.usec }).freeTest
         y.2.testReplaced .coreS 0 (b.physOf .coreS 0) pgHk y.1)) ∧
    (b.hasCore core.toNat = true → coreKind core.toNat = .k →
      (let x := if (b.core core.toNat).stopped then b else b.coreRec core.toNat 0x185 .unitFatal 0
       x.hk.failover = none → Answers (.coreCheck core testOk) q b (x.failStart (core.toNat - 96)))) ∧
    (b.rdF (pgHk + 0x420) 16 16 = 1 → rn.toNat = b.rotNext kind.toNat → b.rotIdle kind.toNat rn.toNat = true →
      rotKind kind.toNat rn.toNat = some (k, pg) → b.spares k rn.toNat = p :: rest →
      Answers (.bistRotation kind rn true) q b
        (let x := b.elapseTo (smGet 0 b.hk.rotAt kind.toNat + b.rdF (pgHk + 0x420) 0 15 * 3600000000)
         let y := (((x.setPhys k rn.toNat p).setSpares k rn.toNat rest).setSpared pg true).noteSubst k rn.toNat false
         let z := if kind.toNat = 0 then (y.setCore rn.toNat { (y.core rn.toNat).renew rn.toNat with resetAt := y.usec }).idleCore rn.toNat else y
         (z.setSpares k rn.toNat (z.spares k rn.toNat ++ [x.physOf k rn.toNat])).rotTested kind.toNat rn.toNat)) ∧
    Answers (.agingMeasure slow short sent) q b
      (let x := (b.elapse (3600000000 - b.usec % 3600000000)).onHk (fun h =>
         { h with slow := ((slow.map (·.toNat)).take 16).zipIdx.foldl (fun m z => smSet 0 m z.2 z.1) h.slow })
       let worst := (x.hk.slow.map (·.2)).foldl max 0
       let old := x.rdF (pgHk + 0x448) 0 9
       let mv := max old (min 850 (750 + 5 * (worst / 50)))
       let y := (x.wrF (pgHk + 0x448) 0 9 mv).wrF (pgHk + 0x448) 10 10 (if mv = 850 then 1 else 0)
       let z := if mv = 850 ∧ (short.map (·.toNat)).isEmpty = false then (y.each (short.map (·.toNat)) Block.lowerMax).raise pgHk 21 else y
       if mv = old ∨ z.rdF (pgHk + 0x160) 7 7 = 0 then z
       else if sent then (z.onHk (fun h => { h with sentMv := mv })).send (.pmbus mv) else z.raise pgHk 10)

/-- Tickets, power states and gating: TICKET_REQUEST, TICKET_RETURN, REDIVISION, TICKET_REFUSED, RECALL, WRATE_CAP_UPDATE, CR_UPDATE,
RCL_STARVED, NON_OPERATIONAL_WAKE, PLL_STOP and UNIT_WAKE (R680-R691, R719, R724, R785). -/
def Obligations.TicketCommands : Prop :=
  ∀ (q : List Instr) (b : Block) (booth : Option (BitVec 3)) (id k : BitVec 16) (mw : BitVec 20) (cls : BitVec 2) (refusable rcl : Bool)
    (bk : BitVec 3) (t : Ticket) (p : BitVec 5) (page : BitVec 13) (n : Nat), b.dark = false →
    (let t := reqTicket booth id mw cls refusable rcl b.usec
     (b.holds t.who = false → t.mw ≤ b.poolBudget t.pool → b.pa.waiting.any (fun w => w.who == t.who) = false →
      (b.floatFits t = true → Answers (.ticketRequest booth id mw cls refusable rcl) q b (b.drawFloat t)) ∧
      (b.floatFits t = false → b.ticketFits t = true → (∀ w ∈ b.pa.waiting, w.pool = t.pool → b.before w.cls w.born t.cls t.born = false) →
        Answers (.ticketRequest booth id mw cls refusable rcl) q b { b with pa := { b.pa with held := b.pa.held ++ [t] } }) ∧
      (b.floatFits t = false → b.ticketFits t = false →
        Answers (.ticketRequest booth id mw cls refusable rcl) q b { b with pa := { b.pa with waiting := b.pa.waiting ++ [t] } }))) ∧
    Answers (.ticketReturn id) q b { b with pa := { b.pa with
      held := b.pa.held.filter (fun t => t.who ≠ .other id.toNat)
      waiting := b.pa.waiting.filter (fun t => t.who ≠ .other id.toNat)
      starved := b.pa.starved.filter (· ≠ .other id.toNat) } } ∧
    Answers .redivision q b (b.promoteAged.redivide.inrushGranted) ∧
    (b.pa.waiting[k.toNat]? = some t →
      (b.poolBudget t.pool < t.mw → Answers (.ticketRefused k) q b (((b.untick t.who).countRefusal).refusedHolder t true)) ∧
      (t.mw ≤ b.poolBudget t.pool → t.refusable = true → { b with pa := { b.pa with floats := [] } }.ticketFits t = false →
        Answers (.ticketRefused k) q b
          ((((b.elapseTo (t.born + b.rdF (pgPa + 0x11C) 0 7 * 1000)).untick t.who).countRefusal).refusedHolder t false))) ∧
    Answers .recall q b (b.each (List.range 36) (fun x _ => x.recallOne)) ∧
    Answers .wrateCapUpdate q b
      (let a := pageBase .hp 0 + 0x118
       let cap := if b.rdF (pgPa + 0x124) 16 24 ≤ b.wrate then 0 else max 1 b.wrate
       if b.rdF a 0 15 = cap then b else (b.wrF a 0 15 cap).raise pgPa 1) ∧
    Answers .crUpdate q b
      (let x := b.elapse (1000 - b.usec % 1000)
       let ws := x.ft.ratio.filter (fun e => decide (x.usec / 1000 ≤ e.1 + 1000))
       let units := (ws.map (·.2.1)).sum
       (x.onFt (fun t => { t with ratio := ws })).wrSat (pgPa + 0x128) 0 15
        (if units = 0 then 256 else units * 16384 * 256 / (ws.map (·.2.2)).sum)) ∧
    (b.pa.waiting.find? (fun t => t.pool == .booth bk.toNat && t.rcl && !b.pa.starved.contains t.who) = some t →
      Answers (.rclStarved bk) q b
        (let x := b.elapseTo (t.born + 10001)
         { x with pa := { x.pa with starved := x.pa.starved ++ [t.who] } }.raise (pgPaBooth bk.toNat) 0)) ∧
    (3 ≤ b.pa.ps → Answers .nonOperationalWake q b (b.setPs b.pa.lastOp)) ∧
    (b.pllIdle p.toNat = true → b.hk.pllOff.contains p.toNat = false → p.toNat ≤ 9 →
      Answers (.pllStop p) q b
        (let x := b.elapse (b.rdF (pgHk + 0x118) 0 7 * 1000)
         x.onHk (fun h => { h with pllOff := h.pllOff ++ [p.toNat] }))) ∧
    (presentPageAt b.variant (page.toNat * 0x1000) = some (.cxCluster, n) → b.clStep n = 0 → b.holds (.cluster n 1) = true →
      Answers (.unitWake page) q b ((b.elapse (b.wakeTime (1 + n / 2))).setStep n 1)) ∧
    (presentPageAt b.variant (page.toNat * 0x1000) = some (.cxTenant, n) → b.rdF (page.toNat * 0x1000 + 0x00C) 1 3 ≠ 2 →
      Answers (.unitWake page) q b (b.setPower (page.toNat * 0x1000) 2))

/-- Power, resets and housekeeping: PWRFAIL, POWER_LOSS_DONE, POWER_LOSS_RESUME, POWER_ON, VDD_AON_FALL, BOOT, CLEAN_SHUTDOWN,
HOUSEKEEPING_ROUND, ROR_HOLD_END, INPUT_EDGE, INPUT_STUCK, RECORD_STORE_UPDATE and RECORD_STORE_READBACK (R266, R692-R717). The record
store's value names, the placement and what firmware does first are the model's (log entries 34, 35 and 7). -/
def Obligations.PowerCommands : Prop :=
  ∀ (q : List Instr) (b : Block) (jtagEn ok0 ok1 level : Bool) (bar2 : BitVec 2) (route : W32) (temp : BitVec 16) (chans : List (BitVec 16))
    (i : BitVec 4) (t k : Nat) (x : Img) (one : Bool) (f : FwSlots), b.hk.off = false →
    (let y := b.setLevel 1 false
     y.hk.tripped = false → y.plossSt = 0 → Answers .pwrfail q b ((y.raise pgHk 6).plossStart)) ∧
    (b.plossSt = 1 → b.hk.tripped = false → b.plossFinish.pwrfailBad = false → Answers .powerLossDone q b (b.plossFinish.setPloss 2)) ∧
    (b.plossSt = 2 → b.hk.okSince = some t →
      Answers .powerLossResume q b ((b.elapseTo (t + b.rdF (pgHk + 0x158) 0 7 * 1000)).deviceReset 2)) ∧
    Answers .vddAonFall q b b.aonFall ∧
    Answers (.powerOn jtagEn) q b.aonFall
      (((b.aonFall.onHk (fun h => { h with off := false })).onDbg (fun d => { d with jtagEn := jtagEn })).boothsKept) ∧
    (b.hk.booted = false → b.dark = false → b.bootCool = true → (b.inp 1).level = true →
      (let y := b.bootRead
       y.bootSlot ok0 ok1 = (some one, f, false) →
        Answers (.boot ok0 ok1 bar2 route) q b
          (let z := (y.onHk (fun h => { h with next := { h.next with fw := f } })).showFw
           ((z.wrF (pgHk + 0x148) 0 7 z.hk.fused).recUpdate id).bootEnter one bar2.toNat route))) ∧
    (b.dark = false → Answers .cleanShutdown q b
      ((b.onHk (fun h => { h with wear := b.peRange, wearAt := b.usec })).recUpdate (fun z => { z with clean := true }))) ∧
    Answers (.housekeepingRound temp chans) q b
      (let ms := b.rdF (pgHk + 0x10C) 0 4
       let y := b.elapseTo (b.hk.roundAt + ms * 1000)
       let z := (y.onHk (fun h => { h with roundAt := y.usec })).diode temp.toInt
       (((z.each ((chans.map (·.toNat)).take 24).zipIdx (fun w c => w.readChan (c.2 + 1) c.1)).railCounts).lifeStep ms).onCx (fun c =>
        { c with sIrq := true })) ∧
    (b.hk.hold = some t → Answers .rorHoldEnd q b ((b.elapseTo t).onHk (fun h => { h with hold := none }))) ∧
    (i.toNat < 15 → (b.inp i.toNat).masked = false → (b.inp i.toNat).level ≠ level →
      (let y := (b.modInp i.toNat (fun z => { z with edges := b.usec :: z.edges.take 63 })).inputEffect i.toNat level
       fld (y.inCfg i.toNat) 20 25 = 0 → Answers (.inputEdge i level) q b y)) ∧
    (i.toNat < 15 → fld (b.inCfg i.toNat) 8 19 ≠ 0 → (b.inp i.toNat).stuck = false → (b.inp i.toNat).level = activeLevel i.toNat → i.toNat ≠ 1 →
      Answers (.inputStuck i) q b
        ((((b.elapseTo ((b.inp i.toNat).since + fld (b.inCfg i.toNat) 8 19 * 1000)).modInp i.toNat (fun z => { z with stuck := true })).hkRecord
          0x0212 .corrected i.toNat).raise pgHk 4)) ∧
    (b.hk.more = true → b.hk.writing = none → Answers .recordStoreUpdate q b b.recWrite) ∧
    (b.hk.writing = some (x, one, k) →
      Answers (.recordStoreReadback true) q b ((b.elapse 400).recIdle) ∧
      (k = 0 → Answers (.recordStoreReadback false) q b
        (((b.elapse 400).putBank one (some x)).onHk (fun h => { h with writing := some (x, one, 1) }))) ∧
      (k ≠ 0 → Answers (.recordStoreReadback false) q b
        (((((b.elapse 400).putBank one none).recIdle).hkRecord 0x0210 .deferred 0).raise pgHk 8)))

/-- The frames of the Llyn port: LLYN_READ_FRAME, LLYN_WRITE_FRAME, LLYN_RESYNC, CHALLENGE, RESPONSE, AUTH_CHECK_DONE, RELOCK,
LLYN_DEV_RESET and STATUS_W1C (R725-R733). -/
def Obligations.DebugFrameCommands : Prop :=
  ∀ (q : List Instr) (b x : Block) (reg : BitVec 6) (tag : BitVec 3) (v w : W64) (nonce : BitVec 256) (ok : Bool) (n : Option (BitVec 256))
    (r : BitVec 384), b.hk.off = false →
    (Answers (.llynReadFrame reg tag false) q b b ∧ Answers (.llynWriteFrame reg tag v false ok) q b b ∧ Answers .llynResync q b b) ∧
    (frameActs b reg.toNat none → b.portRead reg.toNat = (true, w, x) → Answers (.llynReadFrame reg tag true) q b (x.reply 5 tag w)) ∧
    (frameActs b reg.toNat none → b.portRead reg.toNat = (false, w, x) → Answers (.llynReadFrame reg tag true) q b (x.reply 10 tag w)) ∧
    (frameActs b reg.toNat (some v) →
      Answers (.llynWriteFrame reg tag v true false) q b ((b.onDbg (fun d => { d with crcErr := true })).reply 5 tag 0) ∧
      (b.dbg.last = some (reg.toNat, tag.toNat, v) → Answers (.llynWriteFrame reg tag v true true) q b (b.reply 5 tag 0)) ∧
      (b.dbg.last ≠ some (reg.toNat, tag.toNat, v) →
        (b.portWrite reg.toNat v = (true, w, x) → Answers (.llynWriteFrame reg tag v true true) q b (wrote x reg.toNat tag v)) ∧
        (b.portWrite reg.toNat v = (false, w, x) → Answers (.llynWriteFrame reg tag v true true) q b (x.reply 10 tag 0)))) ∧
    (b.dbg.checking.isSome = true →
      Answers (.llynReadFrame reg tag true) q b (b.reply 6 tag 0) ∧ Answers (.llynWriteFrame reg tag v true ok) q b (b.reply 6 tag 0)) ∧
    (b.dbg.checking = none → b.dbg.crcErr = true → reg ≠ 1 →
      Answers (.llynReadFrame reg tag true) q b (b.reply 10 tag 0) ∧ Answers (.llynWriteFrame reg tag v true ok) q b (b.reply 10 tag 0)) ∧
    (b.dbg.checking = none → b.dbg.level = false →
      (openReg reg.toNat none = false → Answers (.llynReadFrame reg tag true) q b (b.reply 10 tag 0)) ∧
      (openReg reg.toNat (some v) = false → Answers (.llynWriteFrame reg tag v true ok) q b (b.reply 10 tag 0))) ∧
    (b.dbg.checking = none → b.dbg.crcErr = false →
      Answers (.challenge tag nonce) q b ((b.onDbg (fun d => { d with nonce := some nonce })).reply 5 tag (nonce.setWidth 64)) ∧
      b.portRead 4 = (true, (nonceOf b.freeCtr).setWidth 64,
        { b with freeCtr := b.freeCtr + 4, dbg := { b.dbg with nonce := some (nonceOf b.freeCtr) } }) ∧
      (b.dbg.last ≠ some (0x0D, tag.toNat, v) →
        Answers (.response tag v) q b
          (let y := (b.dbg.response.setWidth 320).setWidth 384 ||| (v.setWidth 384 <<< 320)
           wrote (b.onDbg (fun d => { d with response := y, checking := some (d.nonce, y), nonce := none })) 0x0D tag v)) ∧
      (b.dbg.last ≠ some (2, tag.toNat, 1) →
        Answers (.relock tag) q b (wrote (b.onDbg (fun d => { d with level := false })) 2 tag 1)) ∧
      (b.dbg.level = true → b.dbg.last ≠ some (2, tag.toNat, 0x5EED0002) →
        Answers (.llynDevReset tag 0x5EED) q b (wrote (b.deviceReset 5) 2 tag 0x5EED0002))) ∧
    (b.dbg.checking = none → b.dbg.last ≠ some (1, tag.toNat, v) →
      Answers (.statusW1c tag v) q b
        (wrote (b.onDbg (fun d => { d with crcErr := d.crcErr && !v.getLsbD 1, accErr := d.accErr && !v.getLsbD 2 })) 1 tag v)) ∧
    (b.dbg.checking = some (n, r) →
      let y := b.onDbg (fun d => { d with checking := none })
      (b.dbg.lockout = false → n.map (fun m => Config.debugMac m b.fuses.uid) = some r →
        Answers .authCheckDone q b ((y.onDbg (fun d => { d with level := true })).raise pgDbg 0)) ∧
      (n.map (fun m => Config.debugMac m b.fuses.uid) ≠ some r →
        (b.dbg.fails < 7 → b.dbg.lockout = false →
          Answers .authCheckDone q b
            (((y.onDbg (fun d => { d with fails := d.fails + 1 })).record pgDbg { code := 0x0101, sev := .corrected }).raise pgDbg 1))))

/-- What the port does to cores and memory, and the TAP: MEM_DATA_ACCESS, HALT, CORE_RESUME, STEP, CORE_REG_WRITE, BREAKPOINT, WATCHPOINT,
OWNED_CONTEXT_TRAP, XT_RESUME, BYPASS, IDCODE, SAMPLE_PRELOAD, EXTEST, CLAMP and HIGHZ (R734-R742, R745). The JTAG instruction numbers
are the model's own. -/
def Obligations.DebugCoreCommands : Prop :=
  ∀ (q : List Instr) (b : Block) (tag : BitVec 3) (v : W64) (core : BitVec 7) (k : BitVec 2) (k1 : BitVec 1) (write : Bool) (groups : BitVec 8)
    (i n m : Nat) (z : HaltCause), b.hk.off = false →
    (b.dbg.checking = none → b.dbg.crcErr = false → b.dbg.level = true →
      (b.dark = false → b.rdF (pgDbg + 0x104) 3 3 = 1 →
        (let sz := if b.dbg.memCtl.getLsbD 0 then 8 else 4
         let rq : BusReq := ⟨47, 1, 0, b.dbg.memAddr, sz, 0, false⟩
         (let r := b.busRead rq []
          let y := r.2.2.onDbg (fun d => { d with memAddr := d.nextAddr })
          Answers (.memDataAccess tag false v) q b
            (if r.1 = .ok then (y.onDbg (fun d => { d with memData := BitVec.ofNat 64 r.2.1 })).reply 5 tag (BitVec.ofNat 64 r.2.1)
             else (y.onDbg (fun d => { d with accErr := true, resp := respCode r.1 })).reply 10 tag 0)) ∧
         (b.dbg.last ≠ some (0x11, tag.toNat, v) →
           let r := b.busWrite rq [] (BitVec.ofNat 256 (2 ^ sz - 1)) (v.setWidth 2048)
           let y := r.2.onDbg (fun d => { d with memAddr := d.nextAddr })
           Answers (.memDataAccess tag true v) q b
            (if r.1 = .ok then wrote (y.onDbg (fun d => { d with memData := v })) 0x11 tag v
             else (y.onDbg (fun d => { d with accErr := true, resp := respCode r.1 })).reply 10 tag 0)))) ∧
      (b.selCore = some i → b.mayHalt i = true →
        ((b.core i).halted = none →
          (b.dbg.last ≠ some (0x21, tag.toNat, 1) →
            Answers (.halt tag false) q b (wrote ((b.modCore i (fun c => { c with haltReq := some .request })).boundary i) 0x21 tag 1)) ∧
          (b.dbg.last ≠ some (0x21, tag.toNat, 5) →
            let y := match (b.core i).onCtx with
              | some k => b.modCtx k (fun x => { x with owned := true })
              | none => b
            Answers (.halt tag true) q b (wrote ((y.modCore i (fun c => { c with haltReq := some .request })).boundary i) 0x21 tag 5))) ∧
        ((b.core i).halted = some z →
          (b.dbg.last ≠ some (0x21, tag.toNat, 3) → Answers (.stepCore tag) q b (wrote (b.unhalt i (some .step)) 0x21 tag 3)))) ∧
      (b.selCore = some i → (b.core i).halted = some z →
        (b.dbg.last ≠ some (0x21, tag.toNat, 2) → Answers (.coreResume tag) q b (wrote (b.unhalt i none) 0x21 tag 2)) ∧
        (b.dbg.last ≠ some (0x24, tag.toNat, v) →
          Answers (.coreRegWrite tag v) q b
            (wrote (if b.dbg.regSel.toNat < 256 then b.setCoreSlot i b.dbg.regSel.toNat v
              else b.sysWrite i (b.dbg.regSel.toNat - 256) v) 0x24 tag v))) ∧
      (b.dbg.last ≠ some (0x31, tag.toNat, groups.setWidth 64) →
        Answers (.xtResume tag groups) q b
          (wrote (b.each b.coreList (fun y j => if (((y.core j).xt >>> 8) &&& groups.setWidth 16) ≠ 0 then y.unhalt j none else y))
            0x31 tag (groups.setWidth 64)))) ∧
    ((if 100 ≤ core.toNat then b.hk.off = false else b.dark = false) →
      (b.coreLive core.toNat = true → (b.core core.toNat).wfi = false → b.mayHalt core.toNat = true → (b.core core.toNat).lates = [] →
        (b.core core.toNat).watch = none → (b.core core.toNat).bpHit = some k.toNat → Answers (.breakpoint core k) q b (b.bpHalt core.toNat k.toNat)) ∧
      (b.coreLive core.toNat = true → (b.core core.toNat).watch = some (k1.toNat, v, write) →
        Answers (.watchpoint core k1 v write) q b (b.takeWatch core.toNat))) ∧
    (b.dark = false → (b.core core.toNat).onCtx = some n → b.coreLive core.toNat = true → b.mayHalt core.toNat = true →
      (b.core core.toNat).tcause.getLsbD 8 = false → fld (b.core core.toNat).tcause 0 7 = m → 9 ≤ m → m ≤ 11 →
      (∃ x, b.ctx n = some x ∧ x.st = CtxSt.supervisor ∧ x.owned = true) →
      Answers (.ownedContextTrap core) q b (b.haltFire core.toNat .ownedTrap false 0 m)) ∧
    (b.dbg.jtagEn = true →
      Answers .bypass q b ((b.onDbg (fun d => { d with tap := 1 })).send (.jtag 1 0)) ∧
      Answers .idcode q b ((b.onDbg (fun d => { d with tap := 2 })).send (.jtag 32 0xB1280E2F)) ∧
      Answers .clamp q b ((b.onDbg (fun d => { d with tap := 5 })).send (.jtag 1 0)) ∧
      Answers .highz q b ((b.onDbg (fun d => { d with tap := 6 })).send (.jtag 1 0)) ∧
      Answers .samplePreload q b (({ b with freeCtr := b.freeCtr + 1 }.onDbg (fun d => { d with tap := 3 })).send
        (.jtag 0 (Config.freeValue b.freeCtr))) ∧
      Answers .extest q b (({ b with freeCtr := b.freeCtr + 1 }.onDbg (fun d => { d with tap := 4 })).send
        (.jtag 0 (Config.freeValue b.freeCtr)))) ∧
    (b.dbg.jtagEn = false → Answers .bypass q b b ∧ Answers .idcode q b b ∧ Answers .clamp q b b ∧ Answers .highz q b b)

/-- The bytes of an instruction that raise ILLEGAL_OPCODE or ILLEGAL_PREFIX or are too long end in that trap and nothing else: RESERVED_OPCODE
always does (R545-R547, R563, R568, R570). -/
def Obligations.IllegalInstructionsTrap : Prop :=
  ∀ (q : List Instr) (b b1 : Block) (c : Instr) (core : BitVec 7) (op : EwOp) (e : Enc) (esc : Bool),
    let i := core.toNat
    let b0 := b.setCore i (atBoundary (b.core i) e)
    let ill (code : Nat) : TrapIn := { code := code, tpc := (b0.core i).pc, taddr := (b0.core i).pc }
    powered b core → starts b i e →
    (ewOf c = some (core, op, e) → b0.fetchIns i (min 15 (ewLen op e)) e.par = .ok b1 →
      (15 < ewLen op e → Answers c q b (b1.insTrap i (b0.core i) (ill 3))) ∧
      (ewLen op e ≤ 15 → (fieldsLegal op e = false ∨ ((b0.core i).user = true ∧ privileged op = true) ∨ (coreKind i = .s ∧ absentOnS op e = true) ∨
          (op = .rett ∧ rettLegal i (b0.core i).tst = false)) → Answers c q b (b1.insTrap i (b0.core i) (ill 1))) ∧
      (ewLen op e ≤ 15 → fieldsLegal op e = true → ((b0.core i).user = true → privileged op = false) → (coreKind i = .s → absentOnS op e = false) →
          (op = .rett → rettLegal i (b0.core i).tst = true) → pfxLegal op e = false → Answers c q b (b1.insTrap i (b0.core i) (ill 2)))) ∧
    (b0.fetchIns i (min 15 (ewLen (.reserved esc) e)) e.par = .ok b1 → ewLen (.reserved esc) e ≤ 15 →
      Answers (.ewReserved core esc e) q b (b1.insTrap i (b0.core i) (ill 1)))

/-- The register-register and immediate instructions: MOV, ADD, SUB, ADC, SBB, AND, OR, XOR, CMP, TST, SHL, SHR, SAR, ROL, MUL, MULH, DIV,
DIVU, REM, REMU, NEG, NOT, CLZ, POPC, BSWAP, MULHU, and MOVI, ADDI, SUBI, ANDI, ORI, XORI, CMPI, TSTI, SHLI, SHRI, SARI, ADDI8, CMPI8
(R578-R582). Beside pc and the boundary, they change the destination register and fl and nothing else. -/
def Obligations.ArithmeticInstructions : Prop :=
  ∀ (q : List Instr) (b b1 : Block) (c : Instr) (core : BitVec 7) (e : Enc) (o : AluOp) (m : ImmOp) (r : Option Nat) (f : Option (BitVec 4)),
    let i := core.toNat
    powered b core →
    (ewOf c = some (core, .alu o, e) → issues b i (.alu o) e b1 →
      let x := running b1 i (.alu o) e
      let ga := ((x.core i).getG (encA e)).toNat
      let gb := ((x.core i).getG (encB e)).toNat
      (aluRes o (widthOf e.pre) ga gb (x.core i).fl = some (r, f) → Answers c q b (completes b1 i (x.modCore i (fun c => c.result (encA e) r f)))) ∧
      ((o = .div ∨ o = .divu ∨ o = .rem ∨ o = .remu) → gb % 2 ^ widthOf e.pre = 0 →
        Answers c q b (trapped b1 i { code := 8, tpc := pcOf b1 i, taddr := pcOf b1 i } x)) ∧
      ((o ≠ .div ∧ o ≠ .divu ∧ o ≠ .rem ∧ o ≠ .remu) ∨ gb % 2 ^ widthOf e.pre ≠ 0 →
        (aluRes o (widthOf e.pre) ga gb (x.core i).fl).isSome = true)) ∧
    (ewOf c = some (core, .imm m, e) → issues b i (.imm m) e b1 →
      let x := running b1 i (.imm m) e
      let y := immRes m (widthOf e.pre) ((x.core i).getG (encA e)).toNat (immArg m e (widthOf e.pre))
      Answers c q b (completes b1 i (x.modCore i (fun c => c.result (encA e) y.1 y.2))))

/-- Control transfer: BRK, NOP, SYSCALL, FENCE, RETT, WFI, RET, JMP_REL8, JMP_REL32, CALL, JMPR, CALLR, and the fourteen conditional
branches with 1-byte and 4-byte displacements (R574-R577, R586). -/
def Obligations.ControlInstructions : Prop :=
  ∀ (q : List Instr) (b b1 y : Block) (c : Instr) (core : BitVec 7) (e : Enc) (op : EwOp) (long : Bool) (k f v : Nat),
    let i := core.toNat
    let x := running b1 i op e
    let rel := nextOf b1 i op e + BitVec.ofNat 64 (immSext op e 64)
    let sp := (x.core i).getG 15
    powered b core → ewOf c = some (core, op, e) → issues b i op e b1 →
    (op = .nop → Answers c q b (completes b1 i x)) ∧
    (op = .fence → Answers c q b (completes b1 i (x.modCore i Core.arriveAll))) ∧
    (op = .rett → rettLegal i (x.core i).tst = true → Answers c q b (completes b1 i (x.rett i))) ∧
    (op = .wfi →
      let due := (x.core i).quantum || x.dispDue i || (coreKind i == .s && x.cx.sIrq) || (coreKind i == .k && !x.cx.kInts.isEmpty)
      (due = true → Answers c q b (completes b1 i x)) ∧
      (due = false → Answers c q b (completes b1 i (x.modCore i (fun c => { c.arriveAll with wfi := true, pc := pcOf b1 i }))))) ∧
    (op = .brk → Answers c q b ((x.modCore i (fun c => { c with iters := 0 })).takeTrap i
      { code := 9, tpc := nextOf b1 i op e, taddr := pcOf b1 i } (pcOf b1 i))) ∧
    (op = .syscall → Answers c q b ((x.modCore i (fun c => { c with iters := 0 })).takeTrap i
      { code := 13, tpc := nextOf b1 i op e, taddr := pcOf b1 i, tinfo := BitVec.ofNat 64 (e.imm.toNat % 65536) } (pcOf b1 i))) ∧
    (op = .jmp long → Answers c q b (completes b1 i (x.modCore i (fun c => { c with pc := rel })))) ∧
    (op = .jmpr → Answers c q b (completes b1 i (x.modCore i (fun c => { c with pc := c.getG (encA e) })))) ∧
    (op = .bcc k long →
      (condHolds k (x.core i).fl = true → Answers c q b (completes b1 i (x.modCore i (fun c => { c with pc := rel })))) ∧
      (condHolds k (x.core i).fl = false → Answers c q b (completes b1 i x))) ∧
    (x.operand i (pcOf b1 i) (stackOf e) sp 8 [.rd] = .ok f → x.readAt i (stackOf e) sp f 8 e.errs = (v, none, y) → op = .ret →
      Answers c q b (completes b1 i (y.modCore i (fun c => { c.wrG 15 (sp + 8).toNat with pc := BitVec.ofNat 64 v })))) ∧
    (x.operand i (pcOf b1 i) (stackOf e) (sp - 8) 8 [.wr] = .ok f →
      x.writeAt i (pcOf b1 i) (stackOf e) (sp - 8) f 8 (nextOf b1 i op e).toNat e.errs = .ok y →
      (op = .call → Answers c q b (completes b1 i (y.modCore i (fun c => { c.wrG 15 (sp - 8).toNat with pc := rel })))) ∧
      (op = .callr → Answers c q b (completes b1 i (y.modCore i (fun c => { c.wrG 15 (sp - 8).toNat with pc := (x.core i).getG (encA e) })))))

/-- Memory instructions: LD, LDS, XCHG, XADD, CAS, ADDM, ANDM, ORM, XORM, ST, STI, LEA, PUSH and POP, and the special registers and
accumulators in memory, LDP, STP, LDA and STA (R583-R585, R587-R590). The operand is aligned and its address translates. -/
def Obligations.MemoryInstructions : Prop :=
  ∀ (q : List Instr) (b b1 y z : Block) (c : Instr) (core : BitVec 7) (e : Enc) (op : EwOp) (f v : Nat) (m : MOp),
    let i := core.toNat
    let x := running b1 i op e
    let w := widthOf e.pre
    let a := (x.core i).opAddr e
    let g := ((x.core i).getG (encA e)).toNat % 2 ^ w
    let sp := (x.core i).getG 15
    let pc := pcOf b1 i
    powered b core → ewOf c = some (core, op, e) → issues b i op e b1 →
    (op = .lea → Answers c q b (completes b1 i (x.modCore i (fun c => c.wrG (encA e) a.toNat)))) ∧
    (x.operand i pc (spOf e) a (szOf e) [.rd] = .ok f → x.readAt i (spOf e) a f (szOf e) e.errs = (v, none, y) →
      (op = .load .ld → Answers c q b (completes b1 i (loading y i (.g (encA e)) v pc a (farOf (spOf e) f (szOf e))))) ∧
      (op = .load .lds → Answers c q b (completes b1 i (loading y i (.g (encA e)) (ofSgn 64 (sgn w v)) pc a (farOf (spOf e) f (szOf e)))))) ∧
    (x.operand i pc (spOf e) a (szOf e) [.rd, .wr] = .ok f → x.readAt i (spOf e) a f (szOf e) e.errs = (v, none, y) →
      (op = .load .xchg → y.writeAt i pc (spOf e) a f (szOf e) g e.errs = .ok z →
        Answers c q b (completes b1 i (loading z i (.g (encA e)) v pc a (farOf (spOf e) f (szOf e))))) ∧
      (op = .load .xadd → y.writeAt i pc (spOf e) a f (szOf e) ((v + g) % 2 ^ w) e.errs = .ok z →
        Answers c q b (completes b1 i (loading z i (.g (encA e)) v pc a (farOf (spOf e) f (szOf e))))) ∧
      (op = .load .cas → v = g → y.writeAt i pc (spOf e) a f (szOf e) (((x.core i).getG (encB e)).toNat % 2 ^ w) e.errs = .ok z →
        Answers c q b (completes b1 i (loading (z.modCore i (fun c => { c with fl := (c.fl &&& ~~~1) ||| 1 }))
          i (.g (encA e)) v pc a (farOf (spOf e) f (szOf e))))) ∧
      (op = .load .cas → v ≠ g →
        Answers c q b (completes b1 i (loading (y.modCore i (fun c => { c with fl := c.fl &&& ~~~1 }))
          i (.g (encA e)) v pc a (farOf (spOf e) f (szOf e))))) ∧
      (op = .rmw m →
        let s := match m with
          | .addm => addFl w v g false
          | .andm => logicFl w (v &&& g)
          | .orm => logicFl w (v ||| g)
          | .xorm => logicFl w (v ^^^ g)
        y.writeAt i pc (spOf e) a f (szOf e) s.1 e.errs = .ok z →
        Answers c q b (completes b1 i (z.modCore i (fun c => { c with fl := s.2 }))))) ∧
    (x.operand i pc (spOf e) a (szOf e) [.wr] = .ok f →
      (op = .st → x.writeAt i pc (spOf e) a f (szOf e) g e.errs = .ok z → Answers c q b (completes b1 i z)) ∧
      (op = .sti → x.writeAt i pc (spOf e) a f (szOf e) (e.imm.toNat % 2 ^ (8 * (w / 8))) e.errs = .ok z → Answers c q b (completes b1 i z))) ∧
    (let n := specialBytes (encA e)
     (op = .ldp → x.operand i pc (spOf e) a n [.rd] = .ok f → x.readAt i (spOf e) a f n e.errs = (v, none, y) →
       Answers c q b (completes b1 i (loading y i (specialDst (encA e)) v pc a (farOf (spOf e) f n)))) ∧
     (op = .stp → x.operand i pc (spOf e) a n [.wr] = .ok f →
       x.writeAt i pc (spOf e) a f n ((x.core i).special (encA e)) e.errs = .ok z → Answers c q b (completes b1 i z))) ∧
    (op = .lda → x.operand i pc (spOf e) a 16 [.rd] = .ok f → x.readAt i (spOf e) a f 16 e.errs = (v, none, y) →
      Answers c q b (completes b1 i (loading y i (.ac (encA e)) (v % 2 ^ 80) pc a (farOf (spOf e) f 16)))) ∧
    (op = .sta → x.operand i pc (spOf e) a 16 [.wr] = .ok f →
      x.writeAt i pc (spOf e) a f 16 ((x.core i).getAc (encA e)).toNat e.errs = .ok z → Answers c q b (completes b1 i z)) ∧
    (op = .push → x.operand i pc (stackOf e) (sp - 8) 8 [.wr] = .ok f →
      x.writeAt i pc (stackOf e) (sp - 8) f 8 ((x.core i).getG (encA e)).toNat e.errs = .ok z →
      Answers c q b (completes b1 i (z.modCore i (fun c => c.wrG 15 (sp - 8).toNat)))) ∧
    (op = .pop → x.operand i pc (stackOf e) sp 8 [.rd] = .ok f → x.readAt i (stackOf e) sp f 8 e.errs = (v, none, y) →
      Answers c q b (completes b1 i (loading (y.modCore i (fun c => c.wrG 15 (sp + 8).toNat)) i (.g (encA e)) v pc sp none)))

/-- Special registers, accumulators and system registers: GET, PUT, ADDP, CLRA, WRA, RDA, RDAH, WRAH, MFS, MTS and ICINV (R587-R591). -/
def Obligations.RegisterMoveInstructions : Prop :=
  ∀ (q : List Instr) (b b1 : Block) (c : Instr) (core : BitVec 7) (e : Enc) (op : EwOp) (o : AcOp),
    let i := core.toNat
    let x := running b1 i op e
    let gb := (x.core i).getG (encB e)
    let n := e.imm.toNat % 256
    powered b core → ewOf c = some (core, op, e) → issues b i op e b1 →
    (op = .get → Answers c q b (completes b1 i (x.modCore i (fun c => c.wrG (encA e) (c.special (encB e)))))) ∧
    (op = .put →
      (encA e = 13 → Answers c q b (completes b1 i (x.modCore i (fun c => { c with fl := gb.setWidth 4 })))) ∧
      (encA e ≠ 13 → Answers c q b (completes b1 i (x.modCore i (fun c => c.wr (specialDst (encA e)) (gb.setWidth 80)))))) ∧
    (op = .addp → Answers c q b (completes b1 i (x.modCore i (fun c => c.addp (encA e) (immSext .addp e 64))))) ∧
    (op = .acc o → Answers c q b (completes b1 i (x.modCore i (fun c => c.accIns o e)))) ∧
    (op = .mfs → Answers c q b (completes b1 i ((x.sysRead i n).2.modCore i (fun c => c.wrG (encA e) (x.sysRead i n).1)))) ∧
    (op = .mts → Answers c q b (completes b1 i (x.sysWrite i n ((x.core i).getG (encA e))))) ∧
    (op = .mts → n = 11 → (Answers (.ewIcinv core e) q b (completes b1 i (x.modCore i (fun c => { c with icache := [] })))))

/-- The repeatable class: MACD, SCPY, SFIL, SCMP, SFND, SCRC, BXFR_LOAD and BXFR_STORE, once without a repeat prefix, and under RPT, RSD or
RSM until the repeat ends (R593-R601). -/
def Obligations.RepeatableInstructions : Prop :=
  ∀ (q : List Instr) (b b1 y : Block) (c : Instr) (core : BitVec 7) (e : Enc) (op : EwOp),
    let i := core.toNat
    powered b core → ewOf c = some (core, op, e) → issues b i op e b1 → (op = .macd ∨ op = .bxfr ∨ ∃ o, op = .str o) →
    (repOf e.pre = .none → (running b1 i op e).iterate i (pcOf b1 i) op e = .ok y → Answers c q b (completes b1 i y)) ∧
    (repOf e.pre ≠ .none → (b1.core i).ct = 0 →
      Answers c q b ((b1.modCore i (fun c => { c with pc := nextOf b1 i op e })).insEnd i (pcOf b1 i) (b1.core i).ts)) ∧
    (repOf e.pre ≠ .none → (b1.core i).ct ≠ 0 → e.cut = none →
      (Block.repLoop i (pcOf b1 i) op e (b1.core i).ct.toNat b1 = .ok (true, y) →
        Answers c q b ((y.modCore i (fun c => { c with pc := nextOf b1 i op e })).insEnd i (pcOf b1 i) (b1.core i).ts)) ∧
      (Block.repLoop i (pcOf b1 i) op e (b1.core i).ct.toNat b1 = .ok (false, y) → Answers c q b (y.boundary i)))

/-- One step takes the command at the front of the queue and runs it with the queue's rest; with an empty queue one microsecond passes while the
always-on domain has power, with the interrupts due by then and the end of a format, which is the model's choice (log entry 3). -/
def Obligations.StepRunsTheFrontCommand : Prop :=
  (∀ (c : Instr) (s : State), step { s with pending := c :: s.pending } = exec c s) ∧
  (∀ (c : Instr) (q : List Instr) (b : Block), step ⟨c :: q, b⟩ = exec c ⟨q, b⟩) ∧
  (∀ b : Block, (b.hk.off = true → step ⟨[], b⟩ = .next ⟨[], b⟩) ∧
    (b.hk.off = false → step ⟨[], b⟩ = .next ⟨[],
      ((b.elapse 1).each ((b.ce.ctlrs.filter (fun e => !e.2.unsent.isEmpty)).map (·.1)) Block.coalesced).lit Block.formatEnds⟩) ∧
    (b.hk.off = false → (∀ e ∈ b.ce.ctlrs, e.2.unsent = []) → b.ft.fmt = none →
      step ⟨[], b⟩ = .next ⟨[], { b with usec := b.usec + 1 }⟩))

/-- Every command completes in every state, and leaves the queue of waiting commands as it is. -/
def Obligations.EveryCommandCompletes : Prop :=
  ∀ (c : Instr) (q : List Instr) (b : Block), ∃ b' : Block, Answers c q b b'

/-- However many commands wait, that many steps run them all; and no number of steps from any state ends in a fault or a refusal. -/
def Obligations.QueueDrains : Prop :=
  (∀ s : State, ∃ t : State, Host.Core.run core s.pending.length s = .next t ∧ t.pending = []) ∧ (∀ s : State, Safe s)

/-- The bytes that the encoder writes for a well-formed instruction decode to that instruction and leave what follows (R560-R573). -/
def Obligations.EowiftRoundTrip : Prop :=
  ∀ (o : EwOp) (e : Enc) (r : List Byte), encWf o e = true → e.par = false → e.errs = [] → e.cut = none →
    decodeEowift (encodeEowift o e ++ r) = .ok (o, e, r)

/-- Bytes that decode to a listed instruction are that instruction's encoding, at most 15 bytes long, with the length that R561 decodes. -/
def Obligations.EowiftDecodingIsExact : Prop :=
  ∀ (bs r : List Byte) (o : EwOp) (e : Enc), decodeEowift bs = .ok (o, e, r) → o ≠ .reserved false → o ≠ .reserved true →
    encWf o e = true ∧ encodeEowift o e ++ r = bs ∧ (encodeEowift o e).length = ewLen o e ∧ ewLen o e ≤ 15

/-- The byte sequences of chapter 12's examples decode to the instructions it names. -/
def Obligations.EowiftExampleBytes : Prop :=
  decodesTo [0x50, 0x10, 0x94, 0x08] (.load .ld) (enc [] 0x10 0x94 8 0) ∧
  decodesTo [0xF2, 0x5B, 0xB2, 0x00, 0x10, 0x00, 0x00, 0x78, 0x56, 0x34, 0x12] .sti (enc [0xF2] 0 0xB2 0x1000 0x12345678) ∧
  decodesTo [0x78, 0x10] (.acc .clra) (enc [] 0x10 0 0 0) ∧
  decodesTo [0xF2, 0x40, 0x20, 0x00, 0x01, 0x00, 0x00] (.imm .movi) (enc [0xF2] 0x20 0 0 256) ∧
  decodesTo [0x71, 0xC2] .put (enc [] 0xC2 0 0 0) ∧
  decodesTo [0xF4, 0xFA, 0x80, 0x6C] .macd (enc [0xF4, 0xFA] 0x6C 0 0 0) ∧
  decodesTo [0x7A, 0x51, 0x0C] (.acc .rda) (enc [] 0x51 0 0 12) ∧
  decodesTo [0xF9, 0x60, 0xF0] .push (enc [0xF9] 0xF0 0 0 0) ∧
  decodesTo [0xE0, 0x10, 0xF0, 0xFF, 0xFF, 0xFF] (.bcc 0 true) (enc [] 0 0 0 0xFFFFFFF0) ∧
  decodesTo [0xF8, 0x57, 0x20, 0xD4, 0x08] (.rmw .addm) (enc [0xF8] 0x20 0xD4 8 0) ∧
  decodeEowift [0xE1] = .error .short ∧
  decodesTo [0xE1, 0x05] (.reserved true) (enc [] 0 0 0 0) ∧
  decodesTo [0xF4, 0xF3] (.reserved false) (enc [0xF4] 0 0 0 0)

/-- The flags of sums and differences at every operand width (rows add and sub of R580): the carry out, the borrow, and signed overflow as a
change of sign that the operands do not account for. -/
def Obligations.AddSubFlags : Prop :=
  ∀ (w a b : Nat) (cin : Bool), opWidth w →
    (let s := a % 2 ^ w + b % 2 ^ w + cin.toNat
     let r := (addFl w a b cin).1
     let f := (addFl w a b cin).2
     r = s % 2 ^ w ∧ (flZ f = true ↔ s % 2 ^ w = 0) ∧ flN f = r.testBit (w - 1) ∧ (flC f = true ↔ 2 ^ w ≤ s) ∧
      (flV f = true ↔ a.testBit (w - 1) = b.testBit (w - 1) ∧ r.testBit (w - 1) ≠ a.testBit (w - 1))) ∧
    (let r := (subFl w a b cin).1
     let f := (subFl w a b cin).2
     r = (a % 2 ^ w + 2 ^ (w + 1) - b % 2 ^ w - cin.toNat) % 2 ^ w ∧ (flZ f = true ↔ r = 0) ∧ flN f = r.testBit (w - 1) ∧
      (flC f = true ↔ a % 2 ^ w < b % 2 ^ w + cin.toNat) ∧
      (flV f = true ↔ a.testBit (w - 1) ≠ b.testBit (w - 1) ∧ r.testBit (w - 1) ≠ a.testBit (w - 1)))

/-- Logic results, shifts and rotates bit by bit, and their flags (rows logic and shift of R580). -/
def Obligations.LogicAndShiftFlags : Prop :=
  ∀ (w a n k : Nat), opWidth w → 0 < n → n < w → k < w →
    ((logicFl w a).1 = a % 2 ^ w ∧ (flZ (logicFl w a).2 = true ↔ a % 2 ^ w = 0) ∧ flN (logicFl w a).2 = a.testBit (w - 1) ∧
      flC (logicFl w a).2 = false ∧ flV (logicFl w a).2 = false) ∧
    ((shiftFl .shl w a n).1.testBit k = (decide (n ≤ k) && a.testBit (k - n)) ∧ flC (shiftFl .shl w a n).2 = a.testBit (w - n)) ∧
    ((shiftFl .shr w a n).1.testBit k = (decide (k + n < w) && a.testBit (k + n)) ∧ flC (shiftFl .shr w a n).2 = a.testBit (n - 1)) ∧
    ((shiftFl .sar w a n).1.testBit k = a.testBit (min (k + n) (w - 1)) ∧ flC (shiftFl .sar w a n).2 = a.testBit (n - 1)) ∧
    ((shiftFl .rol w a n).1.testBit k = a.testBit ((k + (w - n)) % w) ∧ flC (shiftFl .rol w a n).2 = a.testBit (w - n)) ∧
    (∀ o : ShOp, (shiftFl o w a n).1 < 2 ^ w ∧ flV (shiftFl o w a n).2 = false ∧ (flZ (shiftFl o w a n).2 = true ↔ (shiftFl o w a n).1 = 0) ∧
      flN (shiftFl o w a n).2 = (shiftFl o w a n).1.testBit (w - 1))

/-- Products and divisions at every operand width: C and V tell a product that does not fit; quotient and remainder satisfy the division law,
the remainder has the dividend's sign; the one overflow sets V (rows mul and div of R580, R582). -/
def Obligations.ProductsAndDivisions : Prop :=
  ∀ (w a b : Nat), opWidth w →
    (let p := sgn w a * sgn w b
     (2 ^ w : Int) ∣ ((mulFl w a b).1 : Int) - p ∧ (mulFl w a b).1 < 2 ^ w ∧
      (flC (mulFl w a b).2 = true ↔ (p < -2 ^ (w - 1) ∨ 2 ^ (w - 1) ≤ p)) ∧ flV (mulFl w a b).2 = flC (mulFl w a b).2) ∧
    (b % 2 ^ w ≠ 0 →
      (let q := sgn w (divFl .div w a b).1
       let r := sgn w (divFl .rem w a b).1
       (¬(sgn w a = -2 ^ (w - 1) ∧ sgn w b = -1) →
         sgn w a = q * sgn w b + r ∧ r.natAbs < (sgn w b).natAbs ∧ (r = 0 ∨ (r < 0 ↔ sgn w a < 0)) ∧
         flV (divFl .div w a b).2 = false ∧ flV (divFl .rem w a b).2 = false) ∧
       (sgn w a = -2 ^ (w - 1) → sgn w b = -1 →
         q = sgn w a ∧ r = 0 ∧ flV (divFl .div w a b).2 = true ∧ flV (divFl .rem w a b).2 = true)) ∧
      (let q := (divFl .divu w a b).1
       let r := (divFl .remu w a b).1
       a % 2 ^ w = q * (b % 2 ^ w) + r ∧ r < b % 2 ^ w ∧ flV (divFl .divu w a b).2 = false ∧ flV (divFl .remu w a b).2 = false) ∧
      (∀ o : DivOp, flC (divFl o w a b).2 = false))

/-- A write of xm or ym stores 2^n − 1 under the highest 1 bit written, or 0, and reads back so; a pointer steps under the mask of its bank
(R515, R516). -/
def Obligations.MasksAndPointers : Prop :=
  ∀ (c : Core) (v : BitVec 80) (n s k : Nat),
    (v.setWidth 17 = (0 : BitVec 17) → (c.wr .xm v).xm = 0 ∧ (c.wr .ym v).ym = 0) ∧
    (2 ^ n ≤ v.toNat % 2 ^ 17 → v.toNat % 2 ^ 17 < 2 ^ (n + 1) →
      (c.wr .xm v).xm.toNat = 2 ^ (n + 1) - 1 ∧ (c.wr .ym v).ym.toNat = 2 ^ (n + 1) - 1 ∧
      (c.wr .xm v).special 8 = 2 ^ (n + 1) - 1 ∧ (c.wr .ym v).special 9 = 2 ^ (n + 1) - 1) ∧
    (s < 8 →
      let m : W32 := (if s < 4 then c.xm else c.ym).setWidth 32
      let p := c.getPtr s
      (c.addp s k).getPtr s = (if m = 0 then p + BitVec.ofNat 32 k else (p &&& ~~~m) ||| ((p + BitVec.ofNat 32 k) &&& m)) ∧
      ∀ j, j ≠ s → (c.addp s k).getPtr j = c.getPtr j)

/-- The CRC step of SCRC: the bytes of the element in address order, each eight bits of the reflected polynomial, without initial value or
final XOR (R598). -/
def Obligations.CrcStepOfScrc : Prop :=
  (∀ (c : W32) (s n : Nat), crcStep c s n = (elementBytes s n).foldl crc32cByte c) ∧
  crcStep 0xFFFFFFFF 0x393837363534333231 9 ^^^ 0xFFFFFFFF = 0xE3069283

/-- The conditions of the fourteen conditional branches (R575). -/
def Obligations.BranchConditions : Prop :=
  ∀ f : BitVec 4,
    let z := f.getLsbD 0
    let n := f.getLsbD 1
    let c := f.getLsbD 2
    let v := f.getLsbD 3
    (condHolds 0 f = true ↔ z = true) ∧ (condHolds 1 f = true ↔ z = false) ∧ (condHolds 2 f = true ↔ n ≠ v) ∧ (condHolds 3 f = true ↔ n = v) ∧
    (condHolds 4 f = true ↔ z = true ∨ n ≠ v) ∧ (condHolds 5 f = true ↔ z = false ∧ n = v) ∧ (condHolds 6 f = true ↔ c = true) ∧
    (condHolds 7 f = true ↔ c = false) ∧ (condHolds 8 f = true ↔ c = true ∨ z = true) ∧ (condHolds 9 f = true ↔ c = false ∧ z = false) ∧
    (condHolds 10 f = true ↔ n = true) ∧ (condHolds 11 f = true ↔ n = false) ∧ (condHolds 12 f = true ↔ v = true) ∧
    (condHolds 13 f = true ↔ v = false) ∧
    (mainOp 0x1E = none ∧ mainOp 0x1F = none ∧ escapeOp 0x1E = none ∧ escapeOp 0x1F = none)

/-- A load's destination keeps its value for the two instructions after it and has the loaded value from the third on, unless an instruction
in between wrote it (R537, R538): a load of a general register on a core without other loads. -/
def Obligations.LoadDelaySlots : Prop :=
  ∀ (c : Core) (n v w : Nat) (pc a : W64), c.loads = [] →
    let l (x : Core) : Core := { x.killLoads (.g n) with loads := (x.killLoads (.g n)).loads ++ [⟨.g n, BitVec.ofNat 80 v, 2, true, pc, a, none, none, false⟩] }
    let c1 := (l c).settle
    let c2 := c1.oneSlot.settle
    let c3 := c2.oneSlot.settle
    c1.getG n = c.getG n ∧ c2.getG n = c.getG n ∧ c3.getG n = BitVec.ofNat 64 v ∧ c3.loads = [] ∧
    (∀ k, k ≠ n → c3.getG k = c.getG k) ∧
    ((c1.wrG n w).oneSlot.settle.oneSlot.settle).getG n = BitVec.ofNat 64 w ∧
    ((c2.wrG n w).oneSlot.settle).getG n = BitVec.ofNat 64 w

/-- Trap entry: what is saved, the new status, and where the handler starts, TVEC + code × 0x40 or TVEC + 0x400 for an interrupt; the other
registers keep their values; a synchronous trap with TH set stops the core and records DOUBLE_TRAP (R546, R548, R549, R551). -/
def Obligations.TrapEntry : Prop :=
  ∀ (b : Block) (i : Nat) (t : TrapIn),
    let c := b.core i
    let d := (b.trap i t).core i
    ((c.th = false ∨ t.intr = true) →
      d.pc = c.tvec + (if t.intr then 0x400 else BitVec.ofNat 64 (t.code * 0x40)) ∧
      d.tpc = t.tpc ∧ d.taddr = t.taddr ∧ d.tinfo = t.tinfo ∧ d.tcause = t.cause ∧
      d.tst &&& ~~~8 = c.st &&& ~~~8 ∧ d.tst.getLsbD 3 = t.pl ∧
      d.mode = (if coreKind i = .s then 2 else 1) ∧ d.ie = false ∧ d.th = true ∧ d.ts = false ∧ d.qe = c.qe ∧
      d.g = c.g ∧ d.ac = c.ac ∧ d.ptr = c.ptr ∧ d.xm = c.xm ∧ d.ym = c.ym ∧ d.sa = c.sa ∧ d.da = c.da ∧ d.ct = c.ct ∧ d.fl = c.fl ∧
      d.tvec = c.tvec ∧ d.scratch = c.scratch ∧ (b.trap i t).mem = b.mem) ∧
    (c.th = true → t.intr = false →
      b.trap i t = (b.coreRec i 0x180 .unitFatal t.code).modCore i (fun c => { c with stopped := true }))

/-- RETT sets pc from TPC and st from TST with PL cleared; after a trap it gives back the mode and the enables that the trap saved (R550). -/
def Obligations.ReturnFromTrap : Prop :=
  ∀ (b : Block) (i : Nat) (t : TrapIn),
    let c := b.core i
    let d := (b.rett i).core i
    let r := ((b.trap i t).rett i).core i
    d.pc = c.tpc ∧ d.st = c.tst &&& 0x77 ∧ d.g = c.g ∧ d.ac = c.ac ∧ d.ptr = c.ptr ∧ d.fl = c.fl ∧ d.ct = c.ct ∧ (b.rett i).mem = b.mem ∧
    ((c.th = false ∨ t.intr = true) →
      r.pc = t.tpc ∧ r.st = c.st &&& 0x77 ∧ r.g = c.g ∧ r.ac = c.ac ∧ r.ptr = c.ptr ∧ r.fl = c.fl ∧ r.ct = c.ct)

/-- System registers: what MTS writes, MFS reads at the register's width; the RO ones ignore it; a write of ST reaches only IE, QE, TS and TH;
ICINV empties the cache and reads 0 (R517, R523, R533, R591). -/
def Obligations.SystemRegisters : Prop :=
  ∀ (b : Block) (i k : Nat) (v : W64),
    let y := b.sysWrite i k v
    (k = 1 → (y.sysRead i k).1 = v.toNat / 4096 * 4096) ∧
    ((k = 2 ∨ k = 5 ∨ k = 6 ∨ k = 7 ∨ k = 8) → (y.sysRead i k).1 = v.toNat) ∧
    (k = 3 → (y.sysRead i k).1 = v.toNat % 2 ^ 32) ∧
    (k = 4 → (y.sysRead i k).1 = v.toNat % 2 ^ 16) ∧
    (k = 9 → (y.sysRead i k).1 = v.toNat % 2 ^ 32) ∧
    ((k = 0 ∨ k = 10 ∨ k = 12) → y.core i = b.core i) ∧
    (k = 0 → (y.sysRead i k).1 = (coreId i).toNat) ∧
    (k = 11 → (y.core i).icache = [] ∧ (y.sysRead i k).1 = 0) ∧
    (k = 13 → (y.core i).st = ((b.core i).st &&& ~~~0x74) ||| (v.setWidth 32 &&& 0x74)) ∧
    (∀ j, j ≠ i → y.core j = b.core j) ∧ (y.core i).g = (b.core i).g ∧ y.mem = b.mem ∧ y.regs = b.regs

/-- What a core's arithmetic leaves alone, and that the boundary after an instruction of an undisturbed core changes nothing else: of the
registers only the destination, of the flags those the instruction names (the frame of R578 and R579). -/
def Obligations.InstructionFrame : Prop :=
  (∀ (c : Core) (a : Nat) (r : Option Nat) (f : Option (BitVec 4)), c.loads = [] →
    let d := c.result a r f
    (∀ n, n ≠ a → d.getG n = c.getG n) ∧ (r = none → d.getG a = c.getG a) ∧ (∀ v, r = some v → d.getG a = BitVec.ofNat 64 v) ∧
    d.fl = f.getD c.fl ∧ d = { c with g := d.g, fl := d.fl }) ∧
  (∀ (b1 b2 : Block) (i : Nat), let c := b2.core i
    (b1.core i).ts = false → c.loads = [] → c.lates = [] → c.watch = none → c.acc = [] → c.haltReq = none →
    let z := completes b1 i b2
    z.core i = { c with iters := 0 } ∧ (∀ j, j ≠ i → z.core j = b2.core j) ∧ z = { b2 with cx := { b2.cx with cores := z.cx.cores } })

/-- A field of a register that is stored reads back what was stored; the register's other bits and every other register keep their values. -/
def Obligations.RegisterFieldsHold : Prop :=
  ∀ (b : Block) (off lo hi x : Nat), lo ≤ hi → hi < 32 →
    (b.wrF off lo hi x).rdF off lo hi = x % 2 ^ (hi - lo + 1) ∧
    (∀ k, k < 32 → (k < lo ∨ hi < k) → ((b.wrF off lo hi x).rd off).getLsbD k = (b.rd off).getLsbD k) ∧
    (∀ off', off' ≠ off → (b.wrF off lo hi x).rd off' = b.rd off') ∧
    (b.wrF off lo hi x).mem = b.mem ∧ (b.wrF off lo hi x).errs = b.errs

/-- A write of 4 or 8 bytes to an absent page is dropped: the CHIP page records ABSENT_WRITE with the register-space offset in ADDR,
CHIP.ABSENT_WR holds the offset, CHIP.ABSENT_WR_COUNT counts it, saturating, and no register of another page changes (R81). -/
def Obligations.AbsentPageWrites : Prop :=
  ∀ (q : List Instr) (b : Block) (port : BitVec 6) (off : BitVec 25) (len1 : BitVec 8) (d : W64),
    b.dark = false → presentPageAt b.variant off.toNat = none → (len1 = 3 ∨ len1 = 7) → off.toNat % (len1.toNat + 1) = 0 →
    ∃ b', Answers (.registerWrite port 0 off len1 d) q b b' ∧
      (b'.rd (pgChip + 0x130)).toNat = off.toNat ∧
      (b'.rd (pgChip + 0x134)).toNat = min ((b.rd (pgChip + 0x134)).toNat + 1) (2 ^ 32 - 1) ∧
      b'.errQ pgChip = (b.errQ pgChip).push (b.mkRec pgChip
        { code := 5, sev := .corrected, port := port.setWidth 8, addr := some (off.setWidth 48) }) ∧
      (b'.rd (pgChip + 0x010)).getLsbD 0 = true ∧ (∀ o, 0x1000 ≤ o → b'.rd o = b.rd o) ∧
      b'.mem = b.mem ∧ b'.ce = b.ce ∧ b'.ft = b.ft ∧ b'.fc = b.fc ∧ b'.hk = b.hk

/-- EVT_PEND reads EVT_RAW AND EVT_EN on every present page of every state (R54). -/
def Obligations.EventPendingReads : Prop :=
  ∀ (b : Block) (c : PageClass) (i : Nat), presentPageAt b.variant (pageBase c i + 0x018) = some (c, i) →
    b.view (pageBase c i + 0x018) = b.rd (pageBase c i + 0x010) &&& b.rd (pageBase c i + 0x014)

/-- An event sets its bit of EVT_RAW and clears none; a bit cleared through EVT_CLR is clear; one interrupt message leaves when a bit of
EVT_PEND rises and none otherwise, to firmware with FW_LINE and TENANT, to the host with HOST_VEC, or counted in ROUTE_DROP while BAR2_CTL.EN
is 0 (R53, R55, R57-R59). -/
def Obligations.EventBits : Prop :=
  ∀ (b : Block) (pg k : Nat) (d : W32), pg % 0x1000 = 0 → k < 32 →
    let z := b.raise pg k
    let route := b.rd (pg + 0x024)
    let dest := fld route 25 26
    let rises := (b.evtMask pg).getLsbD k && (b.rd (pg + 0x014)).getLsbD k && !(b.rd (pg + 0x010)).getLsbD k
    (∀ j, j < 32 → ((z.rd (pg + 0x010)).getLsbD j = true ↔
      ((b.rd (pg + 0x010)).getLsbD j = true ∨ (j = k ∧ (b.evtMask pg).getLsbD k = true)))) ∧
    z.rd (pg + 0x014) = b.rd (pg + 0x014) ∧
    (b.evtClr pg d).rd (pg + 0x010) = b.rd (pg + 0x010) &&& ~~~d ∧ (b.evtClr pg d).outbox = b.outbox ∧
    (rises = false → z.outbox = b.outbox) ∧
    (rises = true →
      (dest = 0 → z.outbox = .fwInt (BitVec.ofNat 8 (fld route 0 7)) (BitVec.ofNat 6 (fld route 19 24)) :: b.outbox) ∧
      (dest = 1 → b.rdF (pgChip + 0x140) 0 0 = 1 → z.outbox = .msix 0 (BitVec.ofNat 11 (fld route 8 18)) :: b.outbox) ∧
      (dest = 1 → b.rdF (pgChip + 0x140) 0 0 = 0 →
        z.outbox = b.outbox ∧ (z.rd (pgChip + 0x13C)).toNat = min ((b.rd (pgChip + 0x13C)).toNat + 1) (2 ^ 32 - 1)) ∧
      (dest = 3 → z.outbox = b.outbox))

/-- A page's error queue: a record that arrives carries NESTED exactly when the queue holds one already; a full queue keeps its sixteen records and
counts the loss with the highest severity lost; a pop removes the oldest (R61, R63, R64, R65). -/
def Obligations.ErrorQueues : Prop :=
  ∀ (b : Block) (pg : Nat) (e : ErrIn) (d : W32),
    let old := b.errQ pg
    let new := (b.record pg e).errQ pg
    ((b.mkRec pg e).nested = true ↔ old.recs ≠ []) ∧
    (old.recs.length < 16 → new.recs = old.recs ++ [b.mkRec pg e] ∧ new.lost = old.lost ∧ new.maxSev = old.maxSev) ∧
    (16 ≤ old.recs.length → new.recs = old.recs ∧ new.lost = min (old.lost + 1) 65535 ∧ new.maxSev = max old.maxSev e.sev.code) ∧
    (old.recs.length ≤ 16 → new.recs.length ≤ 16) ∧ new.seq = old.seq + 1 ∧
    ((d.getLsbD 0 = true → ((b.errPop pg d).errQ pg).recs = old.recs.drop 1) ∧
     (d.getLsbD 0 = false → ((b.errPop pg d).errQ pg).recs = old.recs) ∧
     (d.getLsbD 1 = true → ((b.errPop pg d).errQ pg).lost = 0 ∧ ((b.errPop pg d).errQ pg).maxSev = 0) ∧
     (∀ pg', pg' / 0x1000 ≠ pg / 0x1000 → (b.errPop pg d).errQ pg' = b.errQ pg')) ∧
    (∀ pg', pg' / 0x1000 ≠ pg / 0x1000 → (b.record pg e).errQ pg' = b.errQ pg')

/-- Fabric memory: what is stored is loaded again, every other byte reads as before, nothing but memory changes, and the table of bytes keeps its
canonical form. -/
def Obligations.MemoryHolds : Prop :=
  ∀ (b : Block) (a n : Nat) (v : BitVec (8 * n)) (xs : List Byte),
    (b.store a n v).load a n = v.toNat ∧
    (∀ k, k < n → (b.store a n v).byte (a + k) = (v >>> (8 * k)).setWidth 8) ∧
    (∀ x, (x < a ∨ a + n ≤ x) → (b.store a n v).byte x = b.byte x) ∧
    b.store a n v = { b with mem := (b.store a n v).mem } ∧
    (b.storeBytes a xs).bytes a xs.length = xs ∧
    (∀ x, (x < a ∨ a + xs.length ≤ x) → (b.storeBytes a xs).byte x = b.byte x) ∧
    (Memory.wf b.mem = true → Memory.wf (b.store a n v).mem = true ∧ Memory.wf (b.storeBytes a xs).mem = true) ∧
    Memory.wf State.reset.blk.mem = true

/-- The machine right after reset: no command waits, every page reads its identification and its register table's reset values, the queues of
errors and messages are empty, the debug port is locked, and the cores stand at their reset status (R50, R49, R61, R513, R517, R733). -/
def Obligations.ResetState : Prop :=
  let b := State.reset.blk
  State.reset.pending = [] ∧ b.usec = 0 ∧ b.outbox = [] ∧ b.mem = [] ∧ b.errs = [] ∧
  b.dbg.level = false ∧ b.dbg.fails = 0 ∧ b.dbg.lockout = false ∧ b.dbg.memCtl = 3 ∧ b.dbg.memAddr = 0 ∧
  (∀ (c : PageClass) (i : Nat), presentPageAt b.variant (pageBase c i) = some (c, i) →
    b.view (pageBase c i + 0x004) = 0x100 ∧ b.view (pageBase c i + 0x010) = 0 ∧ b.view (pageBase c i + 0x024) = 0x06000000) ∧
  (∀ i, i < 96 → (b.core i).st = 1 ∧ (b.core i).getG 15 = 0 ∧ (b.core i).pc = 0) ∧
  (b.core 96).st = 1 ∧ (b.core 100).st = 2

/-- Debug authentication: a passing check unlocks; a failing check counts, records AUTH_FAIL and, at the eighth, locks out; in lockout every check
fails; only a fall of VDD_AON clears it (R731, R732). -/
def Obligations.DebugAuthentication : Prop :=
  ∀ (b : Block) (n : Option (BitVec 256)) (r : BitVec 384), b.dbg.checking = some (n, r) →
    let y := b.authDone
    let good := n.map (fun m => Config.debugMac m b.fuses.uid) = some r
    y.dbg.checking = none ∧
    (b.dbg.lockout = false → good → y.dbg.level = true ∧ y.dbg.fails = b.dbg.fails ∧ y.errQ (pageBase .dbg 0) = b.errQ (pageBase .dbg 0)) ∧
    ((b.dbg.lockout = true ∨ ¬good) →
      y.dbg.level = b.dbg.level ∧ y.dbg.fails = min 8 (b.dbg.fails + 1) ∧
      y.dbg.lockout = (b.dbg.lockout || decide (b.dbg.fails + 1 ≥ 8)) ∧
      ((b.errQ (pageBase .dbg 0)).recs.length < 16 →
        ((y.errQ (pageBase .dbg 0)).recs[(b.errQ (pageBase .dbg 0)).recs.length]?).map (·.code) = some 0x0101)) ∧
    b.aonFall.dbg.level = false ∧ b.aonFall.dbg.fails = 0 ∧ b.aonFall.dbg.lockout = false

/-- A ticket request or return never lets the tickets held from a pool exceed its budget (R682, R683, R685). -/
def Obligations.TicketsStayInBudget : Prop :=
  ∀ (q : List Instr) (b b' : Block) (booth : Option (BitVec 3)) (id : BitVec 16) (mw : BitVec 20) (cls : BitVec 2) (refusable rcl : Bool),
    (∀ p, b.poolUsed p ≤ b.poolBudget p) →
    (Answers (.ticketRequest booth id mw cls refusable rcl) q b b' ∨ Answers (.ticketReturn id) q b b') →
    ∀ p, b'.poolUsed p ≤ b'.poolBudget p

/-- A User-mode far address is translated by the lowest-numbered window that matches it, under that window's permissions; without a match or the
permission the access raises WINDOW_FAULT and nothing is accessed (R520). -/
def Obligations.WindowTranslation : Prop :=
  ∀ (b : Block) (i n : Nat) (pc p : W64) (k : Acc) (w : Win),
    let c := b.core i
    let fault (perm : Bool) : TrapIn :=
      { code := 6, tpc := pc, taddr := p, tinfo := BitVec.ofNat 64 (k.code + 8 + (if perm then 16 else 0)) }
    c.user = true →
    (c.wins[n]? = some w → winMatches w p.toNat → (∀ m w', m < n → c.wins[m]? = some w' → ¬winMatches w' p.toNat) →
      (w.allows k = true → b.operand i pc 2 p 1 [k] = .ok (w.fbase + (p.toNat - w.pbase))) ∧
      (w.allows k = false → b.operand i pc 2 p 1 [k] = .error (fault true, b))) ∧
    ((∀ w' ∈ c.wins, ¬winMatches w' p.toNat) → b.operand i pc 2 p 1 [k] = .error (fault false, b)) ∧
    (w.allows .rd = w.r ∧ w.allows .wr = w.w ∧ w.allows .ex = w.x)
end

