-- ==== Sys2Proof/Laws/SMap.lean ====
section
/-! SUPPORT. Sparse tables: what a write leaves at every key, and that every operation keeps the canonical form. -/
namespace Sys2Proof.Machine

variable {α : Type}

@[simp] theorem smFind_smPut_same (m : SMap α) (k : Nat) (v : α) : smFind (smPut m k v) k = some v := by
  induction m with
  | nil => simp [smPut, smFind]
  | cons e m ih =>
    obtain ⟨j, w⟩ := e
    simp only [smPut]
    split
    · simp [smFind]
    · split
      · simp [smFind]
      · rename_i h1 h2
        simp [smFind, h2, ih]

theorem smFind_smPut_ne (m : SMap α) (k j : Nat) (v : α) (h : j ≠ k) : smFind (smPut m k v) j = smFind m j := by
  induction m with
  | nil => simp [smPut, smFind, Ne.symm h]
  | cons e m ih =>
    obtain ⟨i, w⟩ := e
    simp only [smPut]
    split
    · simp [smFind, Ne.symm h]
    · split
      · rename_i h2
        subst h2
        simp [smFind, Ne.symm h]
      · simp only [smFind, ih]

@[simp] theorem smFind_smErase_same (m : SMap α) (k : Nat) : smFind (smErase m k) k = none := by
  induction m with
  | nil => rfl
  | cons e m ih =>
    obtain ⟨j, w⟩ := e
    by_cases h : j = k
    · subst h; simpa [smErase] using ih
    · have hr : smErase ((j, w) :: m) k = (j, w) :: smErase m k := by simp [smErase, h]
      rw [hr]; simp [smFind, h, ih]

theorem smFind_smErase_ne (m : SMap α) (k j : Nat) (h : j ≠ k) : smFind (smErase m k) j = smFind m j := by
  induction m with
  | nil => rfl
  | cons e m ih =>
    obtain ⟨i, w⟩ := e
    by_cases hi : i = k
    · subst hi
      have hr : smErase ((i, w) :: m) i = smErase m i := by simp [smErase]
      rw [hr, ih]; simp [smFind, Ne.symm h]
    · have hr : smErase ((i, w) :: m) k = (i, w) :: smErase m k := by simp [smErase, hi]
      rw [hr]; simp [smFind, ih]

variable [DecidableEq α]

/-- A table reads, after a write, as the value written. -/
@[simp] theorem smGet_smSet_same (d : α) (m : SMap α) (k : Nat) (v : α) : smGet d (smSet d m k v) k = v := by
  unfold smSet smGet
  split
  · rename_i h; simp [h]
  · simp

/-- A write leaves every other key alone. -/
theorem smGet_smSet_ne (d : α) (m : SMap α) (k j : Nat) (v : α) (h : j ≠ k) : smGet d (smSet d m k v) j = smGet d m j := by
  unfold smSet smGet
  split
  · rw [smFind_smErase_ne m k j h]
  · rw [smFind_smPut_ne m k j v h]

omit [DecidableEq α] in
theorem smSorted_tail {e : Nat × α} {m : SMap α} (h : smSorted (e :: m) = true) : smSorted m = true := by
  cases m with
  | nil => rfl
  | cons f m => simp only [smSorted, Bool.and_eq_true] at h; exact h.2

omit [DecidableEq α] in
theorem smSorted_head {e f : Nat × α} {m : SMap α} (h : smSorted (e :: m) = true) (hf : f ∈ m) : e.1 < f.1 := by
  induction m generalizing e with
  | nil => simp at hf
  | cons g m ih =>
    have hg : e.1 < g.1 := by simp only [smSorted, Bool.and_eq_true, decide_eq_true_eq] at h; exact h.1
    rcases List.mem_cons.mp hf with rfl | hm
    · exact hg
    · exact Nat.lt_trans hg (ih (smSorted_tail h) hm)

omit [DecidableEq α] in
theorem smSorted_cons {e : Nat × α} {m : SMap α} (h : smSorted m = true) (he : ∀ f ∈ m, e.1 < f.1) : smSorted (e :: m) = true := by
  cases m with
  | nil => rfl
  | cons g m => simp only [smSorted, Bool.and_eq_true, decide_eq_true_eq]; exact ⟨he g (by simp), h⟩

omit [DecidableEq α] in
theorem mem_smPut {m : SMap α} {k : Nat} {v : α} {f : Nat × α} (h : f ∈ smPut m k v) : f = (k, v) ∨ f ∈ m := by
  induction m with
  | nil => simpa [smPut] using h
  | cons e m ih =>
    obtain ⟨j, w⟩ := e
    simp only [smPut] at h
    split at h
    · simpa using h
    · split at h
      · rcases List.mem_cons.mp h with h | h
        · exact .inl h
        · exact .inr (List.mem_cons_of_mem _ h)
      · rcases List.mem_cons.mp h with h | h
        · exact .inr (h ▸ List.mem_cons_self)
        · exact (ih h).imp id (List.mem_cons_of_mem _)

omit [DecidableEq α] in
theorem smSorted_filter {m : SMap α} (p : Nat × α → Bool) (h : smSorted m = true) : smSorted (m.filter p) = true := by
  induction m with
  | nil => rfl
  | cons e m ih =>
    have ht := ih (smSorted_tail h)
    by_cases hp : p e
    · rw [List.filter_cons_of_pos hp]
      exact smSorted_cons ht (fun f hf => smSorted_head h (List.mem_filter.mp hf).1)
    · rw [List.filter_cons_of_neg hp]; exact ht

omit [DecidableEq α] in
theorem smSorted_smPut {m : SMap α} (k : Nat) (v : α) (h : smSorted m = true) : smSorted (smPut m k v) = true := by
  induction m with
  | nil => rfl
  | cons e m ih =>
    obtain ⟨j, w⟩ := e
    simp only [smPut]
    split
    · rename_i hk
      refine smSorted_cons h (fun f hf => ?_)
      rcases List.mem_cons.mp hf with rfl | hf
      · exact hk
      · exact Nat.lt_trans hk (smSorted_head h hf)
    · split
      · rename_i hk
        subst hk
        exact smSorted_cons (smSorted_tail h) (fun f hf => smSorted_head (e := (j, w)) h hf)
      · rename_i h1 h2
        refine smSorted_cons (ih (smSorted_tail h)) (fun f hf => ?_)
        rcases mem_smPut hf with rfl | hf
        · show j < k
          omega
        · exact smSorted_head h hf

/-- A filter keeps the canonical form. -/
theorem smWf_filter {d : α} {m : SMap α} (p : Nat × α → Bool) (h : smWf d m = true) : smWf d (m.filter p) = true := by
  simp only [smWf, Bool.and_eq_true, List.all_eq_true] at h ⊢
  exact ⟨smSorted_filter p h.1, fun e he => h.2 e (List.mem_filter.mp he).1⟩

/-- A write keeps the canonical form. -/
theorem smWf_smSet {d : α} {m : SMap α} (k : Nat) (v : α) (h : smWf d m = true) : smWf d (smSet d m k v) = true := by
  unfold smSet
  split
  · exact smWf_filter _ h
  · rename_i hv
    simp only [smWf, Bool.and_eq_true, List.all_eq_true] at h ⊢
    refine ⟨smSorted_smPut k v h.1, fun e he => ?_⟩
    rcases mem_smPut he with rfl | he
    · simpa using hv
    · exact h.2 e he

end Sys2Proof.Machine
end

