-- ==== Sys2Proof/Laws/State.lean ====
section
/-! SUPPORT. One lemma per field of the block and update of it, each true by unfolding: what an update leaves in every field. -/
namespace Sys2Proof.Machine

variable (b : Block)

/-! ### wr -/
@[simp] theorem Block.wr_fuses (off : Nat) (v : W32) : (b.wr off v).fuses = b.fuses := rfl
@[simp] theorem Block.wr_usec (off : Nat) (v : W32) : (b.wr off v).usec = b.usec := rfl
@[simp] theorem Block.wr_freeCtr (off : Nat) (v : W32) : (b.wr off v).freeCtr = b.freeCtr := rfl
@[simp] theorem Block.wr_latches (off : Nat) (v : W32) : (b.wr off v).latches = b.latches := rfl
@[simp] theorem Block.wr_errs (off : Nat) (v : W32) : (b.wr off v).errs = b.errs := rfl
@[simp] theorem Block.wr_mem (off : Nat) (v : W32) : (b.wr off v).mem = b.mem := rfl
@[simp] theorem Block.wr_poison (off : Nat) (v : W32) : (b.wr off v).poison = b.poison := rfl
@[simp] theorem Block.wr_outbox (off : Nat) (v : W32) : (b.wr off v).outbox = b.outbox := rfl
@[simp] theorem Block.wr_fab (off : Nat) (v : W32) : (b.wr off v).fab = b.fab := rfl
@[simp] theorem Block.wr_ce (off : Nat) (v : W32) : (b.wr off v).ce = b.ce := rfl
@[simp] theorem Block.wr_hp (off : Nat) (v : W32) : (b.wr off v).hp = b.hp := rfl
@[simp] theorem Block.wr_fp (off : Nat) (v : W32) : (b.wr off v).fp = b.fp := rfl
@[simp] theorem Block.wr_ft (off : Nat) (v : W32) : (b.wr off v).ft = b.ft := rfl
@[simp] theorem Block.wr_fc (off : Nat) (v : W32) : (b.wr off v).fc = b.fc := rfl
@[simp] theorem Block.wr_cz (off : Nat) (v : W32) : (b.wr off v).cz = b.cz := rfl
@[simp] theorem Block.wr_dm (off : Nat) (v : W32) : (b.wr off v).dm = b.dm := rfl
@[simp] theorem Block.wr_pa (off : Nat) (v : W32) : (b.wr off v).pa = b.pa := rfl
@[simp] theorem Block.wr_ms (off : Nat) (v : W32) : (b.wr off v).ms = b.ms := rfl
@[simp] theorem Block.wr_se (off : Nat) (v : W32) : (b.wr off v).se = b.se := rfl
@[simp] theorem Block.wr_cx (off : Nat) (v : W32) : (b.wr off v).cx = b.cx := rfl
@[simp] theorem Block.wr_hk (off : Nat) (v : W32) : (b.wr off v).hk = b.hk := rfl
@[simp] theorem Block.wr_dbg (off : Nat) (v : W32) : (b.wr off v).dbg = b.dbg := rfl
/-! ### send -/
@[simp] theorem Block.send_fuses (m : Msg) : (b.send m).fuses = b.fuses := rfl
@[simp] theorem Block.send_usec (m : Msg) : (b.send m).usec = b.usec := rfl
@[simp] theorem Block.send_freeCtr (m : Msg) : (b.send m).freeCtr = b.freeCtr := rfl
@[simp] theorem Block.send_regs (m : Msg) : (b.send m).regs = b.regs := rfl
@[simp] theorem Block.send_latches (m : Msg) : (b.send m).latches = b.latches := rfl
@[simp] theorem Block.send_errs (m : Msg) : (b.send m).errs = b.errs := rfl
@[simp] theorem Block.send_mem (m : Msg) : (b.send m).mem = b.mem := rfl
@[simp] theorem Block.send_poison (m : Msg) : (b.send m).poison = b.poison := rfl
@[simp] theorem Block.send_fab (m : Msg) : (b.send m).fab = b.fab := rfl
@[simp] theorem Block.send_ce (m : Msg) : (b.send m).ce = b.ce := rfl
@[simp] theorem Block.send_hp (m : Msg) : (b.send m).hp = b.hp := rfl
@[simp] theorem Block.send_fp (m : Msg) : (b.send m).fp = b.fp := rfl
@[simp] theorem Block.send_ft (m : Msg) : (b.send m).ft = b.ft := rfl
@[simp] theorem Block.send_fc (m : Msg) : (b.send m).fc = b.fc := rfl
@[simp] theorem Block.send_cz (m : Msg) : (b.send m).cz = b.cz := rfl
@[simp] theorem Block.send_dm (m : Msg) : (b.send m).dm = b.dm := rfl
@[simp] theorem Block.send_pa (m : Msg) : (b.send m).pa = b.pa := rfl
@[simp] theorem Block.send_ms (m : Msg) : (b.send m).ms = b.ms := rfl
@[simp] theorem Block.send_se (m : Msg) : (b.send m).se = b.se := rfl
@[simp] theorem Block.send_cx (m : Msg) : (b.send m).cx = b.cx := rfl
@[simp] theorem Block.send_hk (m : Msg) : (b.send m).hk = b.hk := rfl
@[simp] theorem Block.send_dbg (m : Msg) : (b.send m).dbg = b.dbg := rfl
/-! ### setErrQ -/
@[simp] theorem Block.setErrQ_fuses (pg : Nat) (q : ErrQ) : (b.setErrQ pg q).fuses = b.fuses := rfl
@[simp] theorem Block.setErrQ_usec (pg : Nat) (q : ErrQ) : (b.setErrQ pg q).usec = b.usec := rfl
@[simp] theorem Block.setErrQ_freeCtr (pg : Nat) (q : ErrQ) : (b.setErrQ pg q).freeCtr = b.freeCtr := rfl
@[simp] theorem Block.setErrQ_regs (pg : Nat) (q : ErrQ) : (b.setErrQ pg q).regs = b.regs := rfl
@[simp] theorem Block.setErrQ_latches (pg : Nat) (q : ErrQ) : (b.setErrQ pg q).latches = b.latches := rfl
@[simp] theorem Block.setErrQ_mem (pg : Nat) (q : ErrQ) : (b.setErrQ pg q).mem = b.mem := rfl
@[simp] theorem Block.setErrQ_poison (pg : Nat) (q : ErrQ) : (b.setErrQ pg q).poison = b.poison := rfl
@[simp] theorem Block.setErrQ_outbox (pg : Nat) (q : ErrQ) : (b.setErrQ pg q).outbox = b.outbox := rfl
@[simp] theorem Block.setErrQ_fab (pg : Nat) (q : ErrQ) : (b.setErrQ pg q).fab = b.fab := rfl
@[simp] theorem Block.setErrQ_ce (pg : Nat) (q : ErrQ) : (b.setErrQ pg q).ce = b.ce := rfl
@[simp] theorem Block.setErrQ_hp (pg : Nat) (q : ErrQ) : (b.setErrQ pg q).hp = b.hp := rfl
@[simp] theorem Block.setErrQ_fp (pg : Nat) (q : ErrQ) : (b.setErrQ pg q).fp = b.fp := rfl
@[simp] theorem Block.setErrQ_ft (pg : Nat) (q : ErrQ) : (b.setErrQ pg q).ft = b.ft := rfl
@[simp] theorem Block.setErrQ_fc (pg : Nat) (q : ErrQ) : (b.setErrQ pg q).fc = b.fc := rfl
@[simp] theorem Block.setErrQ_cz (pg : Nat) (q : ErrQ) : (b.setErrQ pg q).cz = b.cz := rfl
@[simp] theorem Block.setErrQ_dm (pg : Nat) (q : ErrQ) : (b.setErrQ pg q).dm = b.dm := rfl
@[simp] theorem Block.setErrQ_pa (pg : Nat) (q : ErrQ) : (b.setErrQ pg q).pa = b.pa := rfl
@[simp] theorem Block.setErrQ_ms (pg : Nat) (q : ErrQ) : (b.setErrQ pg q).ms = b.ms := rfl
@[simp] theorem Block.setErrQ_se (pg : Nat) (q : ErrQ) : (b.setErrQ pg q).se = b.se := rfl
@[simp] theorem Block.setErrQ_cx (pg : Nat) (q : ErrQ) : (b.setErrQ pg q).cx = b.cx := rfl
@[simp] theorem Block.setErrQ_hk (pg : Nat) (q : ErrQ) : (b.setErrQ pg q).hk = b.hk := rfl
@[simp] theorem Block.setErrQ_dbg (pg : Nat) (q : ErrQ) : (b.setErrQ pg q).dbg = b.dbg := rfl
/-! ### setByte -/
@[simp] theorem Block.setByte_fuses (a : Nat) (v : Byte) : (b.setByte a v).fuses = b.fuses := rfl
@[simp] theorem Block.setByte_usec (a : Nat) (v : Byte) : (b.setByte a v).usec = b.usec := rfl
@[simp] theorem Block.setByte_freeCtr (a : Nat) (v : Byte) : (b.setByte a v).freeCtr = b.freeCtr := rfl
@[simp] theorem Block.setByte_regs (a : Nat) (v : Byte) : (b.setByte a v).regs = b.regs := rfl
@[simp] theorem Block.setByte_latches (a : Nat) (v : Byte) : (b.setByte a v).latches = b.latches := rfl
@[simp] theorem Block.setByte_errs (a : Nat) (v : Byte) : (b.setByte a v).errs = b.errs := rfl
@[simp] theorem Block.setByte_poison (a : Nat) (v : Byte) : (b.setByte a v).poison = b.poison := rfl
@[simp] theorem Block.setByte_outbox (a : Nat) (v : Byte) : (b.setByte a v).outbox = b.outbox := rfl
@[simp] theorem Block.setByte_fab (a : Nat) (v : Byte) : (b.setByte a v).fab = b.fab := rfl
@[simp] theorem Block.setByte_ce (a : Nat) (v : Byte) : (b.setByte a v).ce = b.ce := rfl
@[simp] theorem Block.setByte_hp (a : Nat) (v : Byte) : (b.setByte a v).hp = b.hp := rfl
@[simp] theorem Block.setByte_fp (a : Nat) (v : Byte) : (b.setByte a v).fp = b.fp := rfl
@[simp] theorem Block.setByte_ft (a : Nat) (v : Byte) : (b.setByte a v).ft = b.ft := rfl
@[simp] theorem Block.setByte_fc (a : Nat) (v : Byte) : (b.setByte a v).fc = b.fc := rfl
@[simp] theorem Block.setByte_cz (a : Nat) (v : Byte) : (b.setByte a v).cz = b.cz := rfl
@[simp] theorem Block.setByte_dm (a : Nat) (v : Byte) : (b.setByte a v).dm = b.dm := rfl
@[simp] theorem Block.setByte_pa (a : Nat) (v : Byte) : (b.setByte a v).pa = b.pa := rfl
@[simp] theorem Block.setByte_ms (a : Nat) (v : Byte) : (b.setByte a v).ms = b.ms := rfl
@[simp] theorem Block.setByte_se (a : Nat) (v : Byte) : (b.setByte a v).se = b.se := rfl
@[simp] theorem Block.setByte_cx (a : Nat) (v : Byte) : (b.setByte a v).cx = b.cx := rfl
@[simp] theorem Block.setByte_hk (a : Nat) (v : Byte) : (b.setByte a v).hk = b.hk := rfl
@[simp] theorem Block.setByte_dbg (a : Nat) (v : Byte) : (b.setByte a v).dbg = b.dbg := rfl
/-! ### setPoison -/
@[simp] theorem Block.setPoison_fuses (a : Nat) (p : Bool) : (b.setPoison a p).fuses = b.fuses := rfl
@[simp] theorem Block.setPoison_usec (a : Nat) (p : Bool) : (b.setPoison a p).usec = b.usec := rfl
@[simp] theorem Block.setPoison_freeCtr (a : Nat) (p : Bool) : (b.setPoison a p).freeCtr = b.freeCtr := rfl
@[simp] theorem Block.setPoison_regs (a : Nat) (p : Bool) : (b.setPoison a p).regs = b.regs := rfl
@[simp] theorem Block.setPoison_latches (a : Nat) (p : Bool) : (b.setPoison a p).latches = b.latches := rfl
@[simp] theorem Block.setPoison_errs (a : Nat) (p : Bool) : (b.setPoison a p).errs = b.errs := rfl
@[simp] theorem Block.setPoison_mem (a : Nat) (p : Bool) : (b.setPoison a p).mem = b.mem := rfl
@[simp] theorem Block.setPoison_outbox (a : Nat) (p : Bool) : (b.setPoison a p).outbox = b.outbox := rfl
@[simp] theorem Block.setPoison_fab (a : Nat) (p : Bool) : (b.setPoison a p).fab = b.fab := rfl
@[simp] theorem Block.setPoison_ce (a : Nat) (p : Bool) : (b.setPoison a p).ce = b.ce := rfl
@[simp] theorem Block.setPoison_hp (a : Nat) (p : Bool) : (b.setPoison a p).hp = b.hp := rfl
@[simp] theorem Block.setPoison_fp (a : Nat) (p : Bool) : (b.setPoison a p).fp = b.fp := rfl
@[simp] theorem Block.setPoison_ft (a : Nat) (p : Bool) : (b.setPoison a p).ft = b.ft := rfl
@[simp] theorem Block.setPoison_fc (a : Nat) (p : Bool) : (b.setPoison a p).fc = b.fc := rfl
@[simp] theorem Block.setPoison_cz (a : Nat) (p : Bool) : (b.setPoison a p).cz = b.cz := rfl
@[simp] theorem Block.setPoison_dm (a : Nat) (p : Bool) : (b.setPoison a p).dm = b.dm := rfl
@[simp] theorem Block.setPoison_pa (a : Nat) (p : Bool) : (b.setPoison a p).pa = b.pa := rfl
@[simp] theorem Block.setPoison_ms (a : Nat) (p : Bool) : (b.setPoison a p).ms = b.ms := rfl
@[simp] theorem Block.setPoison_se (a : Nat) (p : Bool) : (b.setPoison a p).se = b.se := rfl
@[simp] theorem Block.setPoison_cx (a : Nat) (p : Bool) : (b.setPoison a p).cx = b.cx := rfl
@[simp] theorem Block.setPoison_hk (a : Nat) (p : Bool) : (b.setPoison a p).hk = b.hk := rfl
@[simp] theorem Block.setPoison_dbg (a : Nat) (p : Bool) : (b.setPoison a p).dbg = b.dbg := rfl
/-! ### elapse -/
@[simp] theorem Block.elapse_fuses (n : Nat) : (b.elapse n).fuses = b.fuses := rfl
@[simp] theorem Block.elapse_freeCtr (n : Nat) : (b.elapse n).freeCtr = b.freeCtr := rfl
@[simp] theorem Block.elapse_regs (n : Nat) : (b.elapse n).regs = b.regs := rfl
@[simp] theorem Block.elapse_latches (n : Nat) : (b.elapse n).latches = b.latches := rfl
@[simp] theorem Block.elapse_errs (n : Nat) : (b.elapse n).errs = b.errs := rfl
@[simp] theorem Block.elapse_mem (n : Nat) : (b.elapse n).mem = b.mem := rfl
@[simp] theorem Block.elapse_poison (n : Nat) : (b.elapse n).poison = b.poison := rfl
@[simp] theorem Block.elapse_outbox (n : Nat) : (b.elapse n).outbox = b.outbox := rfl
@[simp] theorem Block.elapse_fab (n : Nat) : (b.elapse n).fab = b.fab := rfl
@[simp] theorem Block.elapse_ce (n : Nat) : (b.elapse n).ce = b.ce := rfl
@[simp] theorem Block.elapse_hp (n : Nat) : (b.elapse n).hp = b.hp := rfl
@[simp] theorem Block.elapse_fp (n : Nat) : (b.elapse n).fp = b.fp := rfl
@[simp] theorem Block.elapse_ft (n : Nat) : (b.elapse n).ft = b.ft := rfl
@[simp] theorem Block.elapse_fc (n : Nat) : (b.elapse n).fc = b.fc := rfl
@[simp] theorem Block.elapse_cz (n : Nat) : (b.elapse n).cz = b.cz := rfl
@[simp] theorem Block.elapse_dm (n : Nat) : (b.elapse n).dm = b.dm := rfl
@[simp] theorem Block.elapse_pa (n : Nat) : (b.elapse n).pa = b.pa := rfl
@[simp] theorem Block.elapse_ms (n : Nat) : (b.elapse n).ms = b.ms := rfl
@[simp] theorem Block.elapse_se (n : Nat) : (b.elapse n).se = b.se := rfl
@[simp] theorem Block.elapse_cx (n : Nat) : (b.elapse n).cx = b.cx := rfl
@[simp] theorem Block.elapse_hk (n : Nat) : (b.elapse n).hk = b.hk := rfl
@[simp] theorem Block.elapse_dbg (n : Nat) : (b.elapse n).dbg = b.dbg := rfl
@[simp] theorem Block.wr_regs (off : Nat) (v : W32) : (b.wr off v).regs = smSet (regReset b.variant off) b.regs off v := rfl
@[simp] theorem Block.send_outbox (m : Msg) : (b.send m).outbox = m :: b.outbox := rfl
@[simp] theorem Block.setErrQ_errs (pg : Nat) (q : ErrQ) : (b.setErrQ pg q).errs = smSet {} b.errs (pg / 0x1000) q := rfl
@[simp] theorem Block.setByte_mem (a : Nat) (v : Byte) : (b.setByte a v).mem = smSet 0 b.mem a v := rfl
@[simp] theorem Block.setPoison_poison (a : Nat) (p : Bool) : (b.setPoison a p).poison = smSet false b.poison (a / 8) p := rfl
@[simp] theorem Block.elapse_usec (n : Nat) : (b.elapse n).usec = b.usec + n := rfl
/-! ### onCe -/
@[simp] theorem Block.onCe_fuses (f : CeSt → CeSt) : (b.onCe f).fuses = b.fuses := rfl
@[simp] theorem Block.onCe_usec (f : CeSt → CeSt) : (b.onCe f).usec = b.usec := rfl
@[simp] theorem Block.onCe_freeCtr (f : CeSt → CeSt) : (b.onCe f).freeCtr = b.freeCtr := rfl
@[simp] theorem Block.onCe_regs (f : CeSt → CeSt) : (b.onCe f).regs = b.regs := rfl
@[simp] theorem Block.onCe_latches (f : CeSt → CeSt) : (b.onCe f).latches = b.latches := rfl
@[simp] theorem Block.onCe_errs (f : CeSt → CeSt) : (b.onCe f).errs = b.errs := rfl
@[simp] theorem Block.onCe_mem (f : CeSt → CeSt) : (b.onCe f).mem = b.mem := rfl
@[simp] theorem Block.onCe_poison (f : CeSt → CeSt) : (b.onCe f).poison = b.poison := rfl
@[simp] theorem Block.onCe_outbox (f : CeSt → CeSt) : (b.onCe f).outbox = b.outbox := rfl
@[simp] theorem Block.onCe_fab (f : CeSt → CeSt) : (b.onCe f).fab = b.fab := rfl
@[simp] theorem Block.onCe_ce (f : CeSt → CeSt) : (b.onCe f).ce = f b.ce := rfl
@[simp] theorem Block.onCe_hp (f : CeSt → CeSt) : (b.onCe f).hp = b.hp := rfl
@[simp] theorem Block.onCe_fp (f : CeSt → CeSt) : (b.onCe f).fp = b.fp := rfl
@[simp] theorem Block.onCe_ft (f : CeSt → CeSt) : (b.onCe f).ft = b.ft := rfl
@[simp] theorem Block.onCe_fc (f : CeSt → CeSt) : (b.onCe f).fc = b.fc := rfl
@[simp] theorem Block.onCe_cz (f : CeSt → CeSt) : (b.onCe f).cz = b.cz := rfl
@[simp] theorem Block.onCe_dm (f : CeSt → CeSt) : (b.onCe f).dm = b.dm := rfl
@[simp] theorem Block.onCe_pa (f : CeSt → CeSt) : (b.onCe f).pa = b.pa := rfl
@[simp] theorem Block.onCe_ms (f : CeSt → CeSt) : (b.onCe f).ms = b.ms := rfl
@[simp] theorem Block.onCe_se (f : CeSt → CeSt) : (b.onCe f).se = b.se := rfl
@[simp] theorem Block.onCe_cx (f : CeSt → CeSt) : (b.onCe f).cx = b.cx := rfl
@[simp] theorem Block.onCe_hk (f : CeSt → CeSt) : (b.onCe f).hk = b.hk := rfl
@[simp] theorem Block.onCe_dbg (f : CeSt → CeSt) : (b.onCe f).dbg = b.dbg := rfl
/-! ### onHp -/
@[simp] theorem Block.onHp_fuses (f : HpSt → HpSt) : (b.onHp f).fuses = b.fuses := rfl
@[simp] theorem Block.onHp_usec (f : HpSt → HpSt) : (b.onHp f).usec = b.usec := rfl
@[simp] theorem Block.onHp_freeCtr (f : HpSt → HpSt) : (b.onHp f).freeCtr = b.freeCtr := rfl
@[simp] theorem Block.onHp_regs (f : HpSt → HpSt) : (b.onHp f).regs = b.regs := rfl
@[simp] theorem Block.onHp_latches (f : HpSt → HpSt) : (b.onHp f).latches = b.latches := rfl
@[simp] theorem Block.onHp_errs (f : HpSt → HpSt) : (b.onHp f).errs = b.errs := rfl
@[simp] theorem Block.onHp_mem (f : HpSt → HpSt) : (b.onHp f).mem = b.mem := rfl
@[simp] theorem Block.onHp_poison (f : HpSt → HpSt) : (b.onHp f).poison = b.poison := rfl
@[simp] theorem Block.onHp_outbox (f : HpSt → HpSt) : (b.onHp f).outbox = b.outbox := rfl
@[simp] theorem Block.onHp_fab (f : HpSt → HpSt) : (b.onHp f).fab = b.fab := rfl
@[simp] theorem Block.onHp_ce (f : HpSt → HpSt) : (b.onHp f).ce = b.ce := rfl
@[simp] theorem Block.onHp_hp (f : HpSt → HpSt) : (b.onHp f).hp = f b.hp := rfl
@[simp] theorem Block.onHp_fp (f : HpSt → HpSt) : (b.onHp f).fp = b.fp := rfl
@[simp] theorem Block.onHp_ft (f : HpSt → HpSt) : (b.onHp f).ft = b.ft := rfl
@[simp] theorem Block.onHp_fc (f : HpSt → HpSt) : (b.onHp f).fc = b.fc := rfl
@[simp] theorem Block.onHp_cz (f : HpSt → HpSt) : (b.onHp f).cz = b.cz := rfl
@[simp] theorem Block.onHp_dm (f : HpSt → HpSt) : (b.onHp f).dm = b.dm := rfl
@[simp] theorem Block.onHp_pa (f : HpSt → HpSt) : (b.onHp f).pa = b.pa := rfl
@[simp] theorem Block.onHp_ms (f : HpSt → HpSt) : (b.onHp f).ms = b.ms := rfl
@[simp] theorem Block.onHp_se (f : HpSt → HpSt) : (b.onHp f).se = b.se := rfl
@[simp] theorem Block.onHp_cx (f : HpSt → HpSt) : (b.onHp f).cx = b.cx := rfl
@[simp] theorem Block.onHp_hk (f : HpSt → HpSt) : (b.onHp f).hk = b.hk := rfl
@[simp] theorem Block.onHp_dbg (f : HpSt → HpSt) : (b.onHp f).dbg = b.dbg := rfl
/-! ### onFp -/
@[simp] theorem Block.onFp_fuses (f : FpSt → FpSt) : (b.onFp f).fuses = b.fuses := rfl
@[simp] theorem Block.onFp_usec (f : FpSt → FpSt) : (b.onFp f).usec = b.usec := rfl
@[simp] theorem Block.onFp_freeCtr (f : FpSt → FpSt) : (b.onFp f).freeCtr = b.freeCtr := rfl
@[simp] theorem Block.onFp_regs (f : FpSt → FpSt) : (b.onFp f).regs = b.regs := rfl
@[simp] theorem Block.onFp_latches (f : FpSt → FpSt) : (b.onFp f).latches = b.latches := rfl
@[simp] theorem Block.onFp_errs (f : FpSt → FpSt) : (b.onFp f).errs = b.errs := rfl
@[simp] theorem Block.onFp_mem (f : FpSt → FpSt) : (b.onFp f).mem = b.mem := rfl
@[simp] theorem Block.onFp_poison (f : FpSt → FpSt) : (b.onFp f).poison = b.poison := rfl
@[simp] theorem Block.onFp_outbox (f : FpSt → FpSt) : (b.onFp f).outbox = b.outbox := rfl
@[simp] theorem Block.onFp_fab (f : FpSt → FpSt) : (b.onFp f).fab = b.fab := rfl
@[simp] theorem Block.onFp_ce (f : FpSt → FpSt) : (b.onFp f).ce = b.ce := rfl
@[simp] theorem Block.onFp_hp (f : FpSt → FpSt) : (b.onFp f).hp = b.hp := rfl
@[simp] theorem Block.onFp_fp (f : FpSt → FpSt) : (b.onFp f).fp = f b.fp := rfl
@[simp] theorem Block.onFp_ft (f : FpSt → FpSt) : (b.onFp f).ft = b.ft := rfl
@[simp] theorem Block.onFp_fc (f : FpSt → FpSt) : (b.onFp f).fc = b.fc := rfl
@[simp] theorem Block.onFp_cz (f : FpSt → FpSt) : (b.onFp f).cz = b.cz := rfl
@[simp] theorem Block.onFp_dm (f : FpSt → FpSt) : (b.onFp f).dm = b.dm := rfl
@[simp] theorem Block.onFp_pa (f : FpSt → FpSt) : (b.onFp f).pa = b.pa := rfl
@[simp] theorem Block.onFp_ms (f : FpSt → FpSt) : (b.onFp f).ms = b.ms := rfl
@[simp] theorem Block.onFp_se (f : FpSt → FpSt) : (b.onFp f).se = b.se := rfl
@[simp] theorem Block.onFp_cx (f : FpSt → FpSt) : (b.onFp f).cx = b.cx := rfl
@[simp] theorem Block.onFp_hk (f : FpSt → FpSt) : (b.onFp f).hk = b.hk := rfl
@[simp] theorem Block.onFp_dbg (f : FpSt → FpSt) : (b.onFp f).dbg = b.dbg := rfl
/-! ### onFt -/
@[simp] theorem Block.onFt_fuses (f : FtSt → FtSt) : (b.onFt f).fuses = b.fuses := rfl
@[simp] theorem Block.onFt_usec (f : FtSt → FtSt) : (b.onFt f).usec = b.usec := rfl
@[simp] theorem Block.onFt_freeCtr (f : FtSt → FtSt) : (b.onFt f).freeCtr = b.freeCtr := rfl
@[simp] theorem Block.onFt_regs (f : FtSt → FtSt) : (b.onFt f).regs = b.regs := rfl
@[simp] theorem Block.onFt_latches (f : FtSt → FtSt) : (b.onFt f).latches = b.latches := rfl
@[simp] theorem Block.onFt_errs (f : FtSt → FtSt) : (b.onFt f).errs = b.errs := rfl
@[simp] theorem Block.onFt_mem (f : FtSt → FtSt) : (b.onFt f).mem = b.mem := rfl
@[simp] theorem Block.onFt_poison (f : FtSt → FtSt) : (b.onFt f).poison = b.poison := rfl
@[simp] theorem Block.onFt_outbox (f : FtSt → FtSt) : (b.onFt f).outbox = b.outbox := rfl
@[simp] theorem Block.onFt_fab (f : FtSt → FtSt) : (b.onFt f).fab = b.fab := rfl
@[simp] theorem Block.onFt_ce (f : FtSt → FtSt) : (b.onFt f).ce = b.ce := rfl
@[simp] theorem Block.onFt_hp (f : FtSt → FtSt) : (b.onFt f).hp = b.hp := rfl
@[simp] theorem Block.onFt_fp (f : FtSt → FtSt) : (b.onFt f).fp = b.fp := rfl
@[simp] theorem Block.onFt_ft (f : FtSt → FtSt) : (b.onFt f).ft = f b.ft := rfl
@[simp] theorem Block.onFt_fc (f : FtSt → FtSt) : (b.onFt f).fc = b.fc := rfl
@[simp] theorem Block.onFt_cz (f : FtSt → FtSt) : (b.onFt f).cz = b.cz := rfl
@[simp] theorem Block.onFt_dm (f : FtSt → FtSt) : (b.onFt f).dm = b.dm := rfl
@[simp] theorem Block.onFt_pa (f : FtSt → FtSt) : (b.onFt f).pa = b.pa := rfl
@[simp] theorem Block.onFt_ms (f : FtSt → FtSt) : (b.onFt f).ms = b.ms := rfl
@[simp] theorem Block.onFt_se (f : FtSt → FtSt) : (b.onFt f).se = b.se := rfl
@[simp] theorem Block.onFt_cx (f : FtSt → FtSt) : (b.onFt f).cx = b.cx := rfl
@[simp] theorem Block.onFt_hk (f : FtSt → FtSt) : (b.onFt f).hk = b.hk := rfl
@[simp] theorem Block.onFt_dbg (f : FtSt → FtSt) : (b.onFt f).dbg = b.dbg := rfl
/-! ### onFc -/
@[simp] theorem Block.onFc_fuses (f : FcSt → FcSt) : (b.onFc f).fuses = b.fuses := rfl
@[simp] theorem Block.onFc_usec (f : FcSt → FcSt) : (b.onFc f).usec = b.usec := rfl
@[simp] theorem Block.onFc_freeCtr (f : FcSt → FcSt) : (b.onFc f).freeCtr = b.freeCtr := rfl
@[simp] theorem Block.onFc_regs (f : FcSt → FcSt) : (b.onFc f).regs = b.regs := rfl
@[simp] theorem Block.onFc_latches (f : FcSt → FcSt) : (b.onFc f).latches = b.latches := rfl
@[simp] theorem Block.onFc_errs (f : FcSt → FcSt) : (b.onFc f).errs = b.errs := rfl
@[simp] theorem Block.onFc_mem (f : FcSt → FcSt) : (b.onFc f).mem = b.mem := rfl
@[simp] theorem Block.onFc_poison (f : FcSt → FcSt) : (b.onFc f).poison = b.poison := rfl
@[simp] theorem Block.onFc_outbox (f : FcSt → FcSt) : (b.onFc f).outbox = b.outbox := rfl
@[simp] theorem Block.onFc_fab (f : FcSt → FcSt) : (b.onFc f).fab = b.fab := rfl
@[simp] theorem Block.onFc_ce (f : FcSt → FcSt) : (b.onFc f).ce = b.ce := rfl
@[simp] theorem Block.onFc_hp (f : FcSt → FcSt) : (b.onFc f).hp = b.hp := rfl
@[simp] theorem Block.onFc_fp (f : FcSt → FcSt) : (b.onFc f).fp = b.fp := rfl
@[simp] theorem Block.onFc_ft (f : FcSt → FcSt) : (b.onFc f).ft = b.ft := rfl
@[simp] theorem Block.onFc_fc (f : FcSt → FcSt) : (b.onFc f).fc = f b.fc := rfl
@[simp] theorem Block.onFc_cz (f : FcSt → FcSt) : (b.onFc f).cz = b.cz := rfl
@[simp] theorem Block.onFc_dm (f : FcSt → FcSt) : (b.onFc f).dm = b.dm := rfl
@[simp] theorem Block.onFc_pa (f : FcSt → FcSt) : (b.onFc f).pa = b.pa := rfl
@[simp] theorem Block.onFc_ms (f : FcSt → FcSt) : (b.onFc f).ms = b.ms := rfl
@[simp] theorem Block.onFc_se (f : FcSt → FcSt) : (b.onFc f).se = b.se := rfl
@[simp] theorem Block.onFc_cx (f : FcSt → FcSt) : (b.onFc f).cx = b.cx := rfl
@[simp] theorem Block.onFc_hk (f : FcSt → FcSt) : (b.onFc f).hk = b.hk := rfl
@[simp] theorem Block.onFc_dbg (f : FcSt → FcSt) : (b.onFc f).dbg = b.dbg := rfl
/-! ### onCz -/
@[simp] theorem Block.onCz_fuses (f : CzSt → CzSt) : (b.onCz f).fuses = b.fuses := rfl
@[simp] theorem Block.onCz_usec (f : CzSt → CzSt) : (b.onCz f).usec = b.usec := rfl
@[simp] theorem Block.onCz_freeCtr (f : CzSt → CzSt) : (b.onCz f).freeCtr = b.freeCtr := rfl
@[simp] theorem Block.onCz_regs (f : CzSt → CzSt) : (b.onCz f).regs = b.regs := rfl
@[simp] theorem Block.onCz_latches (f : CzSt → CzSt) : (b.onCz f).latches = b.latches := rfl
@[simp] theorem Block.onCz_errs (f : CzSt → CzSt) : (b.onCz f).errs = b.errs := rfl
@[simp] theorem Block.onCz_mem (f : CzSt → CzSt) : (b.onCz f).mem = b.mem := rfl
@[simp] theorem Block.onCz_poison (f : CzSt → CzSt) : (b.onCz f).poison = b.poison := rfl
@[simp] theorem Block.onCz_outbox (f : CzSt → CzSt) : (b.onCz f).outbox = b.outbox := rfl
@[simp] theorem Block.onCz_fab (f : CzSt → CzSt) : (b.onCz f).fab = b.fab := rfl
@[simp] theorem Block.onCz_ce (f : CzSt → CzSt) : (b.onCz f).ce = b.ce := rfl
@[simp] theorem Block.onCz_hp (f : CzSt → CzSt) : (b.onCz f).hp = b.hp := rfl
@[simp] theorem Block.onCz_fp (f : CzSt → CzSt) : (b.onCz f).fp = b.fp := rfl
@[simp] theorem Block.onCz_ft (f : CzSt → CzSt) : (b.onCz f).ft = b.ft := rfl
@[simp] theorem Block.onCz_fc (f : CzSt → CzSt) : (b.onCz f).fc = b.fc := rfl
@[simp] theorem Block.onCz_cz (f : CzSt → CzSt) : (b.onCz f).cz = f b.cz := rfl
@[simp] theorem Block.onCz_dm (f : CzSt → CzSt) : (b.onCz f).dm = b.dm := rfl
@[simp] theorem Block.onCz_pa (f : CzSt → CzSt) : (b.onCz f).pa = b.pa := rfl
@[simp] theorem Block.onCz_ms (f : CzSt → CzSt) : (b.onCz f).ms = b.ms := rfl
@[simp] theorem Block.onCz_se (f : CzSt → CzSt) : (b.onCz f).se = b.se := rfl
@[simp] theorem Block.onCz_cx (f : CzSt → CzSt) : (b.onCz f).cx = b.cx := rfl
@[simp] theorem Block.onCz_hk (f : CzSt → CzSt) : (b.onCz f).hk = b.hk := rfl
@[simp] theorem Block.onCz_dbg (f : CzSt → CzSt) : (b.onCz f).dbg = b.dbg := rfl
/-! ### onDm -/
@[simp] theorem Block.onDm_fuses (f : DmSt → DmSt) : (b.onDm f).fuses = b.fuses := rfl
@[simp] theorem Block.onDm_usec (f : DmSt → DmSt) : (b.onDm f).usec = b.usec := rfl
@[simp] theorem Block.onDm_freeCtr (f : DmSt → DmSt) : (b.onDm f).freeCtr = b.freeCtr := rfl
@[simp] theorem Block.onDm_regs (f : DmSt → DmSt) : (b.onDm f).regs = b.regs := rfl
@[simp] theorem Block.onDm_latches (f : DmSt → DmSt) : (b.onDm f).latches = b.latches := rfl
@[simp] theorem Block.onDm_errs (f : DmSt → DmSt) : (b.onDm f).errs = b.errs := rfl
@[simp] theorem Block.onDm_mem (f : DmSt → DmSt) : (b.onDm f).mem = b.mem := rfl
@[simp] theorem Block.onDm_poison (f : DmSt → DmSt) : (b.onDm f).poison = b.poison := rfl
@[simp] theorem Block.onDm_outbox (f : DmSt → DmSt) : (b.onDm f).outbox = b.outbox := rfl
@[simp] theorem Block.onDm_fab (f : DmSt → DmSt) : (b.onDm f).fab = b.fab := rfl
@[simp] theorem Block.onDm_ce (f : DmSt → DmSt) : (b.onDm f).ce = b.ce := rfl
@[simp] theorem Block.onDm_hp (f : DmSt → DmSt) : (b.onDm f).hp = b.hp := rfl
@[simp] theorem Block.onDm_fp (f : DmSt → DmSt) : (b.onDm f).fp = b.fp := rfl
@[simp] theorem Block.onDm_ft (f : DmSt → DmSt) : (b.onDm f).ft = b.ft := rfl
@[simp] theorem Block.onDm_fc (f : DmSt → DmSt) : (b.onDm f).fc = b.fc := rfl
@[simp] theorem Block.onDm_cz (f : DmSt → DmSt) : (b.onDm f).cz = b.cz := rfl
@[simp] theorem Block.onDm_dm (f : DmSt → DmSt) : (b.onDm f).dm = f b.dm := rfl
@[simp] theorem Block.onDm_pa (f : DmSt → DmSt) : (b.onDm f).pa = b.pa := rfl
@[simp] theorem Block.onDm_ms (f : DmSt → DmSt) : (b.onDm f).ms = b.ms := rfl
@[simp] theorem Block.onDm_se (f : DmSt → DmSt) : (b.onDm f).se = b.se := rfl
@[simp] theorem Block.onDm_cx (f : DmSt → DmSt) : (b.onDm f).cx = b.cx := rfl
@[simp] theorem Block.onDm_hk (f : DmSt → DmSt) : (b.onDm f).hk = b.hk := rfl
@[simp] theorem Block.onDm_dbg (f : DmSt → DmSt) : (b.onDm f).dbg = b.dbg := rfl
/-! ### onMs -/
@[simp] theorem Block.onMs_fuses (f : MsSt → MsSt) : (b.onMs f).fuses = b.fuses := rfl
@[simp] theorem Block.onMs_usec (f : MsSt → MsSt) : (b.onMs f).usec = b.usec := rfl
@[simp] theorem Block.onMs_freeCtr (f : MsSt → MsSt) : (b.onMs f).freeCtr = b.freeCtr := rfl
@[simp] theorem Block.onMs_regs (f : MsSt → MsSt) : (b.onMs f).regs = b.regs := rfl
@[simp] theorem Block.onMs_latches (f : MsSt → MsSt) : (b.onMs f).latches = b.latches := rfl
@[simp] theorem Block.onMs_errs (f : MsSt → MsSt) : (b.onMs f).errs = b.errs := rfl
@[simp] theorem Block.onMs_mem (f : MsSt → MsSt) : (b.onMs f).mem = b.mem := rfl
@[simp] theorem Block.onMs_poison (f : MsSt → MsSt) : (b.onMs f).poison = b.poison := rfl
@[simp] theorem Block.onMs_outbox (f : MsSt → MsSt) : (b.onMs f).outbox = b.outbox := rfl
@[simp] theorem Block.onMs_fab (f : MsSt → MsSt) : (b.onMs f).fab = b.fab := rfl
@[simp] theorem Block.onMs_ce (f : MsSt → MsSt) : (b.onMs f).ce = b.ce := rfl
@[simp] theorem Block.onMs_hp (f : MsSt → MsSt) : (b.onMs f).hp = b.hp := rfl
@[simp] theorem Block.onMs_fp (f : MsSt → MsSt) : (b.onMs f).fp = b.fp := rfl
@[simp] theorem Block.onMs_ft (f : MsSt → MsSt) : (b.onMs f).ft = b.ft := rfl
@[simp] theorem Block.onMs_fc (f : MsSt → MsSt) : (b.onMs f).fc = b.fc := rfl
@[simp] theorem Block.onMs_cz (f : MsSt → MsSt) : (b.onMs f).cz = b.cz := rfl
@[simp] theorem Block.onMs_dm (f : MsSt → MsSt) : (b.onMs f).dm = b.dm := rfl
@[simp] theorem Block.onMs_pa (f : MsSt → MsSt) : (b.onMs f).pa = b.pa := rfl
@[simp] theorem Block.onMs_ms (f : MsSt → MsSt) : (b.onMs f).ms = f b.ms := rfl
@[simp] theorem Block.onMs_se (f : MsSt → MsSt) : (b.onMs f).se = b.se := rfl
@[simp] theorem Block.onMs_cx (f : MsSt → MsSt) : (b.onMs f).cx = b.cx := rfl
@[simp] theorem Block.onMs_hk (f : MsSt → MsSt) : (b.onMs f).hk = b.hk := rfl
@[simp] theorem Block.onMs_dbg (f : MsSt → MsSt) : (b.onMs f).dbg = b.dbg := rfl
/-! ### onSe -/
@[simp] theorem Block.onSe_fuses (f : SeSt → SeSt) : (b.onSe f).fuses = b.fuses := rfl
@[simp] theorem Block.onSe_usec (f : SeSt → SeSt) : (b.onSe f).usec = b.usec := rfl
@[simp] theorem Block.onSe_freeCtr (f : SeSt → SeSt) : (b.onSe f).freeCtr = b.freeCtr := rfl
@[simp] theorem Block.onSe_regs (f : SeSt → SeSt) : (b.onSe f).regs = b.regs := rfl
@[simp] theorem Block.onSe_latches (f : SeSt → SeSt) : (b.onSe f).latches = b.latches := rfl
@[simp] theorem Block.onSe_errs (f : SeSt → SeSt) : (b.onSe f).errs = b.errs := rfl
@[simp] theorem Block.onSe_mem (f : SeSt → SeSt) : (b.onSe f).mem = b.mem := rfl
@[simp] theorem Block.onSe_poison (f : SeSt → SeSt) : (b.onSe f).poison = b.poison := rfl
@[simp] theorem Block.onSe_outbox (f : SeSt → SeSt) : (b.onSe f).outbox = b.outbox := rfl
@[simp] theorem Block.onSe_fab (f : SeSt → SeSt) : (b.onSe f).fab = b.fab := rfl
@[simp] theorem Block.onSe_ce (f : SeSt → SeSt) : (b.onSe f).ce = b.ce := rfl
@[simp] theorem Block.onSe_hp (f : SeSt → SeSt) : (b.onSe f).hp = b.hp := rfl
@[simp] theorem Block.onSe_fp (f : SeSt → SeSt) : (b.onSe f).fp = b.fp := rfl
@[simp] theorem Block.onSe_ft (f : SeSt → SeSt) : (b.onSe f).ft = b.ft := rfl
@[simp] theorem Block.onSe_fc (f : SeSt → SeSt) : (b.onSe f).fc = b.fc := rfl
@[simp] theorem Block.onSe_cz (f : SeSt → SeSt) : (b.onSe f).cz = b.cz := rfl
@[simp] theorem Block.onSe_dm (f : SeSt → SeSt) : (b.onSe f).dm = b.dm := rfl
@[simp] theorem Block.onSe_pa (f : SeSt → SeSt) : (b.onSe f).pa = b.pa := rfl
@[simp] theorem Block.onSe_ms (f : SeSt → SeSt) : (b.onSe f).ms = b.ms := rfl
@[simp] theorem Block.onSe_se (f : SeSt → SeSt) : (b.onSe f).se = f b.se := rfl
@[simp] theorem Block.onSe_cx (f : SeSt → SeSt) : (b.onSe f).cx = b.cx := rfl
@[simp] theorem Block.onSe_hk (f : SeSt → SeSt) : (b.onSe f).hk = b.hk := rfl
@[simp] theorem Block.onSe_dbg (f : SeSt → SeSt) : (b.onSe f).dbg = b.dbg := rfl
/-! ### onCx -/
@[simp] theorem Block.onCx_fuses (f : CxSt → CxSt) : (b.onCx f).fuses = b.fuses := rfl
@[simp] theorem Block.onCx_usec (f : CxSt → CxSt) : (b.onCx f).usec = b.usec := rfl
@[simp] theorem Block.onCx_freeCtr (f : CxSt → CxSt) : (b.onCx f).freeCtr = b.freeCtr := rfl
@[simp] theorem Block.onCx_regs (f : CxSt → CxSt) : (b.onCx f).regs = b.regs := rfl
@[simp] theorem Block.onCx_latches (f : CxSt → CxSt) : (b.onCx f).latches = b.latches := rfl
@[simp] theorem Block.onCx_errs (f : CxSt → CxSt) : (b.onCx f).errs = b.errs := rfl
@[simp] theorem Block.onCx_mem (f : CxSt → CxSt) : (b.onCx f).mem = b.mem := rfl
@[simp] theorem Block.onCx_poison (f : CxSt → CxSt) : (b.onCx f).poison = b.poison := rfl
@[simp] theorem Block.onCx_outbox (f : CxSt → CxSt) : (b.onCx f).outbox = b.outbox := rfl
@[simp] theorem Block.onCx_fab (f : CxSt → CxSt) : (b.onCx f).fab = b.fab := rfl
@[simp] theorem Block.onCx_ce (f : CxSt → CxSt) : (b.onCx f).ce = b.ce := rfl
@[simp] theorem Block.onCx_hp (f : CxSt → CxSt) : (b.onCx f).hp = b.hp := rfl
@[simp] theorem Block.onCx_fp (f : CxSt → CxSt) : (b.onCx f).fp = b.fp := rfl
@[simp] theorem Block.onCx_ft (f : CxSt → CxSt) : (b.onCx f).ft = b.ft := rfl
@[simp] theorem Block.onCx_fc (f : CxSt → CxSt) : (b.onCx f).fc = b.fc := rfl
@[simp] theorem Block.onCx_cz (f : CxSt → CxSt) : (b.onCx f).cz = b.cz := rfl
@[simp] theorem Block.onCx_dm (f : CxSt → CxSt) : (b.onCx f).dm = b.dm := rfl
@[simp] theorem Block.onCx_pa (f : CxSt → CxSt) : (b.onCx f).pa = b.pa := rfl
@[simp] theorem Block.onCx_ms (f : CxSt → CxSt) : (b.onCx f).ms = b.ms := rfl
@[simp] theorem Block.onCx_se (f : CxSt → CxSt) : (b.onCx f).se = b.se := rfl
@[simp] theorem Block.onCx_cx (f : CxSt → CxSt) : (b.onCx f).cx = f b.cx := rfl
@[simp] theorem Block.onCx_hk (f : CxSt → CxSt) : (b.onCx f).hk = b.hk := rfl
@[simp] theorem Block.onCx_dbg (f : CxSt → CxSt) : (b.onCx f).dbg = b.dbg := rfl
/-! ### onHk -/
@[simp] theorem Block.onHk_fuses (f : HkSt → HkSt) : (b.onHk f).fuses = b.fuses := rfl
@[simp] theorem Block.onHk_usec (f : HkSt → HkSt) : (b.onHk f).usec = b.usec := rfl
@[simp] theorem Block.onHk_freeCtr (f : HkSt → HkSt) : (b.onHk f).freeCtr = b.freeCtr := rfl
@[simp] theorem Block.onHk_regs (f : HkSt → HkSt) : (b.onHk f).regs = b.regs := rfl
@[simp] theorem Block.onHk_latches (f : HkSt → HkSt) : (b.onHk f).latches = b.latches := rfl
@[simp] theorem Block.onHk_errs (f : HkSt → HkSt) : (b.onHk f).errs = b.errs := rfl
@[simp] theorem Block.onHk_mem (f : HkSt → HkSt) : (b.onHk f).mem = b.mem := rfl
@[simp] theorem Block.onHk_poison (f : HkSt → HkSt) : (b.onHk f).poison = b.poison := rfl
@[simp] theorem Block.onHk_outbox (f : HkSt → HkSt) : (b.onHk f).outbox = b.outbox := rfl
@[simp] theorem Block.onHk_fab (f : HkSt → HkSt) : (b.onHk f).fab = b.fab := rfl
@[simp] theorem Block.onHk_ce (f : HkSt → HkSt) : (b.onHk f).ce = b.ce := rfl
@[simp] theorem Block.onHk_hp (f : HkSt → HkSt) : (b.onHk f).hp = b.hp := rfl
@[simp] theorem Block.onHk_fp (f : HkSt → HkSt) : (b.onHk f).fp = b.fp := rfl
@[simp] theorem Block.onHk_ft (f : HkSt → HkSt) : (b.onHk f).ft = b.ft := rfl
@[simp] theorem Block.onHk_fc (f : HkSt → HkSt) : (b.onHk f).fc = b.fc := rfl
@[simp] theorem Block.onHk_cz (f : HkSt → HkSt) : (b.onHk f).cz = b.cz := rfl
@[simp] theorem Block.onHk_dm (f : HkSt → HkSt) : (b.onHk f).dm = b.dm := rfl
@[simp] theorem Block.onHk_pa (f : HkSt → HkSt) : (b.onHk f).pa = b.pa := rfl
@[simp] theorem Block.onHk_ms (f : HkSt → HkSt) : (b.onHk f).ms = b.ms := rfl
@[simp] theorem Block.onHk_se (f : HkSt → HkSt) : (b.onHk f).se = b.se := rfl
@[simp] theorem Block.onHk_cx (f : HkSt → HkSt) : (b.onHk f).cx = b.cx := rfl
@[simp] theorem Block.onHk_hk (f : HkSt → HkSt) : (b.onHk f).hk = f b.hk := rfl
@[simp] theorem Block.onHk_dbg (f : HkSt → HkSt) : (b.onHk f).dbg = b.dbg := rfl
/-! ### onDbg -/
@[simp] theorem Block.onDbg_fuses (f : DbgSt → DbgSt) : (b.onDbg f).fuses = b.fuses := rfl
@[simp] theorem Block.onDbg_usec (f : DbgSt → DbgSt) : (b.onDbg f).usec = b.usec := rfl
@[simp] theorem Block.onDbg_freeCtr (f : DbgSt → DbgSt) : (b.onDbg f).freeCtr = b.freeCtr := rfl
@[simp] theorem Block.onDbg_regs (f : DbgSt → DbgSt) : (b.onDbg f).regs = b.regs := rfl
@[simp] theorem Block.onDbg_latches (f : DbgSt → DbgSt) : (b.onDbg f).latches = b.latches := rfl
@[simp] theorem Block.onDbg_errs (f : DbgSt → DbgSt) : (b.onDbg f).errs = b.errs := rfl
@[simp] theorem Block.onDbg_mem (f : DbgSt → DbgSt) : (b.onDbg f).mem = b.mem := rfl
@[simp] theorem Block.onDbg_poison (f : DbgSt → DbgSt) : (b.onDbg f).poison = b.poison := rfl
@[simp] theorem Block.onDbg_outbox (f : DbgSt → DbgSt) : (b.onDbg f).outbox = b.outbox := rfl
@[simp] theorem Block.onDbg_fab (f : DbgSt → DbgSt) : (b.onDbg f).fab = b.fab := rfl
@[simp] theorem Block.onDbg_ce (f : DbgSt → DbgSt) : (b.onDbg f).ce = b.ce := rfl
@[simp] theorem Block.onDbg_hp (f : DbgSt → DbgSt) : (b.onDbg f).hp = b.hp := rfl
@[simp] theorem Block.onDbg_fp (f : DbgSt → DbgSt) : (b.onDbg f).fp = b.fp := rfl
@[simp] theorem Block.onDbg_ft (f : DbgSt → DbgSt) : (b.onDbg f).ft = b.ft := rfl
@[simp] theorem Block.onDbg_fc (f : DbgSt → DbgSt) : (b.onDbg f).fc = b.fc := rfl
@[simp] theorem Block.onDbg_cz (f : DbgSt → DbgSt) : (b.onDbg f).cz = b.cz := rfl
@[simp] theorem Block.onDbg_dm (f : DbgSt → DbgSt) : (b.onDbg f).dm = b.dm := rfl
@[simp] theorem Block.onDbg_pa (f : DbgSt → DbgSt) : (b.onDbg f).pa = b.pa := rfl
@[simp] theorem Block.onDbg_ms (f : DbgSt → DbgSt) : (b.onDbg f).ms = b.ms := rfl
@[simp] theorem Block.onDbg_se (f : DbgSt → DbgSt) : (b.onDbg f).se = b.se := rfl
@[simp] theorem Block.onDbg_cx (f : DbgSt → DbgSt) : (b.onDbg f).cx = b.cx := rfl
@[simp] theorem Block.onDbg_hk (f : DbgSt → DbgSt) : (b.onDbg f).hk = b.hk := rfl
@[simp] theorem Block.onDbg_dbg (f : DbgSt → DbgSt) : (b.onDbg f).dbg = f b.dbg := rfl
/-! ### onPa -/
@[simp] theorem Block.onPa_fuses (f : PaSt → PaSt) : (b.onPa f).fuses = b.fuses := rfl
@[simp] theorem Block.onPa_usec (f : PaSt → PaSt) : (b.onPa f).usec = b.usec := rfl
@[simp] theorem Block.onPa_freeCtr (f : PaSt → PaSt) : (b.onPa f).freeCtr = b.freeCtr := rfl
@[simp] theorem Block.onPa_regs (f : PaSt → PaSt) : (b.onPa f).regs = b.regs := rfl
@[simp] theorem Block.onPa_latches (f : PaSt → PaSt) : (b.onPa f).latches = b.latches := rfl
@[simp] theorem Block.onPa_errs (f : PaSt → PaSt) : (b.onPa f).errs = b.errs := rfl
@[simp] theorem Block.onPa_mem (f : PaSt → PaSt) : (b.onPa f).mem = b.mem := rfl
@[simp] theorem Block.onPa_poison (f : PaSt → PaSt) : (b.onPa f).poison = b.poison := rfl
@[simp] theorem Block.onPa_outbox (f : PaSt → PaSt) : (b.onPa f).outbox = b.outbox := rfl
@[simp] theorem Block.onPa_fab (f : PaSt → PaSt) : (b.onPa f).fab = b.fab := rfl
@[simp] theorem Block.onPa_ce (f : PaSt → PaSt) : (b.onPa f).ce = b.ce := rfl
@[simp] theorem Block.onPa_hp (f : PaSt → PaSt) : (b.onPa f).hp = b.hp := rfl
@[simp] theorem Block.onPa_fp (f : PaSt → PaSt) : (b.onPa f).fp = b.fp := rfl
@[simp] theorem Block.onPa_ft (f : PaSt → PaSt) : (b.onPa f).ft = b.ft := rfl
@[simp] theorem Block.onPa_fc (f : PaSt → PaSt) : (b.onPa f).fc = b.fc := rfl
@[simp] theorem Block.onPa_cz (f : PaSt → PaSt) : (b.onPa f).cz = b.cz := rfl
@[simp] theorem Block.onPa_dm (f : PaSt → PaSt) : (b.onPa f).dm = b.dm := rfl
@[simp] theorem Block.onPa_pa (f : PaSt → PaSt) : (b.onPa f).pa = f b.pa := rfl
@[simp] theorem Block.onPa_ms (f : PaSt → PaSt) : (b.onPa f).ms = b.ms := rfl
@[simp] theorem Block.onPa_se (f : PaSt → PaSt) : (b.onPa f).se = b.se := rfl
@[simp] theorem Block.onPa_cx (f : PaSt → PaSt) : (b.onPa f).cx = b.cx := rfl
@[simp] theorem Block.onPa_hk (f : PaSt → PaSt) : (b.onPa f).hk = b.hk := rfl
@[simp] theorem Block.onPa_dbg (f : PaSt → PaSt) : (b.onPa f).dbg = b.dbg := rfl
/-! ### onFab -/
@[simp] theorem Block.onFab_fuses (f : FabSt → FabSt) : (b.onFab f).fuses = b.fuses := rfl
@[simp] theorem Block.onFab_usec (f : FabSt → FabSt) : (b.onFab f).usec = b.usec := rfl
@[simp] theorem Block.onFab_freeCtr (f : FabSt → FabSt) : (b.onFab f).freeCtr = b.freeCtr := rfl
@[simp] theorem Block.onFab_regs (f : FabSt → FabSt) : (b.onFab f).regs = b.regs := rfl
@[simp] theorem Block.onFab_latches (f : FabSt → FabSt) : (b.onFab f).latches = b.latches := rfl
@[simp] theorem Block.onFab_errs (f : FabSt → FabSt) : (b.onFab f).errs = b.errs := rfl
@[simp] theorem Block.onFab_mem (f : FabSt → FabSt) : (b.onFab f).mem = b.mem := rfl
@[simp] theorem Block.onFab_poison (f : FabSt → FabSt) : (b.onFab f).poison = b.poison := rfl
@[simp] theorem Block.onFab_outbox (f : FabSt → FabSt) : (b.onFab f).outbox = b.outbox := rfl
@[simp] theorem Block.onFab_fab (f : FabSt → FabSt) : (b.onFab f).fab = f b.fab := rfl
@[simp] theorem Block.onFab_ce (f : FabSt → FabSt) : (b.onFab f).ce = b.ce := rfl
@[simp] theorem Block.onFab_hp (f : FabSt → FabSt) : (b.onFab f).hp = b.hp := rfl
@[simp] theorem Block.onFab_fp (f : FabSt → FabSt) : (b.onFab f).fp = b.fp := rfl
@[simp] theorem Block.onFab_ft (f : FabSt → FabSt) : (b.onFab f).ft = b.ft := rfl
@[simp] theorem Block.onFab_fc (f : FabSt → FabSt) : (b.onFab f).fc = b.fc := rfl
@[simp] theorem Block.onFab_cz (f : FabSt → FabSt) : (b.onFab f).cz = b.cz := rfl
@[simp] theorem Block.onFab_dm (f : FabSt → FabSt) : (b.onFab f).dm = b.dm := rfl
@[simp] theorem Block.onFab_pa (f : FabSt → FabSt) : (b.onFab f).pa = b.pa := rfl
@[simp] theorem Block.onFab_ms (f : FabSt → FabSt) : (b.onFab f).ms = b.ms := rfl
@[simp] theorem Block.onFab_se (f : FabSt → FabSt) : (b.onFab f).se = b.se := rfl
@[simp] theorem Block.onFab_cx (f : FabSt → FabSt) : (b.onFab f).cx = b.cx := rfl
@[simp] theorem Block.onFab_hk (f : FabSt → FabSt) : (b.onFab f).hk = b.hk := rfl
@[simp] theorem Block.onFab_dbg (f : FabSt → FabSt) : (b.onFab f).dbg = b.dbg := rfl

@[simp] theorem Block.onIf_true (f : Block → Block) : b.onIf true f = f b := rfl
@[simp] theorem Block.onIf_false (f : Block → Block) : b.onIf false f = b := rfl

end Sys2Proof.Machine
end

