-- ==== Sys2Proof/Laws/Ops.lean ====
section
/-! SUPPORT. What the shared operations leave alone, and that the operations over memory keep its canonical form. -/
namespace Sys2Proof.Machine

variable (b : Block)

/-! ### Field reads and counters -/
@[simp] theorem Block.addSat_fuses (off lo hi n : Nat) : (b.addSat off lo hi n).fuses = b.fuses := rfl
@[simp] theorem Block.wrF_fuses (off lo hi x : Nat) : (b.wrF off lo hi x).fuses = b.fuses := rfl
@[simp] theorem Block.addSat_usec (off lo hi n : Nat) : (b.addSat off lo hi n).usec = b.usec := rfl
@[simp] theorem Block.wrF_usec (off lo hi x : Nat) : (b.wrF off lo hi x).usec = b.usec := rfl
@[simp] theorem Block.addSat_freeCtr (off lo hi n : Nat) : (b.addSat off lo hi n).freeCtr = b.freeCtr := rfl
@[simp] theorem Block.wrF_freeCtr (off lo hi x : Nat) : (b.wrF off lo hi x).freeCtr = b.freeCtr := rfl
@[simp] theorem Block.addSat_latches (off lo hi n : Nat) : (b.addSat off lo hi n).latches = b.latches := rfl
@[simp] theorem Block.wrF_latches (off lo hi x : Nat) : (b.wrF off lo hi x).latches = b.latches := rfl
@[simp] theorem Block.addSat_errs (off lo hi n : Nat) : (b.addSat off lo hi n).errs = b.errs := rfl
@[simp] theorem Block.wrF_errs (off lo hi x : Nat) : (b.wrF off lo hi x).errs = b.errs := rfl
@[simp] theorem Block.addSat_mem (off lo hi n : Nat) : (b.addSat off lo hi n).mem = b.mem := rfl
@[simp] theorem Block.wrF_mem (off lo hi x : Nat) : (b.wrF off lo hi x).mem = b.mem := rfl
@[simp] theorem Block.addSat_poison (off lo hi n : Nat) : (b.addSat off lo hi n).poison = b.poison := rfl
@[simp] theorem Block.wrF_poison (off lo hi x : Nat) : (b.wrF off lo hi x).poison = b.poison := rfl
@[simp] theorem Block.addSat_outbox (off lo hi n : Nat) : (b.addSat off lo hi n).outbox = b.outbox := rfl
@[simp] theorem Block.wrF_outbox (off lo hi x : Nat) : (b.wrF off lo hi x).outbox = b.outbox := rfl
@[simp] theorem Block.addSat_fab (off lo hi n : Nat) : (b.addSat off lo hi n).fab = b.fab := rfl
@[simp] theorem Block.wrF_fab (off lo hi x : Nat) : (b.wrF off lo hi x).fab = b.fab := rfl
@[simp] theorem Block.addSat_ce (off lo hi n : Nat) : (b.addSat off lo hi n).ce = b.ce := rfl
@[simp] theorem Block.wrF_ce (off lo hi x : Nat) : (b.wrF off lo hi x).ce = b.ce := rfl
@[simp] theorem Block.addSat_hp (off lo hi n : Nat) : (b.addSat off lo hi n).hp = b.hp := rfl
@[simp] theorem Block.wrF_hp (off lo hi x : Nat) : (b.wrF off lo hi x).hp = b.hp := rfl
@[simp] theorem Block.addSat_fp (off lo hi n : Nat) : (b.addSat off lo hi n).fp = b.fp := rfl
@[simp] theorem Block.wrF_fp (off lo hi x : Nat) : (b.wrF off lo hi x).fp = b.fp := rfl
@[simp] theorem Block.addSat_ft (off lo hi n : Nat) : (b.addSat off lo hi n).ft = b.ft := rfl
@[simp] theorem Block.wrF_ft (off lo hi x : Nat) : (b.wrF off lo hi x).ft = b.ft := rfl
@[simp] theorem Block.addSat_fc (off lo hi n : Nat) : (b.addSat off lo hi n).fc = b.fc := rfl
@[simp] theorem Block.wrF_fc (off lo hi x : Nat) : (b.wrF off lo hi x).fc = b.fc := rfl
@[simp] theorem Block.addSat_cz (off lo hi n : Nat) : (b.addSat off lo hi n).cz = b.cz := rfl
@[simp] theorem Block.wrF_cz (off lo hi x : Nat) : (b.wrF off lo hi x).cz = b.cz := rfl
@[simp] theorem Block.addSat_dm (off lo hi n : Nat) : (b.addSat off lo hi n).dm = b.dm := rfl
@[simp] theorem Block.wrF_dm (off lo hi x : Nat) : (b.wrF off lo hi x).dm = b.dm := rfl
@[simp] theorem Block.addSat_pa (off lo hi n : Nat) : (b.addSat off lo hi n).pa = b.pa := rfl
@[simp] theorem Block.wrF_pa (off lo hi x : Nat) : (b.wrF off lo hi x).pa = b.pa := rfl
@[simp] theorem Block.addSat_ms (off lo hi n : Nat) : (b.addSat off lo hi n).ms = b.ms := rfl
@[simp] theorem Block.wrF_ms (off lo hi x : Nat) : (b.wrF off lo hi x).ms = b.ms := rfl
@[simp] theorem Block.addSat_se (off lo hi n : Nat) : (b.addSat off lo hi n).se = b.se := rfl
@[simp] theorem Block.wrF_se (off lo hi x : Nat) : (b.wrF off lo hi x).se = b.se := rfl
@[simp] theorem Block.addSat_cx (off lo hi n : Nat) : (b.addSat off lo hi n).cx = b.cx := rfl
@[simp] theorem Block.wrF_cx (off lo hi x : Nat) : (b.wrF off lo hi x).cx = b.cx := rfl
@[simp] theorem Block.addSat_hk (off lo hi n : Nat) : (b.addSat off lo hi n).hk = b.hk := rfl
@[simp] theorem Block.wrF_hk (off lo hi x : Nat) : (b.wrF off lo hi x).hk = b.hk := rfl
@[simp] theorem Block.addSat_dbg (off lo hi n : Nat) : (b.addSat off lo hi n).dbg = b.dbg := rfl
@[simp] theorem Block.wrF_dbg (off lo hi x : Nat) : (b.wrF off lo hi x).dbg = b.dbg := rfl
/-! ### Events (R53-R60) -/
@[simp] theorem Block.sendInt_fuses (pg : Nat) : (b.sendInt pg).fuses = b.fuses := by
  simp only [Block.sendInt, Block.onIf, Block.inc]; repeat' split
  all_goals rfl
@[simp] theorem Block.sendInt_usec (pg : Nat) : (b.sendInt pg).usec = b.usec := by
  simp only [Block.sendInt, Block.onIf, Block.inc]; repeat' split
  all_goals rfl
@[simp] theorem Block.sendInt_freeCtr (pg : Nat) : (b.sendInt pg).freeCtr = b.freeCtr := by
  simp only [Block.sendInt, Block.onIf, Block.inc]; repeat' split
  all_goals rfl
@[simp] theorem Block.sendInt_latches (pg : Nat) : (b.sendInt pg).latches = b.latches := by
  simp only [Block.sendInt, Block.onIf, Block.inc]; repeat' split
  all_goals rfl
@[simp] theorem Block.sendInt_errs (pg : Nat) : (b.sendInt pg).errs = b.errs := by
  simp only [Block.sendInt, Block.onIf, Block.inc]; repeat' split
  all_goals rfl
@[simp] theorem Block.sendInt_mem (pg : Nat) : (b.sendInt pg).mem = b.mem := by
  simp only [Block.sendInt, Block.onIf, Block.inc]; repeat' split
  all_goals rfl
@[simp] theorem Block.sendInt_poison (pg : Nat) : (b.sendInt pg).poison = b.poison := by
  simp only [Block.sendInt, Block.onIf, Block.inc]; repeat' split
  all_goals rfl
@[simp] theorem Block.sendInt_fab (pg : Nat) : (b.sendInt pg).fab = b.fab := by
  simp only [Block.sendInt, Block.onIf, Block.inc]; repeat' split
  all_goals rfl
@[simp] theorem Block.sendInt_ce (pg : Nat) : (b.sendInt pg).ce = b.ce := by
  simp only [Block.sendInt, Block.onIf, Block.inc]; repeat' split
  all_goals rfl
@[simp] theorem Block.sendInt_hp (pg : Nat) : (b.sendInt pg).hp = b.hp := by
  simp only [Block.sendInt, Block.onIf, Block.inc]; repeat' split
  all_goals rfl
@[simp] theorem Block.sendInt_fp (pg : Nat) : (b.sendInt pg).fp = b.fp := by
  simp only [Block.sendInt, Block.onIf, Block.inc]; repeat' split
  all_goals rfl
@[simp] theorem Block.sendInt_ft (pg : Nat) : (b.sendInt pg).ft = b.ft := by
  simp only [Block.sendInt, Block.onIf, Block.inc]; repeat' split
  all_goals rfl
@[simp] theorem Block.sendInt_fc (pg : Nat) : (b.sendInt pg).fc = b.fc := by
  simp only [Block.sendInt, Block.onIf, Block.inc]; repeat' split
  all_goals rfl
@[simp] theorem Block.sendInt_cz (pg : Nat) : (b.sendInt pg).cz = b.cz := by
  simp only [Block.sendInt, Block.onIf, Block.inc]; repeat' split
  all_goals rfl
@[simp] theorem Block.sendInt_dm (pg : Nat) : (b.sendInt pg).dm = b.dm := by
  simp only [Block.sendInt, Block.onIf, Block.inc]; repeat' split
  all_goals rfl
@[simp] theorem Block.sendInt_pa (pg : Nat) : (b.sendInt pg).pa = b.pa := by
  simp only [Block.sendInt, Block.onIf, Block.inc]; repeat' split
  all_goals rfl
@[simp] theorem Block.sendInt_ms (pg : Nat) : (b.sendInt pg).ms = b.ms := by
  simp only [Block.sendInt, Block.onIf, Block.inc]; repeat' split
  all_goals rfl
@[simp] theorem Block.sendInt_se (pg : Nat) : (b.sendInt pg).se = b.se := by
  simp only [Block.sendInt, Block.onIf, Block.inc]; repeat' split
  all_goals rfl
@[simp] theorem Block.sendInt_hk (pg : Nat) : (b.sendInt pg).hk = b.hk := by
  simp only [Block.sendInt, Block.onIf, Block.inc]; repeat' split
  all_goals rfl
@[simp] theorem Block.sendInt_dbg (pg : Nat) : (b.sendInt pg).dbg = b.dbg := by
  simp only [Block.sendInt, Block.onIf, Block.inc]; repeat' split
  all_goals rfl
@[simp] theorem Block.setEvt_fuses (pg : Nat) (r e : W32) : (b.setEvt pg r e).fuses = b.fuses := by
  simp only [Block.setEvt]; split <;> simp
@[simp] theorem Block.setEvt_usec (pg : Nat) (r e : W32) : (b.setEvt pg r e).usec = b.usec := by
  simp only [Block.setEvt]; split <;> simp
@[simp] theorem Block.setEvt_freeCtr (pg : Nat) (r e : W32) : (b.setEvt pg r e).freeCtr = b.freeCtr := by
  simp only [Block.setEvt]; split <;> simp
@[simp] theorem Block.setEvt_latches (pg : Nat) (r e : W32) : (b.setEvt pg r e).latches = b.latches := by
  simp only [Block.setEvt]; split <;> simp
@[simp] theorem Block.setEvt_errs (pg : Nat) (r e : W32) : (b.setEvt pg r e).errs = b.errs := by
  simp only [Block.setEvt]; split <;> simp
@[simp] theorem Block.setEvt_mem (pg : Nat) (r e : W32) : (b.setEvt pg r e).mem = b.mem := by
  simp only [Block.setEvt]; split <;> simp
@[simp] theorem Block.setEvt_poison (pg : Nat) (r e : W32) : (b.setEvt pg r e).poison = b.poison := by
  simp only [Block.setEvt]; split <;> simp
@[simp] theorem Block.setEvt_fab (pg : Nat) (r e : W32) : (b.setEvt pg r e).fab = b.fab := by
  simp only [Block.setEvt]; split <;> simp
@[simp] theorem Block.setEvt_ce (pg : Nat) (r e : W32) : (b.setEvt pg r e).ce = b.ce := by
  simp only [Block.setEvt]; split <;> simp
@[simp] theorem Block.setEvt_hp (pg : Nat) (r e : W32) : (b.setEvt pg r e).hp = b.hp := by
  simp only [Block.setEvt]; split <;> simp
@[simp] theorem Block.setEvt_fp (pg : Nat) (r e : W32) : (b.setEvt pg r e).fp = b.fp := by
  simp only [Block.setEvt]; split <;> simp
@[simp] theorem Block.setEvt_ft (pg : Nat) (r e : W32) : (b.setEvt pg r e).ft = b.ft := by
  simp only [Block.setEvt]; split <;> simp
@[simp] theorem Block.setEvt_fc (pg : Nat) (r e : W32) : (b.setEvt pg r e).fc = b.fc := by
  simp only [Block.setEvt]; split <;> simp
@[simp] theorem Block.setEvt_cz (pg : Nat) (r e : W32) : (b.setEvt pg r e).cz = b.cz := by
  simp only [Block.setEvt]; split <;> simp
@[simp] theorem Block.setEvt_dm (pg : Nat) (r e : W32) : (b.setEvt pg r e).dm = b.dm := by
  simp only [Block.setEvt]; split <;> simp
@[simp] theorem Block.setEvt_pa (pg : Nat) (r e : W32) : (b.setEvt pg r e).pa = b.pa := by
  simp only [Block.setEvt]; split <;> simp
@[simp] theorem Block.setEvt_ms (pg : Nat) (r e : W32) : (b.setEvt pg r e).ms = b.ms := by
  simp only [Block.setEvt]; split <;> simp
@[simp] theorem Block.setEvt_se (pg : Nat) (r e : W32) : (b.setEvt pg r e).se = b.se := by
  simp only [Block.setEvt]; split <;> simp
@[simp] theorem Block.setEvt_hk (pg : Nat) (r e : W32) : (b.setEvt pg r e).hk = b.hk := by
  simp only [Block.setEvt]; split <;> simp
@[simp] theorem Block.setEvt_dbg (pg : Nat) (r e : W32) : (b.setEvt pg r e).dbg = b.dbg := by
  simp only [Block.setEvt]; split <;> simp
@[simp] theorem Block.raiseMask_fuses (pg : Nat) (m : W32) : (b.raiseMask pg m).fuses = b.fuses := by
  simp only [Block.raiseMask, Block.onIf]; split <;> simp
@[simp] theorem Block.raiseMask_usec (pg : Nat) (m : W32) : (b.raiseMask pg m).usec = b.usec := by
  simp only [Block.raiseMask, Block.onIf]; split <;> simp
@[simp] theorem Block.raiseMask_freeCtr (pg : Nat) (m : W32) : (b.raiseMask pg m).freeCtr = b.freeCtr := by
  simp only [Block.raiseMask, Block.onIf]; split <;> simp
@[simp] theorem Block.raiseMask_latches (pg : Nat) (m : W32) : (b.raiseMask pg m).latches = b.latches := by
  simp only [Block.raiseMask, Block.onIf]; split <;> simp
@[simp] theorem Block.raiseMask_errs (pg : Nat) (m : W32) : (b.raiseMask pg m).errs = b.errs := by
  simp only [Block.raiseMask, Block.onIf]; split <;> simp
@[simp] theorem Block.raiseMask_mem (pg : Nat) (m : W32) : (b.raiseMask pg m).mem = b.mem := by
  simp only [Block.raiseMask, Block.onIf]; split <;> simp
@[simp] theorem Block.raiseMask_poison (pg : Nat) (m : W32) : (b.raiseMask pg m).poison = b.poison := by
  simp only [Block.raiseMask, Block.onIf]; split <;> simp
@[simp] theorem Block.raiseMask_fab (pg : Nat) (m : W32) : (b.raiseMask pg m).fab = b.fab := by
  simp only [Block.raiseMask, Block.onIf]; split <;> simp
@[simp] theorem Block.raiseMask_ce (pg : Nat) (m : W32) : (b.raiseMask pg m).ce = b.ce := by
  simp only [Block.raiseMask, Block.onIf]; split <;> simp
@[simp] theorem Block.raiseMask_hp (pg : Nat) (m : W32) : (b.raiseMask pg m).hp = b.hp := by
  simp only [Block.raiseMask, Block.onIf]; split <;> simp
@[simp] theorem Block.raiseMask_fp (pg : Nat) (m : W32) : (b.raiseMask pg m).fp = b.fp := by
  simp only [Block.raiseMask, Block.onIf]; split <;> simp
@[simp] theorem Block.raiseMask_ft (pg : Nat) (m : W32) : (b.raiseMask pg m).ft = b.ft := by
  simp only [Block.raiseMask, Block.onIf]; split <;> simp
@[simp] theorem Block.raiseMask_fc (pg : Nat) (m : W32) : (b.raiseMask pg m).fc = b.fc := by
  simp only [Block.raiseMask, Block.onIf]; split <;> simp
@[simp] theorem Block.raiseMask_cz (pg : Nat) (m : W32) : (b.raiseMask pg m).cz = b.cz := by
  simp only [Block.raiseMask, Block.onIf]; split <;> simp
@[simp] theorem Block.raiseMask_dm (pg : Nat) (m : W32) : (b.raiseMask pg m).dm = b.dm := by
  simp only [Block.raiseMask, Block.onIf]; split <;> simp
@[simp] theorem Block.raiseMask_pa (pg : Nat) (m : W32) : (b.raiseMask pg m).pa = b.pa := by
  simp only [Block.raiseMask, Block.onIf]; split <;> simp
@[simp] theorem Block.raiseMask_ms (pg : Nat) (m : W32) : (b.raiseMask pg m).ms = b.ms := by
  simp only [Block.raiseMask, Block.onIf]; split <;> simp
@[simp] theorem Block.raiseMask_se (pg : Nat) (m : W32) : (b.raiseMask pg m).se = b.se := by
  simp only [Block.raiseMask, Block.onIf]; split <;> simp
@[simp] theorem Block.raiseMask_hk (pg : Nat) (m : W32) : (b.raiseMask pg m).hk = b.hk := by
  simp only [Block.raiseMask, Block.onIf]; split <;> simp
@[simp] theorem Block.raiseMask_dbg (pg : Nat) (m : W32) : (b.raiseMask pg m).dbg = b.dbg := by
  simp only [Block.raiseMask, Block.onIf]; split <;> simp
@[simp] theorem Block.raise_fuses (pg k : Nat) : (b.raise pg k).fuses = b.fuses := by simp [Block.raise]
@[simp] theorem Block.raise_usec (pg k : Nat) : (b.raise pg k).usec = b.usec := by simp [Block.raise]
@[simp] theorem Block.raise_freeCtr (pg k : Nat) : (b.raise pg k).freeCtr = b.freeCtr := by simp [Block.raise]
@[simp] theorem Block.raise_latches (pg k : Nat) : (b.raise pg k).latches = b.latches := by simp [Block.raise]
@[simp] theorem Block.raise_errs (pg k : Nat) : (b.raise pg k).errs = b.errs := by simp [Block.raise]
@[simp] theorem Block.raise_mem (pg k : Nat) : (b.raise pg k).mem = b.mem := by simp [Block.raise]
@[simp] theorem Block.raise_poison (pg k : Nat) : (b.raise pg k).poison = b.poison := by simp [Block.raise]
@[simp] theorem Block.raise_fab (pg k : Nat) : (b.raise pg k).fab = b.fab := by simp [Block.raise]
@[simp] theorem Block.raise_ce (pg k : Nat) : (b.raise pg k).ce = b.ce := by simp [Block.raise]
@[simp] theorem Block.raise_hp (pg k : Nat) : (b.raise pg k).hp = b.hp := by simp [Block.raise]
@[simp] theorem Block.raise_fp (pg k : Nat) : (b.raise pg k).fp = b.fp := by simp [Block.raise]
@[simp] theorem Block.raise_ft (pg k : Nat) : (b.raise pg k).ft = b.ft := by simp [Block.raise]
@[simp] theorem Block.raise_fc (pg k : Nat) : (b.raise pg k).fc = b.fc := by simp [Block.raise]
@[simp] theorem Block.raise_cz (pg k : Nat) : (b.raise pg k).cz = b.cz := by simp [Block.raise]
@[simp] theorem Block.raise_dm (pg k : Nat) : (b.raise pg k).dm = b.dm := by simp [Block.raise]
@[simp] theorem Block.raise_pa (pg k : Nat) : (b.raise pg k).pa = b.pa := by simp [Block.raise]
@[simp] theorem Block.raise_ms (pg k : Nat) : (b.raise pg k).ms = b.ms := by simp [Block.raise]
@[simp] theorem Block.raise_se (pg k : Nat) : (b.raise pg k).se = b.se := by simp [Block.raise]
@[simp] theorem Block.raise_hk (pg k : Nat) : (b.raise pg k).hk = b.hk := by simp [Block.raise]
@[simp] theorem Block.raise_dbg (pg k : Nat) : (b.raise pg k).dbg = b.dbg := by simp [Block.raise]
/-! ### Error records (R61-R68) -/
@[simp] theorem Block.record_fuses (pg : Nat) (e : ErrIn) : (b.record pg e).fuses = b.fuses := by
  simp only [Block.record, Block.onIf]; repeat' split
  all_goals simp [Block.inc]
@[simp] theorem Block.record_usec (pg : Nat) (e : ErrIn) : (b.record pg e).usec = b.usec := by
  simp only [Block.record, Block.onIf]; repeat' split
  all_goals simp [Block.inc]
@[simp] theorem Block.record_freeCtr (pg : Nat) (e : ErrIn) : (b.record pg e).freeCtr = b.freeCtr := by
  simp only [Block.record, Block.onIf]; repeat' split
  all_goals simp [Block.inc]
@[simp] theorem Block.record_latches (pg : Nat) (e : ErrIn) : (b.record pg e).latches = b.latches := by
  simp only [Block.record, Block.onIf]; repeat' split
  all_goals simp [Block.inc]
@[simp] theorem Block.record_mem (pg : Nat) (e : ErrIn) : (b.record pg e).mem = b.mem := by
  simp only [Block.record, Block.onIf]; repeat' split
  all_goals simp [Block.inc]
@[simp] theorem Block.record_poison (pg : Nat) (e : ErrIn) : (b.record pg e).poison = b.poison := by
  simp only [Block.record, Block.onIf]; repeat' split
  all_goals simp [Block.inc]
@[simp] theorem Block.record_fab (pg : Nat) (e : ErrIn) : (b.record pg e).fab = b.fab := by
  simp only [Block.record, Block.onIf]; repeat' split
  all_goals simp [Block.inc]
@[simp] theorem Block.record_ce (pg : Nat) (e : ErrIn) : (b.record pg e).ce = b.ce := by
  simp only [Block.record, Block.onIf]; repeat' split
  all_goals simp [Block.inc]
@[simp] theorem Block.record_hp (pg : Nat) (e : ErrIn) : (b.record pg e).hp = b.hp := by
  simp only [Block.record, Block.onIf]; repeat' split
  all_goals simp [Block.inc]
@[simp] theorem Block.record_fp (pg : Nat) (e : ErrIn) : (b.record pg e).fp = b.fp := by
  simp only [Block.record, Block.onIf]; repeat' split
  all_goals simp [Block.inc]
@[simp] theorem Block.record_ft (pg : Nat) (e : ErrIn) : (b.record pg e).ft = b.ft := by
  simp only [Block.record, Block.onIf]; repeat' split
  all_goals simp [Block.inc]
@[simp] theorem Block.record_fc (pg : Nat) (e : ErrIn) : (b.record pg e).fc = b.fc := by
  simp only [Block.record, Block.onIf]; repeat' split
  all_goals simp [Block.inc]
@[simp] theorem Block.record_cz (pg : Nat) (e : ErrIn) : (b.record pg e).cz = b.cz := by
  simp only [Block.record, Block.onIf]; repeat' split
  all_goals simp [Block.inc]
@[simp] theorem Block.record_dm (pg : Nat) (e : ErrIn) : (b.record pg e).dm = b.dm := by
  simp only [Block.record, Block.onIf]; repeat' split
  all_goals simp [Block.inc]
@[simp] theorem Block.record_pa (pg : Nat) (e : ErrIn) : (b.record pg e).pa = b.pa := by
  simp only [Block.record, Block.onIf]; repeat' split
  all_goals simp [Block.inc]
@[simp] theorem Block.record_ms (pg : Nat) (e : ErrIn) : (b.record pg e).ms = b.ms := by
  simp only [Block.record, Block.onIf]; repeat' split
  all_goals simp [Block.inc]
@[simp] theorem Block.record_se (pg : Nat) (e : ErrIn) : (b.record pg e).se = b.se := by
  simp only [Block.record, Block.onIf]; repeat' split
  all_goals simp [Block.inc]
@[simp] theorem Block.record_hk (pg : Nat) (e : ErrIn) : (b.record pg e).hk = b.hk := by
  simp only [Block.record, Block.onIf]; repeat' split
  all_goals simp [Block.inc]
@[simp] theorem Block.record_dbg (pg : Nat) (e : ErrIn) : (b.record pg e).dbg = b.dbg := by
  simp only [Block.record, Block.onIf]; repeat' split
  all_goals simp [Block.inc]
@[simp] theorem Block.refuse_fuses (pg code : Nat) (p : BitVec 8) (off : Nat) : (b.refuse pg code p off).fuses = b.fuses := by simp [Block.refuse]
@[simp] theorem Block.refuse_usec (pg code : Nat) (p : BitVec 8) (off : Nat) : (b.refuse pg code p off).usec = b.usec := by simp [Block.refuse]
@[simp] theorem Block.refuse_freeCtr (pg code : Nat) (p : BitVec 8) (off : Nat) : (b.refuse pg code p off).freeCtr = b.freeCtr := by simp [Block.refuse]
@[simp] theorem Block.refuse_latches (pg code : Nat) (p : BitVec 8) (off : Nat) : (b.refuse pg code p off).latches = b.latches := by simp [Block.refuse]
@[simp] theorem Block.refuse_mem (pg code : Nat) (p : BitVec 8) (off : Nat) : (b.refuse pg code p off).mem = b.mem := by simp [Block.refuse]
@[simp] theorem Block.refuse_poison (pg code : Nat) (p : BitVec 8) (off : Nat) : (b.refuse pg code p off).poison = b.poison := by simp [Block.refuse]
@[simp] theorem Block.refuse_fab (pg code : Nat) (p : BitVec 8) (off : Nat) : (b.refuse pg code p off).fab = b.fab := by simp [Block.refuse]
@[simp] theorem Block.refuse_ce (pg code : Nat) (p : BitVec 8) (off : Nat) : (b.refuse pg code p off).ce = b.ce := by simp [Block.refuse]
@[simp] theorem Block.refuse_hp (pg code : Nat) (p : BitVec 8) (off : Nat) : (b.refuse pg code p off).hp = b.hp := by simp [Block.refuse]
@[simp] theorem Block.refuse_fp (pg code : Nat) (p : BitVec 8) (off : Nat) : (b.refuse pg code p off).fp = b.fp := by simp [Block.refuse]
@[simp] theorem Block.refuse_ft (pg code : Nat) (p : BitVec 8) (off : Nat) : (b.refuse pg code p off).ft = b.ft := by simp [Block.refuse]
@[simp] theorem Block.refuse_fc (pg code : Nat) (p : BitVec 8) (off : Nat) : (b.refuse pg code p off).fc = b.fc := by simp [Block.refuse]
@[simp] theorem Block.refuse_cz (pg code : Nat) (p : BitVec 8) (off : Nat) : (b.refuse pg code p off).cz = b.cz := by simp [Block.refuse]
@[simp] theorem Block.refuse_dm (pg code : Nat) (p : BitVec 8) (off : Nat) : (b.refuse pg code p off).dm = b.dm := by simp [Block.refuse]
@[simp] theorem Block.refuse_pa (pg code : Nat) (p : BitVec 8) (off : Nat) : (b.refuse pg code p off).pa = b.pa := by simp [Block.refuse]
@[simp] theorem Block.refuse_ms (pg code : Nat) (p : BitVec 8) (off : Nat) : (b.refuse pg code p off).ms = b.ms := by simp [Block.refuse]
@[simp] theorem Block.refuse_se (pg code : Nat) (p : BitVec 8) (off : Nat) : (b.refuse pg code p off).se = b.se := by simp [Block.refuse]
@[simp] theorem Block.refuse_hk (pg code : Nat) (p : BitVec 8) (off : Nat) : (b.refuse pg code p off).hk = b.hk := by simp [Block.refuse]
@[simp] theorem Block.refuse_dbg (pg code : Nat) (p : BitVec 8) (off : Nat) : (b.refuse pg code p off).dbg = b.dbg := by simp [Block.refuse]

/-! ### Memory -/

/-- A byte reads, after a store of it, as the byte stored. -/
@[simp] theorem Block.byte_setByte_same (a : Nat) (v : Byte) : (b.setByte a v).byte a = v := smGet_smSet_same 0 b.mem a v
/-- A store of a byte leaves every other byte alone. -/
theorem Block.byte_setByte_ne (a x : Nat) (v : Byte) (h : x ≠ a) : (b.setByte a v).byte x = b.byte x := smGet_smSet_ne 0 b.mem a x v h
/-- A store of a byte keeps the canonical form. -/
theorem Block.setByte_wf (a : Nat) (v : Byte) (h : Memory.wf b.mem = true) : Memory.wf (b.setByte a v).mem = true := smWf_smSet a v h
/-- So does a fold of steps that keep it. -/
theorem Block.each_wf {α : Type} (xs : List α) (f : Block → α → Block)
    (hf : ∀ b x, Memory.wf b.mem = true → Memory.wf (f b x).mem = true) :
    ∀ b : Block, Memory.wf b.mem = true → Memory.wf (b.each xs f).mem = true := by
  induction xs with
  | nil => exact fun b h => h
  | cons x xs ih => exact fun b h => ih (f b x) (hf b x h)
/-- A store of bytes from a number keeps the canonical form. -/
theorem Block.store_wf {w : Nat} (a n : Nat) (v : BitVec w) (h : Memory.wf b.mem = true) : Memory.wf (b.store a n v).mem = true :=
  Block.each_wf _ _ (fun b _ hb => b.setByte_wf _ _ hb) b h
/-- A store of a list of bytes keeps the canonical form. -/
theorem Block.storeBytes_wf (xs : List Byte) : ∀ (b : Block) (a : Nat), Memory.wf b.mem = true → Memory.wf (b.storeBytes a xs).mem = true := by
  induction xs with
  | nil => exact fun b a h => h
  | cons x xs ih => exact fun b a h => ih _ _ (b.setByte_wf a x h)
/-- Memory that keeps some of its bytes and reads 0 elsewhere keeps the canonical form. -/
theorem Memory.filter_wf (m : SMap Byte) (p : Nat × Byte → Bool) (h : Memory.wf m = true) : Memory.wf (m.filter p) = true := smWf_filter p h

/-! ### Running a command -/

/-- A command outside the always-on domain, while its clocks run, answers the block its meaning makes. -/
theorem State.run_lit (s : State) (f : Block → Block) (h : s.blk.dark = false) : s.run f = .next { s with blk := f s.blk } := by
  simp [State.run, Block.lit, h]
/-- While its clocks are stopped it changes nothing. -/
theorem State.run_dark (s : State) (f : Block → Block) (h : s.blk.dark = true) : s.run f = .next s := by
  simp [State.run, Block.lit, h]
/-- A command of the always-on domain, while VDD_AON is up, answers the block its meaning makes. -/
theorem State.runAon_on (s : State) (f : Block → Block) (h : s.blk.hk.off = false) : s.runAon f = .next { s with blk := f s.blk } := by
  simp [State.runAon, Block.aon, h]

end Sys2Proof.Machine
end

