-- ==== Sys2Proof/Laws/Regs.lean ====
section
/-! SUPPORT. Where a register-space offset lies: the page that holds it and its offset in that page give the offset back. -/
namespace Sys2Proof.Machine

/-- A page index found in a unit's list belongs to a class of the list. -/
theorem classAt_spec {cs : List (PageClass × Nat)} {k : Nat} {c : PageClass} {i : Nat} (h : classAt cs k = some (c, i)) :
    ∃ n, (c, n) ∈ cs ∧ c.firstIndex + i = k := by
  induction cs with
  | nil => simp [classAt] at h
  | cons e cs ih =>
    obtain ⟨d, n⟩ := e
    simp only [classAt] at h
    split at h
    · simp at h
      obtain ⟨rfl, rfl⟩ := h
      exact ⟨n, by simp, by omega⟩
    · obtain ⟨m, hm, hk⟩ := ih h
      exact ⟨m, by simp [hm], hk⟩

/-- The classes listed for a unit are the unit's. -/
theorem unitClasses_unit : ∀ u < 17, ∀ e ∈ unitClasses u, e.1.unit = u := by decide

/-- A property of both branches holds of the choice. -/
theorem ite_pick {p : Prop} [Decidable p] {P : Nat → Prop} {a b : Nat} (ha : p → P a) (hb : ¬p → P b) : P (if p then a else b) := by
  by_cases h : p
  · rw [if_pos h]; exact ha h
  · rw [if_neg h]; exact hb h

/-- The ranges of the units begin at pages. -/
theorem unitBase_page : ∀ u < 17, unitBase u % 0x1000 = 0 := by decide

/-- The range of the unit that holds an offset begins at or below it (R43). -/
theorem unitOf_spec (off : Nat) : unitOf off < 17 ∧ unitBase (unitOf off) ≤ off := by
  unfold unitOf
  iterate 15
    refine ite_pick (P := fun u => u < 17 ∧ unitBase u ≤ off)
      (fun _ => ⟨by decide, by first | exact Nat.zero_le _ | exact Nat.not_lt.mp ‹_›⟩) (fun _ => ?_)
  exact ⟨by decide, Nat.not_lt.mp ‹_›⟩

/-- The page and the offset in it give the register-space offset. -/
theorem pageBase_add {v : Variant} {off : Nat} {c : PageClass} {i : Nat} (h : presentPageAt v off = some (c, i)) :
    pageBase c i + off % 0x1000 = off := by
  unfold presentPageAt at h
  split at h
  · rename_i d j hp
    split at h
    · simp at h
      obtain ⟨rfl, rfl⟩ := h
      unfold pageAt at hp
      obtain ⟨n, hm, hk⟩ := classAt_spec hp
      obtain ⟨h1, h2⟩ := unitOf_spec off
      have h3 := unitBase_page _ h1
      have hu : d.unit = unitOf off := unitClasses_unit _ h1 _ hm
      unfold pageBase
      rw [hu, hk]
      omega
    · simp at h
  · simp at h

end Sys2Proof.Machine
end

