-- ==== Sys2Proof/Tests/Slice0.lean ====
section
/-! SUPPORT. Witnesses of the statements' hypotheses, decode words, well-formedness and small step tests. -/
namespace Sys2Proof.Tests
open Sys2Proof Sys2Proof.Machine Sys2Proof.Claims
set_option maxRecDepth 100000
set_option Elab.async false

/-- The block at reset. -/
def rb : Block := State.reset.blk
/-- The block at reset with one register set. -/
def rbr (o : Nat) (v : W32) : Block := rb.wr o v
/-- A transaction of port 1: a read of 4 bytes at the Big Top's page. -/
def t1 : Txn := { port := 1, id := 7, tag := 0, addr := 0, len1 := 3, write := false, cls := 2, data := 0 }

/-- The hypotheses of HeaderCommands are met. -/
theorem witness_HeaderCommands_1 :
    rb.dark = false ∧
    Takes rb (onPage 0 0x01C) 1 .chip 0 ∧
    Takes rb (onPage 0 0x020) 1 .chip 0 ∧
    Takes rb (onPage 0 0x014) 1 .chip 0 ∧
    Takes rb (onPage 0 0x038) 1 .chip 0 := by decide +kernel

/-- The hypotheses of HeaderCommands are met. -/
theorem witness_HeaderCommands_2 :
    Takes rb (onPage 0 0x038) 2 .chip 0 ∧
    Takes rb (onPage 0x400 0x080) (keyed 0x5EED 1) .bt 0 ∧
    Takes rb (onPage 0x400 0x080) (keyed 0x5EED 2) .bt 0 ∧
    Takes rb (onPage 0x400 0x080) (keyed 0x5EED 3) .bt 0 ∧
    Takes rb (onPage 0x400 0x084) 1 .bt 0 := by decide +kernel

/-- The hypotheses of RegisterSpaceAccesses are met. -/
theorem witness_RegisterSpaceAccesses_1 :
    (Takes rb 0x01C 1 .chip 0 ∧ 0x01C % 4 = 0) ∧
    regSized 0x01E 4 = false ∧
    (regSized 0x1FFFFFC 4 = true ∧ presentPageAt rb.variant 0x1FFFFFC = none) ∧
    (1 : BitVec 6) ≠ 0 ∧
    (presentPageAt rb.variant 0x120 = some (.chip, 0) ∧ latchOf .chip 0x120 = true ∧ 0x120 % 8 = 0) := by decide +kernel

/-- The hypotheses of RegisterSpaceAccesses are met. -/
theorem witness_RegisterSpaceAccesses_2 :
    (rbr (pgChip + 0x140) 0).rdF (pgChip + 0x140) 0 0 = 0 ∧
    ((rbr (pgChip + 0x140) 1).rdF (pgChip + 0x140) 0 0 = 1 ∧ (rbr (pgChip + 0x140) 1).rdF (pgChip + 0x140) 1 1 = 0) := by decide +kernel

/-- One transaction is open, granted, with one BUSY answer, and one has timed out. -/
def o1 : OpenTxn := ⟨t1, 0, 0, 1, false, true, BitVec.allOnes 256⟩
/-- The Big Top with it. -/
def fb : Block := { rb with fab := { opened := [o1], dead := [9] } }

/-- The hypotheses of BigTopCommands are met. -/
theorem witness_BigTopCommands_1 :
    (portPresent rb.variant t1.port.toNat = true ∧ rb.fab.dead.contains t1.id = false ∧ rb.openOf t1.id = none) ∧
    (0 < rb.rdF (pgBus + 0x100) 0 12 ∧ (issued rb (fresh rb t1)).agedClasses = [] ∧ (issued rb (fresh rb t1)).nextGrant (rb.targetOf t1) = some (fresh rb t1)) ∧
    ((atPlace (issued rb (fresh rb t1)) (fresh rb t1)).isBusy t1 = false ∧ (atPlace (issued rb (fresh rb t1)) (fresh rb t1)).itsTurn { fresh rb t1 with granted := true } = true) ∧
    (o1.granted = true ∧ (fb.wr (pgBus + 0x108) 2).agedClasses = [] ∧ (fb.wr (pgBus + 0x108) 3).agedClasses = [] ∧ fb.usec < o1.issued + fb.rdF (pgBus + 0x100) 0 12) ∧
    ((fb.wr (pgBus + 0x108) 2).openOf 7 = some o1 ∧ (fb.wr (pgBus + 0x108) 2).rdF (pgBus + 0x108) 0 9 ≤ 1 + 1) := by decide +kernel

/-- The hypotheses of BigTopCommands are met. -/
theorem witness_BigTopCommands_2 :
    ((fb.wr (pgBus + 0x108) 3).openOf 7 = some o1 ∧ 1 + 1 < (fb.wr (pgBus + 0x108) 3).rdF (pgBus + 0x108) 0 9) ∧
    (fb.openOf 7 = some o1 ∧ t1.cls ≠ 0 ∧ o1.promoted = false) ∧
    fb.fab.dead.contains 9 = true ∧
    1 < (rbr (pgBt + 0x124) 0x80).rdF (pgBt + 0x124) 4 7 := by decide +kernel

/-- The hypotheses of HostSideRegisterCommands are met. -/
theorem witness_HostSideRegisterCommands_1 :
    rb.dark = false ∧
    Takes rb (pgCe + 0x134) 1 .ceCtl 0 ∧
    Takes rb (pgCe + 0x134) 2 .ceCtl 0 ∧
    Takes rb (pgCe + 0x100) 1 .ceCtl 0 ∧
    Takes rb (pgCe + 0x100) 0 .ceCtl 0 := by decide +kernel

/-- The hypotheses of HostSideRegisterCommands are met. -/
theorem witness_HostSideRegisterCommands_2 :
    Takes rb (pgCe + 0x120) (keyed 0x5EED 1) .ceCtl 0 ∧
    Takes rb (pgCe + 0x120) (keyed 0x5EED 63) .ceCtl 0 ∧
    Takes rb (pgCe + 0x184) 0xC00 .ceCtl 0 ∧
    Takes rb (pgCeT 63 + 0x114) 0 .ceTenant 63 ∧
    Takes rb (pgHp 0 + 0x110) (rb.rd (pgHp 0 + 0x110)) .hp 0 := by decide +kernel

/-- The hypotheses of HostSideRegisterCommands are met. -/
theorem witness_HostSideRegisterCommands_3 :
    Takes rb (pgFpP 0 + 0x100) 0 .fpPort 0 ∧
    Takes rb (pgFpP 3 + 0x100) 0 .fpPort 3 := by decide +kernel

/-- A booth's state register holds the word. -/
def flb (k : Nat) (st : W32) : Block := rb.wr (pgBooth k + 0x104) st
/-- A complete code: 226 lengths of 8 and 60 of 9, 2 of 4 and 28 of 5. -/
def codeNum : Nat := 0x5555555555555555555555555555449999999999999999999999999999999999999999999999999999999999998888888888888888888888888888888888888888888888888888888888888888888888888888888888888888888888888888888888888888888888888888888888888888888888888888888888888888888888888888888888888888888888888888888888888888888888888888888888
/-- The code is in the table registers. -/
def tblb : Block := (List.range 40).foldl (fun b k => b.wr (pgCz + 0x140 + 4 * k) (BitVec.ofNat 32 (codeNum / 2 ^ (32 * k)))) (rbr (pgCz + 0x130) 1)

/-- The hypotheses of FlashSideRegisterCommands are met. -/
theorem witness_FlashSideRegisterCommands_1 :
    Takes rb (pgFc + 0x108) (BitVec.ofNat 32 (15 + 16)) .fcCtl 0 ∧
    Takes rb (pgFc + 0x108) (BitVec.ofNat 32 (15 + 32)) .fcCtl 0 ∧
    Takes rb (pgFc + 0x154) 1 .fcCtl 0 ∧
    Takes rb (pgFc + 0x154) 2 .fcCtl 0 ∧
    Takes rb (pgFc + 0x154) 3 .fcCtl 0 := by decide +kernel

/-- The hypotheses of FlashSideRegisterCommands are met. -/
theorem witness_FlashSideRegisterCommands_2 :
    Takes rb (pgFc + 0x154) 4 .fcCtl 0 ∧
    Takes rb (pgFc + 0x15C) 1 .fcCtl 0 ∧
    Takes (flb 7 0x10) (pgBooth 7 + 0x100) (keyed 0x5EED 1) .fcBooth 7 ∧
    Takes (flb 0 2) (pgBooth 0 + 0x100) (keyed 0x5EED 2) .fcBooth 0 ∧
    Takes (flb 0 3) (pgBooth 0 + 0x100) (keyed 0x5EED 3) .fcBooth 0 := by decide +kernel

/-- The hypotheses of FlashSideRegisterCommands are met. -/
theorem witness_FlashSideRegisterCommands_3 :
    Takes (flb 0 4) (pgBooth 0 + 0x100) (keyed 0x5EED 4) .fcBooth 0 ∧
    Takes (flb 0 5) (pgBooth 0 + 0x100) (keyed 0x5EED 5) .fcBooth 0 ∧
    (Takes tblb (pgCz + 0x134) 1 .czCtl 0 ∧ tblResult tblb.tblData = 0) ∧
    tblResult (rbr (pgCz + 0x130) 1).tblData ≠ 0 ∧
    Takes (rbr (pgCz + 0x130) 1) (pgCz + 0x134) 1 .czCtl 0 := by decide +kernel

/-- The hypotheses of FlashSideRegisterCommands are met. -/
theorem witness_FlashSideRegisterCommands_4 :
    Takes (rbr (pgCz + 0x130) 1) (pgCz + 0x134) 2 .czCtl 0 ∧
    Takes rb (pgCz + 0x240) 1 .czCtl 0 := by decide +kernel

/-- A DMA channel is granted and has a state. -/
def chb (n st : Nat) : Block := (rbr (pgDmCh n + 0x100) 0x40).setChan n { st := st }
/-- Channel 0 is granted to tenant 0 at C2, and line 1 to the compute cluster. -/
def dlvb : Block := { rbr (pgDmCh 0 + 0x100) 0x140 with dm := { cfg := [(1, 2)] } }

/-- The hypotheses of DataSideRegisterCommands are met. -/
theorem witness_DataSideRegisterCommands_1 :
    Takes (rb.setRegion 0 { size := 1 }) (pgMs + 0x13C) (withOp 0 9 10 1) .msCtl 0 ∧
    Takes (rb.setRegion 0 { size := 1, st := .on }) (pgMs + 0x13C) (withOp 0 9 10 2) .msCtl 0 ∧
    Takes rb (pgMs + 0x100) 0 .msCtl 0 ∧
    Takes rb (pgStg + 0x100) (rb.rd (pgStg + 0x100)) .msStg 0 ∧
    Takes (chb 63 0) (pgDmCh 63 + 0x110) 1 .dmCh 63 := by decide +kernel

/-- The hypotheses of DataSideRegisterCommands are met. -/
theorem witness_DataSideRegisterCommands_2 :
    Takes (chb 0 1) (pgDmCh 0 + 0x110) 2 .dmCh 0 ∧
    Takes (chb 0 0x17) (pgDmCh 0 + 0x110) 3 .dmCh 0 ∧
    Takes rb (pgDm + 0x120 + 4 * 7) 0 .dmCtl 0 ∧
    Takes rb (pgDm + 0x160 + 4 * 7) 0 .dmCtl 0 ∧
    Takes (rb.setPart 3 0 { size := 1 }) (pgSeB 3 + 0x104) (withOp 0 8 9 1) .seBank 3 := by decide +kernel

/-- The hypotheses of DataSideRegisterCommands are met. -/
theorem witness_DataSideRegisterCommands_3 :
    Takes (rb.setPart 3 0 { size := 1, st := .on }) (pgSeB 3 + 0x104) (withOp 0 8 9 2) .seBank 3 ∧
    Takes rb (pgSe + 0x180) 1 .seCtl 0 ∧
    (Takes (dlvb) (pgCl 11 + 0x108) 0x4040 .cxCluster 11 ∧ (0x4040 : W32).getLsbD 14 = true ∧ dlvb.dlvOn 11 = false) ∧
    Takes rb (pgHk + 0x408) 0 .hk 0 ∧
    Takes rb (pgHk + 0x128) 4 .hk 0 := by decide +kernel

/-- The hypotheses of DataSideRegisterCommands are met. -/
theorem witness_DataSideRegisterCommands_4 :
    Takes rb (pgHk + 0x144) (keyed 0x5EED 5) .hk 0 ∧
    Takes rb (pgHk + 0x144) (keyed 0x5EED 1) .hk 0 ∧
    Takes rb (pgHk + 0x144) (keyed 0x5EED 2) .hk 0 ∧
    Takes rb (pgHk + 0x144) (keyed 0x5EED 3) .hk 0 ∧
    (Takes rb (pgHk + 0x150) (keyed 0x5EED 1) .hk 0 ∧ rb.devResetIgnored .hk 0x150 = false) := by decide +kernel

/-- A read of one LBA of namespace 1. -/
def sq1 : Sqe := { opc := 2, fuse := 0, cid := 5, nsid := 1, slba := 0, count := 1, deac := false, ord := false, ranges := [], buf := (0, 0), data := none, ptrs := [], mptr := false, pi := 0, prog := none, posted := true }
/-- A context record: SQ and CQ enabled, its type, state ENABLED, 16 entries, tail 1, queue identifier, lane 0. -/
def qrec (ty sqid self : Nat) : BitVec 512 :=
  BitVec.ofNat 512 (1 + ty * 2 + 2 ^ 18 + sqid * 2 ^ 32 + 16 * 2 ^ 128 + 2 ^ 160 + self * 2 ^ 176 + 2 ^ 192 + 16 * 2 ^ 224 + sqid * 2 ^ 240)
/-- Context 0 is the admin queue of PF A and context 1 its I/O queue 1; each holds one entry. -/
def qb : Block := { rb with ce := { qcs := [(0, qrec 1 0 0), (1, qrec 2 1 1)] } }
/-- A fetched command waits on lane 0 and the sequencer is stalled. -/
def stb : Block := { qb with ce := { qb.ce with lanes := [⟨0, .queue 1, sq1, false, false, none⟩], stalled := true } }
/-- A command in flight. -/
def cm (seq : Nat) (op : CmdOp) (st : CmdState) : Cmd :=
  ⟨seq, .queue 1, 5, 0, 1, op, true, [(0, 1)], 0, st, true, [], false, [], none, none, true, false, [], none, 0, [], [], 0, [], false⟩
/-- Commands are in flight. -/
def cb (cs : List Cmd) : Block := { qb with ce := { qb.ce with cmds := cs } }
/-- A reset of PF A runs. -/
def crb : Block := { qb with ce := { qb.ce with resets := [⟨[1], none, 0⟩] } }

/-- The same with an NVMe/TCP queue whose capsule waits. -/
def qtb : Block := { rb with ce := { qcs := [(0, qrec 1 0 0), (1, qrec 4 1 1)] }, fp := { capsules := [(1, withOpc sq1 0x02, none)] } }
/-- The hypotheses of IoCommandsEnter are met, for every opcode at a PCI Express queue and for a capsule of an NVMe/TCP one. -/
theorem witness_IoCommandsEnter :
    qb.dark = false ∧ qb.mayFetch 1 = true ∧ (∀ o, Takeable qb 1 (withOpc sq1 o) none qb) ∧
      qtb.mayFetch 1 = true ∧ Takeable qtb 1 (withOpc sq1 0x02) none (qtb.onFp (fun f => { f with capsules := f.capsules.erase (1, withOpc sq1 0x02, none) })) :=
  ⟨by decide +kernel, by decide +kernel, fun _ => .inr ⟨.inl (by decide +kernel), rfl, (if_pos (by decide +kernel)).symm⟩, by decide +kernel,
    .inl ⟨by decide +kernel, _, by decide +kernel, rfl, rfl, rfl⟩⟩

/-- The hypotheses of CommandEngineEvents are met. -/
theorem witness_CommandEngineEvents_1 :
    (crb.ce.resets = [⟨[1], none, 0⟩] ∧ (⟨[1], none, 0⟩ : CtlReset).tenant = none) ∧
    (qb.sqOf 0 1 = some 1 ∧ 16 ≤ qSqSize (qb.qc 1) ∧ qIsPcie (qb.qc 1) = true) ∧
    (qb.cqOf 0 1 = some 1 ∧ 16 ≤ qCqSize (qb.qc 1) ∧ qIsPcie (qb.qc 1) = true) ∧
    (qb.pickFetch 0).map (fun r => (r.1, qIsTcp (r.2.qc r.1))) = some (1, false) ∧
    (qtb.pickFetch 0).map (fun r => (r.1, qIsTcp (r.2.qc r.1), r.2.fp.capsules.length)) = some (1, true, 1) := by decide +kernel

/-- The hypotheses of CommandEngineEvents are met. -/
theorem witness_CommandEngineEvents_2 :
    (qb.adminQc 0 = some 0 ∧ qState (qb.qc 0) = 1 ∧ qb.fetchStop = false ∧ qb.hasEntry 0 = true ∧ qIsTcp (qb.qc 0) = false) ∧
    (stb.nextFetched = some ⟨0, .queue 1, sq1, false, false, none⟩ ∧ stb.ce.stalled = true ∧ stb.coll + stb.entriesOf ⟨0, .queue 1, sq1, false, false, none⟩ ≤ 65536) ∧
    ((cb [cm 3 .read .fetched]).cmd 3 = some (cm 3 .read .fetched) ∧ (cm 3 .read .fetched).ordered = true) ∧
    ((cb [cm 3 .flush .flushWait]).cmd 3 = some (cm 3 .flush .flushWait) ∧ (cm 3 .flush .flushWait).started = true ∧ (cm 3 .flush .flushWait).op = .flush ∧ (∀ w ∈ (cm 3 .flush .flushWait).covers, (cb [cm 3 .flush .flushWait]).cmd w = none)) ∧
    (rb.vfsOf false).contains 63 = true := by decide +kernel

/-- The hypotheses of CommandEngineEvents are met. -/
theorem witness_CommandEngineEvents_3 :
    (((qb.modCtlr 0x40 (fun k => { k with en := true })).ctlr 0x40).en = true ∧ 0x40 < 0x41) ∧
    qb.pcieCtlr 63 = true ∧
    qb.laneUp 15 = true := by decide +kernel

/-- A local queue of context 0. -/
def lq0 : LqSt := { base := 0, tenant := 0 }
/-- Context 0 has a local queue. -/
def lqb : Block := { rb with ce := { lq := [(0, lq0)] } }
/-- An admin command (context 0, identifier 5) waits for firmware, with commands in flight. -/
def ab (cs : List Cmd) : Block := { qb with ce := { qb.ce with admin := [(0, 5, true)], cmds := cs } }
/-- Queue 2 of PF A, not in the table yet. -/
def newq : BitVec 512 := qrec 2 2 2
/-- An activation drains. -/
def actb : Block := { ab [cm 3 .read .fetched] with ce := { (ab [cm 3 .read .fetched]).ce with activation := some (0, 5, 0, false) } }
/-- Namespace 1 is in use, and flash translation is live. -/
def nsb : Block := ({ ab [] with ce := { (ab []).ce with ns := [(0, 0xC40)] } } : Block).wrF (pgFt + 0x100) 0 2 2
/-- A STRONG region without owner is on, for the map. -/
def mapb : Block := { ab [] with ms := { regions := [(31, { size := 1, st := .on })] } }
/-- An I/O queue 1 with its completion queue only. -/
def cqb : Block := { ab [] with ce := { (ab []).ce with qcs := [(0, qrec 1 0 0), (1, qrec 2 1 1 - 1)] } }

/-- The hypotheses of LocalQueueCommands are met. -/
theorem witness_LocalQueueCommands :
    (lqb.dark = false ∧ smFind lqb.ce.lq 0 = some lq0) ∧
    (lq0.refuses 0 = false ∧ lq0.refuses 31 = false) ∧
    (lq0.refuses 32 = true ∧ ({ lq0 with busy := [31] } : LqSt).refuses 31 = true) ∧
    ((0 : BitVec 256).toNat % 256 = 0 ∧ (0x1F01 : BitVec 256).toNat % 256 = 1 ∧ (0x1F02 : BitVec 256).toNat % 256 = 2 ∧ (0x1F09 : BitVec 256).toNat % 256 = 9) := by decide +kernel

/-- The hypotheses of AdminCommands are met. -/
theorem witness_AdminCommands_1 :
    ((ab []).dark = false ∧ (ab []).isAdminQc 0 = true ∧ (ab []).ce.admin.any (fun a => a.1 == 0 && a.2.1 == 5) = true) ∧
    ((ab [cm 3 .read .fetched]).sqOf (qCntlid ((ab [cm 3 .read .fetched]).qc 0)) 1 = some 1 ∧ (ab [cm 3 .read .fetched]).ce.cmds.find? (fun c => decide (c.src = .queue 1) && c.cid == 5) = some (cm 3 .read .fetched) ∧ (cm 3 .read .fetched).abortable = true ∧ (cm 3 .read .fetched).op ≠ .program) ∧
    (ab []).ioQueueOf 0 1 = some 1 ∧
    (((ab []).ctlr 0).events = [] ∧ ((ab []).ctlr 0).aers.contains 5 = false) ∧
    (qCntlid ((ab []).qcNew 2 newq) = 0 ∧ (ab []).qcWriteOk 2 newq = true ∧ qSqEn ((ab []).qcNew 2 newq) = true ∧ qType ((ab []).qcNew 2 newq) = 2 ∧ (ab []).sqOf 0 2 = none ∧ qSqid ((ab []).qcNew 2 newq) = 2 ∧ 2 ≤ queuePairs 0) := by decide +kernel

/-- The hypotheses of AdminCommands are met. -/
theorem witness_AdminCommands_2 :
    (qCqEn ((ab []).qcNew 2 newq) = true ∧ qSqid ((ab []).qcNew 2 newq) = 2 ∧ (ab []).cqOf 0 2 = none ∧ qCqid ((ab []).qcNew 2 newq) = 2) ∧
    ((ab []).sqOf 0 1 = some 1 ∧ qIsAdmin ((ab []).qc 1) = false) ∧
    (cqb.isAdminQc 0 = true ∧ cqb.cqOf (qCntlid (cqb.qc 0)) 1 = some 1 ∧ (qSqEn (cqb.qc 1) && qIsAdmin (cqb.qc 1)) = false ∧ cqb.qcsWhere (fun r => qSqEn r && qCqCtx r == 1) = []) ∧
    (mapb.nsValid 1023 = false ∧ ((mapb.nsBytes 1023 (0 * 2 ^ 12)).map (·.2)).sum ≤ 2 * (mapb.spaceUser * 256)) ∧
    ((mapb.region 31).st = .on ∧ (mapb.region 31).light = false ∧ (mapb.region 31).owner = 0 ∧ 6 * ((mapb.nsBytes 1023 (0 * 2 ^ 12)).map (fun x => unitCount x.2)).sum ≤ (mapb.region 31).size * 2 ^ 20) := by decide +kernel

/-- The hypotheses of AdminCommands are met. -/
theorem witness_AdminCommands_3 :
    (mapb.isAdminQc 0 = true ∧ mapb.ce.admin.any (fun a => a.1 == 0 && a.2.1 == 5) = true ∧ mapb.dark = false) ∧
    ((ab []).hk.fused ≤ 0 ∧ (ab []).ce.activation = none) ∧
    (actb.isAdminQc 0 = true ∧ actb.ce.admin.any (fun a => a.1 == 0 && a.2.1 == 5) = true ∧ actb.ce.activation = some (0, 5, 0, false) ∧ actb.inflight ≠ 0) ∧
    (nsb.isAdminQc 0 = true ∧ nsb.ce.admin.any (fun a => a.1 == 0 && a.2.1 == 5) = true ∧ nsb.nsValid 0 = true ∧ nsb.ft.san = none ∧ nsb.ft.fmt = none ∧ nsb.nsBusy 0 = false ∧ nsb.ftLive = true ∧ 1 ≤ (1 : W32).toNat ∧ (2 : BitVec 2).toNat ≤ 2) := by decide +kernel

/-- A piece of 4096 bytes of command 3, staging reserved. -/
def pc3 : Piece := ⟨3, 0, 0, 0, .data, 0, 4096, (0, 0), some 20, 0, false, [20, 21, 22, 23], 0, 0, false, false⟩
/-- A write with its piece in flight. -/
def pb (p : Piece) : Block := { cb [cm 3 .write .writePartial] with ft := { pieces := [p] } }
/-- A PCI Express link is up. -/
def lkb : Block := ({ rb with hp := { perst := false } } : Block).wrF (pgHp 0 + 0x100) 9 9 1
/-- The same, in L1.2. -/
def l12b : Block := { lkb with hp := { lkb.hp with l12 := [0] } }
/-- A Compare waits for 4096 bytes of its host data. -/
def cmpb : Block := { cb [{ cm 4 .compare .readMedia with owed := 4096 }] with ce := { (cb [{ cm 4 .compare .readMedia with owed := 4096 }]).ce with ns := [(0, 0xC40)] } }
/-- The MCTP endpoint is enabled at address 0x3A. -/
def mib : Block := (rb.wrF (pgHp 0 + 0x120) 7 7 1).wrF (pgHp 0 + 0x120) 0 6 0x3A
/-- L1.2 in a non-operational power state. -/
def l12p : Block := { l12b with pa := { ps := 4 } }

/-- The hypotheses of HostPortCommands are met. -/
theorem witness_HostPortCommands_1 :
    ((pb pc3).pulling 3 0 = some pc3 ∧ 0 + 4096 ≤ pc3.len ∧ pc3.landed + 4096 ≤ pc3.len) ∧
    ((pb pc3).cmd 3 = some (cm 3 .write .writePartial) ∧ (cm 3 .write .writePartial).src = .queue 1) ∧
    (cmpb.pulling 4 0 = none ∧ cmpb.cmd 4 = some { cm 4 .compare .readMedia with owed := 4096 } ∧ (cm 4 .compare .readMedia).started = true ∧ 0 + 4096 = cmpb.cmdBytes { cm 4 .compare .readMedia with owed := 4096 } ∧ 2048 < 4096) ∧
    ((pb pc3).piece 3 0 = some pc3 ∧ pc3.resv.isSome = true ∧ pc3.durable = false) ∧
    ((pb { pc3 with resv := none }).piece 3 0 = some { pc3 with resv := none } ∧ pc3.waited = false) := by decide +kernel

/-- The hypotheses of HostPortCommands are met. -/
theorem witness_HostPortCommands_2 :
    (rb.isSplit = false ∧ ({ rb with hp := { split := some true } } : Block).isSplit = true) ∧
    (lkb.linkIsUp 0 = true ∧ lkb.hp.l12.contains 0 = false) ∧
    (({ rb with hp := { perst := false } } : Block).trainOk 0 1 16 = true ∧ (({ rb with hp := { perst := false } } : Block).linkTicket 0).1 = .granted) ∧
    (l12b.hp.l12.contains 0 = true ∧ (l12b.linkTicket 0).2.holds (.link 0) = true) ∧
    (l12p.hp.l12.contains 0 = true ∧ (l12p.linkTicket 0).2.holds (.link 0) = false ∧ 3 ≤ (l12p.linkTicket 0).2.pa.ps) := by decide +kernel

/-- The hypotheses of HostPortCommands are met. -/
theorem witness_HostPortCommands_3 :
    (((l12p.linkTicket 0).2.psWake.linkTicket 0).2.redivide).holds (.link 0) = true ∧
    (mib.rdF (pgHp 0 + 0x120) 7 7 = 1 ∧ (0x3A : BitVec 7).toNat = mib.rdF (pgHp 0 + 0x120) 0 6 ∧ mib.ce.activation = none ∧ mib.hk.failover = none) ∧
    mctpPec 0x3A 1 ≠ mctpPec 0x3A 2 ∧
    ((rb.inp 11).level = true ∧ ((rb.setLevel 11 false).inp 11).level = false) := by decide +kernel

/-- A connection of an IPv6 peer. -/
def fl6 : Flow := ⟨true, 0x20010DB8000000000000000000000001, 0x20010DB8000000000000000000000002, 50000, 4420, 7, 31⟩
/-- Options with every one offered or agreed. -/
def opt : TcpOpts := ⟨1460, some 7, true, true, true⟩
/-- A frame of the largest length for `fl6`'s port. -/
def frm : Frame := ⟨9600, 1, Config.portMac 31, true⟩
/-- The frames of FabricPortCommands: one that is taken in, and ones that are not. -/
theorem witness_FabricPortCommands_frame : takenIn fl6 frm = true ∧ takenIn fl6 { frm with len := 9601 } = false ∧
    takenIn fl6 { frm with tags := 2 } = false := by simp [takenIn, frm, fl6]
/-- A session. -/
def se1 (ph : ConnPhase) (admin : Bool) (r : List R2t) : Sess := ⟨ph, 0, fl6, some 1, 2, admin, false, none, false, (false, false), 1, r, 0, 0, 1000, 64, opt, 1000, 2000⟩
/-- Keys of a suite that the device has. -/
def kys : TlsKeys := ⟨.aes128GcmSha256, (1, 2), (3, 4), (5, 6)⟩
/-- An R2T for 4096 bytes. -/
def r2 : R2t := ⟨3, 0, 0, 4096, 0⟩
/-- The fabric port has session 5; bank 0 has its entry, and the SYN of `fl6` was accepted. -/
def sb (x : Sess) : Block :=
  ({ pb pc3 with fp := { sess := [(5, x)], cooling := [(6, 100)], accepted := [(fl6, 0, opt)] }, se := { parts := [(0, { size := 16, st := .on })] } } : Block).setEnt 0 0 ⟨connKey fl6, 0, 0, 5, 0, true⟩
/-- An access list with one entry for `fl6`, with the given result. -/
def aclb (r : W32) : Block := (rb.setPart 4 0 { size := 16, st := .on }).setEnt 4 0 ⟨aclKey fl6, BitVec.allOnes 128, 1, r, 0, true⟩
/-- An admin queue record of a connection. -/
def tcpRec : BitVec 512 := BitVec.ofNat 512 (1 + 3 * 2 + 2 ^ 18 + 0x50 * 2 ^ 48 + 15 * 2 ^ 128 + 7 * 2 ^ 176 + 2 ^ 192 + 15 * 2 ^ 224 + 5 * 2 ^ 416)
/-- Keep Alive runs. -/
def kab : Block := rb.modCtlr 0x50 (fun z => { z with kato := 1 })
/-- An Ethernet link is up, and one may come up. -/
def ethb : Block := (({ rb with pa := { held := [⟨.chip, .eth 0 7, 850, 1, 0, false, false, false, false⟩] } } : Block).wrF (pgFpP 0 + 0x104) 0 0 1).wrF (pgFpP 0 + 0x100) 12 12 1

/-- The hypotheses of FabricPortCommands are met. -/
theorem witness_FabricPortCommands_1 :
    (rb.variant.hasUnit 7 = true ∧ (rb.lookup 4 (aclKey fl6)).1 = none) ∧
    ((aclb 0).variant.hasUnit 7 = true ∧ (((aclb 0).lookup 4 (aclKey fl6)).1.map (fun a => a.2.result.toNat % 4)) = some 0) ∧
    (((aclb 1).lookup 4 (aclKey fl6)).1.map (fun a => a.2.result.toNat % 4)) = some 1 ∧
    ((((aclb 0xFE).lookup 4 (aclKey fl6)).1.map (fun a => (a.2.result.toNat % 4, a.2.result.toNat / 4))) = some (2, 63) ∧ ((aclb 0xFE).lookup 4 (aclKey fl6)).2.sessFree = true ∧ ((aclb 0xFE).lookup 4 (aclKey fl6)).2.qcFreeOne = true) ∧
    ((sb (se1 .tcp false [])).hk.failover = none ∧ (sb (se1 .tcp false [])).sess 4 = none ∧ (sb (se1 .tcp false [])).fp.cooling.any (fun z => z.1 == 4) = false) := by decide +kernel

/-- The hypotheses of FabricPortCommands are met. -/
theorem witness_FabricPortCommands_2 :
    ((sb (se1 .tcp false [])).fp.accepted.find? (fun y => y.1 == fl6) = some (fl6, 0, opt) ∧ optsWithin { opt with mss := 1000, sack := false } opt = true ∧ (sb (se1 .tcp false [])).roomiest = some 0 ∧ ((sb (se1 .tcp false [])).freeIx 0 0).head? = some 1) ∧
    (((sb (se1 .ready false [])).sessOf (connKey fl6)).1 = some 5 ∧ ((sb (se1 .ready false [])).sessOf (connKey fl6)).2.sess 5 = some (se1 .ready false []) ∧ (se1 .ready false []).flow = fl6) ∧
    (((sb (se1 .ready false [])).sessOf (connKey fl6)).2.fp.kept = [] ∧ (se1 .ready false []).held = false ∧ SegKind.good 1000 1460 2001 ≠ .fragment ∧ (sb { se1 .ready false [] with held := true }).sess 5 = some { se1 .ready false [] with held := true }) ∧
    ((sb (se1 .tls false [])).sess 5 = some (se1 .tls false []) ∧ (se1 .tls false []).phase = .tls ∧ kys.suite ≠ .other ∧ ({ kys with suite := .other } : TlsKeys).suite = .other) ∧
    ((sb (se1 .icreq false [])).sess 5 = some (se1 .icreq false []) ∧ (se1 .icreq false []).phase = .icreq ∧ (31 : BitVec 8).toNat ≤ 31 ∧ (sb (se1 .icreq false [])).fp.kept = []) := by decide +kernel

/-- The hypotheses of FabricPortCommands are met. -/
theorem witness_FabricPortCommands_3 :
    ((1 : BitVec 16) ≠ 0 ∨ 31 < (0 : BitVec 8).toNat) ∧
    ((0 : BitVec 16) ≠ 0 ∨ 31 < (32 : BitVec 8).toNat) ∧
    ((sb (se1 .connect false [])).fetchStop = false ∧ (sb (se1 .connect false [])).fp.sess.any (fun z => z.2.isAdmin && z.2.cntlid == 0x50) = false ∧ (sb (se1 .connect false [])).connectOk 5 (se1 .connect false []) true 0x50 7 tcpRec = true) ∧
    ((sb (se1 .ready true [])).sess 5 = some (se1 .ready true []) ∧ (se1 .ready true []).isAdmin = true ∧ (1 : W32).getLsbD 0 = true) ∧
    ((sb (se1 .ready false [])).sess 5 = some (se1 .ready false []) ∧ (se1 .ready false []).held = false ∧ (se1 .ready false []).qc = some 1 ∧ qSqEn ((sb (se1 .ready false [])).qc 1) = true) := by decide +kernel

/-- The hypotheses of FabricPortCommands are met. -/
theorem witness_FabricPortCommands_4 :
    ((sb (se1 .ready false [r2])).r2tFor 5 5 0 4096 = some (r2, cm 3 .write .writePartial) ∧ 4096 ≤ 65536 ∧ (se1 .ready false [r2]).digests.2 = false) ∧
    ((sb (se1 .ready false [r2])).modSess 5 (fun z => { z with r2ts := [] })).piece 3 0 = some pc3 ∧
    (sb (se1 .ready false [])).fp.cooling.find? (fun z => z.1 == 6) = some (6, 100) ∧
    ((sb (se1 .ready false [r2])).sess 5 = some (se1 .ready false [r2]) ∧ (se1 .ready false [r2]).r2ts = r2 :: []) ∧
    (kab.ctlr 0x50).kato ≠ 0 := by decide +kernel

/-- The hypotheses of FabricPortCommands are met. -/
theorem witness_FabricPortCommands_5 :
    (se1 .ready false []).retries < (sb (se1 .ready false [])).rdF (pgFp + 0x104) 8 11 ∧
    (ethb.has .fpPort 0 = true ∧ ethb.rdF (pgFpP 0 + 0x104) 0 0 = 1) ∧
    (ethb.has .fpPort 0 = true ∧ ethb.rdF (pgFpP 0 + 0x104) 7 7 = 0 ∧ ethb.holds (.eth 0 7) = true ∧ ethb.rdF (pgFpP 0 + 0x100) 12 12 = 1) := by decide +kernel

/-- A profile of eight blocks of eight pages. -/
def pr : Profile := ⟨1, 1, 0, 0, 0, 3, { noProfBody with blocks := 8, pages := 8, pagesSlc := 4, endurance := (100, 100) }⟩
/-- Booth 0 serves with profile 0; dies 0 and 1023's booth aside, die 0 is in service, with block 0 as given. -/
def fbk (k : Blk) : Block := ({ rb with fc := { profs := [(0, pr)], dies := [(0, { answered := true, inService := true })] }, ft := { blks := [(0, k)] } } : Block).wr (pgBooth 0 + 0x104) 0x12
/-- The same, with flash translation out of its rebuild. -/
def ftb (k : Blk) : Block := (fbk k).wrF (pgFt + 0x100) 0 2 0
/-- A staged unit. -/
def su (ph : PlacePhase) (d : Bytes) : Staged := ⟨0, 0, 3, 0, [20, 21, 22, 23], 0, d, 0, false, ph, false, 0, 0, 0⟩
/-- A closed and wholly written block. -/
def cblk (s : Stream) : Blk := { st := .closed, stream := s, posted := 8, progDone := [0, 1, 2, 3, 4, 5, 6, 7], fill := 512 }
/-- A closed block, read back for its verify. -/
def rblk (s : Stream) : Blk := { cblk s with readBack := true }
/-- A durable piece with its only unit programmed. -/
def dpc : Piece := { pc3 with durable := true, placed := true }
/-- The piece may commit. -/
def cpb : Block := { ftb {} with ft := { (ftb {}).ft with pieces := [dpc], staged := [su .programmed []] } }
/-- Staged units wait. -/
def stg (d : Bytes) : Block := { ftb {} with ft := { (ftb {}).ft with staged := [su .staged d] } }
/-- A sanitize runs. -/
def sanb (a : SanAct) (c : Nat) : Block := { rb with ft := { san := some ⟨a, c, 1, 0, false, 0⟩ } }
/-- The same where die 0 is in service and no retire reserve is left. -/
def sanr : Block := ({ ftb {} with ft := { (ftb {}).ft with san := some ⟨.blockErase, 1, 1, 0, false, 0⟩ } } : Block).wrF (pgFt + 0x10C) 0 22 0
/-- A die that answered and is out of service, with no spare bit. -/
def wornb : Block := { fbk {} with fc := { (fbk {}).fc with dies := [(0, { answered := true, stopped := true })] } }
/-- A doomed block with valid units is due for reclaim. -/
def recb : Block :=
  { ftb { cblk .host with st := .verified, doomed := true } with ft := { (ftb { cblk .host with st := .verified, doomed := true }).ft with map := [(0, mkLoc 0 0 0 4)] } }
/-- A journal entry waits, the map is loaded, and block 0 waits for its boot verify. -/
def jb : Block := { ftb (cblk .host) with ft := { (ftb (cblk .host)).ft with journal := [⟨1, []⟩], bootVerify := [0] } }
/-- The same, with block 0 read back. -/
def jbr : Block := { ftb (rblk .host) with ft := { (ftb (rblk .host)).ft with bootVerify := [0] } }
/-- The map is to be rebuilt. -/
def rbb : Block := ({ rb with ft := { loaded := true } } : Block).wrF (pgFt + 0x100) 0 2 5

/-- The staged unit's first byte in staging is 1. -/
def stgd : Block := { stg [] with mem := [(stgBase + 20 * 1024, 1)] }

/-- The hypotheses of FlashTranslationCommands are met. -/
theorem witness_FlashTranslationCommands_1 :
    ((stg []).ft.staged.reverse.find? (fun u => u.nsx == 0 && u.unit == 0 && decide (u.phase = .staged)) = some (su .staged []) ∧ (stg []).ftRuns = true) ∧
    (zeroLbas ((stg []).lbaSize 0) ((stg []).stagedMask (su .staged [])) ((stg []).stagedBytes (su .staged [])) = [] ∧ (stg []).stagedMask (su .staged []) = 0) ∧
    (stgd.ft.staged.reverse.find? (fun u => u.nsx == 0 && u.unit == 0 && decide (u.phase = .staged)) = some (su .staged []) ∧ stgd.ftRuns = true ∧ zeroLbas (stgd.lbaSize 0) (stgd.stagedMask (su .staged [])) (stgd.stagedBytes (su .staged [])) ≠ []) ∧
    (((ftb { st := .opened, fill := 65 }).fblk 0).st = .opened ∧ ((ftb { st := .opened, fill := 65 }).fblk 0).fill % 64 ≠ 0 ∧ (ftb { st := .opened, fill := 65 }).ft.frozen = false) ∧
    (cpb.piece 3 0 = some dpc ∧ cpb.committable dpc = true) := by decide +kernel

/-- The hypotheses of FlashTranslationCommands are met. -/
theorem witness_FlashTranslationCommands_2 :
    ((ftb (cblk .host)).verifies 0 = true ∧ ((ftb (cblk .host)).fblk 0).readBack = false ∧ (ftb (cblk .host)).ft.bootVerify = []) ∧
    ((ftb (rblk .host)).verifies 0 = true ∧ ((ftb (rblk .host)).fblk 0).readBack = true ∧ (ftb (rblk .host)).readingBack 0 = false ∧ (ftb (rblk .host)).badSlots 0 [] = [] ∧ ((ftb (rblk .host)).fblk 0).stream = .host) ∧
    ((ftb (rblk .reclaim)).verifies 0 = true ∧ ((ftb (rblk .reclaim)).fblk 0).readBack = true ∧ (ftb (rblk .reclaim)).readingBack 0 = false ∧ (ftb (rblk .reclaim)).badSlots 0 [] = [] ∧ ((ftb (rblk .reclaim)).fblk 0).stream = .reclaim) ∧
    (recb.ftRuns = true ∧ recb.rclass ≠ 0 ∧ recb.ft.bootVerify = [] ∧ recb.reclaimSource = some 0) ∧
    (((ftb { cblk .host with st := .verified }).fblk 0).st = .verified ∧ (ftb { cblk .host with st := .verified }).validOf 0 = 0 ∧ (ftb { cblk .host with st := .verified }).blkPending 0 = false ∧ (ftb { cblk .host with st := .verified }).fc.ops = [] ∧ (ftb { cblk .host with st := .verified }).ft.eol = false) := by decide +kernel

/-- The hypotheses of FlashTranslationCommands are met. -/
theorem witness_FlashTranslationCommands_3 :
    (((ftb { cblk .host with st := .verified }).fblk 0).doomed = false ∧ ((ftb { cblk .host with st := .verified }).fblk 0).erases < (ftb { cblk .host with st := .verified }).eraseLimit 0) ∧
    (((ftb { cblk .host with st := .verified, doomed := true }).fblk 0).doomed = true ∧ (ftb { cblk .host with st := .verified, doomed := true }).validOf 0 = 0) ∧
    (((ftb { cblk .host with failed := true }).fblk 0).st = .closed ∧ ((ftb { cblk .host with failed := true }).fblk 0).failed = true ∧ (ftb { cblk .host with failed := true }).validOf 0 = 0 ∧ (ftb { cblk .host with failed := true }).blkPending 0 = false) ∧
    (wornb.dieWorn 0 = true ∧ wornb.ft.frozen = false) ∧
    (jb.ftRuns = true ∧ jb.ft.journal = ⟨1, []⟩ :: []) := by decide +kernel

/-- The hypotheses of FlashTranslationCommands are met. -/
theorem witness_FlashTranslationCommands_4 :
    (rbb.rdF (pgFt + 0x100) 0 2 = 5 ∧ rbb.ft.loaded = true ∧ rbb.ft.fmt = none) ∧
    (jb.ft.bootVerify.contains 0 = true ∧ jb.readingBack 0 = false ∧ (jb.fblk 0).readBack = false) ∧
    (jbr.ft.bootVerify.contains 0 = true ∧ jbr.ftRuns = true ∧ jbr.readingBack 0 = false ∧ (jbr.fblk 0).readBack = true ∧ jbr.badSlots 0 [] = [] ∧ (jbr.fblk 0).stream = .host) ∧
    ((sanb .blockErase 0).ft.san = some ⟨.blockErase, 0, 1, 0, false, 0⟩ ∧ (sanb .blockErase 0).ft.frozen = false ∧ 0 < San.total ⟨.blockErase, 0, 1, 0, false, 0⟩) ∧
    ((sanb .crypto 0).ft.san = some ⟨.crypto, 0, 1, 0, false, 0⟩ ∧ (sanb .crypto 0).ft.frozen = false) := by decide +kernel

/-- The hypotheses of FlashTranslationCommands are met. -/
theorem witness_FlashTranslationCommands_5 :
    (sanr.ft.san = some ⟨.blockErase, 1, 1, 0, false, 0⟩ ∧ sanr.retireLeft < (sanr.sanErased ⟨.blockErase, 1, 1, 0, false, 0⟩ [0]).length) ∧
    ((sanb .blockErase 1).sanErased ⟨.blockErase, 1, 1, 0, false, 0⟩ [1, 4095 * 4096] = [] ∧ (sanb .crypto 0).sanErased ⟨.crypto, 0, 1, 0, false, 0⟩ [0] = []) ∧
    ((sanb .overwrite 4096).ft.san = some ⟨.overwrite, 4096, 1, 0, false, 0⟩ ∧ San.total ⟨.overwrite, 4096, 1, 0, false, 0⟩ ≤ 4096) ∧
    (((fbk (cblk .host)).fblk 0).st = .closed ∨ ((fbk (cblk .host)).fblk 0).st = .verified) := by decide +kernel

/-- An operation of die 0. -/
def fop (kd : FlashKind) (st : OpStage) : FlashOp := ⟨3, 0, 0, 0, kd, false, 1, 0, false, 0, .direct, st, 0, 0, 0, 0, []⟩
/-- One operation stands at die 0. -/
def opb (o : FlashOp) : Block := { fbk {} with fc := { (fbk {}).fc with ops := [o], trainedAt := [(0, 0)], grps := [⟨2, [], [], 0, false, false⟩], keyOp := some (15, { full := true, gen := 1 }, some false) } }
/-- Channel 0 is trained, with the chip and the pool able to pay. -/
def trb : Block := (opb (fop .read .queued)).wrF (pgCh 0 + 0x100) 7 7 1
/-- The block as the issue finds it. -/
def fw0 : Block := (opb (fop .read .queued)).promoteAged
/-- The media ticket of the queued read. -/
def fx : TicketAns × Block :=
  fw0.ticket ⟨.booth 0, .flashOp 3, fw0.opMw (fop .read .queued), 1, 0, true, decide ((fop .read .queued).why = .page .reclaim), false, false⟩
/-- The transfer ticket of the queued read. -/
def fy : TicketAns × Block := fx.2.ticket ⟨.chip, .transfer 0, transferMw (fx.2.rdF (pgCh 0 + 0x100) 1 6), 1, 0, true, false, false, false⟩

/-- The hypotheses of FlashOperationCommands are met. -/
theorem witness_FlashOperationCommands_1 :
    ((fbk {}).pageOk 0 7 7 = true ∧ (fbk {}).ft.frozen = false ∧ (fbk {}).mappedOn 7 = [] ∧ (fbk {}).blkPending 7 = false ∧ ((fbk {}).fblk 7).st ≠ .opened ∧ (fbk {}).pageOk 0 7 0 = true) ∧
    ({ fbk {} with ft := { san := some ⟨.overwrite, 0, 1, 0, false, 0⟩ } } : Block).pageOk 0 0 0 = true ∧
    (((fbk {}).die 0).answered = true ∧ (fbk {}).boothUp 0 = true) ∧
    (fw0.opOrder 0 = [fop .read .queued] ∧ (fw0.die 0).stopped = false ∧ fw0.pageReset (pgCh (chOf (fop .read .queued).die)) = 0) ∧
    (fx.1 = .granted ∧ fy.1 = .granted ∧ fy.2.fc.ops.all (fun p => decide (p.stage = .queued)) = true ∧ (fop .read .queued).why = .direct) := by decide +kernel

/-- The hypotheses of FlashOperationCommands are met. -/
theorem witness_FlashOperationCommands_2 :
    (((opb (fop .program .suspended)).fc.ops.filter (fun z => z.die == 0)).find? (fun z => decide (z.stage = .suspended)) = some (fop .program .suspended) ∧ (∀ z ∈ (opb (fop .program .suspended)).fc.ops, z.die = 0 → z.stage ≠ .issued ∧ (z.kind = .read → z.stage = .queued → 1 < (opb (fop .program .suspended)).opCls z))) ∧
    ((opb (fop .read .issued)).op 3 = some (fop .read .issued) ∧ (fop .read .issued).stage = .issued ∧ (fop .read .issued).kind = .read ∧ (fop .read .issued).why = .direct) ∧
    ((opb (fop .read .issued)).softTicket (fop .read .issued)).1 = .granted ∧
    ((opb (fop .program .issued)).op 3 = some (fop .program .issued) ∧ (fop .program .issued).stage = .issued) ∧
    ((opb (fop .erase .issued)).op 3 = some (fop .erase .issued) ∧ (fop .erase .issued).stage = .issued) := by decide +kernel

/-- The hypotheses of FlashOperationCommands are met. -/
theorem witness_FlashOperationCommands_3 :
    (opb (fop .rawProgram .issued)).op 3 = some (fop .rawProgram .issued) ∧
    (smFind trb.fc.trainedAt 0 = some 0 ∧ trb.prof 0 = some pr ∧ trb.boothUp 0 = true ∧ trb.plossSt = 0 ∧ trb.rdF (pgCh 0 + 0x100) 7 7 = 1 ∧ trb.retrainMoved 0 = false) ∧
    ((trb.elapseTo (0 + trb.rdF (pgFc + 0x1C4) 0 15 * 1000000)).ticket ⟨.chip, .training 0, 450, 1, (trb.elapseTo (0 + trb.rdF (pgFc + 0x1C4) 0 15 * 1000000)).usec, false, false, false, false⟩).1 = .granted ∧
    ((opb (fop .read .queued)).fc.grps.find? (fun (z : ParGrp) => z.id == 2) = some ⟨2, [], [], 0, false, false⟩ ∧ (⟨2, [], [], 0, false, false⟩ : ParGrp).closed = false) ∧
    (opb (fop .read .queued)).fc.keyOp = some (15, { full := true, gen := 1 }, some false) := by decide +kernel

/-- The hypotheses of FlashOperationCommands are met. -/
theorem witness_FlashOperationCommands_4 :
    ({ rb with fc := { keyOp := some (0, {}, some true) } } : Block).fc.keyOp = some (0, {}, some true) ∧
    ({ rb with fc := { keyOp := some (0, {}, none) } } : Block).fc.keyOp = some (0, {}, none) := by decide +kernel

/-- Booth 0's state register holds the word, and a profile is loaded. -/
def bo (st : W32) : Block := { rb.wr (pgBooth 0 + 0x104) st with fc := { profs := [(0, pr)], inrush := [(0, 0)], profLoad := some 0 } }
/-- Without an inrush hold. -/
def bo0 : Block := { bo 0x11 with fc := { profs := [(0, pr)] } }
/-- A good profile image stands in staging memory; `flags` are at offset 4. -/
def pfb : Block :=
  ({ bo 0 with mem := [(0x10000000000, 0x46), (0x10000000001, 0x50), (0x10000000002, 0x4D), (0x10000000003, 0x4A), (0x10000000004, 1), (0x10000000006, 1), (0x1000000000D, 0x04)] } : Block).wr (pgFc + 0x104) 0x100
/-- A body that passes the checks. -/
def okBody : ProfBody := { noProfBody with blocks := 8, pages := 8, pagesSlc := 4, parity := 256, spare := 2048, maxRate := 1200 }

/-- The hypotheses of BoothCommands are met. -/
theorem witness_BoothCommands_1 :
    (rb.variant.hasBooth 7 = true ∧ rb.boothPres 7 = false) ∧
    (bo0.boothSt 0 = 1 ∧ bo0.boothPres 0 = true ∧ bo0.boothPwr 0 = false ∧ bo0.holds (.inrush 0) = false ∧ bo0.fc.profs ≠ []) ∧
    ((bo0.elapseTo ((smFind bo0.fc.presAt 0).getD 0 + 100000)).ticket ⟨.booth 0, .inrush 0, (bo0.elapseTo ((smFind bo0.fc.presAt 0).getD 0 + 100000)).inrushMw, 1, 100000, false, false, false, false⟩).1 = .granted ∧
    (smFind (bo 0x31).fc.inrush 0 = some 0 ∧ (bo 0x31).boothSt 0 = 1) ∧
    ((((bo 0x31).elapseTo (0 + 20000)).untick (.inrush 0)).onFc (fun e => { e with inrush := smErase e.inrush 0 })).boothSt 0 = 1 := by decide +kernel

/-- The hypotheses of BoothCommands are met. -/
theorem witness_BoothCommands_2 :
    ((bo 0x12).boothPres 0 = true ∧ ((bo 0x12).boothSt 0 = 1 ∨ (bo 0x12).boothUp 0 = true)) ∧
    ((bo 0x14).boothPres 0 = true ∧ (bo 0x14).boothSt 0 ≠ 1 ∧ (bo 0x14).boothUp 0 = false) ∧
    ((bo 0x13).boothSt 0 = 3 ∧ (bo 0x13).boothValid 0 = 0 ∧ (bo 0x13).metaBooths.contains 0 = false ∧ (bo 0x13).fc.ops = []) ∧
    (pfb.fc.profLoad = some 0 ∧ (pfb.profResult true false okBody).1 = 0) ∧
    (pfb.fc.profLoad = some 0 ∧ (pfb.profResult true true okBody).1 ≠ 0) := by decide +kernel

/-- A compress descriptor: one input byte, 256 output bytes, to DRAM. -/
def jd : BitVec 512 := mkDesc [(192, 1), (224, 256)]
/-- A job waits, lane 0 of each kind is awake. -/
def jobb (d : BitVec 512) (on : Option LaneJob) : Block :=
  { rb with cz := { jobs := [⟨4, d, .firmware, 0, false⟩], lanes := [(0, { awake := true, job := on }), (64, { awake := true, job := on })] } }
/-- An independent raw DEFLATE decompress job: three bytes in staging, one byte out. -/
def jdd : BitVec 512 := mkDesc [(0, 1), (64, stgBase), (128, stgBase + 4096), (192, 3), (224, 1)]
/-- Its input is a fixed block that holds the letter a. -/
def jdb : Block := { jobb jdd (some ⟨3, jdd, .firmware, 0, false⟩) with mem := [(stgBase, 0x4B), (stgBase + 1, 0x04)] }
/-- Its end, with the CRC-32C of that letter. -/
def jr : JobRes := { status := 0, trailing := false, ended := true, inUsed := 3, outUsed := 1, crc := 0xC1D04330, out := [(0, 0x61)], addr := 0 }
/-- The compress job of that letter. -/
def jdc : BitVec 512 := mkDesc [(64, stgBase), (128, stgBase + 4096), (192, 1), (224, 8)]
/-- Its input. -/
def jcb : Block := { jobb jdc (some ⟨3, jdc, .firmware, 0, false⟩) with mem := [(stgBase, 0x61)] }
/-- Its end. -/
def jcr : JobRes := { status := 0, trailing := false, ended := true, inUsed := 1, outUsed := 3, crc := 0xC1D04330, out := [(0, 0x4B), (1, 0x04), (2, 0)], addr := 0 }

/-- The hypotheses of LaneCommands are met. -/
theorem witness_LaneCommands_1 :
    (portPresent rb.variant 1 = true ∧ (rb.queueJob jd (.other 1)).badJob jd = false) ∧
    ((rb.queueJob 0 (.other 1)).badJob 0 = true ∧ ((rb.queueJob 0 (.other 1)).cz.jobs.find? (fun z => z.id == rb.cz.nextJob)).isSome = true) ∧
    ((jobb jd none).promoteAged.nextLaneJob false = some ⟨4, jd, .firmware, 0, false⟩ ∧ (jobb jd none).promoteAged.freeLane false = some 0 ∧ (jobb jd none).promoteAged.grantCheck jd = none) ∧
    ((jobb (jd + 1) none).promoteAged.nextLaneJob true = some ⟨4, jd + 1, .firmware, 0, false⟩ ∧ (jobb (jd + 1) none).promoteAged.freeLane true = some 0 ∧ (jobb (jd + 1) none).promoteAged.grantCheck (jd + 1) = none) ∧
    (jobb (mkDesc [(0, 32), (192, 1), (224, 256)]) none).promoteAged.grantCheck (mkDesc [(0, 32), (192, 1), (224, 256)]) = some 0x25 := by decide +kernel

/-- The hypotheses of LaneCommands are met. -/
theorem witness_LaneCommands_2 :
    (({ rb with pa := { held := [⟨.chip, .laneC 31, 25, 1, 0, false, false, false, false⟩] } } : Block).holds (laneHolder false 31) = true ∧ (rb.lane false 31).awake = false ∧ 31 < rb.lanesOf false) ∧
    (((jobb jd none).lane false 0).awake = true ∧ ((jobb jd none).lane false 0).job = none) ∧
    ((jobb jd none).wr (pgCz + 0x104) 0).rdF (pgCz + 0x104) 8 13 < ((jobb jd none).wr (pgCz + 0x104) 0).awake false ∧
    ((jobb jd none).wr (pgCz + 0x104) 0).rdF (pgCz + 0x104) 14 20 < ((jobb jd none).wr (pgCz + 0x104) 0).awake true ∧
    ((jdb.lane true 0).job = some ⟨3, jdd, .firmware, 0, false⟩ ∧ endOk jdd Submitter.firmware.isFt jr = true) := by decide +kernel

/-- The hypotheses of LaneCommands are met. -/
theorem witness_LaneCommands_3 :
    (jdb.laneAgrees true 0 jdd false jr = true ∧ jStream jdd = false ∧ jr.status = 0) ∧
    ((jcb.lane false 0).job = some ⟨3, jdc, .firmware, 0, false⟩ ∧ endOk jdc Submitter.firmware.isFt jcr = true) ∧
    (jcb.laneAgrees false 0 jdc false jcr = true ∧ jStream jdc = false ∧ jcr.status = 0) := by decide +kernel

/-- DRAM is trained, and region 0 is on. -/
def drb : Block := ({ rb with ms := { regions := [(0, { size := 1, st := .on })] } } : Block).wrF (pgMs + 0x104) 0 0 1
/-- A transaction of port 1. -/
def tx (wr : Bool) (a : FAddr) (l : BitVec 8) : Txn := { t1 with write := wr, addr := a, len1 := l }
/-- A region is being zeroed. -/
def inb : Block := rb.setRegion 31 { size := 1, st := .init, goal := .on }

/-- The hypotheses of MemoryCommands are met. -/
theorem witness_MemoryCommands_1 :
    (rb.dramReady = false ∧ (List.replicate 8 (some (0 : BitVec 3))).length = rb.variant.drams ∧ rb.trainBad (List.replicate 8 (some 0)) = []) ∧
    rb.trainBad (none :: List.replicate 7 (some 0)) = 0 :: [] ∧
    accepted drb (tx false 63 0) (BitVec.allOnes 256) .dram false ∧
    (accepted drb (tx true 64 63) (BitVec.allOnes 256) .dram true ∧ 64 % 64 = 0 ∧ txnLen (tx true 64 63) % 64 = 0) ∧
    accepted drb (tx true 255 0) (BitVec.allOnes 256) .dram true := by decide +kernel

/-- The hypotheses of MemoryCommands are met. -/
theorem witness_MemoryCommands_2 :
    (7 < drb.variant.drams ∧ drb.dramReady = true ∧ drb.ms.stopped = false ∧ drb.rdF (pgMs + 0x10C) 8 8 = 1 ∧ drb.ctlQueue (drb.dramRow (drb.ms.scrubAt * 64)).subKey = [] ∧ drb.ms.lapLate = false) ∧
    ((inb.region 31).st = .init ∧ inb.ms.stopped = false) ∧
    accepted rb (tx false (BitVec.ofNat 48 stgBase) 255) (BitVec.allOnes 256) .staging false ∧
    accepted rb (tx true (BitVec.ofNat 48 (stgBase + stgSize - 1)) 0) (BitVec.allOnes 256) .staging true ∧
    (rb.ms.stopped = false ∧ rb.ms.stLapLate = false) := by decide +kernel

/-- A zlib stream of eight letters a: a literal and a match in a fixed block, as RFC 1950 and 1951 give. -/
theorem test_zlib_stream :
    (decodeStream 1 true [0x78, 0x01, 0x4B, 0x4C, 0x84, 0x00, 0x00, 0x0D, 0xAC, 0x03, 0x09] []).out = List.replicate 8 0x61 := by decide +kernel
/-- A Zstandard frame with a raw block and its content checksum, as RFC 8878 gives. -/
theorem test_zstd_frame :
    ((decodeStream 3 true [0x28, 0xB5, 0x2F, 0xFD, 0x24, 0x01, 0x09, 0, 0, 0x61, 0x5B, 0x6E, 0x8C, 0xA9] []).out,
      (decodeStream 3 true [0x28, 0xB5, 0x2F, 0xFD, 0x24, 0x01, 0x09, 0, 0, 0x61, 0x5B, 0x6E, 0x8C, 0xA9] []).stop) = ([0x61], .ended) := by
  decide +kernel

/-- A search request: operation, bank and index. -/
def sreq (op bank ix : Nat) : BitVec 512 := BitVec.ofNat 512 (op + bank * 8 + ix * 2 ^ 16)
/-- Bank 0 is powered, and its partition 0 is on and covers it. -/
def seb : Block := { drb with se := { parts := [(0, { size := 16384, st := .on })], awake := [0] } }
/-- A request of port 1. -/
def sq0 : SeReq := ⟨sreq 1 0 0, 0, .port 1, 0, 1, false⟩
/-- It waits at bank 0; bank 4 is waking with a ticket, and partition 1 of bank 0 is being cleared. -/
def sqb : Block := { seb with
  se := { seb.se with
    queue := [(0, [sq0])]
    parts := seb.se.parts ++ [(1, { size := 1, st := .clearing, toOn := true })] }
  pa := { held := [⟨.chip, .bank 4, 100, 1, 0, false, false, false, false⟩] } }

/-- The hypotheses of SearchCommands are met. -/
theorem witness_SearchCommands_1 :
    (portPresent seb.variant 1 = true ∧ seReady seb 0 (sreq 1 0 0) ∧ qOp (sreq 1 0 0) = 1) ∧
    (seReady seb 0 (sreq 2 0 16383) ∧ qOp (sreq 2 0 16383) = 2 ∧ seb.seReissues.lineCode (seb.seReissues.shadowAt 0 16383) = .ok) ∧
    (seReady seb 0 (sreq 3 0 0) ∧ qOp (sreq 3 0 0) = 3 ∧ seb.seReissues.lineCode (seb.seReissues.shadowAt 0 0) = .ok) ∧
    (seReady seb 0 (sreq 4 0 16383) ∧ qOp (sreq 4 0 16383) = 4) ∧
    (sqb.variant.hasBank 0 = true ∧ sqb.promoteAged.seReissues.seNext (sqb.promoteAged.seReissues.seQueue 0) = some sq0 ∧ ((sqb.promoteAged.seReissues.seQueue 0).find? (fun z => qOp sq0.req != 1 && qOp z.req != 1 && qIx z.req == qIx sq0.req)).getD sq0 = sq0) := by decide +kernel

/-- The hypotheses of SearchCommands are met. -/
theorem witness_SearchCommands_2 :
    (sqb.sePart 0 1).st = .clearing ∧
    (sqb.variant.hasBank 4 = true ∧ sqb.holds (.bank 4) = true ∧ sqb.se.awake.contains 4 = false) ∧
    (seb.rdF (pgSe + 0x108) 0 0 = 1 ∧ seb.bankServes 0 = true ∧ seb.se.awake.contains 0 = true ∧ seb.seQueue 0 = [] ∧ seb.se.mirLate.contains 0 = false) ∧
    (seb.deadRow 0 0 = false ∧ seb.lineCode (seb.shadowAt 0 0) = .ok ∧ seb.anyPoison (seb.shadowAt 0 0) 64 = false ∧ seb.seEnt 0 0 = seb.getShadow 0 0) := by decide +kernel

/-- The header of an image of 128 bytes at address 0. -/
def imgMem : List (Nat × Byte) := [(0, 0x50), (1, 0x57), (2, 0x45), (3, 0x4A), (4, 1), (7, 13), (8, 128)]
/-- DRAM is trained; region 0 is on, and tenant 0's programs and memory namespace stand there. -/
def prb : Block := { ((drb.wrF (pgCxT 0 + 0x10C) 0 5 32).wrF (pgCxT 0 + 0x110) 0 5 32) with ce := { qcs := [(1, qrec 2 1 1)] }, ms := { regions := [(0, { size := 2048, st := .on })] } }
/-- Slot 0 holds a complete image. -/
def prw (act : Bool) : Block := { prb with mem := imgMem, cx := { progs := [(0, ⟨128, true, act⟩)] } }
/-- A command of a compute or memory namespace, sequence number 3, that has just entered. -/
def pgm (p : ProgOp) : Cmd := { cm 3 .program .fetched with prog := some p }
/-- It is in flight. -/
def pgb (w : Block) (p : ProgOp) : Block := { w with ce := { w.ce with cmds := [pgm p] } }
/-- The bytes of the image, with the first one given. -/
def imgBytes (x : Byte) : List Byte := [x, 0x57, 0x45, 0x4A, 1, 0, 0, 13, 128] ++ List.replicate 119 0
/-- What the command finds once it has started. -/
def pgy (w : Block) (p : ProgOp) : Block := (pgb w p).tryStart 3
/-- A load of the whole image into slot 0. -/
def pld (x : Byte) : ProgOp := .load 0 128 0 (imgBytes x)
/-- The image as the load leaves it. -/
def pli (x : Byte) : Block := ((pgy prb (pld x)).storeBytes 0 (imgBytes x)).cleanWhole 0 128
/-- An Execute Program of slot 0. -/
def pex : ProgOp := .execute 0 [(0, 4096, true)] none []
/-- It may start: one cluster is up for tenant 0, whose contexts are not used up. -/
def exb : Block := (pgy (((prw true).wrF (pgCxT 0 + 0x100) 0 12 4096).wrF (pgCxT 0 + 0x108) 0 11 1) pex)
/-- The order of its clusters. -/
def exo : List Nat := exb.roomOn (2 ^ 13) (((exb.maskOfT 0).filter exb.clUp).foldl (fun ns n => exb.byLoad n ns) [])

/-- The hypotheses of ProgramCommands are met. -/
theorem witness_ProgramCommands_1 :
    ((pgy prb (pld 0x50)).cmd 3 = some (pgm (pld 0x50)) ∧ (pgm (pld 0x50)).started = true ∧ (pgm (pld 0x50)).st = .fetched ∧ (pgm (pld 0x50)).src = .queue 1) ∧
    ((pgy prb (pld 0x50)).slotPlace 0 0 = some 0 ∧ (pgy prb (.load 63 128 0 [])).slotPlace 0 63 = some (63 * 0x1000000) ∧ (pgy prb (pld 0x50)).prog 0 0 = none ∧ (pgy prb (pld 0x50)).slotRunning 0 0 = false) ∧
    (0 + (imgBytes 0x50).length = 128 ∧ (pli 0x50).headerOk 0 128 = true) ∧
    (pli 0x51).headerOk 0 128 = false ∧
    ((pgy prb (.load 0 128 0 [1])).slotPlace 0 0 = some 0 ∧ 0 + [(1 : Byte)].length < 128) := by decide +kernel

/-- The hypotheses of ProgramCommands are met. -/
theorem witness_ProgramCommands_2 :
    ((pgy (prw false) (.activate 0 true)).cmd 3 = some (pgm (.activate 0 true)) ∧ (pgy (prw false) (.activate 0 true)).prog 0 0 = some ⟨128, true, false⟩ ∧ (pgy (prw false) (.activate 0 true)).slotRunning 0 0 = false) ∧
    ((pgy prb (.readMem none 0 4096)).cmd 3 = some (pgm (.readMem none 0 4096)) ∧ (pgy prb (.readMem none 0 4096)).memNs 0 none = some (0, 2048 * 2 ^ 20) ∧ (pgy prb (.readMem none 0 4096)).anyPoison 0 4096 = false) ∧
    ((pgy prb (.writeMem (some (BitVec.ofNat 48 stgBase, 4096)) 4095 [1])).cmd 3 = some (pgm (.writeMem (some (BitVec.ofNat 48 stgBase, 4096)) 4095 [1])) ∧ (pgy prb (.writeMem (some (BitVec.ofNat 48 stgBase, 4096)) 4095 [1])).memNs 0 (some (BitVec.ofNat 48 stgBase, 4096)) = some (stgBase, 4096) ∧ 4095 + 1 ≤ 4096) ∧
    ((pgy prb (.copy true 1 0 1 none 0)).cmd 3 = some (pgm (.copy true 1 0 1 none 0)) ∧ (pgy prb (.copy true 1 0 1 none 0)).memNs 0 none = some (0, 2048 * 2 ^ 20) ∧ 0 + 1 * (pgy prb (.copy true 1 0 1 none 0)).lbaSize 0 ≤ 2048 * 2 ^ 20) ∧
    (cutLbas (1 + 1) (262144 / (pgy prb (.copy true 1 0 1 none 0)).lbaSize 0) 0 1).map ((pgm (.copy true 1 0 1 none 0)).kid 0 true 1) ≠ [] := by decide +kernel

/-- The hypotheses of ProgramCommands are met. -/
theorem witness_ProgramCommands_3 :
    (exb.cmd 3 = some (pgm pex) ∧ (pgm pex).started = true ∧ exb.memNs 0 none = some (0, 2048 * 2 ^ 20) ∧ rangesOk [(0, 4096, true)] (2048 * 2 ^ 20) = true ∧ (exb.byte (0 + 7)).toNat = 13) ∧
    (exb.rdF (pgCxT 0 + 0x100) 0 12 ≠ 0 ∧ (exb.maskOfT 0).any exb.clHope = true ∧ exb.ctxHeld 0 < exb.rdF (pgCxT 0 + 0x100) 0 12) ∧
    (exb.slotPlace 0 0 = some 0 ∧ exb.prog 0 0 = some ⟨128, true, true⟩ ∧ exo = [0] ∧ (exb.askClusters exo).1 = some 0) ∧
    ((exb.askClusters exo).2.freeCtx = some 0 ∧ (exb.askClusters exo).2.freeScr 0 (2 ^ 13) = some 0x4000) ∧
    (pgm pex).execWaits = true := by decide +kernel

/-- The hypotheses of ProgramCommands for a command's fetch are met, for every command of a compute or memory namespace. -/
theorem witness_ProgramCommands_fetch :
    qb.dark = false ∧ qb.mayFetch 1 = true ∧ ∀ p, Takeable qb 1 (progEntry 5 p) none qb :=
  ⟨by decide +kernel, by decide +kernel, fun _ => .inr ⟨.inl (by decide +kernel), rfl, (if_pos (by decide +kernel)).symm⟩⟩

/-- A context of tenant 0 in cluster 0. -/
def cx0 (s : CtxSt) (on : Option Nat) : Ctx := ⟨s, 0, 0, on, 3, 0x4000, 0x2000, 0, [], false, 0, none, 7, none, 0, none, false⟩
/-- Context 4095 on core 0, which is in Supervisor mode after a SYSCALL with the immediate `imm`; g1 and g2. -/
def syb (imm : Nat) (g1 g2 : W64) : Block :=
  ({ cb [cm 3 .program .fetched] with cx := {
    cores := [(0, { tcause := 0x0D, tinfo := BitVec.ofNat 64 imm, g := if g1 = 0 then (if g2 = 0 then [] else [(2, g2)]) else if g2 = 0 then [(1, g1)] else [(1, g1), (2, g2)], ctx := 0x80000FFF, st := 1 })]
    ctxs := [(4095, cx0 .supervisor (some 0))] } } : Block).wrF (pgCl 0 + 0x100) 0 2 1
/-- The same with the events of `lq`. -/
def syl : Block := { syb 2 1 0 with ce := { lq := [(4095, { lq0 with ring := [0] })] } }
/-- Channel 63 belongs to tenant 1, channel 0 may be stopped. -/
def syd (ch op : W64) : Block := ({ syb 3 ch op with dm := { chans := [(0, { st := 1 })] } } : Block).wrF (pgDmCh 63 + 0x100) 0 5 1
/-- Context 4095 waits. -/
def cxw (s : CtxSt) (on : Option Nat) (tmo : Option Nat) : Block := { rb with
  cx := { ctxs := [(4095, { cx0 s on with until_ := tmo })] }
  ce := { lq := [(4095, { lq0 with ring := [0] })] }
  dm := { cfg := [(255, 2)] }
  se := { resps := [(4095, 7, 0)] } }
/-- A repeated fault of context 4095. -/
def cxf : Block := { syb 0 0 0 with cx := { cores := [(0, { tcause := 4, tpc := 0x40, ctx := 0x80000FFF, st := 1 })], ctxs := [(4095, { cx0 .supervisor (some 0) with tried := some (4, 0x40) })] } }

/-- The hypotheses of ContextCommands are met. -/
theorem witness_ContextCommands_1 :
    ((syb 0 5 0).inSyscall 4095 0 = some 0 ∧ ((syb 0 5 0).core 0).getG 2 = 0) ∧
    ((syb 0 5 1).inSyscall 4095 0 = some 0 ∧ ((syb 0 5 1).core 0).getG 2 = 1) ∧
    ((syb 0 5 2).inSyscall 4095 0 = some 0 ∧ ((syb 0 5 2).core 0).getG 2 ≠ 0 ∧ ((syb 0 5 2).core 0).getG 2 ≠ 1) ∧
    (syb 1 0 0).inSyscall 4095 1 = some 0 ∧
    (syl.inSyscall 4095 2 = some 0 ∧ syl.pendEvents 4095 &&& ((syl.core 0).getG 1).toNat % 8 ≠ 0) := by decide +kernel

/-- The hypotheses of ContextCommands are met. -/
theorem witness_ContextCommands_2 :
    ((syb 2 1 0).inSyscall 4095 2 = some 0 ∧ (syb 2 1 0).pendEvents 4095 &&& (((syb 2 1 0).core 0).getG 1).toNat % 8 = 0) ∧
    ((syd 64 2).inSyscall 4095 3 = some 0 ∧ (syd 64 2).ctx 4095 = some (cx0 .supervisor (some 0)) ∧ 64 ≤ (((syd 64 2).core 0).getG 1).toNat) ∧
    ((syd 63 2).inSyscall 4095 3 = some 0 ∧ (((syd 63 2).core 0).getG 1).toNat < 64 ∧ (syd 63 2).chTenant 63 ≠ (cx0 .supervisor (some 0)).tenant.toNat) ∧
    ((syd 0 2).inSyscall 4095 3 = some 0 ∧ (syd 0 2).chTenant 0 = (cx0 .supervisor (some 0)).tenant.toNat ∧ (syd 0 2).chAccepts 0 2 = true) ∧
    (syb 4 0 0).inSyscall 4095 4 = some 0 := by decide +kernel

/-- The hypotheses of ContextCommands are met. -/
theorem witness_ContextCommands_3 :
    (cxw .waiting none (some 9)).ctx 4095 = some { cx0 .waiting none with until_ := some 9 } ∧
    ((cxw .waiting none none).ctx 4095 = some (cx0 .waiting none) ∧ (cxw .waiting none none).pendEvents 4095 / 2 ^ 0 % 2 = 1 ∧ (cx0 .waiting none).mask / 2 ^ 0 % 2 = 1) ∧
    ((cxw .ending none none).cmd (cx0 .ending none).seq = none ∧ (cxw .ending none none).ctx 4095 = some (cx0 .ending none) ∧ (cxw .ending none none).lqBusy 4095 = false) ∧
    (cxf.ctx 4095 = some { cx0 .supervisor (some 0) with tried := some (4, 0x40) } ∧ (cxf.cmd 3).isSome = true ∧ (cxf.core 0).tcause = 0x04 ∧ (cxf.core 0).tpc = 0x40) ∧
    ((cxw .ready none none).svcWord 4095 0xC04).getLsbD 7 = false := by decide +kernel

/-- The hypotheses of ContextCommands are met. -/
theorem witness_ContextCommands_4 :
    (8 ≤ (8 : W32).toNat ∨ ((cxw .ready none none).svcWord 4095 0xC04).getLsbD 8 = true) ∧
    (cxw .ready none none).se.resps.find? (fun z => z.1 == 4095) = some (4095, 7, 0) ∧
    ((511 : W32).toNat < 512 ∧ (cxw .ready none none).lineSrc (fld 511 0 7) = 2 ∧ (cxw .ready none none).lineTenant (fld 511 0 7) = 0) ∧
    (512 ≤ (512 : W32).toNat ∨ (cxw .ready none none).lineSrc (fld 512 0 7) ≠ 2) ∧
    (cxw .ready none none).lineSrc (fld 0 0 7) ≠ 2 := by decide +kernel

/-- A unit waits for delivery to a local queue. -/
def dcm : Cmd := { cm 3 .read .readMedia with src := .localQ 0, ready := [(0, none, 0)], waits := [0] }
/-- The unit is staged. -/
def dvb : Block := { cb [dcm] with ft := { staged := [su .staged []] } }
/-- The delivery channel of cluster 0 has halted. -/
def dlr : Block := ({ rb with dm := { chans := [(0, { st := 0x10 })] } } : Block).wrF (pgCl 0 + 0x108) 14 14 1
/-- Cluster 0 runs at a step, with contexts. -/
def clb (k : Nat) (xs : List (Nat × Ctx)) (c : Core) : Block := ({ rb with cx := { ctxs := xs, cores := [(0, c)] } } : Block).wrF (pgCl 0 + 0x100) 0 2 k
/-- A core with interrupts enabled and no context. -/
def ieb (i : Nat) : Block := { rb with cx := { cores := [(i, { st := 5 })], kInts := [(3, 0)], sIrq := true } }
/-- A load that has not arrived, whose answer is an error. -/
def dl : Delay := ⟨.g 1, 0, 0, false, 0, 0, some (0, 4), some .poison, false⟩

/-- The hypotheses of ClusterAndCoreEvents are met. -/
theorem witness_ClusterAndCoreEvents_1 :
    (dvb.cmd 3 = some dcm ∧ dcm.ready.find? (fun r => r.1 == 0) = some (0, none, 0) ∧ dvb.newest (dcm.nsid - 1) 0 = some (su .staged []) ∧ (su .staged []).pmask = 0) ∧
    (dlr.variant.hasCluster 0 = true ∧ dlr.dlvOn 0 = true ∧ 0x10 ≤ (dlr.chan (dlr.dlvCh 0)).st) ∧
    ((clb 3 [(1, cx0 .ready none)] {}).clUp 0 = true ∧ (clb 3 [(1, cx0 .ready none)] {}).clStep 0 < min ((clb 3 [(1, cx0 .ready none)] {}).rdF (pgCl 0 + 0x104) 0 2) (smGet 4 (clb 3 [(1, cx0 .ready none)] {}).cx.avsCap 0) ∧ (clb 3 [(1, cx0 .ready none)] {}).readyOn 0 ≠ []) ∧
    ((clb 3 [(1, cx0 .ready none)] {}).stepTicket 0 4).1 = .granted ∧
    1 < (clb 2 [] {}).clStep 0 := by decide +kernel

/-- The hypotheses of ClusterAndCoreEvents are met. -/
theorem witness_ClusterAndCoreEvents_2 :
    ((clb 1 [] {}).clStep 0 ≠ 0 ∧ (clb 1 [] {}).cx.ctxs.any (fun e => e.2.cluster == 0) = false ∧ (clb 1 [] {}).has .cxCluster 0 = true) ∧
    ((clb 1 [] {}).coreLive 0 = true ∧ (ieb 96).coreLive 96 = true ∧ (ieb 100).coreLive 100 = true) ∧
    (((clb 1 [] { loads := [dl] }).core 0).wfi = false ∧ (Core.lateOf { (clb 1 [] { loads := [dl] }).core 0 with loads := [{ dl with arrived := true }] }).isSome = true) ∧
    (((ieb 96).core 96).accepts = true ∧ ((ieb 96).core 96).quantum = false ∧ coreKind 96 = .k ∧ (ieb 96).cx.kInts.contains (3, 0) = true) ∧
    (((ieb 100).core 100).accepts = true ∧ coreKind 100 = .s ∧ (ieb 100).cx.sIrq = true) := by decide +kernel

/-- The hypotheses of ClusterAndCoreEvents are met. -/
theorem witness_ClusterAndCoreEvents_3 :
    (((clb 1 [(1, cx0 .ready none)] { st := 5 }).core 0).accepts = true ∧ (clb 1 [(1, cx0 .ready none)] { st := 5 }).dispDue 0 = true ∧ ((clb 1 [(1, cx0 .ready none)] { st := 5 }).core 0).onCtx = none) ∧
    ((clb 1 [] { qdue := some 9 }).core 0).qdue = some 9 ∧
    ((clb 1 [] { quantum := true, st := 5 }).core 0).accepts = true ∧
    (((clb 1 [(1, cx0 .ready none)] {}).pickCtx 0).map (·.1) = some 1 ∧ ((clb 1 [(1, cx0 .ready none)] {}).core 0).loads = []) ∧
    ((clb 1 [(1, cx0 .ready none), (2, cx0 .running (some 0))] { ctx := 0x80000002, st := 0 }).coreLive 0 = true ∧ ((clb 1 [(1, cx0 .ready none), (2, cx0 .running (some 0))] { ctx := 0x80000002, st := 0 }).core 0).onCtx = some 2 ∧ ((clb 1 [(1, cx0 .ready none), (2, cx0 .running (some 0))] { ctx := 0x80000002, st := 0 }).core 0).user = true) := by decide +kernel

/-- The hypotheses of ClusterAndCoreEvents are met. -/
theorem witness_ClusterAndCoreEvents_4 :
    ((clb 1 [(1, cx0 .ready none), (2, cx0 .running (some 0))] { ctx := 0x80000002, st := 0 }).sliceLeft 0 = 0 ∧ (clb 1 [(1, cx0 .ready none), (2, cx0 .running (some 0))] { ctx := 0x80000002, st := 0 }).dispDue 0 = false ∧ ((clb 1 [(1, cx0 .ready none), (2, cx0 .running (some 0))] { ctx := 0x80000002, st := 0 }).pickCtx 0).map (·.1) = some 1) ∧
    ((clb 1 [(2, cx0 .running (some 0))] { ctx := 0x80000002, st := 0 }).pickCtx 0).isNone = true := by decide +kernel

/-- Channel 0 of tenant 0 runs, its next instruction fetched ahead; line 0 is up and DRAM answers. -/
def dmb (i : BitVec 128) (c : Chan) : Block :=
  ({ drb with dm := { chans := [(0, { c with st := 1, src := 0, dst := 64, ahead := [(0, i)] })], cfg := [(0, 1)], lines := [0] } } : Block).wrF (pgDmCh 0 + 0x100) 6 6 1
/-- A MOVE of 64 bytes that advances both addresses; `f` its further bits. -/
def mv (f : Nat) : BitVec 128 := BitVec.ofNat 128 (1 + 0x300 + f + 64 * 2 ^ 32)
/-- A paced MOVE of bursts of 8 bytes. -/
def mvp : BitVec 128 := BitVec.ofNat 128 (1 + 0x700 + 64 * 2 ^ 32 + 8 * 2 ^ 64)
/-- An instruction from its operation, its bits from 8, its word and its upper half. -/
def di (op f w v : Nat) : BitVec 128 := BitVec.ofNat 128 (op + f * 256 + w * 2 ^ 32 + v * 2 ^ 64)
/-- A paced burst is under way. -/
def dmp : Block := dmb mvp { mid := true, waiting := true, remain := 64 }
/-- A completion of a ZJOB is to be written at 128. -/
def dmz : Block := dmb 0 { ended := [(128, 0)] }

/-- The hypotheses of ChannelProgramCommands are met. -/
theorem witness_ChannelProgramCommands_1 :
    (dmReady (dmb (mv 0) {}) 0 .move (mv 0) (dmb (mv 0) {}) ∧ moveReady (dmb (mv 0) {}) 0 (mv 0) ∧ dPaced (mv 0) = false) ∧
    (Block.movePieces 0 (mv 0) none (((moveBegun (dmb (mv 0) {}) 0 (mv 0)).chan 0).remain + 1) (moveBegun (dmb (mv 0) {}) 0 (mv 0)) 0 ((moveBegun (dmb (mv 0) {}) 0 (mv 0)).chan 0).remain).1 = 0 ∧
    (dmReady (dmb mvp {}) 0 .move mvp (dmb mvp {}) ∧ moveReady (dmb mvp {}) 0 mvp ∧ dPaced mvp = true ∧ ((moveBegun (dmb mvp {}) 0 mvp).chan 0).remain ≠ 0) ∧
    (dmReady (dmb (mv 0x4000) {}) 0 .zjob (mv 0x4000) (dmb (mv 0x4000) {}) ∧ moveReady (dmb (mv 0x4000) {}) 0 (mv 0x4000) ∧ ((moveBegun (dmb (mv 0x4000) {}) 0 (mv 0x4000)).chan 0).jobsOut < 8) ∧
    ((moveBegun (dmb (mv 0x4000) {}) 0 (mv 0x4000)).pieceData 0 (mv 0x4000) 64 false).1 = 0 := by decide +kernel

/-- The hypotheses of ChannelProgramCommands are met. -/
theorem witness_ChannelProgramCommands_2 :
    ((dmz.chan 0).ended = (128, 0) :: [] ∧ ((dmz.setChan 0 { dmz.chan 0 with ended := [] }).chWrite 0 128 32 0 false).1 = 0) ∧
    (dmp.chLive 0 = true ∧ (dmp.chan 0).mid = true ∧ (dmp.chan 0).waiting = true ∧ dmp.chFetch 0 = (0, mvp, dmp) ∧ dmp.chIllegal 0 mvp = false ∧ dmp.lineUp (dReq mvp) = true) ∧
    (Block.movePieces 0 mvp none (min (dBurst mvp) (dmp.chan 0).remain + 1) dmp 0 (min (dBurst mvp) (dmp.chan 0).remain)).1 = 0 ∧
    (dmReady (dmb (di 2 2 0 0) {}) 0 .loop (di 2 2 0 0) (dmb (di 2 2 0 0) {}) ∧ spinOk (dmb (di 2 2 0 0) {}) 0 ∧ (di 2 2 0 0).getLsbD 9 = true) ∧
    (dmReady (dmb (di 2 0 0 0) {}) 0 .loop (di 2 0 0 0) (dmb (di 2 0 0 0) {}) ∧ spinOk (dmb (di 2 0 0 0) {}) 0 ∧ ((dmCounted (dmb (di 2 0 0 0) {}) 0).chan 0).lc.1 = 0) := by decide +kernel

/-- The hypotheses of ChannelProgramCommands are met. -/
theorem witness_ChannelProgramCommands_3 :
    ((dmCounted (dmb (di 2 0 0 0) { lc := (1, 0) }) 0).chan 0).lc.1 ≠ 0 ∧
    (dmReady (dmb (di 3 0 0 0) {}) 0 .waitJobs (di 3 0 0 0) (dmb (di 3 0 0 0) {}) ∧ spinOk (dmb (di 3 0 0 0) {}) 0 ∧ ((dmb (di 3 0 0 0) {}).chan 0).waiting = false) ∧
    (dmReady (dmb (di 3 1 0 0) {}) 0 .waitReq (di 3 1 0 0) (dmb (di 3 1 0 0) {}) ∧ ((dmCounted (dmb (di 3 1 0 0) {}) 0).modChan 0 (fun c => { c with waiting := true })).chLineOk 0 0 = true) ∧
    (dmReady (dmb (di 3 2 0 0) {}) 0 .waitEq (di 3 2 0 0) (dmb (di 3 2 0 0) {}) ∧ dAddr (di 3 2 0 0) % 4 = 0 ∧ (((dmCounted (dmb (di 3 2 0 0) {}) 0).modChan 0 (fun c => { c with waiting := true })).chRead 0 0 4 0 false).1 = 0) ∧
    dmReady (dmb (di 3 3 0 0) {}) 0 .waitGe (di 3 3 0 0) (dmb (di 3 3 0 0) {}) := by decide +kernel

/-- The hypotheses of ChannelProgramCommands are met. -/
theorem witness_ChannelProgramCommands_4 :
    ((dmb (di 3 2 0 0) { waiting := true }).chLive 0 = true ∧ (dmb (di 3 2 0 0) { waiting := true }).chFetch 0 = (0, di 3 2 0 0, dmb (di 3 2 0 0) { waiting := true }) ∧ (((dmb (di 3 2 0 0) { waiting := true }).elapseTo 1).chRead 0 0 4 0 false).1 = 0) ∧
    (dmReady (dmb (di 4 1 0 0) {}) 0 .signal (di 4 1 0 0) (dmb (di 4 1 0 0) {}) ∧ spinOk (dmb (di 4 1 0 0) {}) 0) ∧
    (dmReady (dmb (di 4 2 7 128) {}) 0 .signal (di 4 2 7 128) (dmb (di 4 2 7 128) {}) ∧ ((dmCounted (dmb (di 4 2 7 128) {}) 0).chWrite 0 128 4 7 false).1 = 0) ∧
    (dmReady (dmb (di 5 0 0 4096) {}) 0 .set (di 5 0 0 4096) (dmb (di 5 0 0 4096) {}) ∧ spinOk (dmb (di 5 0 0 4096) {}) 0 ∧ (di 5 0 0 4096).getLsbD 11 = false) ∧
    (dmReady (dmb (di 5 8 0 (2 ^ 48 - 1)) {}) 0 .set (di 5 8 0 (2 ^ 48 - 1)) (dmb (di 5 8 0 (2 ^ 48 - 1)) {}) ∧ (di 5 8 0 (2 ^ 48 - 1)).getLsbD 11 = true ∧ dReg (di 5 8 0 (2 ^ 48 - 1)) = 0 ∧ ((dmCounted (dmb (di 5 8 0 (2 ^ 48 - 1)) {}) 0).chan 0).src + dVal (di 5 8 0 (2 ^ 48 - 1)) ≤ 2 ^ 48) := by decide +kernel

/-- The hypotheses of ChannelProgramCommands are met. -/
theorem witness_ChannelProgramCommands_5 :
    (dmReady (dmb (di 5 9 0 64) {}) 0 .set (di 5 9 0 64) (dmb (di 5 9 0 64) {}) ∧ dReg (di 5 9 0 64) = 1 ∧ ((dmCounted (dmb (di 5 9 0 64) {}) 0).chan 0).dst + dVal (di 5 9 0 64) ≤ 2 ^ 48) ∧
    (dmReady (dmb (di 5 12 0 1) {}) 0 .set (di 5 12 0 1) (dmb (di 5 12 0 1) {}) ∧ 2 ≤ dReg (di 5 12 0 1)) ∧
    (dmReady (dmb (di 6 2 0 0) {}) 0 .end_ (di 6 2 0 0) (dmb (di 6 2 0 0) {}) ∧ ((dmb (di 6 2 0 0) {}).chan 0).mid = false ∧ ((dmCounted (dmb (di 6 2 0 0) {}) 0).chan 0).jobsOut = 0) ∧
    (dmReady (dmb (di 6 1 0 64) {}) 0 .end_ (di 6 1 0 64) (dmb (di 6 1 0 64) {}) ∧ dAddr (di 6 1 0 64) % ((dmb (di 6 1 0 64) {}).chCrcBits 0 / 8) = 0 ∧ ((dmCounted (dmb (di 6 1 0 64) {}) 0).chWrite 0 64 ((dmb (di 6 1 0 64) {}).chCrcBits 0 / 8) (crcStored ((dmCounted (dmb (di 6 1 0 64) {}) 0).chan 0).crc ((dmb (di 6 1 0 64) {}).chCrcBits 0 / 8) false) false).1 = 0) := by decide +kernel

/-- Lane 0 runs a job, and control core 0 and its standby are awake after the boot. -/
def ftb0 : Block := { jobb jd (some ⟨3, jd, .firmware, 0, false⟩) with hk := { booted := true }, cx := { cores := [(96, { st := 5 })] } }
/-- A failover runs, and another one awaits its self-test. -/
def fob : Block := { rb with hk := { failover := some (0, 0, 0), kTest := some 2 } }

/-- The hypotheses of FaultCommands are met. -/
theorem witness_FaultCommands_1 :
    presentPageAt rb.variant (0x400 * 0x1000) = some (.bt, 0) ∧
    (presentPageAt rb.variant pgSe = some (.seCtl, 0) ∧ rb.pageReset pgSe = 0 ∧ 5 < PageClass.unit .seCtl ∧ uncovered .seCtl = false) ∧
    ((((rb.record pgSe { code := 1, sev := .unitFatal }).addStrike pgSe).fatalWork .seCtl 0).wrF (pgSe + 0x00C) 8 11 1).rdF (pgHk + 0x400) 0 0 = 1 ∧
    (((((rb.record pgSe { code := 1, sev := .unitFatal }).addStrike pgSe).fatalWork .seCtl 0).wrF (pgSe + 0x00C) 8 11 1).record pgSe { code := 1, sev := .unitFatal } |>.addStrike pgSe).rdF (pgHk + 0x400) 0 0 = 1 ∧
    (presentPageAt rb.variant pgFt = some (.ft, 0) ∧ rb.pageReset pgFt = 0 ∧ 5 < PageClass.unit .ft ∧ uncovered .ft = true ∧ ((((rb.record pgFt { code := 1, sev := .unitFatal }).addStrike pgFt).fatalWork .ft 0).wrF (pgFt + 0x00C) 8 11 1).rdF (pgHk + 0x400) 0 0 = 1) := by decide +kernel

/-- The hypotheses of FaultCommands are met. -/
theorem witness_FaultCommands_2 :
    (0 < ftb0.lanesOf false ∧ (ftb0.lane false 0).dead = false ∧ ((ftb0.lane false 0).job).isSome = true ∧ (((ftb0.stopJob false 0 0x30).addStrike (pgLane false 0)).raise (pgLane false 0) 0).spareReady (laneKind false) 0 = true) ∧
    (rb.has .seBank 4 = true ∧ rb.bankServes 4 = true) ∧
    (ftb0.hk.booted = true ∧ ftb0.hk.failover = none ∧ (ftb0.core 96).halted = none ∧ (ftb0.core 96).stopped = false ∧ ftb0.rdF (pgHk + 0x40C) (ftb0.kphys 0) (ftb0.kphys 0) = 1) ∧
    (fob.hk.failover = some (0, 0, 0) ∧ fob.standby ≠ 7 ∧ fob.hk.kTest = some 2) ∧
    (rb.spares .coreS 0).length = 1 := by decide +kernel

/-- The hypotheses of FaultCommands are met. -/
theorem witness_FaultCommands_3 :
    (rb.hasCore 99 = true ∧ coreKind 99 = .k ∧ (rb.core 99).stopped = true ∧ rb.hk.failover = none) ∧
    (rb.rdF (pgHk + 0x420) 16 16 = 1 ∧ rb.rotNext 1 = 0 ∧ rb.rotIdle 1 0 = true ∧ (rotKind 1 0).isSome = true) ∧
    (rotKind 1 0).any (fun x => !(rb.spares x.1 0).isEmpty) = true := by decide +kernel

/-- A request for the whole chip budget waits, and one of the media pool of booth 7 for the RECLAIM stream. -/
def tk (p : Pool) (id mw : Nat) (rf rc : Bool) : Ticket := ⟨p, .other id, mw, 2, 0, rf, rc, false, false⟩
/-- The Ticket Office with tickets held and waiting. -/
def tkb (hs ws : List Ticket) : Block := { rb with pa := { held := hs, waiting := ws } }
/-- A non-operational power state is in force. -/
def psb : Block := { rb with pa := { ps := 4 } }

/-- The hypotheses of TicketCommands are met. -/
theorem witness_TicketCommands_1 :
    (rb.floatFits (reqTicket none 65535 0 3 true false 0) = false ∧ ({ rb with pa := { floats := [(.chip, rb.window (reqTicket none 65535 0 3 true false 0), 5)] } } : Block).floatFits (reqTicket none 65535 0 3 true false 0) = true) ∧
    (rb.holds (.other 65535) = false ∧ (reqTicket none 65535 0 3 true false 0).mw ≤ rb.poolBudget .chip ∧ rb.ticketFits (reqTicket none 65535 0 3 true false 0) = true ∧ rb.pa.waiting = []) ∧
    ((reqTicket none 1 2000 1 true false 0).mw ≤ (tkb [tk .chip 2 (rb.poolBudget .chip) false false] []).poolBudget .chip ∧ (tkb [tk .chip 2 (rb.poolBudget .chip) false false] []).ticketFits (reqTicket none 1 2000 1 true false 0) = false) ∧
    ((tkb [] [tk .chip 2 200000 true false]).pa.waiting[0]? = some (tk .chip 2 200000 true false) ∧ (tkb [] [tk .chip 2 200000 true false]).poolBudget .chip < (tk .chip 2 200000 true false).mw) ∧
    ((tkb [tk .chip 3 (rb.poolBudget .chip) false false] [tk .chip 2 1 true false]).pa.waiting[0]? = some (tk .chip 2 1 true false) ∧ (tkb [tk .chip 3 (rb.poolBudget .chip) false false] [tk .chip 2 1 true false]).ticketFits (tk .chip 2 1 true false) = false ∧ (tkb [tk .chip 3 (rb.poolBudget .chip) false false] [tk .chip 2 1 true false]).pa.floats = []) := by decide +kernel

/-- The hypotheses of TicketCommands are met. -/
theorem witness_TicketCommands_2 :
    (tkb [] [tk (.booth 7) 2 1 true true]).pa.waiting.find? (fun t => t.pool == .booth 7 && t.rcl && !(tkb [] [tk (.booth 7) 2 1 true true]).pa.starved.contains t.who) = some (tk (.booth 7) 2 1 true true) ∧
    3 ≤ psb.pa.ps ∧
    (rb.pllIdle 9 = true ∧ rb.hk.pllOff.contains 9 = false) ∧
    (presentPageAt rb.variant (pgCl 11) = some (.cxCluster, 11) ∧ rb.clStep 11 = 0 ∧ pgCl 11 % 0x1000 = 0 ∧ ({ rb with pa := { held := [⟨.chip, .cluster 11 1, 1700, 2, 0, false, false, false, false⟩] } } : Block).holds (.cluster 11 1) = true) ∧
    (presentPageAt rb.variant (pgCxT 63) = some (.cxTenant, 63) ∧ (rb.wrF (pgCxT 63 + 0x00C) 1 3 0).rdF (pgCxT 63 + 0x00C) 1 3 ≠ 2) := by decide +kernel

/-- PWRFAIL# is in, or a power loss stands at a state. -/
def plb (s : Nat) : Block := ({ rb with hk := { okSince := some 5, inputs := [(1, { level := true })] } } : Block).wrF (pgHk + 0x158) 8 10 s
/-- Record store images. -/
def rsb (w : Option (Img × Bool × Nat)) : Block := { rb with hk := { more := true, writing := w, hold := some 9 } }
/-- Input 0 has a stuck limit. -/
def stk : Block := { rb with hk := { inCfg := [(0, 0x100)] } }

/-- The hypotheses of PowerCommands are met. -/
theorem witness_PowerCommands_1 :
    (rb.hk.off = false ∧ (rb.setLevel 1 false).hk.tripped = false ∧ (rb.setLevel 1 false).plossSt = 0) ∧
    ((plb 1).plossSt = 1 ∧ (plb 1).hk.tripped = false ∧ (plb 1).plossFinish.pwrfailBad = false) ∧
    ((plb 2).plossSt = 2 ∧ (plb 2).hk.okSince = some 5) ∧
    ((plb 0).hk.booted = false ∧ (plb 0).dark = false ∧ (plb 0).bootCool = true ∧ ((plb 0).inp 1).level = true ∧ ((plb 0).bootRead.bootSlot true true).1.isSome = true ∧ ((plb 0).bootRead.bootSlot true true).2.2 = false) ∧
    (rsb none).hk.hold = some 9 := by decide +kernel

/-- The hypotheses of PowerCommands are met. -/
theorem witness_PowerCommands_2 :
    ((rb.inp 14).masked = false ∧ (rb.inp 14).level ≠ true ∧ fld (((rb.modInp 14 (fun z => { z with edges := rb.usec :: z.edges.take 63 })).inputEffect 14 true).inCfg 14) 20 25 = 0) ∧
    (fld (stk.inCfg 0) 8 19 ≠ 0 ∧ (stk.inp 0).stuck = false ∧ (stk.inp 0).level = activeLevel 0) ∧
    ((rsb none).hk.more = true ∧ (rsb none).hk.writing = none) ∧
    ((rsb (some ({}, true, 0))).hk.writing = some ({}, true, 0) ∧ (rsb (some ({}, false, 1))).hk.writing = some ({}, false, 1)) := by decide +kernel

/-- The debug port with a state of its own. -/
def dbb (d : DbgSt) : Block := { rb with dbg := d }

/-- The hypotheses of DebugFrameCommands are met. -/
theorem witness_DebugFrameCommands_1 :
    (frameActs (dbb { level := true }) 63 none ∧ ((dbb { level := true }).portRead 1).1 = true ∧ ((dbb { level := true }).portRead 63).1 = false) ∧
    (frameActs rb 1 none ∧ frameActs rb 1 (some 0) ∧ rb.dbg.last ≠ some (1, 0, 0)) ∧
    (frameActs (dbb { level := true }) 0x10 (some 0) ∧ ((dbb { level := true }).portWrite 0x10 0).1 = true ∧ ((dbb { level := true }).portWrite 63 0).1 = false) ∧
    (dbb { level := true, last := some (0x10, 7, 0) }).dbg.last = some (0x10, 7, 0) ∧
    (dbb { checking := some (none, 0) }).dbg.checking.isSome = true := by decide +kernel

/-- The hypotheses of DebugFrameCommands are met. -/
theorem witness_DebugFrameCommands_2 :
    ((dbb { crcErr := true }).dbg.checking = none ∧ (dbb { crcErr := true }).dbg.crcErr = true ∧ (63 : BitVec 6) ≠ 1) ∧
    (openReg 0x10 none = false ∧ openReg 2 (some 0x5EED0002) = false ∧ rb.dbg.level = false) ∧
    ((dbb { checking := some (none, 0), fails := 6 }).dbg.fails < 7 ∧ (none : Option (BitVec 384)) ≠ some 0 ∧ rb.dbg.lockout = false) := by decide +kernel

/-- The port is unlocked, core `s` is selected, and core 0 or 96 stands as given. -/
def dcb (s : BitVec 12) (i : Nat) (c : Core) : Block := ({ rb with
  dbg := { level := true, coreSel := s, jtagEn := true, memCtl := 1, memAddr := 0x010000000000 }
  cx := { cores := [(i, c)], ctxs := [(2, { cx0 .supervisor (some 0) with owned := true })] } } : Block).wrF (pgDbg + 0x104) 0 3 15 |>.wrF (pgCl 0 + 0x100) 0 2 1

/-- The hypotheses of DebugCoreCommands are met. -/
theorem witness_DebugCoreCommands_1 :
    ((dcb 0 0 {}).dbg.checking = none ∧ (dcb 0 0 {}).dbg.crcErr = false ∧ (dcb 0 0 {}).dbg.level = true ∧ (dcb 0 0 {}).dark = false ∧ (dcb 0 0 {}).rdF (pgDbg + 0x104) 3 3 = 1 ∧ (dcb 0 0 {}).dbg.last = none) ∧
    (((dcb 0 0 {}).selCore).isSome = true ∧ (dcb 0 0 {}).mayHalt 0 = true ∧ ((dcb 0 0 {}).core 0).halted = none) ∧
    ((dcb 0 0 { halted := some .request }).core 0).halted = some .request ∧
    ((dcb 0 0 { bps := [(3, { ctl := 1 })] }).coreLive 0 = true ∧ ((dcb 0 0 { bps := [(3, { ctl := 1 })] }).core 0).bpHit = some 3 ∧ ((dcb 0 0 { bps := [(3, { ctl := 1 })] }).core 0).wfi = false) ∧
    ((dcb 0 0 { watch := some (1, 8, true) }).coreLive 0 = true ∧ ((dcb 0 0 { watch := some (1, 8, true) }).core 0).watch = some (1, 8, true)) := by decide +kernel

/-- The hypotheses of DebugCoreCommands are met. -/
theorem witness_DebugCoreCommands_2 :
    (((dcb 0 0 { ctx := 0x80000002, tcause := 9, st := 1 }).core 0).onCtx = some 2 ∧ ((dcb 0 0 { ctx := 0x80000002, tcause := 9, st := 1 }).core 0).tcause.getLsbD 8 = false ∧ (dcb 0 0 { ctx := 0x80000002, tcause := 9, st := 1 }).ctx 2 = some { cx0 .supervisor (some 0) with owned := true }) ∧
    fld ((dcb 0 0 { tcause := 11 }).core 0).tcause 0 7 = 11 ∧
    ((dcb 0 0 {}).dbg.jtagEn = true ∧ rb.dbg.jtagEn = false) := by decide +kernel

/-- Control core 0 stands at its first instruction, in Supervisor mode. -/
def kb (c : Core) : Block := { drb with cx := { cores := [(96, { c with pc := 0x031000040000 })] } }
/-- The checks of `legalAt` beside the fetch. -/
def lawful (b0 : Block) (op : EwOp) (e : Enc) : Bool :=
  decide (ewLen op e ≤ 15) && fieldsLegal op e && (!(b0.core 96).user || !privileged op) && (decide (op ≠ .rett) || rettLegal 96 (b0.core 96).tst) && pfxLegal op e
/-- The instruction starts on control core 0, and `p` holds of the block after its fetch. -/
def wit (b : Block) (op : EwOp) (e : Enc) (p : Block → Bool) : Bool :=
  match (b.setCore 96 (atBoundary (b.core 96) e)).fetchIns 96 (min 15 (ewLen op e)) e.par with
  | .ok b1 => decide (starts b 96 e) && lawful (b.setCore 96 (atBoundary (b.core 96) e)) op e && p b1
  | .error _ => false
/-- What `wit` says in the words of the statements. -/
theorem wit_issues (b : Block) (op : EwOp) (e : Enc) (p : Block → Bool) (h : wit b op e p = true) : ∃ b1, issues b 96 op e b1 ∧ p b1 = true := by
  unfold wit at h
  split at h
  · rename_i b1 hb
    simp only [Bool.and_eq_true, decide_eq_true_eq, lawful, Bool.or_eq_true, Bool.not_eq_true'] at h
    obtain ⟨⟨h1, ⟨⟨⟨h2, h3⟩, h4⟩, h5⟩, h6⟩, h7⟩ := h
    refine ⟨b1, ⟨h1, hb, h2, h3, fun hu => ?_, fun hs => absurd hs (by decide), fun ho => ?_, h6⟩, h7⟩
    · rcases h4 with h4 | h4
      · rw [h4] at hu; cases hu
      · exact h4
    · rcases h5 with h5 | h5
      · exact absurd ho h5
      · exact h5
  · cases h
/-- The fetch succeeds. -/
def fetches (b : Block) (op : EwOp) (e : Enc) : Bool :=
  match (b.setCore 96 (atBoundary (b.core 96) e)).fetchIns 96 (min 15 (ewLen op e)) e.par with
  | .ok _ => true
  | .error _ => false
/-- The operand is aligned, translates, and reads without error. -/
def reads (op : EwOp) (e : Enc) (sp : Nat) (a : W64) (n : Nat) (accs : List Acc) (b1 : Block) : Bool :=
  let x := running b1 96 op e
  match x.operand 96 (pcOf b1 96) sp a n accs with
  | .ok f => (x.readAt 96 sp a f n e.errs).2.1.isNone
  | .error _ => false
/-- The operand is aligned, translates, and the write ends. -/
def writes (op : EwOp) (e : Enc) (sp : Nat) (a : W64) (n : Nat) (b1 : Block) : Bool :=
  let x := running b1 96 op e
  match x.operand 96 (pcOf b1 96) sp a n [.wr] with
  | .ok f => (match x.writeAt 96 (pcOf b1 96) sp a f n 0 e.errs with | .ok _ => true | .error _ => false)
  | .error _ => false
/-- An instruction with a register byte, a mode byte and a displacement. -/
def en (pre : List Byte) (reg mode : Byte) (disp : W32) (imm : W64) : Enc := enc pre reg mode disp imm
/-- The register-register instructions. -/
def alus : List AluOp := [.mov, .add, .sub, .adc, .sbb, .and, .or, .xor, .cmp, .tst, .shl, .shr, .sar, .rol, .mul, .mulh, .div, .divu, .rem, .remu, .neg, .not, .clz, .popc, .bswap, .mulhu]
/-- A core with g1 = 1. -/
def k1 : Block := kb { g := [(1, 1)], st := 1 }

/-- The hypotheses of IllegalInstructionsTrap are met. -/
theorem witness_IllegalInstructionsTrap :
    (powered k1 96 ∧ starts k1 96 (en [] 0 0 0 0)) ∧
    (fetches k1 (.reserved true) (en [] 0 0 0 0) = true ∧ ewLen (.reserved true) (en [] 0 0 0 0) ≤ 15) ∧
    (fetches k1 .wfi (en [] 0 0 0 0) = true ∧ ((kb { st := 0 }).core 96).user = true ∧ privileged .wfi = true) ∧
    (fetches k1 .ret (en [0xF0] 0 0 0 0) = true ∧ pfxLegal .ret (en [0xF0] 0 0 0 0) = false ∧ fieldsLegal .ret (en [0xF0] 0 0 0 0) = true) ∧
    (fetches k1 .sti (en (List.replicate 11 0xF0) 0 0x20 0 0) = true ∧ starts k1 96 (en (List.replicate 11 0xF0) 0 0x20 0 0) ∧ 15 < ewLen .sti (en (List.replicate 11 0xF0) 0 0x20 0 0)) := by decide +kernel

/-- The hypotheses of ArithmeticInstructions are met. -/
theorem witness_ArithmeticInstructions :
    powered k1 96 ∧
    alus.all (fun o => wit k1 (.alu o) (en [] 0x10 0 0 0) (fun b1 => decide ((((running b1 96 (.alu o) (en [] 0x10 0 0 0)).core 96).getG 1).toNat % 2 ^ 64 ≠ 0))) = true ∧
    wit k1 (.alu .div) (en [] 0x20 0 0 0) (fun b1 => decide ((((running b1 96 (.alu .div) (en [] 0x20 0 0 0)).core 96).getG 2).toNat % 2 ^ 64 = 0)) = true ∧
    wit k1 (.alu .div) (en [0xF0] 0xF0 0 0 0) (fun _ => true) = true ∧
    [ImmOp.movi, .addi, .subi, .andi, .ori, .xori, .cmpi, .tsti, .shli, .shri, .sari, .addi8, .cmpi8].all (fun o => wit k1 (.imm o) (en [] 0xF0 0 0 63) (fun _ => true)) = true := by decide +kernel

/-- The hypotheses of ControlInstructions are met. -/
theorem witness_ControlInstructions_1 :
    [EwOp.nop, .fence, .wfi, .brk, .syscall, .jmp true, .jmp false, .jmpr, .bcc 0 true, .bcc 13 false].all (fun o => wit k1 o (en [] 0 0 0 1) (fun _ => true)) = true ∧
    (wit (kb { st := 1, tst := 1 }) .rett (en [] 0 0 0 0) (fun _ => true) = true ∧ rettLegal 96 1 = true) ∧
    wit (kb { st := 1, g := [(15, 64)] }) .ret (en [0xF9] 0 0 0 0) (reads .ret (en [0xF9] 0 0 0 0) 2 64 8 [.rd]) = true ∧
    wit (kb { st := 1, g := [(15, 64)] }) .call (en [0xF9] 0 0 0 0) (writes .call (en [0xF9] 0 0 0 0) 2 56 8) = true ∧
    wit (kb { st := 1, g := [(15, 64)] }) .callr (en [0xF9] 0 0 0 0) (writes .callr (en [0xF9] 0 0 0 0) 2 56 8) = true := by decide +kernel

/-- The hypotheses of ControlInstructions are met. -/
theorem witness_ControlInstructions_2 :
    (condHolds 0 1 = true ∧ condHolds 0 0 = false) := by decide +kernel

/-- The hypotheses of MemoryInstructions are met. -/
theorem witness_MemoryInstructions_1 :
    wit k1 .lea (en [] 0 0x91 0 0) (fun _ => true) = true ∧
    [LdOp.ld, .lds].all (fun o => wit k1 (.load o) (en [0xF0] 0 0x91 0 0) (reads (.load o) (en [0xF0] 0 0x91 0 0) 2 1 1 [.rd])) = true ∧
    [LdOp.xchg, .xadd, .cas].all (fun o => wit k1 (.load o) (en [0xF0] 0 0x91 0 0) (fun b1 => reads (.load o) (en [0xF0] 0 0x91 0 0) 2 1 1 [.rd, .wr] b1 && writes (.load o) (en [0xF0] 0 0x91 0 0) 2 1 1 b1)) = true ∧
    [MOp.addm, .andm, .orm, .xorm].all (fun o => wit k1 (.rmw o) (en [] 0 0x90 0 0) (fun b1 => reads (.rmw o) (en [] 0 0x90 0 0) 2 0 8 [.rd, .wr] b1 && writes (.rmw o) (en [] 0 0x90 0 0) 2 0 8 b1)) = true ∧
    [EwOp.st, .sti].all (fun o => wit k1 o (en [] 0 0x90 0 0) (writes o (en [] 0 0x90 0 0) 2 0 8)) = true := by decide +kernel

/-- The hypotheses of MemoryInstructions are met. -/
theorem witness_MemoryInstructions_2 :
    (List.range 16).all (fun n => !wit k1 .ldp (en [] (BitVec.ofNat 8 n) 0x90 0 0) (fun _ => true) || wit k1 .ldp (en [] (BitVec.ofNat 8 n) 0x90 0 0) (reads .ldp (en [] (BitVec.ofNat 8 n) 0x90 0 0) 2 0 (specialBytes n) [.rd])) = true ∧
    (wit k1 .ldp (en [] 0 0x90 0 0) (fun _ => true) = true ∧ wit k1 .stp (en [] 0 0x90 0 0) (writes .stp (en [] 0 0x90 0 0) 2 0 (specialBytes 0)) = true) ∧
    wit k1 .lda (en [] 0x30 0x90 0 0) (reads .lda (en [] 0x30 0x90 0 0) 2 0 16 [.rd]) = true ∧
    wit k1 .sta (en [] 0x30 0x90 0 0) (writes .sta (en [] 0x30 0x90 0 0) 2 0 16) = true ∧
    wit (kb { st := 1, g := [(15, 64)] }) .push (en [0xF9] 0 0 0 0) (writes .push (en [0xF9] 0 0 0 0) 2 56 8) = true := by decide +kernel

/-- The hypotheses of MemoryInstructions are met. -/
theorem witness_MemoryInstructions_3 :
    wit (kb { st := 1, g := [(15, 64)] }) .pop (en [0xF9] 0 0 0 0) (reads .pop (en [0xF9] 0 0 0 0) 2 64 8 [.rd]) = true := by decide +kernel

/-- The hypotheses of RegisterMoveInstructions are met. -/
theorem witness_RegisterMoveInstructions :
    (wit k1 .get (en [] 13 0 0 0) (fun _ => true) = true ∧ wit k1 .put (en [] 0xD0 0 0 0) (fun _ => true) = true ∧ wit k1 .put (en [] 0xC0 0 0 0) (fun _ => true) = true) ∧
    wit k1 .addp (en [] 0x70 0 0 1) (fun _ => true) = true ∧
    [AcOp.clra, .wra, .rda, .rdah, .wrah].all (fun o => wit k1 (.acc o) (en [] 0x30 0 0 79) (fun _ => true)) = true ∧
    (wit k1 .mfs (en [] 0 0 0 13) (fun _ => true) = true ∧ wit k1 .mts (en [] 0 0 0 13) (fun _ => true) = true ∧ wit k1 .mts (en [] 0 0 0 11) (fun _ => true) = true) ∧
    (encA (en [] 0xD0 0 0 0) = 13 ∧ encA (en [] 0xC0 0 0 0) ≠ 13) := by decide +kernel

/-- The repeatable class but MACD. -/
def strs : List EwOp := [.str .scpy, .str .sfil, .str .scmp, .str .sfnd, .str .scrc, .bxfr, .macd]
/-- A core whose sa and da are far addresses in DRAM; `n` iterations are asked for. -/
def k2 (n : W32) : Block := kb { st := 1, sa := 64, da := 128, ct := n }
/-- One iteration ends. -/
def iterOk (op : EwOp) (e : Enc) (b1 : Block) : Bool :=
  match (running b1 96 op e).iterate 96 (pcOf b1 96) op e with
  | .ok _ => true
  | .error _ => false
/-- The repeat ends, having come to its count or its condition. -/
def loopOk (op : EwOp) (e : Enc) (b1 : Block) : Bool :=
  match Block.repLoop 96 (pcOf b1 96) op e (b1.core 96).ct.toNat b1 with
  | .ok (true, _) => true
  | _ => false

/-- The hypotheses of RepeatableInstructions are met. -/
theorem witness_RepeatableInstructions :
    strs.all (fun o => wit (k2 0) o (en [] 0 0 0 0) (iterOk o (en [] 0 0 0 0)) && decide (repOf (en [] 0 0 0 0).pre = .none)) = true ∧
    strs.all (fun o => wit (k2 0) o (en [0xF4] 0 0 0 0) (fun b1 => decide ((b1.core 96).ct = 0))) = true ∧
    strs.all (fun o => wit (k2 2) o (en [0xF4] 0 0 0 0) (fun b1 => decide ((b1.core 96).ct ≠ 0) && loopOk o (en [0xF4] 0 0 0 0) b1)) = true ∧
    (wit (k2 2) (.str .sfnd) (en [0xF6] 0 0 0 0) (loopOk (.str .sfnd) (en [0xF6] 0 0 0 0)) = true ∧ wit (k2 2) (.str .scmp) (en [0xF5] 0 0 0 0) (loopOk (.str .scmp) (en [0xF5] 0 0 0 0)) = true) := by decide +kernel

/-- The hypotheses of EowiftRoundTrip are met. -/
theorem witness_EowiftRoundTrip :
    (encWf (.rmw .addm) (en [0xF8] 0x20 0xD4 8 0) = true ∧ (en [0xF8] 0x20 0xD4 8 0).par = false ∧ (en [0xF8] 0x20 0xD4 8 0).errs = [] ∧ (en [0xF8] 0x20 0xD4 8 0).cut = none) := by decide +kernel

/-- The hypotheses of AddSubFlags are met. -/
theorem witness_AddSubFlags :
    (opWidth 8 ∧ opWidth 64) := by decide +kernel

/-- The hypotheses of LogicAndShiftFlags are met. -/
theorem witness_LogicAndShiftFlags :
    (opWidth 64 ∧ 0 < 63 ∧ 63 < 64) := by decide +kernel

/-- The hypotheses of ProductsAndDivisions are met. -/
theorem witness_ProductsAndDivisions :
    (opWidth 8 ∧ 0xFF % 2 ^ 8 ≠ 0 ∧ sgn 8 0x80 = -2 ^ (8 - 1) ∧ sgn 8 0xFF = -1) ∧
    (¬(sgn 8 0x80 = -2 ^ (8 - 1) ∧ sgn 8 1 = -1)) := by decide +kernel

/-- The hypotheses of MasksAndPointers are met. -/
theorem witness_MasksAndPointers :
    ((0 : BitVec 80).setWidth 17 = (0 : BitVec 17) ∧ 2 ^ 16 ≤ (0x1FFFF : BitVec 80).toNat % 2 ^ 17 ∧ (0x1FFFF : BitVec 80).toNat % 2 ^ 17 < 2 ^ (16 + 1)) := by decide +kernel

/-- The hypotheses of LoadDelaySlots are met. -/
theorem witness_LoadDelaySlots :
    (({} : Core).loads = [] ∧ 3 ≠ 4) := by decide +kernel

/-- The hypotheses of TrapEntry are met. -/
theorem witness_TrapEntry :
    (k1.core 96).th = false ∧
    (((kb { st := 0x11 }).core 96).th = true ∧ ({ code := 1, tpc := 0 } : TrapIn).intr = false) ∧
    ({ code := 0, tpc := 0, intr := true } : TrapIn).intr = true := by decide +kernel

/-- The hypotheses of ReturnFromTrap are met. -/
theorem witness_ReturnFromTrap :
    (k1.core 96).th = false := by decide +kernel

/-- The hypotheses of InstructionFrame are met. -/
theorem witness_InstructionFrame :
    ((k1.core 96).ts = false ∧ (k1.core 96).loads = [] ∧ (k1.core 96).lates = [] ∧ (k1.core 96).watch = none ∧ (k1.core 96).acc = [] ∧ (k1.core 96).haltReq = none) := by decide +kernel

/-- The hypotheses of RegisterFieldsHold are met. -/
theorem witness_RegisterFieldsHold :
    (0 ≤ 31 ∧ 31 < 32 ∧ 31 ≤ 31) := by decide +kernel

/-- The hypotheses of AbsentPageWrites are met. -/
theorem witness_AbsentPageWrites :
    (rb.dark = false ∧ presentPageAt rb.variant (0x1FFFFF8 : BitVec 25).toNat = none ∧ (0x1FFFFF8 : BitVec 25).toNat % 8 = 0 ∧ (0x1FFFFF8 : BitVec 25).toNat % 4 = 0) := by decide +kernel

/-- The hypotheses of EventPendingReads are met. -/
theorem witness_EventPendingReads :
    (presentPageAt rb.variant (pageBase .chip 0 + 0x018) = some (.chip, 0) ∧ presentPageAt rb.variant (pageBase .cxCluster 11 + 0x018) = some (.cxCluster, 11)) := by decide +kernel

/-- CHIP events are enabled, with a route. -/
def evb (route ctl : W32) : Block := ((rb.wr (pgChip + 0x014) 1).wr (pgChip + 0x024) route).wr (pgChip + 0x140) ctl

/-- The hypotheses of EventBits are met. -/
theorem witness_EventBits :
    (pgChip % 0x1000 = 0 ∧ ((evb 0 0).evtMask pgChip).getLsbD 0 = true ∧ ((evb 0 0).rd (pgChip + 0x014)).getLsbD 0 = true ∧ ((evb 0 0).rd (pgChip + 0x010)).getLsbD 0 = false ∧ fld ((evb 0 0).rd (pgChip + 0x024)) 25 26 = 0) ∧
    (fld ((evb 0x02000000 1).rd (pgChip + 0x024)) 25 26 = 1 ∧ (evb 0x02000000 1).rdF (pgChip + 0x140) 0 0 = 1) ∧
    (fld ((evb 0x02000000 0).rd (pgChip + 0x024)) 25 26 = 1 ∧ (evb 0x02000000 0).rdF (pgChip + 0x140) 0 0 = 0) ∧
    (fld ((evb 0x06000000 0).rd (pgChip + 0x024)) 25 26 = 3 ∧ (rb.evtMask pgChip).getLsbD 31 = false) := by decide +kernel

/-- A full error queue. -/
def fullb : Block := rb.setErrQ pgChip { recs := List.replicate 16 (rb.mkRec pgChip { code := 1, sev := .corrected }) }

/-- The hypotheses of ErrorQueues are met. -/
theorem witness_ErrorQueues :
    ((rb.errQ pgChip).recs.length < 16 ∧ 16 ≤ (fullb.errQ pgChip).recs.length ∧ (fullb.errQ pgChip).recs.length ≤ 16 ∧ (3 : W32).getLsbD 0 = true ∧ (3 : W32).getLsbD 1 = true) := by decide +kernel

/-- The hypotheses of MemoryHolds are met. -/
theorem witness_MemoryHolds :
    Memory.wf rb.mem = true := by decide +kernel

/-- The hypotheses of ResetState are met. -/
theorem witness_ResetState :
    (presentPageAt State.reset.blk.variant (pageBase .chip 0) = some (.chip, 0) ∧ 95 < 96) := by decide +kernel

/-- The hypotheses of DebugAuthentication are met. -/
theorem witness_DebugAuthentication :
    ((dbb { checking := some (none, 0), fails := 8, lockout := true }).dbg.checking = some (none, 0) ∧ ((dbb { checking := some (none, 0) }).errQ (pageBase .dbg 0)).recs.length < 16) := by decide +kernel

/-- The hypotheses of TicketsStayInBudget are met. -/
theorem witness_TicketsStayInBudget :
    (rb.poolUsed .chip ≤ rb.poolBudget .chip ∧ rb.pa.held = []) := by decide +kernel

/-- A User-mode core with a window of 4 KiB at program address 4096. -/
def winb : Block := { rb with cx := { cores := [(0, { st := 0, wins := [⟨0x1000, 12, true, false, false, 4096⟩] })] } }

/-- The hypotheses of WindowTranslation are met. -/
theorem witness_WindowTranslation :
    ((winb.core 0).user = true ∧ (winb.core 0).wins[0]? = some ⟨0x1000, 12, true, false, false, 4096⟩ ∧ winMatches ⟨0x1000, 12, true, false, false, 4096⟩ 8191 ∧ Win.allows ⟨0x1000, 12, true, false, false, 4096⟩ .rd = true ∧ Win.allows ⟨0x1000, 12, true, false, false, 4096⟩ .wr = false) ∧
    (∀ w' ∈ (winb.core 0).wins, ¬winMatches w' 8192) ∧
    (∀ w' ∈ (winb.core 0).wins, ¬winMatches w' 4095) := by decide +kernel

/-- The rate hypothesis of LANE_SAT_WINDOW holds at reset: no lane has counted a command. -/
theorem witness_CommandEngineEvents_lanes :
    ∀ n : Nat, (rb.ce.laneLog.filter (fun e => e.1 == n && e.2.1 / 1000 == rb.usec / 1000)).length < 12500 := by
  intro n
  show (0 : Nat) < 12500
  decide
/-- A check that the port passes: the response is the code of the nonce and the fused identifier. -/
theorem witness_DebugAuthentication_pass :
    ∃ r, (dbb { checking := some (some 0, r) }).dbg.checking = some (some 0, r) ∧ (some (0 : BitVec 256)).map (fun m => Config.debugMac m rb.fuses.uid) = some r :=
  ⟨Config.debugMac 0 rb.fuses.uid, rfl, rfl⟩
/-- A ticket request at reset answers a next state, and no pool is over its budget before it. -/
theorem witness_TicketsStayInBudget_answers :
    (∀ p, rb.poolUsed p ≤ rb.poolBudget p) ∧ ∃ b', Answers (.ticketRequest none 1 5 1 false false) [] rb b' :=
  ⟨fun _ => Nat.zero_le _, ⟨_, rfl⟩⟩
/-- The row of ICINV is MTS with the number of ICINV. -/
theorem witness_RegisterMoveInstructions_icinv : ewOf (.ewIcinv 96 (en [] 0 0 0 11)) = some (96, .mts, en [] 0 0 0 11) := by decide +kernel
/-- Bytes that decode to a listed opcode. -/
theorem witness_EowiftDecodingIsExact : decodesTo [0x21, 0x21] (.alu .add) (en [] 0x21 0 0 0) ∧ EwOp.alu .add ≠ .reserved false ∧ EwOp.alu .add ≠ .reserved true := ⟨rfl, by decide, by decide⟩

/-! ### Decoding: bytes written out from the opcode tables of chapter 12 -/

theorem test_decode_control : decodesTo [0xF9, 0x06] .ret (en [0xF9] 0 0 0 0) ∧ decodesTo [0x02, 0x34, 0x12] .syscall (en [] 0 0 0 0x1234) := ⟨rfl, rfl⟩
theorem test_decode_arithmetic : decodesTo [0xF0, 0x21, 0x21] (.alu .add) (en [0xF0] 0x21 0 0 0) := rfl
theorem test_decode_memory : decodesTo [0xF1, 0x51, 0x30, 0x15, 0xFF] (.load .lds) (en [0xF1] 0x30 0x15 0xFF 0) := rfl
theorem test_decode_special : decodesTo [0x79, 0x13] (.acc .wra) (en [] 0x13 0 0 0) ∧ decodesTo [0x91, 0x10, 0x03] .mts (en [] 0x10 0 0 3) := ⟨rfl, rfl⟩
theorem test_decode_repeat : decodesTo [0xF4, 0x81] (.str .scpy) (en [0xF4] 0 0 0 0) ∧ decodesTo [0xF6, 0x84, 0x20] (.str .sfnd) (en [0xF6] 0x20 0 0 0) := ⟨rfl, rfl⟩
theorem test_decode_branch : decodesTo [0x12, 0xFE] (.bcc 2 false) (en [] 0 0 0 0xFE) ∧ decodesTo [0xE0, 0x1D, 0x04, 0x00, 0x00, 0x00] (.bcc 13 true) (en [] 0 0 0 4) := ⟨rfl, rfl⟩

/-! ### Well-formedness: an ill-formed term for each check -/

theorem test_wf_port : wellFormed (.evtSet 48 0 0) = false ∧ wellFormed (.evtSet 47 0 0) = true := by decide +kernel
theorem test_wf_core : wellFormed (.quantum 101) = false ∧ wellFormed (.quantum 100) = true := by decide +kernel
theorem test_wf_lane : wellFormed (.laneWake false 32) = false ∧ wellFormed (.laneWake true 63) = true := by decide +kernel
theorem test_wf_txn : wellFormed (.dramWrite { t1 with addr := 0xFFFFFFFFFFFF, len1 := 1 }) = false ∧ wellFormed (.dramWrite { t1 with addr := 0xFFFFFFFFFFFF, len1 := 0 }) = true := by decide +kernel
theorem test_wf_bytes : wellFormed (.pieceDurable 0 0 [(262144, 1)] true) = false ∧ wellFormed (.pieceDurable 0 0 [(262143, 1)] true) = true := by decide +kernel
theorem test_wf_ranges : wellFormed (.datasetManagement 0 { sq1 with ranges := List.replicate 257 (0, 0) }) = false := by decide +kernel
theorem test_wf_bank : wellFormed (.bankWake 5) = false ∧ wellFormed (.partitionEnable 0 5 0) = false := by decide +kernel
theorem test_wf_cluster : wellFormed (.dvfsStepUp 12) = false ∧ wellFormed (.clDlvWrite 0 12 0) = false := by decide +kernel
theorem test_wf_aging : wellFormed (.agingMeasure (List.replicate 17 0) [] true) = false := by decide +kernel
theorem test_wf_pll : wellFormed (.pllStop 16) = false ∧ wellFormed (.inputEdge 15 true) = false ∧ wellFormed (.inputStuck 15) = false := by decide +kernel
theorem test_wf_prefix : wellFormed (.ewAdd 0 (en [0x21] 0x21 0 0 0)) = false ∧ wellFormed (.ewAdd 0 (en [] 0x21 0 0 0)) = true := by decide +kernel
theorem test_wf_length : wellFormed (.ewSti 0 (en [0xF5, 0xF8] 0 0xB2 0 0)) = false := by decide +kernel
theorem test_wf_parts : wellFormed (.ewNop 0 (en [] 1 0 0 0)) = false ∧ wellFormed (.ewAdd 0 (en [] 0 1 0 0)) = false ∧ wellFormed (.ewLd 0 (en [] 0 0x94 256 0)) = false ∧ wellFormed (.ewAddi8 0 (en [] 0 0 0 256)) = false := by decide +kernel
theorem test_wf_reserved : wellFormed (.ewReserved 0 false (en [] 0 0 0 0)) = false ∧ encWf (.bcc 14 true) (en [] 0 0 0 0) = false := by decide +kernel

/-! ### One step each: expected values from the rules named -/

/-- A field of the block that the command leaves. -/
def after {α : Type} (o : Host.Outcome State Fault Refusal) (f : Block → α) : Option α :=
  match o with
  | .next s => some (f s.blk)
  | _ => none
/-- R578, R580: the sum wraps to 0, with Z and C. -/
theorem test_add_wraps : after (exec (.ewAdd 96 (en [] 0x21 0 0 0)) ⟨[], kb { st := 1, g := [(1, 0xFFFFFFFFFFFFFFFF), (2, 1)] }⟩) (fun b => ((b.core 96).getG 2, (b.core 96).fl, (b.core 96).pc)) =
    some (0, 5, 0x031000040002) := by decide +kernel
/-- R582, R549: a division by zero enters at TVEC + 8 × 0x40. -/
theorem test_div_zero : after (exec (.ewDiv 96 (en [] 0x12 0 0 0)) ⟨[], kb { st := 1, tvec := 0x1000 }⟩) (fun b => ((b.core 96).pc, (b.core 96).tpc)) = some (0x1200, 0x031000040000) := by decide +kernel
/-- R574: SYSCALL saves the address of the next instruction and the immediate. -/
theorem test_syscall : after (exec (.ewSyscall 96 (en [] 0 0 0 7)) ⟨[], kb { st := 1, tvec := 0x1000 }⟩) (fun b => ((b.core 96).pc, (b.core 96).tpc, (b.core 96).tinfo)) =
    some (0x1340, 0x031000040003, 7) := by decide +kernel
/-- R55: EVT_SET sets a bit of EVT_RAW. -/
theorem test_evt_set : after (exec (.evtSet 1 0 1) ⟨[], rb⟩) (fun b => b.rd (pgChip + 0x010)) = some 1 := by decide +kernel
/-- R81: a write to an absent page is counted and recorded. -/
theorem test_absent_write : after (exec (.registerWrite 1 0 0x1FFFFFC 3 5) ⟨[], rb⟩) (fun b => (b.rd (pgChip + 0x130), b.rd (pgChip + 0x134), ((b.errQ pgChip).recs.map (·.code)))) =
    some (0x1FFFFFC, 1, [5]) := by decide +kernel
/-- R70, R72: a wrong key is refused. -/
theorem test_reset_key : after (exec (.unitResetSoft 1 0x400 0x1234) ⟨[], rb⟩) (fun b => ((b.errQ pgBt).recs.map (·.code), b.pageReset pgBt)) = some ([3], 0) := by decide +kernel
/-- R683: a ticket is granted while the pool has room. -/
theorem test_ticket : after (exec (.ticketRequest none 1 500 1 false false) ⟨[], rb⟩) (fun b => b.poolUsed .chip) = some 500 := by decide +kernel
/-- R591, R517: MTS of ST reaches IE, QE, TS and TH alone. -/
theorem witness_SystemRegisters : ((k1.sysWrite 96 13 0xFF).core 96).st = 0x75 ∧ ((k1.sysWrite 96 11 0).sysRead 96 11).1 = 0 := by decide +kernel
/-- The queue's front runs, and the rest waits. -/
theorem test_step_front : (match step ⟨[.bypass, .smbusReset], rb⟩ with | .next s => s.pending | _ => []) = [.smbusReset] := by decide +kernel

end Sys2Proof.Tests
end

section
/-! Every command answers a next state with the queue as it was (O35), so a run takes one command off the queue per step and never
stops (O36). -/
namespace Sys2Proof.Claims
open Sys2Proof.Machine

/-- What the meaning of a command can be: one register access or the work of one core, each on the supply of its unit, a change of
logic that stops with its clocks (R696, R709), a change of the always-on domain (R678), or the rise of VDD_AON itself. The register
access stands first so that no register access is compared with the other forms, which would evaluate its page. -/
inductive Served (s : State) : Host.Outcome State Fault Refusal → Prop where
  | onReg (off : Nat) (f : Block → Block) : Served s (s.onReg off f)
  | onCore (core : BitVec 7) (f : Block → Block) : Served s (s.onCore core f)
  | clocked (f : Block → Block) : Served s (s.run f)
  | alwaysOn (f : Block → Block) : Served s (s.runAon f)
  | powerUp (jtagEn : Bool) : Served s (.next { s with blk := s.blk.aonRise jtagEn })

/-- Every row of the opcode table has one of these meanings; none is refused or faults. -/
theorem exec_served (c : Instr) (s : State) : Served s (exec c s) := by
  unfold exec
  cases c <;> constructor

/-- A served command answers a next state that differs in the block alone. -/
theorem Served.next {s : State} {o : Host.Outcome State Fault Refusal} (h : Served s o) : ∃ b' : Block, o = .next { s with blk := b' } := by
  cases h with
  | onReg off f =>
    unfold State.onReg
    split
    · exact ⟨s.blk.aon f, rfl⟩
    · exact ⟨s.blk.lit f, rfl⟩
  | onCore core f =>
    unfold State.onCore
    split
    · exact ⟨s.blk.aon f, rfl⟩
    · exact ⟨s.blk.lit f, rfl⟩
  | clocked f => exact ⟨s.blk.lit f, rfl⟩
  | alwaysOn f => exact ⟨s.blk.aon f, rfl⟩
  | powerUp jtagEn => exact ⟨s.blk.aonRise jtagEn, rfl⟩

/-- Settles O35: every meaning is a change of the block alone. -/
theorem everyCommandCompletes : Obligations.EveryCommandCompletes :=
  fun c q b => (exec_served c ⟨q, b⟩).next

/-- A step answers a next state, and takes the front command, if any, off the queue. -/
theorem step_next_tail (s : State) : ∃ b' : Block, step s = .next ⟨s.pending.tail, b'⟩ := by
  obtain ⟨q, b⟩ := s
  cases q with
  | nil => exact ⟨b.tick, rfl⟩
  | cons c cs => exact everyCommandCompletes c cs b

/-- A run whose first step answers `t` goes on from `t`. -/
theorem run_succ_of_step {M : Host.Core} {s t : M.State} (k : Nat) (h : M.step s = .next t) : M.run (k + 1) s = M.run k t := by
  simp only [Host.Core.run, h]

/-- After `k` steps the first `k` commands are off the queue, and the run has not stopped. -/
theorem run_next_drop (k : Nat) (s : State) : ∃ b' : Block, Host.Core.run core k s = .next ⟨s.pending.drop k, b'⟩ := by
  induction k generalizing s with
  | zero => exact ⟨s.blk, rfl⟩
  | succ k ih =>
    obtain ⟨b₁, hstep⟩ := step_next_tail s
    obtain ⟨b', hrun⟩ := ih ⟨s.pending.tail, b₁⟩
    refine ⟨b', ?_⟩
    calc
      Host.Core.run core (k + 1) s = Host.Core.run core k ⟨s.pending.tail, b₁⟩ := run_succ_of_step (M := core) k hstep
      _ = .next ⟨s.pending.tail.drop k, b'⟩ := hrun
      _ = .next ⟨s.pending.drop (k + 1), b'⟩ := by rw [List.drop_tail]

/-- No run ends in a fault or a refusal. -/
theorem run_safe (s : State) : Safe s := by
  intro k
  obtain ⟨b', hrun⟩ := run_next_drop k s
  exact ⟨_, hrun⟩

/-- Settles O36: `k` steps drop `k` commands, so as many steps as commands wait leave none. -/
theorem queueDrains : Obligations.QueueDrains := by
  refine ⟨fun s => ?_, run_safe⟩
  obtain ⟨b', hrun⟩ := run_next_drop s.pending.length s
  exact ⟨_, hrun, List.drop_length⟩

end Sys2Proof.Claims
end

section
/-! What a store of fabric memory leaves in every byte of it (R34). -/
namespace Sys2Proof.Machine

variable {w : Nat} (b : Block)

/-! ### Stores of a number -/

theorem Block.store_zero (a : Nat) (v : BitVec w) : b.store a 0 v = b := rfl

/-- The last byte of a store is written last. -/
theorem Block.store_succ (a n : Nat) (v : BitVec w) : b.store a (n + 1) v = (b.store a n v).setByte (a + n) (byteOf v n) := by
  simp only [Block.store, Block.each, List.range_succ, List.foldl_append, List.foldl_cons, List.foldl_nil]

theorem Block.byte_store_outside (a n : Nat) (v : BitVec w) {x : Nat} (hx : x < a ∨ a + n ≤ x) : (b.store a n v).byte x = b.byte x := by
  induction n with
  | zero => rw [Block.store_zero]
  | succ n ih => rw [Block.store_succ, Block.byte_setByte_ne _ _ _ _ (by omega), ih (by omega)]

theorem Block.byte_store_inside (a n : Nat) (v : BitVec w) {k : Nat} (hk : k < n) : (b.store a n v).byte (a + k) = byteOf v k := by
  induction n with
  | zero => omega
  | succ n ih =>
    rw [Block.store_succ]
    rcases Nat.lt_succ_iff_lt_or_eq.mp hk with hlt | rfl
    · rw [Block.byte_setByte_ne _ _ _ _ (by omega), ih hlt]
    · rw [Block.byte_setByte_same]

theorem Block.store_changes_mem_alone (a n : Nat) (v : BitVec w) : b.store a n v = { b with mem := (b.store a n v).mem } := by
  induction n with
  | zero => rfl
  | succ n ih =>
    rw [Block.store_succ]
    exact congrArg (fun y : Block => y.setByte (a + n) (byteOf v n)) ih

theorem byteOf_toNat (v : BitVec w) (k : Nat) : (byteOf v k).toNat = v.toNat / 256 ^ k % 256 := by
  simp only [byteOf, BitVec.toNat_setWidth, BitVec.toNat_ushiftRight, Nat.shiftRight_eq_div_pow, Nat.pow_mul]

/-- Memory that holds the low bytes of a value loads as the value's low digits to base 256. -/
theorem Block.load_of_bytes (a n : Nat) (v : BitVec w) (h : ∀ k, k < n → b.byte (a + k) = byteOf v k) : b.load a n = v.toNat % 256 ^ n := by
  induction n with
  | zero => simp [Block.load, Nat.mod_one]
  | succ n ih =>
    have hpow : (2 : Nat) ^ (8 * n) = 256 ^ n := Nat.pow_mul 2 8 n
    calc
      b.load a (n + 1) = b.load a n + (b.byte (a + n)).toNat * 2 ^ (8 * n) := rfl
      _ = v.toNat % 256 ^ n + v.toNat / 256 ^ n % 256 * 256 ^ n := by
        rw [ih (fun k hk => h k (by omega)), h n (by omega), byteOf_toNat, hpow]
      _ = v.toNat % 256 ^ (n + 1) := by rw [Nat.mod_pow_succ, Nat.mul_comm]

theorem Block.load_store (a n : Nat) (v : BitVec (8 * n)) : (b.store a n v).load a n = v.toNat := by
  have hlt : v.toNat < 256 ^ n := Nat.pow_mul 2 8 n ▸ v.isLt
  rw [Block.load_of_bytes _ a n v (fun _ hk => b.byte_store_inside a n v hk), Nat.mod_eq_of_lt hlt]

/-! ### Stores of a list -/

theorem Block.byte_storeBytes_outside (xs : List Byte) (a : Nat) {x : Nat} (hx : x < a ∨ a + xs.length ≤ x) :
    (b.storeBytes a xs).byte x = b.byte x := by
  induction xs generalizing b a with
  | nil => rfl
  | cons y ys ih =>
    rw [List.length_cons] at hx
    rw [Block.storeBytes, ih _ _ (by omega), Block.byte_setByte_ne _ _ _ _ (by omega)]

theorem Block.bytes_succ (a n : Nat) : b.bytes a (n + 1) = b.byte a :: b.bytes (a + 1) n := by
  simp only [Block.bytes, List.range_succ_eq_map, List.map_cons, List.map_map, Nat.add_zero, List.cons.injEq, true_and]
  exact List.map_congr_left (fun k _ => congrArg b.byte (by simp only [Nat.succ_eq_add_one]; omega))

theorem Block.bytes_storeBytes (xs : List Byte) (a : Nat) : (b.storeBytes a xs).bytes a xs.length = xs := by
  induction xs generalizing b a with
  | nil => rfl
  | cons y ys ih => rw [Block.storeBytes, List.length_cons, Block.bytes_succ, ih, Block.byte_storeBytes_outside _ _ _ (by omega), Block.byte_setByte_same]

theorem State.reset_mem_wf : Memory.wf State.reset.blk.mem = true := rfl

end Sys2Proof.Machine

namespace Sys2Proof.Claims
open Sys2Proof.Machine

/-- Settles O56: a store is a fold of byte stores, each of which is read back, leaves the other bytes alone and keeps the canonical form. -/
theorem memoryHolds : Obligations.MemoryHolds := fun b a n v xs =>
  ⟨b.load_store a n v, fun _ => b.byte_store_inside a n v, fun _ => b.byte_store_outside a n v, b.store_changes_mem_alone a n v,
    b.bytes_storeBytes xs a, fun _ => b.byte_storeBytes_outside xs a, fun h => ⟨b.store_wf a n v h, Block.storeBytes_wf xs b a h⟩,
    State.reset_mem_wf⟩

end Sys2Proof.Claims
end

section
/-! What a step does with the front of the queue, and what an empty queue lets happen (R48, R84, R168). -/
namespace Sys2Proof.Machine

variable (b : Block)

theorem Block.tick_off (h : b.hk.off = true) : b.tick = b := by simp [Block.tick, h]

theorem Block.tick_on (h : b.hk.off = false) : b.tick =
    ((b.elapse 1).each ((b.ce.ctlrs.filter (fun e => !e.2.unsent.isEmpty)).map (·.1)) Block.coalesced).lit Block.formatEnds := by
  simp [Block.tick, h]

theorem Block.lit_of_same (f : Block → Block) (h : f b = b) : b.lit f = b := by simp [Block.lit, h]

theorem Block.formatEnds_none (h : b.ft.fmt = none) : b.formatEnds = b := by simp [Block.formatEnds, h]

/-- With no interrupt to send and no format in progress, a microsecond passes and nothing else changes. -/
theorem Block.tick_idle (hon : b.hk.off = false) (hint : ∀ e ∈ b.ce.ctlrs, e.2.unsent = []) (hfmt : b.ft.fmt = none) : b.tick = b.elapse 1 := by
  have hnone : b.ce.ctlrs.filter (fun e => !e.2.unsent.isEmpty) = [] := List.filter_eq_nil_iff.mpr (fun e he => by simp [hint e he])
  rw [b.tick_on hon, hnone]
  exact (b.elapse 1).lit_of_same _ (Block.formatEnds_none _ hfmt)

theorem step_cons (c : Instr) (q : List Instr) : step ⟨c :: q, b⟩ = exec c ⟨q, b⟩ := rfl
theorem step_nil : step ⟨[], b⟩ = .next ⟨[], b.tick⟩ := rfl

end Sys2Proof.Machine

namespace Sys2Proof.Claims
open Sys2Proof.Machine

/-- Settles O34: a step on a queue with a front is `exec` of it, on an empty queue it is `Block.tick`. -/
theorem stepRunsTheFrontCommand : Obligations.StepRunsTheFrontCommand := by
  refine ⟨fun c s => step_cons s.blk c s.pending, fun c q b => step_cons b c q, fun b => ⟨fun hoff => ?_, fun hon => ?_, fun hon hint hfmt => ?_⟩⟩
  · rw [step_nil, b.tick_off hoff]
  · rw [step_nil, b.tick_on hon]
  · rw [step_nil, b.tick_idle hon hint hfmt]
    rfl

end Sys2Proof.Claims
end

section
/-! The life of a Big Top transaction: issue, grant, BUSY, timeout and promotion (R19-R26), and the substitution of a route (R657). -/
namespace Sys2Proof.Machine

variable (b : Block) {o : OpenTxn}

/-! ### The open transaction of a name -/

theorem Block.openOf_id {id : BitVec 16} (h : b.openOf id = some o) : o.txn.id = id := by
  simpa using List.find?_some h

theorem Block.openOf_append (h : b.openOf o.txn.id = none) :
    (b.onFab (fun f => { f with opened := f.opened ++ [o] })).openOf o.txn.id = some o := by
  rw [Block.openOf] at h
  simp [Block.openOf, h]

/-! ### Age promotion (R26) -/

/-- An open transaction as age promotion leaves it. -/
def Block.promoteTxn (b : Block) (o : OpenTxn) : OpenTxn := { o with promoted := o.promoted || b.aged o.promoted o.txn.cls.toNat o.born }

theorem Block.promoteTxn_promoted (h : b.aged o.promoted o.txn.cls.toNat o.born = true) : (b.promoteTxn o).promoted = true := by
  simp [Block.promoteTxn, h]

theorem Block.promoteAged_none (h : b.agedClasses = []) : b.promoteAged = b := by simp [Block.promoteAged, h]

theorem Block.each_inc_fab {α : Type} (xs : List α) (f : α → Nat) : (b.each xs (fun b x => b.inc (f x))).fab = b.fab := by
  induction xs generalizing b with
  | nil => rfl
  | cons x xs ih => exact (ih (b.inc (f x))).trans (b.addSat_fab (f x) 0 31 1)

theorem Block.promoteAged_opened (h : b.agedClasses ≠ []) : b.promoteAged.fab.opened = b.fab.opened.map b.promoteTxn := by
  have hne : b.agedClasses.isEmpty = false := by simpa using h
  simp only [Block.promoteAged, hne, Bool.false_eq_true, if_false, Block.onPa_fab, Block.onMs_fab, Block.onSe_fab, Block.onCz_fab, Block.onFc_fab,
    Block.onFab_fab, Block.each_inc_fab]
  rfl

theorem Block.openOf_promoteAged {id : BitVec 16} (h : b.agedClasses ≠ []) : b.promoteAged.openOf id = (b.openOf id).map b.promoteTxn := by
  rw [Block.openOf, b.promoteAged_opened h, List.find?_map]
  rfl

theorem Block.agedClasses_ne_nil (ho : o ∈ b.fab.opened) (hp : b.aged o.promoted o.txn.cls.toNat o.born = true) : b.agedClasses ≠ [] := by
  have hcls := List.mem_map_of_mem (f := fun x : OpenTxn => x.txn.cls.toNat)
    (List.mem_filter.mpr ⟨ho, hp⟩ : o ∈ b.fab.opened.filter (fun x => b.aged x.promoted x.txn.cls.toNat x.born))
  have hmem : o.txn.cls.toNat ∈ b.agedClasses := by simp only [Block.agedClasses, List.mem_append, hcls, true_or]
  exact List.ne_nil_of_mem hmem

theorem Block.promoted_of_aged {id : BitVec 16} (ho : b.openOf id = some o) (hp : b.aged o.promoted o.txn.cls.toNat o.born = true) :
    (b.promoteAged.openOf id).any (·.promoted) = true := by
  rw [b.openOf_promoteAged (b.agedClasses_ne_nil (List.mem_of_find?_eq_some ho) hp), ho]
  exact b.promoteTxn_promoted hp

/-- Once time has passed beyond the limit of its class, a transaction not promoted yet has aged. -/
theorem Block.aged_elapseTo {cls : Nat} (born : Nat) (hcls : cls ≠ 0) :
    (b.elapseTo (born + b.ageLimit cls + 1)).aged false cls born = true := by
  have hpast : (b.elapseTo (born + b.ageLimit cls + 1)).ageLimit cls < (b.elapseTo (born + b.ageLimit cls + 1)).usec - born := by
    show b.ageLimit cls < b.usec + (born + b.ageLimit cls + 1 - b.usec) - born
    omega
  simp [Block.aged, hcls, hpast]

theorem Block.agePromote_fabric {id : BitVec 16} (ho : b.openOf id = some o) (hcls : o.txn.cls.toNat ≠ 0) (hp : o.promoted = false) :
    b.agePromote (.fabric id) = (b.elapseTo (o.born + b.ageLimit o.txn.cls.toNat + 1)).promoteAged := by
  simp [Block.agePromote, Block.agedReq, ho, hp, hcls]

/-! ### Grant (R24) -/

theorem Block.atTarget_granted (h : o.granted = true) : b.atTarget o = some b := by simp [Block.atTarget, h]

theorem Block.atTarget_next (hwait : o.granted = false) (hnext : b.nextGrant (b.targetOf o.txn) = some o) : b.atTarget o =
    some (b.onFab (fun f => { f with
      opened := f.opened.filter (fun (x : OpenTxn) => x.txn.id ≠ o.txn.id) ++ [{ o with granted := true }]
      last := smPut f.last (b.targetOf o.txn) o.txn.port.toNat })) := by
  simp [Block.atTarget, hwait, hnext]

/-! ### The target's answer (R19, R21) -/

/-- Where no request has aged and the transaction gets to its target before its timeout, the target answers it: BUSY, or served in its
turn. -/
theorem Block.answerTxn_atTarget {y : Block} (busy : Bool) (errs : List CodeErr) (haged : b.agedClasses = []) (hopen : b.openOf o.txn.id = some o)
    (hat : b.atTarget o = some y) (hdue : y.usec < y.dueAt o) : b.answerTxn o busy errs =
      if busy || y.isBusy o.txn then y.busyAnswer { o with granted := true }
      else if y.itsTurn { o with granted := true } then (y.closeTxn o.txn.id).serve o.txn o.be errs (y.usec - o.born) o.promoted
      else y := by
  have hearly : ¬ y.dueAt { o with granted := true } ≤ y.usec := Nat.not_le.mpr hdue
  simp only [Block.answerTxn, b.promoteAged_none haged, hopen, Option.getD_some, hat, hearly, if_false]

/-- A BUSY answer to a transaction at its target. -/
theorem Block.busyReissue_granted {id : BitVec 16} (hopen : b.openOf id = some o) (hgranted : o.granted = true) (haged : b.agedClasses = [])
    (hdue : b.usec < b.dueAt o) : b.busyReissue id = b.busyAnswer o := by
  obtain rfl := b.openOf_id hopen
  have hsame : { o with granted := true } = o := by rw [← hgranted]
  rw [Block.busyReissue, hopen]
  simp only [b.answerTxn_atTarget true [] haged hopen (b.atTarget_granted hgranted) hdue, Bool.true_or, if_true, hsame]

theorem Block.busyAnswer_limit (h : b.busyLimit ≤ o.busy + 1) : b.busyAnswer o = (b.closeTxn o.txn.id).send (.fabResp o.txn.id .offline 0 0 0) := by
  simp [Block.busyAnswer, h]

theorem Block.busyAnswer_reissue (h : o.busy + 1 < b.busyLimit) : b.busyAnswer o =
    (b.elapse 1).modTxn o.txn.id (fun x => { x with busy := x.busy + 1, issued := b.usec + 1, granted := false }) := by
  rw [Block.busyAnswer, if_neg (Nat.not_le.mpr h)]
  rfl

/-! ### Timeout (R20) -/

/-- The port of an open transaction gives up on it at its expiry: the record carries its age then (R20, R23). -/
theorem Block.btTimeout_open {id : BitVec 16} (hopen : b.openOf id = some o) : b.btTimeout id =
    (let due := o.issued + b.rdF (pgBus + 0x100) 0 12
     let gone := (b.elapseTo due).closeTxn id
     (((gone.inc (pgBus + 0x110)).btRec (txnReq o.txn (due - o.born) o.promoted) o.txn.write 0x103 0).send
       (.fabResp id .timeout 0 0 0)).onFab (fun f => { f with dead := f.dead ++ [id] })) := by
  obtain rfl := b.openOf_id hopen
  rw [Block.btTimeout, hopen]
  rfl

/-! ### Issue (R15) -/

/-- A new transaction is issued, and its target answers it where it does so at once. -/
theorem Block.goTxn_new {t : Txn} (be : BitVec 256) (answers : Bool) (errs : List CodeErr) (hport : portPresent b.variant t.port.toNat = true)
    (hlive : b.fab.dead.contains t.id = false) (hnew : b.openOf t.id = none) : b.goTxn t be answers errs =
    (let o : OpenTxn := ⟨t, b.usec, b.usec, 0, false, false, be⟩
     let x := b.onFab (fun f => { f with opened := f.opened ++ [o] })
     if answers then x.answerTxn o false errs else x) := by
  simp only [Block.goTxn, hport, hlive, hnew, Bool.not_true, Bool.or_self, Bool.false_eq_true, if_false]

/-! ### Substitution of a route (R657) -/

/-- While a spare route remains after it, a substitution takes one and raises its events. -/
theorem Block.routeSubst_spare_left (r : Nat) (h : 1 < b.rdF (pgBt + 0x124) 4 7) : b.routeSubst r =
    (((((((b.addSat (pgBt + 0x124) 0 3 1).wrF (pgBt + 0x124) 4 7 (b.rdF (pgBt + 0x124) 4 7 - 1)).raise pgBt 4).setSpared pgBt true).noteSubst
      .route r false).spareRec 0x0202 .corrected pgBt (8 - b.rdF (pgBt + 0x124) 4 7)).raise pgHk 17) := by
  have hsome : b.rdF (pgBt + 0x124) 4 7 ≠ 0 := by omega
  have hmore : (b.rdF (pgBt + 0x124) 4 7 == 1) = false := beq_eq_false_iff_ne.mpr (by omega)
  simp only [Block.routeSubst, hsome, hmore, if_false, Block.onIf_false]

end Sys2Proof.Machine

namespace Sys2Proof.Claims
open Sys2Proof.Machine

/-- A command on clocked logic whose meaning makes `b'` of the block answers `b'` while its clocks run. -/
theorem answers_run {c : Instr} {q : List Instr} {b b' : Block} {f : Block → Block} (hdark : b.dark = false)
    (hmeans : exec c ⟨q, b⟩ = State.run ⟨q, b⟩ f) (hf : f b = b') : Answers c q b b' := by
  rw [Answers, hmeans, State.run_lit _ _ hdark, hf]

/-- A new transaction that its arbiter grants at once and its target serves at once (R19, R24). -/
theorem goTxn_served {b : Block} {t : Txn} (be : BitVec 256) (errs : List CodeErr) (hport : portPresent b.variant t.port.toNat = true)
    (hlive : b.fab.dead.contains t.id = false) (hnew : b.openOf t.id = none) (htime : 0 < b.rdF (pgBus + 0x100) 0 12)
    (haged : (issued b (freshBe b t be)).agedClasses = [])
    (hnext : (issued b (freshBe b t be)).nextGrant (b.targetOf t) = some (freshBe b t be))
    (hfree : (atPlace (issued b (freshBe b t be)) (freshBe b t be)).isBusy t = false)
    (hturn : (atPlace (issued b (freshBe b t be)) (freshBe b t be)).itsTurn { freshBe b t be with granted := true } = true) :
    b.goTxn t be true errs = (goneThrough b t be).serve t be errs 0 false := by
  have hat : (issued b (freshBe b t be)).atTarget (freshBe b t be) = some (atPlace (issued b (freshBe b t be)) (freshBe b t be)) :=
    Block.atTarget_next _ rfl hnext
  have hdue : (atPlace (issued b (freshBe b t be)) (freshBe b t be)).usec <
      (atPlace (issued b (freshBe b t be)) (freshBe b t be)).dueAt (freshBe b t be) := Nat.lt_add_of_pos_right htime
  have hage : (atPlace (issued b (freshBe b t be)) (freshBe b t be)).usec - b.usec = 0 := Nat.sub_self b.usec
  rw [b.goTxn_new be true errs hport hlive hnew]
  simp only [if_true, Block.answerTxn_atTarget _ false errs haged (b.openOf_append (o := freshBe b t be) hnew) hat hdue, hfree, hturn, hage,
    Bool.or_self, Bool.false_eq_true, if_false]

/-- Settles O3: each command by the case of its meaning that its conditions name. -/
theorem bigTopCommands : Obligations.BigTopCommands := by
  intro q b t errs id o route hdark
  have hclass : o.txn.cls ≠ 0 → o.txn.cls.toNat ≠ 0 := fun hne h => hne (BitVec.eq_of_toNat_eq h)
  refine ⟨fun hport hlive hnew => ⟨?issue, fun htime haged hnext hfree hturn => ?served⟩,
    fun hopen hgranted haged hdue => ⟨fun hlimit => ?offline, fun hlimit => ?reissue⟩, fun hopen => ?timeout, fun hdead => ?late,
    fun hopen hcls hp => ⟨?promote, ?promoted⟩, fun hleft => ?route⟩
  case issue => exact answers_run hdark rfl (b.goTxn_new _ false errs hport hlive hnew)
  case served => exact answers_run hdark rfl (goTxn_served _ errs hport hlive hnew htime haged hnext hfree hturn)
  case offline =>
    obtain rfl := b.openOf_id hopen
    exact answers_run hdark rfl ((b.busyReissue_granted hopen hgranted haged hdue).trans (b.busyAnswer_limit hlimit))
  case reissue =>
    obtain rfl := b.openOf_id hopen
    exact answers_run hdark rfl ((b.busyReissue_granted hopen hgranted haged hdue).trans (b.busyAnswer_reissue hlimit))
  case timeout => exact answers_run hdark rfl (b.btTimeout_open hopen)
  case late => exact answers_run hdark rfl (if_pos hdead)
  case promote => exact answers_run hdark rfl (b.agePromote_fabric hopen (hclass hcls) hp)
  case promoted => exact Block.promoted_of_aged _ hopen (hp ▸ b.aged_elapseTo o.born (hclass hcls))
  case route => exact answers_run hdark rfl (b.routeSubst_spare_left route.toNat hleft)

end Sys2Proof.Claims
end

section
/-! The register file: what a register reads after a write of it or of another one, and what a field holds after it is set (R43, R46). -/
namespace Sys2Proof.Machine

/-! ### Fields of a word -/

variable {lo hi : Nat}

theorem two_pow_above_field (hle : lo ≤ hi) : (2 : Nat) ^ (hi + 1) = 2 ^ (hi - lo + 1) * 2 ^ lo := by
  rw [← Nat.pow_add]; congr 1; omega

/-- A field in its place and what lies below it end where the field ends. -/
theorem field_add_below_lt (x y : Nat) (hle : lo ≤ hi) : x % 2 ^ (hi - lo + 1) * 2 ^ lo + y % 2 ^ lo < 2 ^ (hi + 1) := by
  have hbelow : y % 2 ^ lo < 2 ^ lo := Nat.mod_lt y (Nat.two_pow_pos lo)
  have hfield : (x % 2 ^ (hi - lo + 1) + 1) * 2 ^ lo ≤ 2 ^ (hi - lo + 1) * 2 ^ lo :=
    Nat.mul_le_mul_right _ (Nat.mod_lt x (Nat.two_pow_pos _))
  rw [Nat.add_one_mul] at hfield
  rw [two_pow_above_field hle]
  omega

/-- A word is what lies above a field, the field, and what lies below it. -/
theorem toNat_eq_above_fld_below (w : W32) (hle : lo ≤ hi) :
    w.toNat = w.toNat / 2 ^ (hi + 1) * 2 ^ (hi + 1) + fld w lo hi * 2 ^ lo + w.toNat % 2 ^ lo := by
  have habove : w.toNat / 2 ^ (hi + 1) = w.toNat / 2 ^ lo / 2 ^ (hi - lo + 1) := by
    rw [Nat.div_div_eq_div_mul, Nat.mul_comm, ← two_pow_above_field hle]
  calc
    w.toNat = w.toNat / 2 ^ lo * 2 ^ lo + w.toNat % 2 ^ lo := (Nat.div_add_mod' _ _).symm
    _ = (w.toNat / 2 ^ (hi + 1) * 2 ^ (hi - lo + 1) + fld w lo hi) * 2 ^ lo + w.toNat % 2 ^ lo := by
      rw [habove, fld, Nat.shiftRight_eq_div_pow, Nat.div_add_mod' (w.toNat / 2 ^ lo)]
    _ = _ := by rw [two_pow_above_field hle, Nat.add_mul, Nat.mul_assoc]

/-- Setting a field keeps what lies above it and below it. -/
theorem setFld_toNat (w : W32) (x : Nat) (hle : lo ≤ hi) (hhi : hi < 32) :
    (setFld w lo hi x).toNat = w.toNat / 2 ^ (hi + 1) * 2 ^ (hi + 1) + x % 2 ^ (hi - lo + 1) * 2 ^ lo + w.toNat % 2 ^ lo := by
  have hword := toNat_eq_above_fld_below w hle
  have hfield := field_add_below_lt x w.toNat hle
  have habove : (w.toNat / 2 ^ (hi + 1) + 1) * 2 ^ (hi + 1) ≤ 2 ^ 32 := by
    have hwhole : (2 : Nat) ^ 32 = 2 ^ (31 - hi) * 2 ^ (hi + 1) := by rw [← Nat.pow_add]; congr 1; omega
    rw [hwhole]
    exact Nat.mul_le_mul_right _ (Nat.div_lt_of_lt_mul (by rw [Nat.mul_comm, ← hwhole]; exact w.isLt))
  rw [Nat.add_one_mul] at habove
  rw [setFld, BitVec.toNat_ofNat, Nat.mod_eq_of_lt (by omega)]
  omega

theorem fld_setFld (w : W32) (x : Nat) (hle : lo ≤ hi) (hhi : hi < 32) : fld (setFld w lo hi x) lo hi = x % 2 ^ (hi - lo + 1) := by
  have hbelow : w.toNat % 2 ^ lo < 2 ^ lo := Nat.mod_lt _ (Nat.two_pow_pos lo)
  rw [fld, Nat.shiftRight_eq_div_pow, setFld_toNat w x hle hhi, two_pow_above_field hle, ← Nat.mul_assoc, ← Nat.add_mul,
    Nat.add_comm (_ * 2 ^ lo), Nat.add_mul_div_right _ _ (Nat.two_pow_pos lo), Nat.div_eq_of_lt hbelow, Nat.zero_add, Nat.mul_add_mod', Nat.mod_mod]

theorem setFld_mod_below (w : W32) (x : Nat) (hle : lo ≤ hi) (hhi : hi < 32) : (setFld w lo hi x).toNat % 2 ^ lo = w.toNat % 2 ^ lo := by
  rw [setFld_toNat w x hle hhi, two_pow_above_field hle, ← Nat.mul_assoc, ← Nat.add_mul, Nat.mul_add_mod', Nat.mod_mod]

theorem setFld_div_above (w : W32) (x : Nat) (hle : lo ≤ hi) (hhi : hi < 32) :
    (setFld w lo hi x).toNat / 2 ^ (hi + 1) = w.toNat / 2 ^ (hi + 1) := by
  rw [setFld_toNat w x hle hhi, Nat.add_assoc, Nat.add_comm, Nat.add_mul_div_right _ _ (Nat.two_pow_pos _),
    Nat.div_eq_of_lt (field_add_below_lt x w.toNat hle), Nat.zero_add]

theorem setFld_getLsbD_outside (w : W32) (x : Nat) (hle : lo ≤ hi) (hhi : hi < 32) {k : Nat} (hk : k < lo ∨ hi < k) :
    (setFld w lo hi x).getLsbD k = w.getLsbD k := by
  rcases hk with hlt | hgt
  · have hbit (y : W32) : y.getLsbD k = (y.toNat % 2 ^ lo).testBit k := by simp [BitVec.getLsbD, Nat.testBit_mod_two_pow, hlt]
    rw [hbit, hbit, setFld_mod_below w x hle hhi]
  · have hbit (y : W32) : y.getLsbD k = (y.toNat / 2 ^ (hi + 1)).testBit (k - (hi + 1)) := by
      rw [BitVec.getLsbD, Nat.testBit_div_two_pow]; congr 1; omega
    rw [hbit, hbit, setFld_div_above w x hle hhi]

theorem fld_whole (w : W32) : fld w 0 31 = w.toNat := Nat.mod_eq_of_lt w.isLt

/-! ### Registers -/

theorem smFind_smSet_ne {α : Type} [DecidableEq α] (d : α) (m : SMap α) (v : α) {k j : Nat} (h : j ≠ k) :
    smFind (smSet d m k v) j = smFind m j := by
  unfold smSet
  split
  · exact smFind_smErase_ne m k j h
  · exact smFind_smPut_ne m k j v h

variable (b : Block)

@[simp] theorem Block.rd_wr_same (off : Nat) (v : W32) : (b.wr off v).rd off = v := smGet_smSet_same _ b.regs off v

theorem Block.rd_wr_ne {off off' : Nat} (v : W32) (h : off' ≠ off) : (b.wr off v).rd off' = b.rd off' :=
  congrArg (·.getD (regReset b.variant off')) (smFind_smSet_ne _ b.regs v h)

theorem Block.rd_wrF_same (off lo hi x : Nat) : (b.wrF off lo hi x).rd off = setFld (b.rd off) lo hi x := b.rd_wr_same off _

theorem Block.rd_wrF_ne {off off' : Nat} (lo hi x : Nat) (h : off' ≠ off) : (b.wrF off lo hi x).rd off' = b.rd off' := b.rd_wr_ne _ h

/-! ### Counters -/

theorem Block.rd_inc_same (off : Nat) : ((b.inc off).rd off).toNat = min ((b.rd off).toNat + 1) (2 ^ 32 - 1) := by
  have hsmall : min ((b.rd off).toNat + 1) (2 ^ 32 - 1) < 2 ^ 32 := by omega
  calc
    ((b.inc off).rd off).toNat = fld (setFld (b.rd off) 0 31 (min (fld (b.rd off) 0 31 + 1) (2 ^ 32 - 1))) 0 31 := by
      rw [fld_whole, Block.inc, Block.addSat, Block.wrSat, Block.rd_wrF_same]; rfl
    _ = min ((b.rd off).toNat + 1) (2 ^ 32 - 1) := by
      rw [fld_setFld _ _ (by omega) (by omega), fld_whole]; exact Nat.mod_eq_of_lt hsmall

@[simp] theorem Block.inc_outbox (off : Nat) : (b.inc off).outbox = b.outbox := rfl

theorem Block.rd_inc_ne {off off' : Nat} (h : off' ≠ off) : (b.inc off).rd off' = b.rd off' := b.rd_wrF_ne _ _ _ h

end Sys2Proof.Machine

namespace Sys2Proof.Claims
open Sys2Proof.Machine

/-- Settles O51: a write of a field is a write of its register with the field set. -/
theorem registerFieldsHold : Obligations.RegisterFieldsHold := by
  intro b off lo hi x hle hhi
  refine ⟨?_, fun k _ hk => ?_, fun off' hne => b.rd_wrF_ne lo hi x hne, b.wrF_mem off lo hi x, b.wrF_errs off lo hi x⟩
  · rw [Block.rdF, b.rd_wrF_same, fld_setFld _ _ hle hhi]
  · rw [b.rd_wrF_same, setFld_getLsbD_outside _ _ hle hhi hk]

end Sys2Proof.Claims
end

section
/-! What a read finds on a page: the page that holds an offset holds the whole page (R43, R45), its header registers (R49, R54), and what
they hold after reset (R50). -/
namespace Sys2Proof.Machine

/-! ### The page that holds an offset -/

/-- Where a bound is the start of a page, an offset within a page lies below it as the page's start does. -/
theorem page_add_lt_iff {pg o k : Nat} (hpg : pg % 0x1000 = 0) (ho : o < 0x1000) (hk : k % 0x1000 = 0) : pg + o < k ↔ pg < k := by omega

theorem unitOf_page_add {pg o : Nat} (hpg : pg % 0x1000 = 0) (ho : o < 0x1000) : unitOf (pg + o) = unitOf pg := by
  unfold unitOf
  iterate 15 refine if_congr (page_add_lt_iff hpg ho rfl) rfl ?_
  rfl

theorem pageAt_page_add {pg o : Nat} (hpg : pg % 0x1000 = 0) (ho : o < 0x1000) : pageAt (pg + o) = pageAt pg := by
  obtain ⟨hunit, hbase⟩ := unitOf_spec pg
  have hstart := unitBase_page (unitOf pg) hunit
  have hindex : (pg + o - unitBase (unitOf pg)) / 0x1000 = (pg - unitBase (unitOf pg)) / 0x1000 := by omega
  rw [pageAt, unitOf_page_add hpg ho, hindex, pageAt]

theorem presentPageAt_page_add (v : Variant) {pg o : Nat} (hpg : pg % 0x1000 = 0) (ho : o < 0x1000) :
    presentPageAt v (pg + o) = presentPageAt v pg := by
  rw [presentPageAt, pageAt_page_add hpg ho, presentPageAt]

theorem pageBase_mod (c : PageClass) (i : Nat) : pageBase c i % 0x1000 = 0 := by
  have hunit : unitBase c.unit % 0x1000 = 0 := by cases c <;> rfl
  rw [pageBase]
  omega

theorem pageBase_add_mod (c : PageClass) (i : Nat) {o : Nat} (ho : o < 0x1000) : (pageBase c i + o) % 0x1000 = o := by
  have hpage := pageBase_mod c i
  omega

/-! ### Reads of the header -/

variable (b : Block) {c : PageClass} {i o : Nat} {r : Reg}

theorem regAtPage_header (v : Variant) (c : PageClass) (i : Nat) (ho : o < 0x100) : regAtPage v c i o = regIn headerRegs o := if_pos ho

/-- A header register of a present page reads as computed, or as stored. -/
theorem Block.view_header (hp : presentPageAt b.variant (pageBase c i + o) = some (c, i)) (ho : o < 0x100) (hr : regIn headerRegs o = some r) :
    b.view (pageBase c i + o) = (b.viewHeader (pageBase c i) o).getD (if r.readable then b.rd (pageBase c i + o) else 0) := by
  simp only [Block.view, hp, pageBase_add_mod c i (show o < 0x1000 by omega), regAtPage_header _ _ _ ho, hr, Block.viewPage, ho, if_true]
  cases b.viewHeader (pageBase c i) o <;> rfl

theorem Block.view_header_stored (hp : presentPageAt b.variant (pageBase c i + o) = some (c, i)) (ho : o < 0x100)
    (hr : regIn headerRegs o = some r) (hread : r.readable = true) (hstored : b.viewHeader (pageBase c i) o = none) :
    b.view (pageBase c i + o) = b.rd (pageBase c i + o) := by
  rw [b.view_header hp ho hr, hstored, hread]
  rfl

/-! ### After reset -/

theorem regReset_pageRev (v : Variant) (hp : presentPageAt v (pageBase c i + 0x004) = some (c, i)) : regReset v (pageBase c i + 0x004) = 0x100 := by
  simp only [regReset, hp, pageBase_add_mod c i (show 0x004 < 0x1000 by decide)]
  rfl

/-- A header register beyond the identification resets to what its fields say. -/
theorem regReset_header (v : Variant) (hp : presentPageAt v (pageBase c i + o) = some (c, i)) (hid : 8 < o) (ho : o < 0x100)
    (hr : regIn headerRegs o = some r) : regReset v (pageBase c i + o) = resetWord r.flds := by
  have h0 : o ≠ 0 := by omega
  have h4 : o ≠ 4 := by omega
  have h8 : o ≠ 8 := by omega
  simp only [regReset, hp, pageBase_add_mod c i (show o < 0x1000 by omega), h0, h4, h8, if_false, regAtPage_header _ _ _ ho, hr]

theorem Block.rd_of_regs_nil (h : b.regs = []) (off : Nat) : b.rd off = regReset b.variant off := by rw [Block.rd, h]; rfl

theorem coreReset_cluster (h : i < 96) : coreReset i = {} := by simp [coreReset, coreKind, h]

theorem Block.core_of_cores_nil (h : b.cx.cores = []) (i : Nat) : b.core i = coreReset i := by rw [Block.core, h]; rfl

end Sys2Proof.Machine

namespace Sys2Proof.Claims
open Sys2Proof.Machine

/-- Settles O53: EVT_PEND is a computed header register of every page. -/
theorem eventPendingReads : Obligations.EventPendingReads := by
  intro b c i hp
  rw [b.view_header hp (by decide) rfl]
  rfl

/-- A stored header register of a present page reads its reset value after reset. -/
theorem reset_view_header {c : PageClass} {i o : Nat} {r : Reg} (hp : presentPageAt State.reset.blk.variant (pageBase c i) = some (c, i))
    (ho : o < 0x100) (hr : regIn headerRegs o = some r) (hread : r.readable = true)
    (hstored : State.reset.blk.viewHeader (pageBase c i) o = none) :
    presentPageAt State.reset.blk.variant (pageBase c i + o) = some (c, i) ∧
      State.reset.blk.view (pageBase c i + o) = regReset State.reset.blk.variant (pageBase c i + o) := by
  have hp' : presentPageAt State.reset.blk.variant (pageBase c i + o) = some (c, i) :=
    (presentPageAt_page_add _ (pageBase_mod c i) (by omega)).trans hp
  exact ⟨hp', (State.reset.blk.view_header_stored hp' ho hr hread hstored).trans (Block.rd_of_regs_nil _ rfl _)⟩

/-- Settles O57: no register and no core has been written, so each reads its reset value. -/
theorem resetState : Obligations.ResetState := by
  refine ⟨rfl, rfl, rfl, rfl, rfl, rfl, rfl, rfl, rfl, rfl, fun c i hp => ⟨?rev, ?raw, ?route⟩, fun i hi => ?core, rfl, rfl⟩
  case rev =>
    obtain ⟨hp', hview⟩ := reset_view_header (o := 0x004) hp (by decide) rfl rfl rfl
    rw [hview, regReset_pageRev _ hp']
  case raw =>
    obtain ⟨hp', hview⟩ := reset_view_header (o := 0x010) hp (by decide) rfl rfl rfl
    rw [hview, regReset_header _ hp' (by decide) (by decide) rfl]
    decide
  case route =>
    obtain ⟨hp', hview⟩ := reset_view_header (o := 0x024) hp (by decide) rfl rfl rfl
    rw [hview, regReset_header _ hp' (by decide) (by decide) rfl]
    decide
  case core =>
    rw [Block.core_of_cores_nil _ rfl, coreReset_cluster hi]
    exact ⟨rfl, rfl, rfl⟩

end Sys2Proof.Claims
end

section
/-! Events (R53-R60): what an interrupt message and a change of EVT_RAW and EVT_EN leave in the registers, and which message leaves. -/
namespace Sys2Proof.Machine

variable (b : Block) {pg : Nat}

@[simp] theorem Block.rd_send (m : Msg) (off : Nat) : (b.send m).rd off = b.rd off := rfl
@[simp] theorem Block.rd_onCx (f : CxSt → CxSt) (off : Nat) : (b.onCx f).rd off = b.rd off := rfl
@[simp] theorem Block.rd_setErrQ (pg : Nat) (q : ErrQ) (off : Nat) : (b.setErrQ pg q).rd off = b.rd off := rfl

/-! ### Interrupt messages (R57-R60) -/

/-- EVT_ROUTE.DEST of a page. -/
def Block.evtDest (b : Block) (pg : Nat) : Nat := fld (b.rd (pg + 0x024)) 25 26
/-- The message to firmware that EVT_ROUTE of a page names (R58). -/
def Block.fwMsg (b : Block) (pg : Nat) : Msg :=
  .fwInt (BitVec.ofNat 8 (fld (b.rd (pg + 0x024)) 0 7)) (BitVec.ofNat 6 (fld (b.rd (pg + 0x024)) 19 24))
/-- The message to the host that EVT_ROUTE of a page names (R59). -/
def Block.hostMsg (b : Block) (pg : Nat) : Msg := .msix 0 (BitVec.ofNat 11 (fld (b.rd (pg + 0x024)) 8 18))

theorem Block.sendInt_firmware (h : b.evtDest pg = 0) : b.sendInt pg = (b.send (b.fwMsg pg)).onCx (fun x =>
    { x with kInts := x.kInts ++ [(fld (b.rd (pg + 0x024)) 0 7, fld (b.rd (pg + 0x024)) 19 24)] }) := by
  rw [Block.evtDest] at h
  simp only [Block.sendInt, h]
  rfl

theorem Block.sendInt_host (h : b.evtDest pg = 1) :
    b.sendInt pg = if b.rdF (pgChip + 0x140) 0 0 = 1 then b.send (b.hostMsg pg) else b.inc (pgChip + 0x13C) := by
  rw [Block.evtDest] at h
  simp only [Block.sendInt, h]
  rfl

theorem Block.sendInt_nowhere (h : b.evtDest pg = 3) : b.sendInt pg = b := by
  rw [Block.evtDest] at h
  simp only [Block.sendInt, h]
  rfl

/-- Of the registers, an interrupt message can change ROUTE_DROP alone (R59). -/
theorem Block.rd_sendInt_ne {off : Nat} (h : off ≠ pgChip + 0x13C) : (b.sendInt pg).rd off = b.rd off := by
  simp only [Block.sendInt, Block.onIf]
  repeat' split
  all_goals simp only [Block.rd_send, Block.rd_onCx, Block.rd_inc_ne _ h]

/-! ### A change of EVT_RAW and EVT_EN (R54, R57) -/

/-- EVT_RAW and EVT_EN of a page stored. -/
def Block.putEvt (b : Block) (pg : Nat) (raw en : W32) : Block := (b.wr (pg + 0x010) raw).wr (pg + 0x014) en

@[simp] theorem Block.putEvt_outbox (raw en : W32) : (b.putEvt pg raw en).outbox = b.outbox := by
  simp only [Block.putEvt, Block.wr_outbox]

@[simp] theorem Block.rd_putEvt_raw (raw en : W32) : (b.putEvt pg raw en).rd (pg + 0x010) = raw := by
  rw [Block.putEvt, Block.rd_wr_ne _ _ (by omega), Block.rd_wr_same]

@[simp] theorem Block.rd_putEvt_en (raw en : W32) : (b.putEvt pg raw en).rd (pg + 0x014) = en := Block.rd_wr_same _ _ _

theorem Block.rd_putEvt_ne (raw en : W32) {off : Nat} (hraw : off ≠ pg + 0x010) (hen : off ≠ pg + 0x014) :
    (b.putEvt pg raw en).rd off = b.rd off := by
  rw [Block.putEvt, Block.rd_wr_ne _ _ hen, Block.rd_wr_ne _ _ hraw]

/-- A message leaves exactly when a bit of EVT_PEND rises (R57). -/
theorem Block.setEvt_eq (raw en : W32) : b.setEvt pg raw en =
    if raw &&& en &&& ~~~(b.rd (pg + 0x010) &&& b.rd (pg + 0x014)) = 0 then b.putEvt pg raw en else (b.putEvt pg raw en).sendInt pg := rfl

theorem Block.rd_setEvt {raw en : W32} {off : Nat} (h : off ≠ pgChip + 0x13C) : (b.setEvt pg raw en).rd off = (b.putEvt pg raw en).rd off := by
  rw [Block.setEvt_eq]
  split
  · rfl
  · exact Block.rd_sendInt_ne _ h

/-- ROUTE_DROP lies on the CHIP page beyond the header. -/
theorem ne_routeDrop_of_header {o : Nat} (hpg : pg % 0x1000 = 0) (ho : o < 0x100) : pg + o ≠ pgChip + 0x13C := by
  have hchip : pgChip = 0 := rfl
  omega

theorem Block.rd_setEvt_raw (raw en : W32) (hpg : pg % 0x1000 = 0) : (b.setEvt pg raw en).rd (pg + 0x010) = raw := by
  rw [b.rd_setEvt (ne_routeDrop_of_header hpg (by decide)), Block.rd_putEvt_raw]

theorem Block.rd_setEvt_en (raw en : W32) (hpg : pg % 0x1000 = 0) : (b.setEvt pg raw en).rd (pg + 0x014) = en := by
  rw [b.rd_setEvt (ne_routeDrop_of_header hpg (by decide)), Block.rd_putEvt_en]

theorem Block.rd_setEvt_ne {raw en : W32} {off : Nat} (hraw : off ≠ pg + 0x010) (hen : off ≠ pg + 0x014) (hdrop : off ≠ pgChip + 0x13C) :
    (b.setEvt pg raw en).rd off = b.rd off := by
  rw [b.rd_setEvt hdrop, b.rd_putEvt_ne _ _ hraw hen]

/-- Clearing bits of EVT_RAW makes no bit of EVT_PEND rise. -/
theorem pend_of_cleared (raw en d : W32) : (raw &&& ~~~d) &&& en &&& ~~~(raw &&& en) = 0 := by
  ext k hk
  simp only [BitVec.getElem_and, BitVec.getElem_not]
  cases raw[k] <;> cases en[k] <;> simp

theorem Block.evtClr_eq (d : W32) : b.evtClr pg d = b.putEvt pg (b.rd (pg + 0x010) &&& ~~~d) (b.rd (pg + 0x014)) := by
  rw [Block.evtClr, Block.setEvt_eq, if_pos (pend_of_cleared _ _ d)]

/-! ### Events that occur (R53) -/

/-- Events of the HK and PA pages interrupt the Eowift-S core (R679). -/
def Block.sIrqOf (b : Block) (pg : Nat) : Block :=
  b.onIf (decide (0x100000 ≤ pg ∧ pg < 0x300000)) (fun b => b.onCx (fun x => { x with sIrq := true }))

@[simp] theorem Block.sIrqOf_outbox : (b.sIrqOf pg).outbox = b.outbox := by
  simp only [Block.sIrqOf, Block.onIf]; split <;> rfl

@[simp] theorem Block.rd_sIrqOf (off : Nat) : (b.sIrqOf pg).rd off = b.rd off := by
  simp only [Block.sIrqOf, Block.onIf]; split <;> rfl

@[simp] theorem Block.evtMask_sIrqOf : (b.sIrqOf pg).evtMask pg = b.evtMask pg := by
  simp only [Block.sIrqOf, Block.onIf]; split <;> rfl

theorem Block.raiseMask_eq (m : W32) : b.raiseMask pg m =
    (b.sIrqOf pg).setEvt pg (b.rd (pg + 0x010) ||| (m &&& b.evtMask pg)) (b.rd (pg + 0x014)) := by
  rw [← b.rd_sIrqOf (pg := pg), ← b.rd_sIrqOf (pg := pg), ← b.evtMask_sIrqOf]
  rfl

theorem Block.rd_raiseMask_raw (m : W32) (hpg : pg % 0x1000 = 0) :
    (b.raiseMask pg m).rd (pg + 0x010) = b.rd (pg + 0x010) ||| (m &&& b.evtMask pg) := by
  rw [b.raiseMask_eq, Block.rd_setEvt_raw _ _ _ hpg]

theorem Block.rd_raiseMask_en (m : W32) (hpg : pg % 0x1000 = 0) : (b.raiseMask pg m).rd (pg + 0x014) = b.rd (pg + 0x014) := by
  rw [b.raiseMask_eq, Block.rd_setEvt_en _ _ _ hpg]

theorem Block.rd_raiseMask_ne (m : W32) {off : Nat} (hraw : off ≠ pg + 0x010) (hen : off ≠ pg + 0x014) (hdrop : off ≠ pgChip + 0x13C) :
    (b.raiseMask pg m).rd off = b.rd off := by
  rw [b.raiseMask_eq, Block.rd_setEvt_ne _ hraw hen hdrop, Block.rd_sIrqOf]

/-- The mask of one event bit. -/
theorem getLsbD_eventBit {k j : Nat} (hj : j < 32) : (BitVec.ofNat 32 (2 ^ k)).getLsbD j = decide (k = j) := by
  rw [BitVec.getLsbD_ofNat, Nat.testBit_two_pow, decide_eq_true hj, Bool.true_and]

theorem Block.rd_raise_raw_bit (k : Nat) (hpg : pg % 0x1000 = 0) {j : Nat} (hj : j < 32) : ((b.raise pg k).rd (pg + 0x010)).getLsbD j =
    ((b.rd (pg + 0x010)).getLsbD j || (decide (k = j) && (b.evtMask pg).getLsbD j)) := by
  rw [Block.raise, b.rd_raiseMask_raw _ hpg, BitVec.getLsbD_or, BitVec.getLsbD_and, getLsbD_eventBit hj]

/-- The bit of EVT_PEND of an event that occurs rises: it is implemented, enabled, and not set yet (R57). -/
def Block.pendRises (b : Block) (pg k : Nat) : Bool :=
  (b.evtMask pg).getLsbD k && (b.rd (pg + 0x014)).getLsbD k && !(b.rd (pg + 0x010)).getLsbD k

theorem pend_after_event_eq_zero_iff (raw en mask : W32) {k : Nat} (hk : k < 32) :
    (raw ||| (BitVec.ofNat 32 (2 ^ k) &&& mask)) &&& en &&& ~~~(raw &&& en) = 0 ↔ (mask.getLsbD k && en.getLsbD k && !raw.getLsbD k) = false := by
  have hbit (j : Nat) (hj : j < 32) : ((raw ||| (BitVec.ofNat 32 (2 ^ k) &&& mask)) &&& en &&& ~~~(raw &&& en)).getLsbD j =
      (decide (k = j) && (mask.getLsbD j && en.getLsbD j && !raw.getLsbD j)) := by
    simp only [BitVec.getLsbD_and, BitVec.getLsbD_or, BitVec.getLsbD_not, getLsbD_eventBit hj, hj, decide_true, Bool.true_and]
    cases raw.getLsbD j <;> cases en.getLsbD j <;> simp
  constructor
  · intro hzero
    have hk' := hbit k hk
    rw [hzero] at hk'
    simpa using hk'.symm
  · intro hquiet
    refine BitVec.eq_of_getLsbD_eq (fun j hj => ?_)
    rw [hbit j hj]
    by_cases hkj : k = j
    · subst hkj; simp [hquiet]
    · simp [hkj]

/-- The block once EVT_RAW holds the bit of an event, before its message (R53). -/
def Block.raised (b : Block) (pg k : Nat) : Block :=
  (b.sIrqOf pg).putEvt pg (b.rd (pg + 0x010) ||| (BitVec.ofNat 32 (2 ^ k) &&& b.evtMask pg)) (b.rd (pg + 0x014))

/-- One event: EVT_RAW takes its bit, and one message leaves where its bit of EVT_PEND rises. -/
theorem Block.raise_eq {k : Nat} (hk : k < 32) : b.raise pg k = if b.pendRises pg k then (b.raised pg k).sendInt pg else b.raised pg k := by
  have hpend := pend_after_event_eq_zero_iff (b.rd (pg + 0x010)) (b.rd (pg + 0x014)) (b.evtMask pg) hk
  rw [← Block.pendRises] at hpend
  rw [Block.raise, b.raiseMask_eq, Block.setEvt_eq, Block.rd_sIrqOf, Block.rd_sIrqOf]
  cases h : b.pendRises pg k
  · rw [if_pos (hpend.mpr h)]; rfl
  · rw [if_neg (mt hpend.mp (by simp [h]))]; rfl

@[simp] theorem Block.raised_outbox (k : Nat) : (b.raised pg k).outbox = b.outbox := by
  rw [Block.raised, Block.putEvt_outbox, Block.sIrqOf_outbox]

theorem Block.rd_raised_ne (k : Nat) {off : Nat} (hraw : off ≠ pg + 0x010) (hen : off ≠ pg + 0x014) : (b.raised pg k).rd off = b.rd off := by
  rw [Block.raised, Block.rd_putEvt_ne _ _ _ hraw hen, Block.rd_sIrqOf]

/-- The event of a page leaves the CHIP page's registers beyond the header alone. -/
theorem Block.rd_raised_chip (k : Nat) (hpg : pg % 0x1000 = 0) {o : Nat} (ho : 0x100 ≤ o ∧ o < 0x1000) :
    (b.raised pg k).rd (pgChip + o) = b.rd (pgChip + o) := by
  have hchip : pgChip = 0 := rfl
  exact b.rd_raised_ne k (by omega) (by omega)

theorem Block.rd_raised_route (k : Nat) : (b.raised pg k).rd (pg + 0x024) = b.rd (pg + 0x024) := b.rd_raised_ne k (by omega) (by omega)

theorem Block.evtDest_raised (k : Nat) : (b.raised pg k).evtDest pg = b.evtDest pg := congrArg (fld · 25 26) (b.rd_raised_route k)

theorem Block.fwMsg_raised (k : Nat) : (b.raised pg k).fwMsg pg = b.fwMsg pg := by simp only [Block.fwMsg, b.rd_raised_route k]

theorem Block.hostMsg_raised (k : Nat) : (b.raised pg k).hostMsg pg = b.hostMsg pg := by simp only [Block.hostMsg, b.rd_raised_route k]

theorem Block.bar2En_raised (k : Nat) (hpg : pg % 0x1000 = 0) :
    (b.raised pg k).rdF (pgChip + 0x140) 0 0 = b.rdF (pgChip + 0x140) 0 0 := congrArg (fld · 0 0) (b.rd_raised_chip k hpg (by decide))

end Sys2Proof.Machine

namespace Sys2Proof.Claims
open Sys2Proof.Machine

/-- Settles O54: an event stores EVT_RAW and EVT_EN and sends one message, which its route directs, where its bit of EVT_PEND rises. -/
theorem eventBits : Obligations.EventBits := by
  intro b pg k d hpg hk
  refine ⟨fun j hj => ?bits, b.rd_raiseMask_en _ hpg, ?clr, ?clrQuiet, fun hquiet => ?quiet,
    fun hrises => ⟨fun hdest => ?firmware, fun hdest hen => ?host, fun hdest hoff => ?dropped, fun hdest => ?nowhere⟩⟩
  case bits =>
    rw [b.rd_raise_raw_bit k hpg hj]
    simp only [Bool.or_eq_true, Bool.and_eq_true, decide_eq_true_eq]
    exact or_congr_right ⟨fun ⟨hkj, hmask⟩ => ⟨hkj.symm, hkj ▸ hmask⟩, fun ⟨hjk, hmask⟩ => ⟨hjk.symm, hjk ▸ hmask⟩⟩
  case clr => rw [b.evtClr_eq, Block.rd_putEvt_raw]
  case clrQuiet => rw [b.evtClr_eq, Block.putEvt_outbox]
  case quiet =>
    have hz : b.raise pg k = b.raised pg k := (b.raise_eq hk).trans (if_neg (Bool.eq_false_iff.mp hquiet))
    rw [hz, b.raised_outbox]
  all_goals
    have hz : b.raise pg k = (b.raised pg k).sendInt pg := (b.raise_eq hk).trans (if_pos hrises)
    have hdest' := (b.evtDest_raised k).trans hdest
  case firmware => rw [hz, Block.sendInt_firmware _ hdest', Block.onCx_outbox, Block.send_outbox, b.raised_outbox, b.fwMsg_raised]; rfl
  case host =>
    rw [hz, Block.sendInt_host _ hdest', if_pos ((b.bar2En_raised k hpg).trans hen), Block.send_outbox, b.raised_outbox, b.hostMsg_raised]; rfl
  case dropped =>
    rw [hz, Block.sendInt_host _ hdest', if_neg (by rw [b.bar2En_raised k hpg]; omega), Block.rd_inc_same, b.rd_raised_chip k hpg (by decide),
      Block.inc_outbox]
    exact ⟨b.raised_outbox k, rfl⟩
  case nowhere => rw [hz, Block.sendInt_nowhere _ hdest', b.raised_outbox]

end Sys2Proof.Claims
end

section
/-! Error queues (R61-R65): what a record and a pop leave in the queue of a page and in those of the others. -/
namespace Sys2Proof.Machine

variable (b : Block) {pg pg' : Nat}

@[simp] theorem Block.errQ_setErrQ_same (q : ErrQ) : (b.setErrQ pg q).errQ pg = q := smGet_smSet_same {} b.errs (pg / 0x1000) q

theorem Block.errQ_setErrQ_ne (q : ErrQ) (h : pg' / 0x1000 ≠ pg / 0x1000) : (b.setErrQ pg q).errQ pg' = b.errQ pg' :=
  smGet_smSet_ne ({} : ErrQ) b.errs _ _ q h

/-- A record goes to its page's queue; the CHIP page's counter and events leave the queues alone (R62). -/
theorem Block.record_errs (e : ErrIn) : (b.record pg e).errs = (b.setErrQ pg ((b.errQ pg).push (b.mkRec pg e))).errs := by
  simp only [Block.record, Block.onIf]
  repeat' split
  all_goals simp [Block.inc]

theorem Block.errQ_record_same (e : ErrIn) : (b.record pg e).errQ pg = (b.errQ pg).push (b.mkRec pg e) := by
  rw [Block.errQ, b.record_errs]
  exact b.errQ_setErrQ_same _

theorem Block.errQ_record_ne (e : ErrIn) (h : pg' / 0x1000 ≠ pg / 0x1000) : (b.record pg e).errQ pg' = b.errQ pg' := by
  rw [Block.errQ, b.record_errs]
  exact b.errQ_setErrQ_ne _ h

theorem ErrQ.push_room {q : ErrQ} (r : ErrRec) (h : q.recs.length < 16) : q.push r = { q with recs := q.recs ++ [r], seq := q.seq + 1 } := if_pos h

theorem ErrQ.push_full {q : ErrQ} (r : ErrRec) (h : 16 ≤ q.recs.length) :
    q.push r = { q with lost := min (q.lost + 1) 65535, maxSev := max q.maxSev r.sev.code, seq := q.seq + 1 } := if_neg (by omega)

theorem ErrQ.push_seq (q : ErrQ) (r : ErrRec) : (q.push r).seq = q.seq + 1 := by
  unfold ErrQ.push
  split <;> rfl

theorem ErrQ.push_length_le {q : ErrQ} (r : ErrRec) (h : q.recs.length ≤ 16) : (q.push r).recs.length ≤ 16 := by
  rcases Nat.lt_or_ge q.recs.length 16 with hroom | hfull
  · rw [ErrQ.push_room r hroom, List.length_append, List.length_singleton]; omega
  · rwa [ErrQ.push_full r hfull]

/-- A queue after ERR_POP: POP removes the oldest record, CLR_OVF clears the overflow (R64, R65). -/
def ErrQ.pop (q : ErrQ) (d : W32) : ErrQ :=
  let q := if d.getLsbD 0 then { q with recs := q.recs.drop 1 } else q
  if d.getLsbD 1 then { q with lost := 0, maxSev := 0 } else q

theorem Block.errPop_eq (d : W32) : b.errPop pg d = b.setErrQ pg ((b.errQ pg).pop d) := rfl

theorem ErrQ.pop_recs (q : ErrQ) (d : W32) : (q.pop d).recs = if d.getLsbD 0 then q.recs.drop 1 else q.recs := by
  simp only [ErrQ.pop]
  split <;> split <;> rfl

theorem ErrQ.pop_overflow (q : ErrQ) {d : W32} (h : d.getLsbD 1 = true) : (q.pop d).lost = 0 ∧ (q.pop d).maxSev = 0 := by
  rw [ErrQ.pop, if_pos h]
  exact ⟨rfl, rfl⟩

theorem Block.mkRec_nested (pg : Nat) (e : ErrIn) : (b.mkRec pg e).nested = true ↔ (b.errQ pg).recs ≠ [] := by
  simp [Block.mkRec]

end Sys2Proof.Machine

namespace Sys2Proof.Claims
open Sys2Proof.Machine

/-- Settles O55: a record is pushed on its page's queue, a pop taken off it, and the other queues stay. -/
theorem errorQueues : Obligations.ErrorQueues := by
  intro b pg e d old new
  have hnew : new = old.push (b.mkRec pg e) := b.errQ_record_same e
  have hpop : (b.errPop pg d).errQ pg = old.pop d := by rw [b.errPop_eq, b.errQ_setErrQ_same]
  refine ⟨b.mkRec_nested pg e, fun hroom => ?_, fun hfull => ?_, fun hle => hnew ▸ ErrQ.push_length_le _ hle, hnew ▸ ErrQ.push_seq _ _,
    ⟨fun hpopped => ?_, fun hkept => ?_, fun hclear => hpop ▸ ErrQ.pop_overflow old hclear, fun pg' hne => ?_⟩,
    fun pg' hne => b.errQ_record_ne e hne⟩
  · rw [hnew, ErrQ.push_room _ hroom]
    exact ⟨rfl, rfl, rfl⟩
  · rw [hnew, ErrQ.push_full _ hfull]
    exact ⟨rfl, rfl, rfl⟩
  · rw [hpop, ErrQ.pop_recs, if_pos hpopped]
  · rw [hpop, ErrQ.pop_recs, hkept]
    rfl
  · rw [b.errPop_eq, b.errQ_setErrQ_ne _ hne]

end Sys2Proof.Claims
end

section
/-! Writes and reads of the register space: dropped, refused and accepted writes (R46, R81, R82, R776), the command registers of the header
(R55, R57, R64, R65, R71, R75), latched reads (R85) and BAR2 (R86). -/
namespace Sys2Proof.Machine

variable (b : Block) {c : PageClass} {i off o : Nat} {port : BitVec 8} {data : W64}

/-! ### Error records on the CHIP page -/

/-- Of the registers, a record can change the CHIP page's EVT_RAW, EVT_EN, bad-write counter and ROUTE_DROP (R62). -/
theorem Block.rd_record_ne (pg : Nat) (e : ErrIn) (hraw : o ≠ pgChip + 0x010) (hen : o ≠ pgChip + 0x014) (hbad : o ≠ pgChip + 0x138)
    (hdrop : o ≠ pgChip + 0x13C) : (b.record pg e).rd o = b.rd o := by
  simp only [Block.record, Block.onIf]
  repeat' split
  all_goals simp only [Block.rd_raiseMask_ne _ _ hraw hen hdrop, Block.rd_inc_ne _ hbad, Block.rd_setErrQ]

/-! ### A write to an absent page (R81) -/

/-- The block once CHIP.ABSENT_WR holds the offset and CHIP.ABSENT_WR_COUNT counts it. -/
def Block.absentNoted (b : Block) (off : Nat) : Block := (b.wr (pgChip + 0x130) (w32 (off % 2 ^ 25))).inc (pgChip + 0x134)

/-- The record of a write to an absent page. -/
def absentErr (port : BitVec 8) (off : Nat) : ErrIn := { code := 5, sev := .corrected, port := port, addr := some (BitVec.ofNat 48 off) }

theorem Block.absentWrite_eq : b.absentWrite port off = ((b.absentNoted off).record pgChip (absentErr port off)).raise pgChip 0 := rfl

/-- Beside ABSENT_WR and its counter, a write to an absent page can change what its record and its event change. -/
theorem Block.rd_absentWrite_ne (hraw : o ≠ pgChip + 0x010) (hen : o ≠ pgChip + 0x014) (hbad : o ≠ pgChip + 0x138)
    (hdrop : o ≠ pgChip + 0x13C) : (b.absentWrite port off).rd o = (b.absentNoted off).rd o := by
  rw [b.absentWrite_eq, Block.raise, Block.rd_raiseMask_ne _ _ hraw hen hdrop, Block.rd_record_ne _ _ _ hraw hen hbad hdrop]

theorem Block.absentWrite_offset (h : off < 2 ^ 25) : ((b.absentWrite port off).rd (pgChip + 0x130)).toNat = off := by
  rw [b.rd_absentWrite_ne (by decide) (by decide) (by decide) (by decide), Block.absentNoted, Block.rd_inc_ne _ (by decide), Block.rd_wr_same,
    Nat.mod_eq_of_lt h]
  exact Nat.mod_eq_of_lt (by omega)

theorem Block.absentWrite_count :
    ((b.absentWrite port off).rd (pgChip + 0x134)).toNat = min ((b.rd (pgChip + 0x134)).toNat + 1) (2 ^ 32 - 1) := by
  rw [b.rd_absentWrite_ne (by decide) (by decide) (by decide) (by decide), Block.absentNoted, Block.rd_inc_same, Block.rd_wr_ne _ _ (by decide)]

theorem Block.absentWrite_rd_of_other_page (ho : 0x1000 ≤ o) : (b.absentWrite port off).rd o = b.rd o := by
  have hchip : pgChip = 0 := rfl
  rw [b.rd_absentWrite_ne (by omega) (by omega) (by omega) (by omega), Block.absentNoted, Block.rd_inc_ne _ (by omega),
    Block.rd_wr_ne _ _ (by omega)]

theorem Block.absentNoted_fuses : (b.absentNoted off).fuses = b.fuses := by
  simp only [Block.absentNoted, Block.inc, Block.addSat_fuses, Block.wr_fuses]

theorem Block.absentNoted_usec : (b.absentNoted off).usec = b.usec := by
  simp only [Block.absentNoted, Block.inc, Block.addSat_usec, Block.wr_usec]

theorem Block.errQ_absentNoted (pg : Nat) : (b.absentNoted off).errQ pg = b.errQ pg := by
  simp only [Block.errQ, Block.absentNoted, Block.inc, Block.addSat_errs, Block.wr_errs]

theorem Block.mkRec_absentNoted (pg : Nat) (e : ErrIn) : (b.absentNoted off).mkRec pg e = b.mkRec pg e := by
  simp only [Block.mkRec, b.errQ_absentNoted, Block.variant, b.absentNoted_usec, b.absentNoted_fuses]

theorem Block.errQ_raise (pg pg' k : Nat) : (b.raise pg k).errQ pg' = b.errQ pg' := by rw [Block.errQ, b.raise_errs, Block.errQ]

theorem Block.absentWrite_errQ : (b.absentWrite port off).errQ pgChip = (b.errQ pgChip).push (b.mkRec pgChip (absentErr port off)) := by
  rw [b.absentWrite_eq, Block.errQ_raise, Block.errQ_record_same, b.errQ_absentNoted, b.mkRec_absentNoted]

theorem presentPageAt_chip (v : Variant) : presentPageAt v pgChip = some (.chip, 0) := rfl

/-- The CHIP page implements its event 0, ABSENT_WRITE. -/
theorem Block.evtMask_chip : (b.evtMask pgChip).getLsbD 0 = true := by
  rw [Block.evtMask, presentPageAt_chip]
  rfl

theorem Block.absentWrite_event : ((b.absentWrite port off).rd (pgChip + 0x010)).getLsbD 0 = true := by
  rw [b.absentWrite_eq, Block.rd_raise_raw_bit _ 0 rfl (by decide), Block.evtMask_chip]
  exact Bool.or_true _

/-! ### A write that is refused, dropped or taken (R46, R81, R776) -/

theorem regSized_word (h : off % 4 = 0) : regSized off 4 = true := by simp [regSized, h]

theorem Block.regWrite_illSized {n : Nat} (h : regSized off n = false) : b.regWrite port off n data = b.refuse (b.recPage off) 4 port off := by
  simp [Block.regWrite, h]

theorem Block.regWrite_absent {n : Nat} (hsize : regSized off n = true) (hp : presentPageAt b.variant off = none) :
    b.regWrite port off n data = b.absentWrite port off := by
  simp [Block.regWrite, hsize, hp]

theorem Block.regWrite_taken (hp : presentPageAt b.variant off = some (c, i))
    (hok : b.firstRefusal (b.putWord c i (off % 0x1000, data.setWidth 32)) c i [(off % 0x1000, data.setWidth 32)] = none)
    (hsize : off % 4 = 0) : b.regWrite port off 4 data = b.takeWrite port c i (off % 0x1000, data.setWidth 32) := by
  have hwords : wordsOfWrite off 4 data = [(off % 0x1000, data.setWidth 32)] := rfl
  have hput : b.each [(off % 0x1000, data.setWidth 32)] (fun b w => b.putWord c i w) = b.putWord c i (off % 0x1000, data.setWidth 32) := rfl
  simp only [Block.regWrite, regSized_word hsize, Bool.not_true, Bool.false_eq_true, if_false, hp, hwords, hput, hok]
  rfl

/-! ### The command registers of the header -/

/-- A write of a header register that stores no field does what the register commands. -/
theorem Block.takeWrite_command {r : Reg} {d : W32} (ho : o < 0x100) (hr : regIn headerRegs o = some r) (hen : o ≠ 0x014)
    (hfields : r.flds.any (fun f => decide (f.ty = .rw ∨ f.ty = .rwl)) = false) : b.takeWrite port c i (o, d) = b.effHeader port c i o d := by
  have hput : b.putWord c i (o, d) = b := by
    simp only [Block.putWord, regAtPage_header _ _ _ ho, hr, hen, if_false, Block.putReg, hfields, Bool.not_false, if_true]
  rw [Block.takeWrite, hput]
  exact if_pos ho

/-- A write of EVT_EN stores its implemented bits (R57). -/
theorem Block.takeWrite_evtEn {d : W32} : b.takeWrite port c i (0x014, d) =
    b.setEvt (pageBase c i) (b.rd (pageBase c i + 0x010)) (d &&& b.evtMask (pageBase c i)) := rfl

theorem onPage_mod (page : BitVec 13) (ho : o < 0x1000) : onPage page o % 0x1000 = o := by
  unfold onPage
  omega

theorem onPage_aligned (page : BitVec 13) (ho : o % 4 = 0) : onPage page o % 4 = 0 := by
  unfold onPage
  omega

theorem keyed_toNat (key : BitVec 16) {code : Nat} (h : code < 65536) : (keyed key code).toNat = key.toNat * 65536 + code := by
  have hkey := key.isLt
  rw [keyed, BitVec.toNat_ofNat]
  omega

theorem fld_keyed_key (key : BitVec 16) {code : Nat} (h : code < 65536) : fld (keyed key code) 16 31 = key.toNat := by
  have hkey := key.isLt
  rw [fld, keyed_toNat key h, Nat.shiftRight_eq_div_pow]
  omega

theorem fld_keyed_kind (key : BitVec 16) {code : Nat} (h : code < 16) : fld (keyed key code) 0 3 = code := by
  rw [fld, keyed_toNat key (by omega), Nat.shiftRight_zero]
  omega

/-! ### Latched reads (R85) -/

theorem Block.readReg_latches (hp : presentPageAt b.variant off = some (c, i)) (hlatch : latchOf c (off % 0x1000) = true) :
    b.readReg off = (b.view off, { b with latches := smPut b.latches (off + 4) (b.view (off + 4)) }) := by
  simp only [Block.readReg, hp, hlatch, if_true, pageBase_add hp]

theorem Block.readReg_latched {x : W32} (hp : presentPageAt b.variant off = some (c, i)) (hlatch : latchOf c (off % 0x1000) = false)
    (hx : smFind b.latches off = some x) : b.readReg off = (x, { b with latches := smErase b.latches off }) := by
  simp only [Block.readReg, hp, hlatch, Bool.false_eq_true, if_false, hx]

/-- The HI register of a pair latches none of its own: no class lists two registers side by side. -/
theorem latchOf_hi (c : PageClass) (h : latchOf c o = true) : latchOf c (o + 4) = false := by
  cases c <;> simp_all [latchOf] <;> omega

theorem Block.regReadOut_word (p : BitVec 6) (hp : presentPageAt b.variant off = some (c, i)) (hlatch : latchOf c (off % 0x1000) = true)
    (hsize : off % 8 = 0) : b.regReadOut p off 4 =
      { b with latches := smPut b.latches (off + 4) (b.view (off + 4)) }.send (.regData off ((b.view off).setWidth 64)) := by
  simp only [Block.regReadOut, Block.regRead, regSized_word (show off % 4 = 0 by omega), b.readReg_latches hp hlatch, Bool.not_true,
    Bool.false_eq_true, if_false, if_true]

/-- A read of both halves takes the latched one, and uses the latch up. -/
theorem Block.regReadOut_pair (p : BitVec 6) (hp : presentPageAt b.variant off = some (c, i)) (hlatch : latchOf c (off % 0x1000) = true)
    (hsize : off % 8 = 0) : b.regReadOut p off 8 =
      { b with latches := smErase (smPut b.latches (off + 4) (b.view (off + 4))) (off + 4) }.send
        (.regData off ((b.view off).setWidth 64 ||| ((b.view (off + 4)).setWidth 64 <<< 32))) := by
  have hsized : regSized off 8 = true := by simp [regSized, hsize]
  have hbase := pageBase_add hp
  have hpage := pageBase_mod c i
  have hoff : (off + 4) % 0x1000 = off % 0x1000 + 4 := by omega
  have hp' : presentPageAt b.variant (off + 4) = some (c, i) := by
    rw [← hp, ← hbase, Nat.add_assoc, presentPageAt_page_add _ hpage (by omega), presentPageAt_page_add _ hpage (by omega)]
  let x : Block := { b with latches := smPut b.latches (off + 4) (b.view (off + 4)) }
  have hhi : x.readReg (off + 4) = (b.view (off + 4), { x with latches := smErase x.latches (off + 4) }) :=
    x.readReg_latched hp' (hoff ▸ latchOf_hi c hlatch) (smFind_smPut_same _ _ _)
  simp only [Block.regReadOut, Block.regRead, hsized, b.readReg_latches hp hlatch, Bool.not_true, Bool.false_eq_true, if_false, hhi,
    show ¬ (8 = 4) by decide, x]

/-! ### BAR2 (R86, R163) -/

theorem Block.bar2_off {n : Nat} (write : Bool) (h : b.rdF (pgChip + 0x140) 0 0 = 0) :
    b.bar2 write off n data = if write then b else b.send (.regData off 0) := by
  simp [Block.bar2, h]

theorem Block.bar2_read {n : Nat} (h : b.rdF (pgChip + 0x140) 0 0 = 1) : b.bar2 false off n data = b.regReadOut 0 off n := by
  simp [Block.bar2, h]

theorem Block.bar2_write {n : Nat} (h : b.rdF (pgChip + 0x140) 0 0 = 1) (hro : b.rdF (pgChip + 0x140) 1 1 = 0) :
    b.bar2 true off n data = b.regWrite 0 off n data := by
  simp [Block.bar2, h, hro]

/-! ### Running a register access -/

theorem Block.on_of_lit (h : b.dark = false) : b.hk.off = false := by
  simp only [Block.dark, Bool.or_eq_false_iff] at h
  obtain ⟨⟨hon, -⟩, -⟩ := h
  exact hon

/-- A register access while the clocks run answers the block its meaning makes, whatever the domain of its page. -/
theorem State.onReg_lit (s : State) (off : Nat) (f : Block → Block) (h : s.blk.dark = false) :
    s.onReg off f = .next { s with blk := f s.blk } := by
  unfold State.onReg
  split
  · exact s.runAon_on f (s.blk.on_of_lit h)
  · exact s.run_lit f h

end Sys2Proof.Machine

namespace Sys2Proof.Claims
open Sys2Proof.Machine

section
variable {m : Instr} {q : List Instr} {b b' : Block} {c : PageClass} {i o off : Nat} {f : Block → Block} {d : W32}

theorem answers_onReg (hdark : b.dark = false) (hmeans : exec m ⟨q, b⟩ = State.onReg ⟨q, b⟩ off f) (hf : f b = b') : Answers m q b b' := by
  rw [Answers, hmeans, State.onReg_lit _ _ _ hdark, hf]

theorem Takes.regWrite {data : W64} {port : BitVec 8} (h : Takes b off (data.setWidth 32) c i) (hsize : off % 4 = 0) :
    b.regWrite port off 4 data = b.takeWrite port c i (off % 0x1000, data.setWidth 32) := b.regWrite_taken h.1 h.2 hsize

/-- A write of a register of a page's header that is taken. -/
theorem Takes.regWrite4_onPage {page : BitVec 13} (port : BitVec 6) (h : Takes b (onPage page o) d c i) (ho : o < 0x100) (hsize : o % 4 = 0) :
    b.regWrite4 port (onPage page o) d = b.takeWrite (port.setWidth 8) c i (o, d) := by
  have hword : (d.setWidth 64).setWidth 32 = d := by simp
  rw [Block.regWrite4, Takes.regWrite (hword.symm ▸ h) (onPage_aligned page hsize), hword, onPage_mod page (by omega)]

/-- A write of a command register of a page's header that is taken does what the register commands. -/
theorem Takes.regWrite4_command {page : BitVec 13} {r : Reg} (port : BitVec 6) (h : Takes b (onPage page o) d c i) (ho : o < 0x100)
    (hsize : o % 4 = 0) (hr : regIn headerRegs o = some r) (hen : o ≠ 0x014)
    (hfields : r.flds.any (fun f => decide (f.ty = .rw ∨ f.ty = .rwl)) = false) :
    b.regWrite4 port (onPage page o) d = b.effHeader (port.setWidth 8) c i o d := by
  rw [h.regWrite4_onPage port ho hsize, b.takeWrite_command ho hr hen hfields]

/-- UNIT_RESET with a key and a kind (R69, R71). -/
theorem Takes.unitReset {page : BitVec 13} {key : BitVec 16} {kind : Nat} (port : BitVec 6) (h : Takes b (onPage page 0x080) (keyed key kind) c i)
    (hkind : kind < 16) : b.regWrite4 port (onPage page 0x080) (keyed key kind) =
      b.unitReset (port.setWidth 8) (pageBase c i) key.toNat kind := by
  rw [h.regWrite4_command port (by decide) (by decide) rfl (by decide) (by decide), Block.effHeader, fld_keyed_key key (by omega),
    fld_keyed_kind key hkind]

end

/-- Settles O1: each header command is a write of one command register of the page. -/
theorem headerCommands : Obligations.HeaderCommands := by
  intro q b port page v key c i hdark
  refine ⟨fun h => ?set, fun h => ?clr, fun h => ?en, fun h => ?pop, fun h => ?ovf, fun h => ?soft, fun h => ?hard, fun h => ?recover,
    fun h => ?lock⟩
  case en => exact answers_onReg hdark rfl ((h.regWrite4_onPage port (by decide) (by decide)).trans b.takeWrite_evtEn)
  case soft | hard | recover => exact answers_onReg hdark rfl (h.unitReset port (by decide))
  case set | clr | pop | ovf | lock =>
    exact answers_onReg hdark rfl (h.regWrite4_command port (by decide) (by decide) rfl (by decide) (by decide))

/-- USEC_LO_READ is an access to the CHIP page (R85). -/
theorem exec_usecLoRead (port : BitVec 6) (wide : Bool) (s : State) : exec (.usecLoRead port wide) s =
    s.onReg pgChip (fun b => b.regReadOut port (pgChip + 0x120) (if wide then 8 else 4)) := rfl

/-- Settles O2: each access is a write or a read of the register space with the outcome that its page and size give. -/
theorem registerSpaceAccesses : Obligations.RegisterSpaceAccesses := by
  intro q b port tag off len1 data write c i hdark
  have husec : presentPageAt b.variant (pgChip + 0x120) = some (.chip, 0) :=
    (presentPageAt_page_add _ rfl (by decide)).trans (presentPageAt_chip _)
  have hhi : pgChip + 0x124 = pgChip + 0x120 + 4 := rfl
  refine ⟨fun h hsize => ?taken, fun hsize => ?illSized, fun hsize hp => ?absent, fun htag => ?tagged, ?usec, ?usecPair,
    fun hp hlatch hsize => ⟨?half, ?pair⟩, fun hen => ?bar2Off, fun hen => ?bar2Read, fun hen hro => ?bar2Write⟩
  case taken => exact answers_onReg hdark rfl (h.regWrite hsize)
  case illSized => exact answers_onReg hdark rfl (b.regWrite_illSized hsize)
  case absent => exact answers_onReg hdark rfl (b.regWrite_absent hsize hp)
  case tagged => exact answers_onReg hdark rfl (if_neg htag)
  case usec =>
    refine answers_onReg hdark (exec_usecLoRead port _ _) ?_
    rw [hhi]
    exact b.regReadOut_word port husec rfl rfl
  case usecPair =>
    refine answers_onReg hdark (exec_usecLoRead port _ _) ?_
    rw [hhi]
    exact b.regReadOut_pair port husec rfl rfl
  case half =>
    rw [pageBase_add hp]
    exact answers_onReg hdark rfl (b.regReadOut_word port hp hlatch hsize)
  case pair => exact answers_onReg hdark rfl (b.regReadOut_pair port hp hlatch hsize)
  case bar2Off => exact answers_run hdark rfl (b.bar2_off write hen)
  case bar2Read => exact answers_run hdark rfl (b.bar2_read hen)
  case bar2Write => exact answers_run hdark rfl (b.bar2_write hen hro)

/-- Settles O52: such a write is `absentWrite`, of which the CHIP page's registers and error queue tell. -/
theorem absentPageWrites : Obligations.AbsentPageWrites := by
  intro q b port off len1 d hdark hp hlen hsize
  have hsized : regSized off.toNat (len1.toNat + 1) = true := by
    rcases hlen with rfl | rfl <;> simpa [regSized] using hsize
  refine ⟨b.absentWrite (port.setWidth 8) off.toNat, answers_onReg hdark rfl (b.regWrite_absent hsized hp), b.absentWrite_offset off.isLt,
    b.absentWrite_count, by rw [b.absentWrite_errQ, absentErr, BitVec.ofNat_toNat], b.absentWrite_event,
    fun o ho => b.absentWrite_rd_of_other_page ho, ?_⟩
  rw [b.absentWrite_eq]
  simp [Block.absentNoted, Block.inc]

end Sys2Proof.Claims
end

section
/-! Writes of a unit's registers: one that is taken stores its fields and has its effect, and a command register stores none (R46, R79). -/
namespace Sys2Proof.Machine

variable (b : Block) {c : PageClass} {i o : Nat}

/-- A register without a field that software writes keeps its word: a write of it only commands. -/
theorem Block.putWord_command {r : Reg} (d : W32) (hr : regAtPage b.variant c i o = some r) (hen : o ≠ 0x014)
    (hfields : r.flds.any (fun f => decide (f.ty = .rw ∨ f.ty = .rwl)) = false) : b.putWord c i (o, d) = b := by
  simp only [Block.putWord, hr, hen, if_false, Block.putReg, hfields, Bool.not_false, if_true]

/-! ### What the command registers of the command engine do (R92, R133) -/

/-- QC_CMD with OP 0b01 copies the selected record into QC_DATA. -/
theorem Block.effect_qcCopy (old : Block) (port : BitVec 8) : b.effect old port .ceCtl 0 0x134 1 = b.each (List.range 16) (fun x k =>
    x.wr (pgCe + 0x140 + 4 * k) ((b.qcRead (b.rdF (pgCe + 0x130) 0 13) >>> (32 * k)).setWidth 32)) := rfl

/-- QC_CMD with OP 0b10 writes QC_DATA into the selected record. -/
theorem Block.effect_qcWrite (old : Block) (port : BitVec 8) :
    b.effect old port .ceCtl 0 0x134 2 = b.qcApply (b.rdF (pgCe + 0x130) 0 13) b.qcData := rfl

/-- TENANT_RESET resets the tenant beside its key. -/
theorem Block.effect_tenantReset (old : Block) (port : BitVec 8) (d : W32) :
    b.effect old port .ceCtl 0 0x120 d = b.resetTenant (fld d 0 5) := rfl

/-- The code beside a key reads back, within its six bits. -/
theorem fld_keyed_code (key : BitVec 16) {code : Nat} (h : code < 64) : fld (keyed key code) 0 5 = code := by
  rw [fld, keyed_toNat key (by omega), Nat.shiftRight_zero]
  omega

end Sys2Proof.Machine

namespace Sys2Proof.Claims
open Sys2Proof.Machine

section
variable {b b' : Block} {c : PageClass} {i o off : Nat} {d : W32} {m : Instr} {q : List Instr} {port : BitVec 6}

/-- A write of a register that is taken, at its offset in its page. -/
theorem Takes.regWrite4 (port : BitVec 6) (h : Takes b off d c i) (ho : off % 0x1000 = o) (hsize : o % 4 = 0) :
    b.regWrite4 port off d = b.takeWrite (port.setWidth 8) c i (o, d) := by
  have hword : (d.setWidth 64).setWidth 32 = d := by simp
  rw [Block.regWrite4, Takes.regWrite (hword.symm ▸ h) (by omega), hword, ho]

/-- A command that is a write of one register answers, where the write is taken, what the write leaves. -/
theorem Takes.answers (h : Takes b off d c i) (hdark : b.dark = false)
    (hmeans : exec m ⟨q, b⟩ = State.onReg ⟨q, b⟩ off (fun x => x.regWrite4 port off d)) (ho : off % 0x1000 = o) (hsize : o % 4 = 0)
    (htake : b.takeWrite (port.setWidth 8) c i (o, d) = b') : Answers m q b b' :=
  answers_onReg hdark hmeans ((h.regWrite4 port ho hsize).trans htake)

/-- A command that is a write of one command register answers, where the write is taken, what the register commands. -/
theorem Takes.answers_effect {r : Reg} (h : Takes b off d c i) (hdark : b.dark = false)
    (hmeans : exec m ⟨q, b⟩ = State.onReg ⟨q, b⟩ off (fun x => x.regWrite4 port off d)) (ho : off % 0x1000 = o) (hsize : o % 4 = 0)
    (hr : regAtPage b.variant c i o = some r) (hen : o ≠ 0x014)
    (hfields : r.flds.any (fun f => decide (f.ty = .rw ∨ f.ty = .rwl)) = false)
    (heffect : b.effect b (port.setWidth 8) c i o d = b') : Answers m q b b' :=
  h.answers hdark hmeans ho hsize (by rw [Block.takeWrite, b.putWord_command d hr hen hfields, heffect])

end

/-- Settles O4: each command is a write of one register, with the fields it stores and the effect it has. -/
theorem hostSideRegisterCommands : Obligations.HostSideRegisterCommands := by
  intro q b port t p v key stop hdark
  refine ⟨fun h => ?copy, fun h => ?write, fun h => ?stop, fun h => ?tenant, fun h => ?ns, fun h => ?vf, fun h => ?wpool, fun h => ?mode⟩
  case copy => exact h.answers_effect hdark rfl rfl (by decide) rfl (by decide) (by decide) (b.effect_qcCopy b _)
  case write => exact h.answers_effect hdark rfl rfl (by decide) rfl (by decide) (by decide) (b.effect_qcWrite b _)
  case stop => exact h.answers hdark rfl rfl (by decide) rfl
  case tenant =>
    exact h.answers_effect hdark rfl rfl (by decide) rfl (by decide) (by decide)
      ((b.effect_tenantReset b _ _).trans (congrArg b.resetTenant (fld_keyed_code key t.isLt)))
  case ns | wpool => exact h.answers hdark rfl rfl (by decide) rfl
  case vf | mode => exact h.answers hdark rfl (pageBase_add_mod _ _ (by decide)) (by decide) rfl

end Sys2Proof.Claims
end

section
/-! Commands on their way through lanes and sequencer (R99, R102-R104, R114): what a queue gives its lane, and what the sequencer does
with the command it serves next. -/
namespace Sys2Proof.Machine

variable (b : Block) {f : Fetched}

/-- The command that a sequence number names carries it. -/
theorem Block.cmd_seq {seq : Nat} {c : Cmd} (h : b.cmd seq = some c) : c.seq = seq := by
  have hfound := List.find?_some h
  simp only [Bool.and_eq_true, beq_iff_eq] at hfound
  exact hfound.1

theorem Block.seqAssign_room (h : b.nextFetched = some f) (hroom : b.coll + b.entriesOf f ≤ 65536) : b.seqAssign =
    ((b.onCe (fun e => { e with lanes := e.lanes.erase f, rr := (f.lane + 1) % 17, stalled := false })).sequence f).stopRise b := by
  simp [Block.seqAssign, h, Block.collRoom, hroom]

theorem Block.seqAssign_full (h : b.nextFetched = some f) (hfull : ¬ b.coll + b.entriesOf f ≤ 65536) : b.seqAssign = b.stall f.lane := by
  simp [Block.seqAssign, h, Block.collRoom, hfull]

/-- A lane passes a command behind those that it and the other lanes have passed. -/
theorem Block.passLane_getLast? (qc : Nat) (e : Sqe) (ended : Option Stat) : (b.passLane qc e ended).ce.lanes.getLast? =
    some ⟨qLane (b.qc qc), .queue qc, e, opOrdered (.queue qc) e || qOrdered (b.qc qc), false, ended⟩ := List.getLast?_concat

theorem Block.takeEntry_capsule {qc : Nat} {c : Nat × Sqe × Option Stat} (htcp : qIsTcp (b.qc qc) = true)
    (hfirst : b.fp.capsules.find? (fun c => c.1 == qc) = some c) :
    b.takeEntry qc c.2.1 = some (c.2.2, b.onFp (fun f => { f with capsules := f.capsules.erase c })) := by
  simp [Block.takeEntry, htcp, hfirst]

theorem Block.takeEntry_noCapsule {qc : Nat} (e : Sqe) (htcp : qIsTcp (b.qc qc) = true)
    (hnone : b.fp.capsules.find? (fun c => c.1 == qc) = none) : b.takeEntry qc e = some (none, b.submit qc) := by
  simp [Block.takeEntry, htcp, hnone]

theorem Block.takeEntry_ring {qc : Nat} (e : Sqe) (htcp : qIsTcp (b.qc qc) = false) :
    b.takeEntry qc e = some (none, if qSqHead (b.qc qc) = qSqTail (b.qc qc) then b.submit qc else b) := by
  simp [Block.takeEntry, htcp]

end Sys2Proof.Machine

namespace Sys2Proof.Claims
open Sys2Proof.Machine

section
variable {b x : Block} {f : Fetched} {qc : Nat} {e : Sqe} {ended : Option Stat}

theorem seqAssign_eq_sequenced (h : b.nextFetched = some f) : b.seqAssign = sequenced b f := by
  rw [sequenced, if_neg (not_not_intro h)]
  split
  · exact b.seqAssign_room h ‹_›
  · exact b.seqAssign_full h ‹_›

/-- The sequencer looks at a command where it serves it next, and leaves it waiting elsewhere. -/
theorem seqIf_eq_sequenced (b : Block) (f : Fetched) : b.seqIf f = sequenced b f := by
  by_cases h : b.nextFetched = some f
  · rw [← seqAssign_eq_sequenced h, Block.seqIf, decide_eq_true h]
    rfl
  · rw [sequenced, if_pos h, Block.seqIf, decide_eq_false h]
    rfl

theorem Takeable.takeEntry (h : Takeable b qc e ended x) : b.takeEntry qc e = some (ended, x) := by
  obtain ⟨htcp, c, hfirst, rfl, rfl, rfl⟩ | ⟨hring, rfl, rfl⟩ := h
  · exact b.takeEntry_capsule htcp hfirst
  · cases htcp : qIsTcp (b.qc qc) with
    | true => simpa [htcp, Block.submit] using b.takeEntry_noCapsule e htcp (hring.resolve_left (by simp [htcp]))
    | false =>
      rw [b.takeEntry_ring e htcp]
      by_cases hempty : qSqHead (b.qc qc) = qSqTail (b.qc qc) <;> simp [hempty, Block.submit]

/-- A command of a queue that its lane may fetch from is fetched and sequenced (R99, R103, R104). -/
theorem Takeable.fetchCmd (h : Takeable b qc e ended x) (hmay : b.mayFetch qc = true) : b.fetchCmd qc e = ioEnters x qc e ended := by
  simp only [Block.fetchCmd, hmay, h.takeEntry, x.passLane_getLast?, seqIf_eq_sequenced, Bool.not_true, Bool.false_eq_true, if_false]

/-- A row whose meaning is a fetch answers what the fetch and the sequencer leave. -/
theorem Takeable.answers {m : Instr} {q : List Instr} (h : Takeable b qc e ended x) (hdark : b.dark = false) (hmay : b.mayFetch qc = true)
    (hmeans : exec m ⟨q, b⟩ = State.run ⟨q, b⟩ (fun y => y.fetchCmd qc e)) : Answers m q b (ioEnters x qc e ended) :=
  answers_run hdark hmeans (h.fetchCmd hmay)

end

/-- Settles O7: each row is the fetch of its entry with the row's opcode. -/
theorem ioCommandsEnter : Obligations.IoCommandsEnter := by
  intro q b x qc e ended hdark hmay
  and_intros <;> exact fun h => h.answers hdark hmay rfl

end Sys2Proof.Claims
end

section
/-! The events of the command engine: doorbells, fetch slots, the sequencer, resets of controllers, and lanes that fail or fill (R101-R103,
R111, R114, R129, R133-R135, R151, R152, R166, R778, R779). -/
namespace Sys2Proof.Machine

variable (b : Block) {i : Nat} {x : Block}

/-! ### Doorbells (R166) -/

theorem Block.sqTail_taken {cntlid qid v : Nat} (hq : b.sqOf cntlid qid = some i) (hv : v ≤ qSqSize (b.qc i)) (hpcie : qIsPcie (b.qc i) = true) :
    b.sqTail cntlid qid v = b.qcF i 160 175 v := by
  simp [Block.sqTail, hq, hv, hpcie]

theorem Block.cqHead_taken {cntlid qid v : Nat} (hq : b.cqOf cntlid qid = some i) (hv : v ≤ qCqSize (b.qc i)) (hpcie : qIsPcie (b.qc i) = true) :
    b.cqHead cntlid qid v = (b.qcF i 320 335 v).drainCq i := by
  simp [Block.cqHead, hq, hv, hpcie]

/-! ### Fetching (R101, R102) -/

/-- A slot of a lane fetches the next entry of the ring its arbitration picks, as host memory gave it. -/
theorem Block.fetchSlot_ring {lane : Nat} (entry : Option Sqe) (hpick : b.pickFetch lane = some (i, x)) (htcp : qIsTcp (x.qc i) = false) :
    b.fetchSlot lane entry = (match entry with
      | some e => x.passLane i e
      | none => x.faultQc i 0x0101 0) := by
  cases entry <;> simp only [Block.fetchSlot, hpick, htcp, Bool.false_eq_true, if_false]

theorem Block.fetchSlot_capsule {lane : Nat} {p : Nat × Sqe × Option Stat} (entry : Option Sqe) (hpick : b.pickFetch lane = some (i, x))
    (htcp : qIsTcp (x.qc i) = true) (hfirst : x.fp.capsules.find? (fun c => c.1 == i) = some p) :
    b.fetchSlot lane entry = (x.onFp (fun f => { f with capsules := f.capsules.erase p })).passLane i p.2.1 p.2.2 := by
  simp only [Block.fetchSlot, hpick, htcp, if_true, hfirst]

/-- The admin path takes an entry of a ring, or finds host memory failing. -/
theorem Block.fetchAdmin_ring {cntlid : Nat} (entry : Option (BitVec 16 × Bool)) (hq : b.adminQc cntlid = some i) (hst : qState (b.qc i) = 1)
    (hgo : b.fetchStop = false) (hentry : b.hasEntry i = true) (htcp : qIsTcp (b.qc i) = false) :
    b.fetchAdmin cntlid entry = (match entry with
      | some (cid, posted) => (b.advanceHead i).onCe (fun e => { e with admin := e.admin ++ [(i, cid.toNat, posted)] })
      | none => b.faultQc i 0x0101 0) := by
  cases entry <;>
    simp only [Block.fetchAdmin, hq, hst, hgo, hentry, htcp, ne_eq, not_true_eq_false, Bool.not_true, Bool.false_eq_true, or_self, if_false]

/-! ### The sequencer and a Flush (R114, R129) -/

theorem Block.resume_room {f : Fetched} (hnext : b.nextFetched = some f) (hst : b.ce.stalled = true) (hroom : b.coll + b.entriesOf f ≤ 65536) :
    b.resume = b.seqAssign := by
  simp [Block.resume, hnext, hst, Block.collRoom, hroom]

theorem Block.flushEnds_covered {seq : Nat} {c : Cmd} (posted : Bool) (hc : b.cmd seq = some c) (hop : c.op = .flush) (hst : c.started = true)
    (hcovers : ∀ w ∈ c.covers, b.cmd w = none) : b.flushEnds seq posted = (b.complete seq stOk posted).lostWith c posted := by
  have hall : c.covers.all (fun w => (b.cmd w).isNone) = true := List.all_eq_true.mpr (fun w hw => by rw [hcovers w hw]; rfl)
  simp [Block.flushEnds, hc, hop, hst, hall]

/-! ### Resets of controllers (R133-R135, R778) -/

theorem Block.resetDone_controller {r : CtlReset} {rs : List CtlReset} (h : b.ce.resets = r :: rs) (ht : r.tenant = none) :
    b.resetDone = ((b.onCe (fun e => { e with resets := rs })).each r.qcs Block.qcFree).raise pgCe 2 := by
  simp only [Block.resetDone, h, ht]

theorem Block.vfReset_pfA {vf : Nat} (h : (b.vfsOf false).contains vf = true) : b.vfReset vf = b.ctlrReset [vf] := by
  rw [Block.vfReset, h]
  rfl

theorem Block.ctlrDisable_pcie {k : Nat} (hen : (b.ctlr k).en = true) (hk : k < 0x41) : b.ctlrDisable k = b.ctlrReset [k] := by
  simp [Block.ctlrDisable, hen, hk]

theorem Block.ctlrEnable_pcie {k : Nat} (h : b.pcieCtlr k = true) : b.ctlrEnable k = b.modCtlr k (fun c => { c with en := true }) := by
  simp [Block.ctlrEnable, h]

/-! ### Lanes that fail or fill (R151, R152, R779) -/

theorem Block.laneCheck_up {n : Nat} (h : b.laneUp n = true) : b.laneCheck n =
    (let y := (b.record pgCe { code := 0x0105, sev := .corrected, detail := detailOf [(0, n)] }).onCe (fun e =>
        { e with laneOut := e.laneOut ++ [n] })
     y.rebindAll n [] (y.qcsWhere (fun k => qSqEn k && !qIsAdmin k && qLane k == n))) := by
  simp only [Block.laneCheck, h, Bool.not_true, Bool.false_eq_true, if_false]

/-- The window of 1 ms ends, with the event where a lane filled every slot of it. -/
theorem Block.laneSat_eq : b.laneSat =
    if ∃ n, n < 16 ∧ 12500 ≤ (b.ce.laneLog.filter (fun e => e.1 == n && e.2.1 / 1000 == b.usec / 1000)).length then
      (b.elapseTo ((b.usec / 1000 + 1) * 1000)).raise pgCe 3
    else b.elapseTo ((b.usec / 1000 + 1) * 1000) := by
  have hlog : (b.elapseTo ((b.usec / 1000 + 1) * 1000)).ce.laneLog = b.ce.laneLog := rfl
  simp only [Block.laneSat, Block.onIf, List.any_eq_true, List.mem_range, decide_eq_true_eq, hlog]

end Sys2Proof.Machine

namespace Sys2Proof.Claims
open Sys2Proof.Machine

/-- A command of the always-on domain whose meaning makes `b'` of the block answers `b'` while the clocks run. -/
theorem answers_runAon {c : Instr} {q : List Instr} {b b' : Block} {f : Block → Block} (hdark : b.dark = false)
    (hmeans : exec c ⟨q, b⟩ = State.runAon ⟨q, b⟩ f) (hf : f b = b') : Answers c q b b' := by
  rw [Answers, hmeans, State.runAon_on _ _ (b.on_of_lit hdark), hf]

/-- Settles O8: each event by the case of its meaning that its conditions name. -/
theorem commandEngineEvents : Obligations.CommandEngineEvents := by
  intro q b cntlid qid v cid lane entry i x seq vf c r rs posted f p hdark
  refine ⟨fun h ht => ?resetDone, fun hq hv hpcie => ?sqTail, fun hq hv hpcie => ?cqHead,
    fun hpick => ⟨fun htcp => ?ring, fun htcp hfirst => ?capsule⟩,
    fun hq hst hgo hentry htcp => ⟨?admin, ?adminFails⟩, fun hnext => ?assign, fun hnext hst hroom => ?resume, ?unblock,
    fun hc hord => ?ordered, fun hc hop hst hcovers => ?flush, fun hvf => ?vfFlr, ?pfFlr, fun hen hk => ?disable, fun hk => ?enable,
    ?subsystem, fun hup => ?check, ?returns, ?stays, ?window⟩
  case resetDone => exact answers_run hdark rfl (b.resetDone_controller h ht)
  case sqTail => exact answers_run hdark rfl (b.sqTail_taken hq hv hpcie)
  case cqHead => exact answers_run hdark rfl (b.cqHead_taken hq hv hpcie)
  case ring => exact answers_run hdark rfl (b.fetchSlot_ring entry hpick htcp)
  case capsule => exact answers_run hdark rfl (b.fetchSlot_capsule entry hpick htcp hfirst)
  case admin | adminFails => exact answers_run hdark rfl (b.fetchAdmin_ring _ hq hst hgo hentry htcp)
  case assign => exact answers_run hdark rfl (seqAssign_eq_sequenced hnext)
  case resume => exact answers_run hdark rfl ((b.resume_room hnext hst hroom).trans (seqAssign_eq_sequenced hnext))
  case unblock => exact answers_run hdark rfl rfl
  case ordered => exact answers_run hdark rfl (if_pos (by simp [hc, hord]))
  case flush => exact answers_run hdark rfl (b.flushEnds_covered posted hc hop hst hcovers)
  case vfFlr => exact answers_run hdark rfl (b.vfReset_pfA hvf)
  case pfFlr => exact answers_run hdark rfl rfl
  case disable => exact answers_run hdark rfl (b.ctlrDisable_pcie hen hk)
  case enable => exact answers_run hdark rfl (b.ctlrEnable_pcie hk)
  case subsystem => exact answers_runAon hdark rfl rfl
  case check => exact answers_run hdark rfl (b.laneCheck_up hup)
  case returns | stays => exact answers_run hdark rfl rfl
  case window => exact answers_run hdark rfl b.laneSat_eq

end Sys2Proof.Claims
end

section
/-! The local queue of a context (R142-R145): its doorbell, its completion head, and a command in the slot of its tag. -/
namespace Sys2Proof.Machine

variable (b : Block) {ctx : Nat} {l : LqSt}

theorem Block.lqStore_accepted {v : W32} (hl : smFind b.ce.lq ctx = some l) (hok : l.refuses v = false) : b.lqStore ctx v =
    b.lqSubmit ctx v.toNat (BitVec.ofNat 256 (b.load (l.base + 32 * v.toNat) 32)) := by
  simp [Block.lqStore, hl, hok]

theorem Block.lqStore_refused {v : W32} (hl : smFind b.ce.lq ctx = some l) (hno : l.refuses v = true) :
    b.lqStore ctx v = b.lqTrap ctx v.toNat l := by
  simp [Block.lqStore, hl, hno]

/-- The completion head frees the tags whose entries it passes (R144). -/
theorem Block.lqHead_eq (v : Nat) (hl : smFind b.ce.lq ctx = some l) : b.lqHead ctx v =
    (let n := min ((v % 32 + 32 - l.head) % 32) l.ring.length
     { b with ce := { b.ce with lq := smPut b.ce.lq ctx { l with
      head := v % 32
      ring := l.ring.drop n
      busy := l.busy.filter (fun t => !(l.ring.take n).contains t) } } }) := by
  simp only [Block.lqHead, hl]
  rfl

end Sys2Proof.Machine

namespace Sys2Proof.Claims
open Sys2Proof.Machine

/-- A command with the opcode of its row traps where its slot is busy, and is submitted and sequenced where it is free (R142, R145). -/
theorem lqRun_eq {b : Block} {ctx op : Nat} {l : LqSt} {cmd : BitVec 256} (hl : smFind b.ce.lq ctx = some l) (hop : cmd.toNat % 256 = op) :
    b.lqRun ctx op cmd =
      (let n := cmd.toNat / 256 % 32
       if l.busy.contains n then b.lqTrap ctx n l else sequenced (b.lqSubmit ctx n cmd) (b.lqFetched ctx n cmd)) := by
  have hslot : cmd.toNat >>> 8 = cmd.toNat / 256 := Nat.shiftRight_eq_div_pow _ _
  simp only [Block.lqRun, hl, hop, hslot, ne_eq, not_true_eq_false, if_false, seqIf_eq_sequenced]

/-- Settles O9: each store and each command by the case of its meaning. -/
theorem localQueueCommands : Obligations.LocalQueueCommands := by
  intro q b ctx v cmd l hdark hl
  refine ⟨fun hok => answers_run hdark rfl (b.lqStore_accepted hl hok), fun hno => answers_run hdark rfl (b.lqStore_refused hl hno),
    answers_run hdark rfl (b.lqHead_eq _ hl), ?commands⟩
  case commands => and_intros <;> exact fun hop => answers_run hdark rfl (lqRun_eq hl hop)

end Sys2Proof.Claims
end

section
/-! Admin commands once firmware has them (R101, R106, R116, R127, R132, R137-R139, R166-R168, R223, R224, R271-R278). -/
namespace Sys2Proof.Machine

variable (b : Block) {qc i : Nat} {cid : BitVec 16}

/-- A command that the admin path has fetched does what firmware makes of it. -/
theorem Block.adminRow_fetched (f : Block → Block) (hadmin : b.isAdminQc qc = true)
    (hfetched : b.ce.admin.any (fun a => a.1 == qc && a.2.1 == cid.toNat) = true) : b.adminRow qc cid f = f b := by
  simp only [Block.adminRow, hadmin, hfetched, Bool.not_true, Bool.false_eq_true, if_false, if_true]

/-! ### Abort and features (R116, R127, R132, R166) -/

theorem Block.abortCmd_io {sqid target : Nat} {c : Cmd} (hq : b.sqOf (qCntlid (b.qc qc)) sqid = some i)
    (hc : b.ce.cmds.find? (fun c => decide (c.src = .queue i) && c.cid == target) = some c) (hab : c.abortable = true) (hop : c.op ≠ .program) :
    b.abortCmd qc cid sqid target = (b.complete c.seq stAborted).admDone qc cid 0 stOk := by
  simp only [Block.abortCmd, hq, hc, hab, Bool.not_true, Bool.false_eq_true, if_false]

theorem Block.setOrdered_io {w : W32} (hq : b.ioQueueOf qc w = some i) :
    b.setOrdered qc cid w = (b.qcF i 10 10 (fld w 16 16)).admDone qc cid 0 stOk := by
  simp only [Block.setOrdered, hq]

theorem Block.getOrdered_io {w : W32} (hq : b.ioQueueOf qc w = some i) : b.getOrdered qc cid w =
    b.admDone qc cid (BitVec.ofNat 32 (fld w 0 15 + (if qOrdered (b.qc i) then 65536 else 0))) stOk := by
  simp only [Block.getOrdered, hq]

theorem Block.aerCmd_outstanding (hev : (b.ctlr (qCntlid (b.qc qc))).events = [])
    (hnew : (b.ctlr (qCntlid (b.qc qc))).aers.contains cid.toNat = false) :
    b.aerCmd qc cid = b.modCtlr (qCntlid (b.qc qc)) (fun c => { c with aers := c.aers ++ [cid.toNat] }) := by
  simp only [Block.aerCmd, hev, hnew, Bool.false_eq_true, if_false]

/-! ### Queues (R89) -/

theorem Block.createQueue_submission {ctx : Nat} {rec : BitVec 512} (hmine : qCntlid (b.qcNew ctx rec) = qCntlid (b.qc qc))
    (hok : b.qcWriteOk ctx rec = true) (hen : qSqEn (b.qcNew ctx rec) = true) (htype : qType (b.qcNew ctx rec) = 2)
    (hnew : b.sqOf (qCntlid (b.qc qc)) (qSqid (b.qcNew ctx rec)) = none) (hfirst : 1 ≤ qSqid (b.qcNew ctx rec))
    (hlast : qSqid (b.qcNew ctx rec) ≤ queuePairs (qCntlid (b.qc qc))) :
    b.createQueue qc cid ctx rec true = (b.qcApply ctx rec).admDone qc cid 0 stOk := by
  simp [Block.createQueue, hmine, hok, hen, htype, hnew, hfirst, hlast]

theorem Block.createQueue_completion {ctx : Nat} {rec : BitVec 512} (hmine : qCntlid (b.qcNew ctx rec) = qCntlid (b.qc qc))
    (hok : b.qcWriteOk ctx rec = true) (hen : qCqEn (b.qcNew ctx rec) = true)
    (hnew : b.cqOf (qCntlid (b.qc qc)) (qCqid (b.qcNew ctx rec)) = none) (hfirst : 1 ≤ qCqid (b.qcNew ctx rec))
    (hlast : qCqid (b.qcNew ctx rec) ≤ queuePairs (qCntlid (b.qc qc))) :
    b.createQueue qc cid ctx rec false = (b.qcApply ctx rec).admDone qc cid 0 stOk := by
  simp [Block.createQueue, hmine, hok, hen, hnew, hfirst, hlast]

theorem Block.deleteSq_io {sqid : Nat} (hq : b.sqOf (qCntlid (b.qc qc)) sqid = some i) (hio : qIsAdmin (b.qc i) = false) :
    b.deleteSq qc cid sqid = (((b.endQueue i).qcF i 0 0 0).qcF i 18 20 0).admDone qc cid 0 stOk := by
  simp only [Block.deleteSq, hq, hio, Bool.false_eq_true, if_false]

theorem Block.deleteCq_unused {cqid : Nat} (hq : b.cqOf (qCntlid (b.qc qc)) cqid = some i) (hio : (qSqEn (b.qc i) && qIsAdmin (b.qc i)) = false)
    (hunused : b.qcsWhere (fun r => qSqEn r && qCqCtx r == i) = []) : b.deleteCq qc cid cqid =
      ((b.dropWaits (fun w => qCqCtx (b.qc w.qc) == i)).qcF i 192 192 0).admDone qc cid 0 stOk := by
  simp only [Block.deleteCq, hq, hio, hunused, List.isEmpty_nil, Bool.false_eq_true, if_false, if_true]

/-! ### Namespaces, format and sanitize (R223, R224, R271-R278) -/

/-- A new namespace takes its word and size, and every map its place in the region set aside, where space and region have room. -/
theorem Block.manageNs_new {nsx tenant shift lbas entry : Nat} (hnew : b.nsValid nsx = false)
    (hspace : ((b.nsBytes nsx (lbas * 2 ^ shift)).map (·.2)).sum ≤ 2 * (b.spaceUser * 256)) (hon : (b.region entry).st = .on)
    (hstrong : (b.region entry).light = false) (howner : (b.region entry).owner = 0)
    (hroom : 6 * ((b.nsBytes nsx (lbas * 2 ^ shift)).map (fun x => unitCount x.2)).sum ≤ (b.region entry).size * 2 ^ 20)
    (hunits : ((b.nsBytes nsx (lbas * 2 ^ shift)).map (fun x => unitCount x.2)).sum ≤ 2 ^ 35) :
    b.manageNs qc cid nsx tenant shift lbas entry =
      ((((b.onCe (fun e => { e with ns := smSet 0xC00 e.ns nsx (BitVec.ofNat 32 (tenant + 64 + shift * 256)) })).onFt (fun t =>
        { t with nsze := smSet 0 t.nsze nsx lbas })).layMap (mapAreas ((b.region entry).base * 2 ^ 20) (b.nsBytes nsx (lbas * 2 ^ shift)))).admDone
          qc cid 0 stOk) := by
  simp only [Block.manageNs, hnew, hon, hstrong, howner, Bool.not_false, Bool.false_eq_true, if_false, if_true, and_self, gt_iff_lt,
    Nat.not_lt.mpr hspace, Nat.not_lt.mpr hroom, Nat.not_lt.mpr hunits, or_self]

theorem Block.formatNvm_begins {nsid shift ses : Nat} (hfirst : 1 ≤ nsid) (hlast : nsid ≤ 1024) (hvalid : b.nsValid (nsid - 1) = true)
    (hses : ses ≤ 2) (hsan : b.ft.san = none) (hfmt : b.ft.fmt = none) (hidle : b.nsBusy (nsid - 1) = false) (hlive : b.ftLive = true) :
    b.formatNvm qc cid nsid shift ses =
      b.adminRow qc cid (fun x => (x.onFt (fun t => { t with fmt := some ⟨nsid - 1, shift, ses, (qc, cid.toNat)⟩ })).recUpdate id) := by
  simp [Block.formatNvm, hfirst, hlast, hvalid, Nat.not_lt.mpr hses, hsan, hfmt, hidle, hlive]

theorem Block.sanitizeCmd_crypto {act passes : Nat} {w : W32} {invert : Bool} (hact : act = 4) (hadmin : b.isAdminQc qc = true)
    (hfetched : b.ce.admin.any (fun a => a.1 == qc && a.2.1 == cid.toNat) = true) (hlive : b.ftLive = true) (hsan : b.ft.san = none)
    (hfmt : b.ft.fmt = none) : b.sanitizeCmd qc cid act passes w invert false =
      (b.sanStart ⟨.crypto, 0, if passes = 0 then 16 else passes, w, invert, 0⟩).admDone qc cid 0 stOk := by
  subst hact
  have hhere : (!b.ftLive || b.ft.fmt.isSome) = false := by simp [hlive, hfmt]
  rw [Block.sanitizeCmd, if_neg (Bool.eq_false_iff.mp hhere), b.adminRow_fetched _ hadmin hfetched]
  simp only [sanAct, hsan, Option.isSome_none, Bool.false_eq_true, if_false]

/-! ### Firmware activation (R137-R139) -/

theorem Block.fwCommit_activates {one : Bool} {svn : Nat} (hsvn : b.hk.fused ≤ svn) (hnone : b.ce.activation = none) :
    b.fwCommit qc cid one true true svn =
      (let x := b.onHk (fun h => { h with slotSvn := if one then (h.slotSvn.1, svn) else (svn, h.slotSvn.2) })
       ((x.setFetchStop 1).onCe (fun e => { e with activation := some (qc, cid.toNat, x.usec, one) })).actDone) := by
  simp [Block.fwCommit, Nat.not_lt.mpr hsvn, hnone]

theorem Block.actTimeout_inflight {a : Nat × Nat × Nat × Bool} (ha : b.ce.activation = some a) (hbusy : b.inflight ≠ 0) :
    b.actTimeout = (b.elapseTo (a.2.2.1 + 150000)).actEnds a.1 a.2.1 (statU 1 0x12) := by
  simp only [Block.actTimeout, ha, hbusy, if_false]

end Sys2Proof.Machine

namespace Sys2Proof.Claims
open Sys2Proof.Machine

section
variable {b : Block} {qc : Nat} {cid : BitVec 16}

/-- The row of an admin command that the admin path has fetched answers what firmware makes of the command. -/
theorem answers_admin {m : Instr} {q : List Instr} {b' : Block} {f : Block → Block} (hdark : b.dark = false) (hadmin : b.isAdminQc qc = true)
    (hfetched : b.ce.admin.any (fun a => a.1 == qc && a.2.1 == cid.toNat) = true)
    (hmeans : exec m ⟨q, b⟩ = State.run ⟨q, b⟩ (fun x => x.adminRow qc cid f)) (hf : f b = b') : Answers m q b b' :=
  answers_run hdark hmeans ((b.adminRow_fetched f hadmin hfetched).trans hf)

end

/-- Settles O10: each command by the case of its meaning that its conditions name, once the admin path has fetched it. -/
theorem adminCommands : Obligations.AdminCommands := by
  intro q b qc ctx cid sqid target w ps rec c i nsx tenant shift12 slot invert lbas entry svn nsid ses passes a hdark hadmin hfetched k
  have row {m : Instr} {b' : Block} {f : Block → Block} := answers_admin (m := m) (q := q) (b' := b') (f := f) hdark hadmin hfetched
  refine ⟨fun hq hc hab hop => row rfl (b.abortCmd_io hq hc hab hop), fun hq => row rfl (b.setOrdered_io hq),
    fun hq => row rfl (b.getOrdered_io hq), ?report, ?power, ?arbitration, ?coalescing, ?vector, ?keepAlive,
    fun hev hnew => row rfl (b.aerCmd_outstanding hev hnew), ?doorbells, ?virtualization,
    fun hmine hok => ⟨fun hen htype hnew hfirst hlast => ?createSq, fun hen hnew hfirst hlast => ?createCq⟩,
    fun hq hio => row rfl (b.deleteSq_io hq hio), fun hq hio hunused => row rfl (b.deleteCq_unused hq hio hunused),
    fun hnew hspace hon hstrong howner hroom hunits => ?newNs, fun hsvn hnone => row rfl (b.fwCommit_activates hsvn hnone),
    fun ha hbusy => answers_run hdark rfl (b.actTimeout_inflight ha hbusy),
    fun hfirst hlast hvalid hses hsan hfmt hidle hlive => ?format, fun hlive hsan hfmt => ?sanitize⟩
  case report | power | arbitration | coalescing | vector | keepAlive | doorbells | virtualization => exact row rfl rfl
  case createSq => exact row rfl (b.createQueue_submission hmine hok hen htype hnew hfirst hlast)
  case createCq => exact row rfl (b.createQueue_completion hmine hok hen hnew hfirst hlast)
  case newNs => exact row rfl (b.manageNs_new hnew hspace hon hstrong howner hroom hunits)
  case format =>
    exact answers_run hdark rfl ((b.formatNvm_begins hfirst hlast hvalid hses hsan hfmt hidle hlive).trans
      (b.adminRow_fetched _ hadmin hfetched))
  case sanitize => exact answers_run hdark rfl (b.sanitizeCmd_crypto rfl hadmin hfetched hlive hsan hfmt)

end Sys2Proof.Claims
end

section
/-! Host data in staging (R122, R154, R170, R171, R203), the PCI Express links (R160, R172-R174) and the sideband (R175-R177). -/
namespace Sys2Proof.Machine

variable (b : Block) {seq piece off len qc l : Nat} {data : List (Nat × Byte)} {p : Piece} {c : Cmd}

/-! ### Commands in flight -/

/-- A change of a command that keeps its name and leaves it unfinished is found under the name. -/
theorem Block.cmd_modCmd {f : Cmd → Cmd} (hc : b.cmd seq = some c) (hseq : ∀ d, (f d).seq = d.seq) (hfin : ∀ d, (f d).fin = d.fin) :
    (b.modCmd seq f).cmd seq = some (f c) := by
  have hsame : (fun d : Cmd => d.seq == seq && !d.fin) ∘ (fun d => if d.seq = seq then f d else d) = fun d => d.seq == seq && !d.fin := by
    funext d
    by_cases hd : d.seq = seq <;> simp [hd, hseq, hfin]
  calc
    (b.modCmd seq f).cmd seq = (b.cmd seq).map (fun d => if d.seq = seq then f d else d) := by
      rw [Block.cmd, Block.modCmd, List.find?_map, hsame, Block.cmd]
    _ = some (f c) := by rw [hc, Option.map_some, if_pos (b.cmd_seq hc)]

/-! ### Host data and staging -/

theorem Block.hostPull_lands (hp : b.pulling seq piece = some p) (hin : off + len ≤ p.len) (hleft : p.landed + len ≤ p.len) :
    b.hostPull seq piece off len data .ok =
      b.land (b.portOf seq) seq piece off len (mkBytes (data.filter (fun x => decide (x.1 < len)))) := by
  simp only [Block.hostPull, hp, hin, hleft, ne_eq, not_true_eq_false, and_self, if_false, if_true]

/-- A host read that fails ends by its result, at the failing byte's offset in the command's data. -/
theorem Block.hostPull_fails {res : PullRes} (hp : b.pulling seq piece = some p) (hc : b.cmd seq = some c) (hres : res ≠ .ok) :
    b.hostPull seq piece off len data res = b.pullEnds seq (p.off - b.cmdStart c + off) res := by
  simp only [Block.hostPull, hp, hc, hres, ne_eq, not_false_eq_true, if_true, Option.elim_some]

theorem Block.pullEnds_timeout (hc : b.cmd seq = some c) (hsrc : c.src = .queue qc) : b.pullEnds seq off .timeout =
    (((b.hpRecord qc seq off 0x0101).raise (pgHp (b.linkOf (qCntlid (b.qc qc)))) 4).complete seq (statU 0 0x04)) := by
  simp only [Block.pullEnds, Block.pullFails, hc, hsrc]

theorem Block.pullEnds_piGuard (hc : b.cmd seq = some c) (hsrc : c.src = .queue qc) :
    b.pullEnds seq off .piGuard = (b.hpRecord qc seq off 0x0102).complete seq (statU 2 0x82) := by
  simp only [Block.pullEnds, Block.piFails, hc, hsrc, piStat]

/-- The record of a Compare once `len` bytes of its data from an offset have come beside what it had. -/
def keepData (had : Bytes) (off len : Nat) (data : List (Nat × Byte)) (d : Cmd) : Cmd :=
  { d with
    capsule := some ((data.filter (fun x => decide (x.1 < len))).foldl (fun m x => smSet 0 m (off + x.1) x.2) had)
    owed := d.owed - len }

/-- Data of a Compare is kept while the Compare has not all of it. -/
theorem Block.comparePull_more (hc : b.cmd seq = some c) (hplace : off + c.owed = b.cmdBytes c) (hmore : len < c.owed) :
    b.comparePull seq c off len data .ok = b.modCmd seq (keepData (c.capsule.getD []) off len data) := by
  have hkept := b.cmd_modCmd (f := keepData (c.capsule.getD []) off len data) hc (fun _ => rfl) (fun _ => rfl)
  have howes : ((b.modCmd seq (keepData (c.capsule.getD []) off len data)).cmd seq).any (fun d => d.owed == 0 && d.waits.isEmpty) = false := by
    have hleft : (c.owed - len == 0) = false := beq_eq_false_iff_ne.mpr (by omega)
    rw [hkept]
    exact (congrArg (· && c.waits.isEmpty) hleft).trans (Bool.false_and _)
  rw [Block.comparePull, if_neg (not_not_intro rfl), if_pos ⟨hplace, hmore.le⟩]
  exact if_neg (Bool.eq_false_iff.mp howes)

theorem Block.hostPull_compare {res : PullRes} (hp : b.pulling seq piece = none) (hc : b.cmd seq = some c) (hst : c.started = true)
    (howes : c.owed ≠ 0) : b.hostPull seq piece off len data res = b.comparePull seq c off len data res := by
  simp only [Block.hostPull, hp, hc, hst, bne_iff_ne.mpr howes, Bool.and_self, if_true]

theorem Block.pieceLands_eq (posted : Bool) (hp : b.piece seq piece = some p) (hresv : p.resv.isSome = true) (hnew : p.durable = false)
    (hc : b.cmd seq = some c) : b.pieceLands seq piece data posted =
      (let x := b.land (b.portOf seq) seq piece p.landed (p.len - p.landed)
        (mkBytes (data.filter (fun x => decide (x.1 < p.len - p.landed)))) posted
       if (x.cmd seq).isNone then x.lostWith c posted else x) := by
  simp only [Block.pieceLands, hp, Option.isNone_eq_false_iff.mpr hresv, hnew, hc, Bool.or_self, Bool.false_eq_true, if_false]

theorem Block.poolWait_waits (hp : b.piece seq piece = some p) (hresv : p.resv = none) (hnew : p.waited = false) : b.poolWait seq piece =
    (((b.elapseTo (p.asked + 1001)).modPiece seq piece (fun x => { x with waited := true })).raise (pgHp 0) 6) := by
  simp only [Block.poolWait, hp, hresv, hnew, Option.isSome_none, Bool.or_self, Bool.false_eq_true, if_false]

/-! ### Links (R160, R172-R174) -/

theorem Block.perstOn_single (h : b.isSplit = false) :
    b.perstOn = (((b.linkDown 0).raise (pgHp 0) 3).onHp (fun x => { x with perst := true })).setLevel 0 false := by
  simp only [Block.perstOn, h, Bool.false_eq_true, if_false, Block.each, List.foldl_cons, List.foldl_nil]

theorem Block.perstOn_split (h : b.isSplit = true) : b.perstOn =
    ((((((b.linkDown 0).linkDown 1).raise (pgHp 0) 3).raise (pgHp 1) 3).onHp (fun x => { x with perst := true })).setLevel 0 false) := by
  simp only [Block.perstOn, h, if_true, Block.each, List.foldl_cons, List.foldl_nil]

/-- A link that may train and has its ticket comes up, with the event where it fell short of its rate or width (R173, R202). -/
theorem Block.linkUp_trains {rate width : Nat} (hok : b.trainOk l rate width = true) (ht : (b.linkTicket l).1 = .granted) : b.linkUp l rate width =
    (let x := (b.linkTicket l).2
     let top := x.rdF (pgHp l + 0x100) 11 13
     let y := x.wrF (pgHp l + 0x100) 0 9 (rate + width * 8 + (if 3 ≤ rate then 256 else 0) + 512)
     let z := ((y.onHp (fun h => { h with trained := smPut h.trained l top })).pllOn 11).raise (pgHp l) 0
     if rate < top ∨ width < (if z.isSplit then 8 else 16) then z.raise (pgHp l) 2 else z) := by
  simp only [Block.linkUp, hok, ht, Bool.not_true, Bool.false_eq_true, if_false, ne_eq, not_true_eq_false, Block.onIf, decide_eq_true_eq]

theorem Block.l12In_enters (hup : b.linkIsUp l = true) (hout : b.hp.l12.contains l = false) :
    b.l12In l = (b.onHp (fun h => { h with l12 := h.l12 ++ [l] })).untick (.link l) := by
  simp only [Block.l12In, hup, hout, Bool.not_false, Bool.and_self, if_true]

theorem Block.l12Out_granted (hin : b.hp.l12.contains l = true) (hholds : (b.linkTicket l).2.holds (.link l) = true) :
    b.l12Out l = (b.linkTicket l).2.onHp (fun h => { h with l12 := h.l12.filter (· ≠ l) }) := by
  simp only [Block.l12Out, hin, hholds, Bool.not_true, Bool.false_and, Bool.false_eq_true, if_false, if_true]

/-- A ticket that does not fit ends a non-operational power state first (R691). -/
theorem Block.l12Out_wakes (hin : b.hp.l12.contains l = true) (hlacks : (b.linkTicket l).2.holds (.link l) = false)
    (hps : 3 ≤ (b.linkTicket l).2.pa.ps) (hholds : (((b.linkTicket l).2.psWake.linkTicket l).2.redivide).holds (.link l) = true) : b.l12Out l =
      (((b.linkTicket l).2.psWake.linkTicket l).2.redivide).onHp (fun h => { h with l12 := h.l12.filter (· ≠ l) }) := by
  simp only [Block.l12Out, hin, hlacks, hps, hholds, Bool.not_true, Bool.not_false, decide_true, Bool.and_self, Bool.false_eq_true, if_false, if_true]

/-! ### The sideband (R175-R177) -/

variable {addr : BitVec 7} {req : W32} {pec : Byte}

theorem Block.mctp_served (hen : b.rdF (pgHp 0 + 0x120) 7 7 = 1) (haddr : addr.toNat = b.rdF (pgHp 0 + 0x120) 0 6) (hpec : pec = mctpPec addr req)
    (hact : b.ce.activation = none) (hfail : b.hk.failover = none) : b.mctp addr req pec = b.send (.mctp req) := by
  simp [Block.mctp, hen, haddr, ← hpec, hact, hfail]

theorem Block.mctp_held (hen : b.rdF (pgHp 0 + 0x120) 7 7 = 1) (haddr : addr.toNat = b.rdF (pgHp 0 + 0x120) 0 6) (hpec : pec = mctpPec addr req)
    (hbusy : b.ce.activation.isSome = true ∨ b.hk.failover.isSome = true) :
    b.mctp addr req pec = b.onHp (fun h => { h with mctp := h.mctp ++ [req] }) := by
  have hwait : (b.ce.activation.isSome || b.hk.failover.isSome) = true := Bool.or_eq_true_iff.mpr hbusy
  simp [Block.mctp, hen, haddr, ← hpec, hwait]

/-- A request to another address, or with a wrong packet error code, is not answered. -/
theorem Block.mctp_ignored (hother : b.rdF (pgHp 0 + 0x120) 7 7 ≠ 1 ∨ addr.toNat ≠ b.rdF (pgHp 0 + 0x120) 0 6 ∨ pec ≠ mctpPec addr req) :
    b.mctp addr req pec = b := by
  refine if_pos ?_
  rcases hother with h | h | h <;> simp [h]

theorem Block.smbusReset_high (h : (b.inp 11).level = true) : b.smbusReset = b := if_pos h

theorem Block.smbusReset_low (h : (b.inp 11).level = false) : b.smbusReset =
    (((b.elapseTo ((b.inp 11).since + 35001)).modInp 11 (fun x => { x with since := (b.elapseTo ((b.inp 11).since + 35001)).usec })).raise
      (pgHp 0) 5) := if_neg (Bool.eq_false_iff.mp h)

end Sys2Proof.Machine

namespace Sys2Proof.Claims
open Sys2Proof.Machine

/-- Settles O11: each command by the case of its meaning that its conditions name. -/
theorem hostPortCommands : Obligations.HostPortCommands := by
  intro q b seq piece off len data p c qc posted split first l rate width addr req pec hdark
  refine ⟨fun hp => ⟨fun hin hleft => ?lands, fun hc hsrc => ⟨?timeout, ?piGuard⟩⟩, fun hp hc hst hplace hmore => ?compare,
    fun hp hresv hnew hc => ?durable, ?reserve, fun hp hresv hnew => ?wait, fun hsplit => ?perstOn, fun hsplit => ?perstOnSplit, ?perstOff,
    fun hup => ?linkDown, fun hok ht => ?linkUp, fun hup hout => ?l12In, fun hin hholds => ?l12Out, fun hin hlacks hps hholds => ?l12Wake,
    ?basic, fun hen haddr hpec => ⟨fun hact hfail => ?served, fun hbusy => ?held⟩, fun hother => ?ignored, fun hhigh => ?high, fun hlow => ?low⟩
  case lands => exact answers_run hdark rfl (b.hostPull_lands hp hin hleft)
  case timeout => exact answers_run hdark rfl ((b.hostPull_fails hp hc (by decide)).trans (b.pullEnds_timeout hc hsrc))
  case piGuard => exact answers_run hdark rfl ((b.hostPull_fails hp hc (by decide)).trans (b.pullEnds_piGuard hc hsrc))
  case compare =>
    exact answers_run hdark rfl ((b.hostPull_compare hp hc hst (by omega)).trans (b.comparePull_more hc hplace hmore))
  case durable => exact answers_run hdark rfl (b.pieceLands_eq posted hp hresv hnew hc)
  case reserve => exact answers_run hdark rfl rfl
  case wait => exact answers_run hdark rfl (b.poolWait_waits hp hresv hnew)
  case perstOn => exact answers_run hdark rfl (b.perstOn_single hsplit)
  case perstOnSplit => exact answers_run hdark rfl (b.perstOn_split hsplit)
  case perstOff => exact answers_run hdark rfl rfl
  case linkDown => exact answers_run hdark rfl (if_pos hup)
  case linkUp => exact answers_run hdark rfl (b.linkUp_trains hok ht)
  case l12In => exact answers_run hdark rfl (b.l12In_enters hup hout)
  case l12Out => exact answers_run hdark rfl (b.l12Out_granted hin hholds)
  case l12Wake => exact answers_run hdark rfl (b.l12Out_wakes hin hlacks hps hholds)
  case basic => exact answers_runAon hdark rfl rfl
  case served => exact answers_run hdark rfl (b.mctp_served hen haddr hpec hact hfail)
  case held => exact answers_run hdark rfl (b.mctp_held hen haddr hpec hbusy)
  case ignored => exact answers_run hdark rfl (b.mctp_ignored hother)
  case high => exact answers_run hdark rfl (b.smbusReset_high hhigh)
  case low => exact answers_run hdark rfl (b.smbusReset_low hlow)

end Sys2Proof.Claims
end

section
/-! Programs and memory namespaces (R612-R625, R639): what a compute command that nothing holds back does, and how it ends. -/
namespace Sys2Proof.Machine

variable (b : Block) {seq qc t slot size off : Nat} {c : Cmd} {data : List Byte}

/-! ### Load Program (R620-R623) -/

/-- The block once a part of a program lies in its slot. -/
def Block.programPart (b : Block) (a off : Nat) (data : List Byte) : Block := (b.storeBytes (a + off) data).cleanWhole (a + off) data.length

/-- A part that its slot takes: the slot is idle, the part goes on where the last one ended or begins anew, and it lies in the image. -/
structure Block.TakesPart (b : Block) (t slot size off : Nat) (data : List Byte) (a : Nat) (p : Prog) : Prop where
  place : b.slotPlace t slot = some a
  prog : (b.prog t slot).getD ⟨0, false, false⟩ = p
  inactive : p.active = false
  idle : b.slotRunning t slot = false
  goesOn : off = 0 ∨ off = (if p.whole then 0 else p.got)
  small : size ≤ 2 ^ 24
  inside : off + data.length ≤ size

variable {a : Nat} {p : Prog}

theorem Block.TakesPart.loadProgram_eq {b : Block} (h : b.TakesPart t slot size off data a p) : b.loadProgram t slot size off data =
    (let v := b.programPart a off data
     if off + data.length < size then (v.setProg t slot (some ⟨off + data.length, false, false⟩), stOk)
     else if v.headerOk a size then
       let w := v.setProg t slot (some ⟨size, true, false⟩)
       (w.each ((List.range 96).filter w.hasCore) Block.icinv, stOk)
     else
       (((v.setProg t slot none).record pgCx { code := 0x0104, sev := .corrected, tenant := BitVec.ofNat 6 t }).raise pgCx 0, statU 0 0x02)) := by
  obtain ⟨hplace, hprog, hinactive, hidle, hgoesOn, hsmall, hinside⟩ := h
  have hbad : ¬ ((off ≠ 0 ∧ off ≠ (if p.whole then 0 else p.got)) ∨ size > 2 ^ 24 ∨ off + data.length > size) := by
    rintro (⟨h0, hgot⟩ | hbig | hout)
    · exact hgoesOn.elim h0 hgot
    · omega
    · omega
  simp only [Block.loadProgram, hplace, hprog, hinactive, hidle, Bool.or_self, Bool.false_eq_true, if_false]
  exact if_neg hbad

theorem Block.TakesPart.loadProgram_more {b : Block} (h : b.TakesPart t slot size off data a p) (hmore : off + data.length < size) :
    b.loadProgram t slot size off data =
      ((b.programPart a off data).setProg t slot (some ⟨off + data.length, false, false⟩), stOk) := by
  rw [h.loadProgram_eq]
  exact if_pos hmore

theorem Block.TakesPart.loadProgram_whole {b : Block} (h : b.TakesPart t slot size off data a p) (hlast : off + data.length = size)
    (hok : (b.programPart a off data).headerOk a size = true) : b.loadProgram t slot size off data =
      (let w := (b.programPart a off data).setProg t slot (some ⟨size, true, false⟩)
       (w.each ((List.range 96).filter w.hasCore) Block.icinv, stOk)) := by
  rw [h.loadProgram_eq]
  exact (if_neg (by omega)).trans (if_pos hok)

theorem Block.TakesPart.loadProgram_badHeader {b : Block} (h : b.TakesPart t slot size off data a p) (hlast : off + data.length = size)
    (hbad : (b.programPart a off data).headerOk a size = false) : b.loadProgram t slot size off data =
      (((((b.programPart a off data).setProg t slot none).record pgCx
        { code := 0x0104, sev := .corrected, tenant := BitVec.ofNat 6 t }).raise pgCx 0), statU 0 0x02) := by
  rw [h.loadProgram_eq]
  exact (if_neg (by omega)).trans (if_neg (Bool.eq_false_iff.mp hbad))

/-! ### Activation (R622) -/

theorem Block.activate_whole (act : Bool) (hprog : b.prog t slot = some p) (hwhole : p.whole = true) (hidle : b.slotRunning t slot = false) :
    b.activate t slot act = (b.setProg t slot (some { p with active := act }), stOk) := by
  simp [Block.activate, hprog, hwhole, hidle]

/-! ### Memory namespaces (R625, R639) -/

variable {transit : Option (FAddr × W32)} {m : Nat × Nat} {len : Nat}

theorem Block.readMem_clean (hns : b.memNs c.tenant.toNat transit = some m) (hin : off + len ≤ m.2)
    (hclean : b.anyPoison (m.1 + off) len = false) :
    b.readMem c qc transit off len = (b.send (.memData qc c.cid (b.bytes (m.1 + off) len)), stOk) := by
  simp [Block.readMem, hns, Nat.not_lt.mpr hin, hclean]

theorem Block.writeMem_inside (hns : b.memNs c.tenant.toNat transit = some m) (hin : off + data.length ≤ m.2) :
    b.writeMem c transit off data = ((b.storeBytes (m.1 + off) data).cleanWhole (m.1 + off) data.length, stOk) := by
  simp [Block.writeMem, hns, Nat.not_lt.mpr hin]

/-- The parts of a Memory Copy enter one after another, each from its lane (R625). -/
theorem Block.memCopy_parts {lane slba count : Nat} {toMem : Bool} {nsid : W32} (hns : b.memNs c.tenant.toNat transit = some m)
    (hin : off + count * b.lbaSize (nsid.toNat - 1) ≤ m.2)
    (hparts : (cutLbas (count + 1) (262144 / b.lbaSize (nsid.toNat - 1)) slba count).map (c.kid lane toMem nsid) ≠ []) :
    b.memCopy c lane toMem nsid slba count transit off =
      (let lba := b.lbaSize (nsid.toNat - 1)
       let kids := (cutLbas (count + 1) (262144 / lba) slba count).map (c.kid lane toMem nsid)
       ((b.modCmd c.seq (fun d => { d with st := .readMedia, buf := m.1 + off })).onCe (fun e => { e with lanes := e.lanes ++ kids })).each kids
         (fun w f => w.kidEnters slba (m.1 + off) lba f)) := by
  have hsome := List.isEmpty_eq_false_iff.mpr hparts
  simp only [Block.memCopy, hns, Nat.not_lt.mpr hin, hsome, Bool.false_eq_true, if_false]

/-! ### Execute Program (R612-R618) -/

/-- The clusters of a tenant with room for a scratch range of a size, in the order in which they are asked (R613). -/
def Block.clusterOrder (b : Block) (t size : Nat) : List Nat :=
  b.roomOn size (((b.maskOfT t).filter b.clUp).foldl (fun ns n => b.byLoad n ns) [])

/-- An Execute Program whose tenant has room gets a context on the first cluster that grants it one. -/
theorem Block.progGo_context {ranges : List (W64 × W64 × Bool)} {params : List Byte} {img n k scr : Nat} {z : Block}
    (hparams : params.length ≤ 4096) (hns : b.memNs c.tenant.toNat transit = some m) (hranges : rangesOk ranges m.2 = true)
    (hquota : b.rdF (pgCxT c.tenant.toNat + 0x100) 0 12 ≠ 0) (hhope : (b.maskOfT c.tenant.toNat).any b.clHope = true)
    (hroom : b.ctxHeld c.tenant.toNat < b.rdF (pgCxT c.tenant.toNat + 0x100) 0 12) (himg : b.slotPlace c.tenant.toNat slot = some img)
    (hprog : b.prog c.tenant.toNat slot = some p) (hactive : p.active = true)
    (horder : b.clusterOrder c.tenant.toNat (2 ^ (b.byte (img + 7)).toNat) ≠ [])
    (hask : b.askClusters (b.clusterOrder c.tenant.toNat (2 ^ (b.byte (img + 7)).toNat)) = (some n, z))
    (hctx : z.freeCtx = some k) (hscr : z.freeScr n (2 ^ (b.byte (img + 7)).toNat) = some scr) :
    b.progGo c slot ranges transit params = z.makeCtx c.seq slot (ranges.map (fun r => (m.1 + r.1.toNat, r.2.1.toNat, r.2.2))) transit.isSome
      params c.tenant.toNat n k scr (b.byte (img + 7)).toNat img := by
  have hlimit : ¬ params.length > 4096 := Nat.not_lt.mpr hparams
  have hheld : ¬ b.ctxHeld c.tenant.toNat ≥ b.rdF (pgCxT c.tenant.toNat + 0x100) 0 12 := Nat.not_le.mpr hroom
  have hsome := List.isEmpty_eq_false_iff.mpr horder
  rw [Block.clusterOrder] at hsome hask
  simp only [Block.progGo, hlimit, hns, hranges, hquota, hhope, hheld, himg, hprog, hactive, hsome, hask, hctx, hscr, decide_false, Bool.not_true,
    Bool.or_self, Bool.false_eq_true, or_self, if_false, Option.elim_some]

/-! ### Once nothing holds it back (R117, R612) -/

/-- A compute command ends with the status of its work. -/
def endWith (seq : Nat) (r : Block × Stat) : Block := r.1.complete seq r.2
/-- The work of a compute command of a queue. -/
def Block.progWork (b : Block) (seq qc : Nat) (c : Cmd) : ProgOp → Block
  | .load slot size off data => endWith seq (b.loadProgram c.tenant.toNat slot.toNat size.toNat off.toNat data)
  | .activate slot act => endWith seq (b.activate c.tenant.toNat slot.toNat act)
  | .execute slot ranges transit params => b.progGo c slot.toNat ranges transit params
  | .readMem transit off len => endWith seq (b.readMem c qc transit off.toNat len.toNat)
  | .writeMem transit off data => endWith seq (b.writeMem c transit off.toNat data)
  | .copy toMem nsid slba count transit off => b.memCopy c (qLane (b.qc qc)) toMem nsid slba.toNat count.toNat transit off.toNat

/-- A compute command that has started and not yet done its work does it. -/
theorem Block.progRun_started {op : ProgOp} (hc : b.cmd seq = some c) (hstarted : c.started = true) (hst : c.st = .fetched)
    (hsrc : c.src = .queue qc) (hprog : c.prog = some op) : b.progRun seq = b.progWork seq qc c op := by
  cases op <;> simp only [Block.progRun, hc, hprog, hsrc, hstarted, hst, ne_eq, not_true_eq_false, decide_false, Bool.not_true, Bool.or_self,
    Bool.false_eq_true, if_false, Block.progWork, endWith]

end Sys2Proof.Machine

namespace Sys2Proof.Claims
open Sys2Proof.Machine

/-- Settles O19: each command is fetched as an I/O command is, and does its work by the case of its meaning. -/
theorem programCommands : Obligations.ProgramCommands := by
  intro q b x qc cid ended slot size off act toMem data params ranges transit a p m seq at_ slba nsid count c img n k scr z hdark entry
  refine ⟨fun hmay => ?fetched, ?work, fun hc hwaits => ?waitEnd⟩
  case fetched => and_intros <;> exact fun h => h.answers hdark hmay rfl
  case waitEnd => exact answers_run hdark rfl (if_pos (by simp [hc, hwaits]))
  case work =>
    intro y t o hc hstarted hst hsrc
    have hseq := y.cmd_seq hc
    have hrun {op : ProgOp} {b' : Block} (hprog : c.prog = some op) (hwork : y.progWork seq.toNat qc.toNat c op = b') :
        Answers (.commandUnblock seq) q b b' :=
      answers_run hdark rfl ((y.progRun_started hc hstarted hst hsrc hprog).trans hwork)
    refine ⟨fun hprog hplace hp hinactive hidle hgoesOn hsmall hinside => ?load,
      fun hprog hp hwhole hidle => hrun hprog (congrArg (endWith _) (y.activate_whole act hp hwhole hidle)),
      fun hprog hns hin hclean => hrun hprog (congrArg (endWith _) (y.readMem_clean hns hin hclean)),
      fun hprog hns hin => hrun hprog (congrArg (endWith _) (y.writeMem_inside hns hin)),
      fun hprog hns hin hparts => hrun hprog (hseq ▸ y.memCopy_parts hns hin hparts),
      fun hprog hparams hns hranges hquota hhope hroom himg hp hactive horder hask hctx hscr => hrun hprog
        (hseq ▸ y.progGo_context hparams hns hranges hquota hhope hroom himg hp hactive horder hask hctx hscr)⟩
    case load =>
      have hpart : y.TakesPart t slot.toNat size.toNat o data a p := ⟨hplace, hp, hinactive, hidle, hgoesOn, hsmall, hinside⟩
      exact ⟨fun hmore => hrun hprog (congrArg (endWith _) (hpart.loadProgram_more hmore)),
        fun hlast hok => hrun hprog (congrArg (endWith _) (hpart.loadProgram_whole hlast hok)),
        fun hlast hbad => hrun hprog (congrArg (endWith _) (hpart.loadProgram_badHeader hlast hbad))⟩

end Sys2Proof.Claims
end

section
/-! Connections of the fabric port: SYNs and sessions (R182, R185, R198), segments (R183, R184, R195), what arrives on a session (R185-R196),
the timers (R199) and the Ethernet links (R206). -/
namespace Sys2Proof.Machine

variable (b : Block) {y : Block} {n : Nat} {x : Sess} {f : Flow} {fr : Frame} {opts offer : TcpOpts} {acl : Nat × SeEnt}

/-! ### SYN: the access list (R182, R198) -/

/-- A SYN that its logical port does not take in has no effect (R179). -/
theorem Block.syn_dropped (hdrop : takenIn f fr = false) : b.syn f fr opts = b := by
  simp [Block.syn, hdrop]

/-- A SYN that no entry of the access list names is dropped with the event. -/
theorem Block.syn_unlisted (hunit : b.variant.hasUnit 7 = true) (hin : takenIn f fr = true) (hlook : b.lookup 4 (aclKey f) = (none, y)) :
    b.syn f fr opts = y.raise pgFp 0 := by
  simp [Block.syn, hunit, hin, hlook]

section
variable (hunit : b.variant.hasUnit 7 = true) (hin : takenIn f fr = true) (hlook : b.lookup 4 (aclKey f) = (some acl, y))
include hunit hin hlook

/-- The action of its access-list entry drops a SYN. -/
theorem Block.syn_dropAction (hact : acl.2.result.toNat % 4 = 0) : b.syn f fr opts = y.raise pgFp 0 := by
  simp [Block.syn, hunit, hin, hlook, hact]

/-- The action of its access-list entry answers a SYN with a reset. -/
theorem Block.syn_resetAction (hact : acl.2.result.toNat % 4 = 1) : b.syn f fr opts = (y.send (.rstSyn f.lport)).raise pgFp 0 := by
  simp [Block.syn, hunit, hin, hlook, hact]

/-- An accepted SYN goes to firmware, with the entry's tenant. -/
theorem Block.syn_accepted (hact : acl.2.result.toNat % 4 = 2) (hsess : y.sessFree = true) (hqc : y.qcFreeOne = true) :
    b.syn f fr opts = (y.toFw 0).onFp (fun z => { z with
      accepted := z.accepted.filter (fun a => a.1 != f) ++ [(f, BitVec.ofNat 6 (acl.2.result.toNat / 4), opts)] }) := by
  simp [Block.syn, hunit, hin, hlook, hact, Block.onIf, hsess, hqc]

/-- A SYN that its entry accepts is answered with a reset where no session number is free. -/
theorem Block.syn_noSession (hact : acl.2.result.toNat % 4 = 2) (hsess : y.sessFree = false) :
    b.syn f fr opts = (y.send (.rstSyn f.lport)).raise pgFp 1 := by
  simp [Block.syn, hunit, hin, hlook, hact, Block.onIf, hsess]

end

/-! ### Sessions: installation, handshake and reuse of a number (R181, R185, R195, R497) -/

/-- Firmware installs a session for an accepted SYN in the first free place of the roomiest bank. -/
theorem Block.install_accepted {tenant : BitVec 6} {k i : Nat} (irs iss : W32) (tls : Bool) (hunit : b.variant.hasUnit 7 = true)
    (hfail : b.hk.failover = none) (hnew : b.sess n = none) (hcool : b.fp.cooling.any (fun z => z.1 == n) = false)
    (hacc : b.fp.accepted.find? (fun a => a.1 == f) = some (f, tenant, offer)) (hopts : optsWithin opts offer = true)
    (hroom : b.roomiest = some k) (hplace : (b.freeIx k 0).head? = some i) :
    b.install n f opts irs iss tls = (b.putEntry k i ⟨connKey f, 0, 0, BitVec.ofNat 32 n, 0, true⟩).onFp (fun z =>
      { z with sess := smPut z.sess n (b.newSess f tenant opts irs iss tls), accepted := z.accepted.filter (fun a => a.1 != f) }) := by
  simp only [Block.install, hnew, hcool, hunit, hfail, hacc, hroom, hplace, hopts, Option.isSome_none, Bool.not_true, Bool.or_self,
    Bool.false_eq_true, if_false]

theorem TlsKeys.ok_iff {keys : TlsKeys} : TlsKeys.ok keys = true ↔ keys.suite ≠ .other := decide_eq_true_iff

section
variable (hx : b.sess n = some x) (hphase : x.phase = .tls) (hfail : b.hk.failover = none)
include hx hphase hfail

/-- The handshake gives the session record keys of a suite the port offloads. -/
theorem Block.handshake_keyed {keys : TlsKeys} (hsuite : keys.suite ≠ .other) :
    b.handshake n (some keys) = b.modSess n (fun z => { z with phase := .icreq, keys := some keys }) := by
  simp [Block.handshake, hx, hphase, hfail, TlsKeys.ok_iff.mpr hsuite]

/-- The handshake closes the session where it gives no such keys. -/
theorem Block.handshake_fails {keys : Option TlsKeys} (hkeys : keys.any TlsKeys.ok = false) : b.handshake n keys = b.closeSess n := by
  simp [Block.handshake, hx, hphase, hfail, hkeys]

end

theorem Block.cooled_cooling {c : Nat × Nat} (hc : b.fp.cooling.find? (fun z => z.1 == n) = some c) :
    b.cooled n = (b.elapseTo c.2).onFp (fun z => { z with cooling := z.cooling.filter (fun d => d.1 ≠ n) }) := by
  simp only [Block.cooled, hc]

/-! ### What arrives on a session (R101, R137, R196) -/

/-- What arrives on a session that nothing holds, behind nothing that waits, is taken in. -/
theorem Block.arrive_taken {p : Pdu} (hx : b.sess n = some x) (hfree : x.held = false) (hkept : b.fp.kept.any (fun z => z.1 == n) = false)
    (hgo : (b.fetchStop && p.isAdmin) = false) : b.arrive n p = b.pdu n p := by
  simp [Block.arrive, Block.mustWait, hx, hfree, hkept, hgo]

/-- What arrives on a session that firmware holds waits. -/
theorem Block.arrive_held {p : Pdu} (hx : b.sess n = some x) (hheld : x.held = true) :
    b.arrive n p = b.onFp (fun z => { z with kept := z.kept ++ [(n, p)] }) := by
  simp [Block.arrive, Block.mustWait, hx, hheld]

/-- Nothing is released where nothing waits. -/
theorem Block.release_nothing (hkept : b.fp.kept = []) : b.release = b := by
  rw [Block.release, hkept]
  rfl

/-- A session resumes with new record keys after a key update. -/
theorem Block.tlsResume_rekeyed {keys : TlsKeys} (hkept : b.fp.kept = []) (hsuite : keys.suite ≠ .other) :
    b.tlsResume n (some keys) = b.modSess n (fun z => { z with held := false, keys := some keys }) := by
  have hok : (some keys).any TlsKeys.ok = true := TlsKeys.ok_iff.mpr hsuite
  simp only [Block.tlsResume, hok, if_true]
  exact Block.release_nothing _ hkept

/-! ### Segments (R180, R181, R183, R184) -/

theorem Block.receive_dropped (kind : SegKind) (hdrop : takenIn f fr = false) : b.receive f fr kind = b := by
  simp [Block.receive, hdrop]

theorem Block.receive_fragment (hunit : b.variant.hasUnit 7 = true) (hin : takenIn f fr = true) :
    b.receive f fr .fragment = b.onFp (fun z => { z with frags := z.frags + 1 }) := by
  simp [Block.receive, hunit, hin]

/-- A segment whose key names a session of its connection arrives on the session. -/
theorem Block.receive_session {kind : SegKind} (hunit : b.variant.hasUnit 7 = true) (hin : takenIn f fr = true)
    (hlook : b.sessOf (connKey f) = (some n, y)) (hx : y.sess n = some x) (hflow : x.flow = f) (hkind : kind ≠ .fragment) :
    b.receive f fr kind = y.arrive n (.segment kind fr.ce) := by
  simp [Block.receive, hunit, hin, hlook, hx, hflow, hkind]

/-- A segment in good order is acknowledged where it carries data. -/
theorem Block.segment_good (sq ack : W32) (sl : BitVec 16) (ce : Bool) (hx : b.sess n = some x) : b.segment n (.good sq sl ack) ce =
    (let z := b.goodSeg x sq sl ack
     let w := b.modSess n (fun _ => z)
     if sl = 0 then w else w.send (.ack n z.rcvNxt (w.rxWindow z) (z.opts.ecn && ce))) := by
  by_cases hdata : sl = 0 <;> simp [Block.segment, hx, Block.onIf, hdata]

theorem Block.segment_badPdu (ce : Bool) (hx : b.sess n = some x) : b.segment n .badPdu ce = b.pduError n := by
  simp only [Block.segment, hx]

/-! ### ICReq, Connect and Property Set (R133, R185, R186, R191) -/

theorem Block.icreq_answered {hpda maxR2t : Nat} (hd dd : Bool) (hx : b.sess n = some x) (hphase : x.phase = .icreq) (hpad : hpda ≤ 31) :
    b.icreq n 0 hpda hd dd maxR2t =
      (b.modSess n (fun z => { z with phase := .connect, digests := (hd, dd), maxR2t := maxR2t })).send (.icResp n 65536 hd dd) := by
  simp [Block.icreq, hx, hphase, hpad]

/-- An ICReq of another PDU format version, or of too much padding, is a format error. -/
theorem Block.icreq_malformed {pfv hpda maxR2t : Nat} (hd dd : Bool) (hx : b.sess n = some x) (hphase : x.phase = .icreq)
    (hbad : pfv ≠ 0 ∨ hpda > 31) : b.icreq n pfv hpda hd dd maxR2t = b.pduError n := by
  simp only [Block.icreq, hx, hphase, hbad, Option.any_some, decide_true, Bool.not_true, Bool.false_eq_true, if_false, if_true]

/-- An admin Connect that no association of its controller precedes makes one, of the context that firmware writes. -/
theorem Block.connect_admin {cntlid ctx : Nat} {rec : BitVec 512} (kato : Nat) (hx : b.sess n = some x) (hphase : x.phase = .connect)
    (hnew : b.fp.sess.any (fun z => z.2.isAdmin && z.2.cntlid == cntlid) = false) (hok : b.connectOk n x true cntlid ctx rec = true) :
    b.connect n true true cntlid kato ctx rec =
      (let z := (b.qcApply ctx rec).modSess n (fun z => { z with phase := .ready, qc := some ctx, cntlid := cntlid, isAdmin := true })
       (z.modCtlr cntlid (fun c => { c with kato := kato, kaAt := z.usec })).send (.capsule n (BitVec.ofNat 32 cntlid) 0 0 0 stOk)) := by
  simp only [Block.connect, hx, hphase, hnew, hok, ne_eq, not_true_eq_false, Bool.not_true, Bool.false_and, Bool.and_false, Bool.or_self,
    Bool.false_eq_true, if_false, Block.onIf, if_true]

/-- A Property Set of CC.EN on an association enables its controller. -/
theorem Block.property_enables {v : W32} (cid : Nat) (hx : b.sess n = some x) (hadmin : x.isAdmin = true) (hphase : x.phase = .ready)
    (hen : v.getLsbD 0 = true) :
    b.property n cid 0x14 v = (b.send (.capsule n 0 0 0 cid stOk)).modCtlr x.cntlid (fun c => { c with en := true }) := by
  simp only [Block.property, hx, hadmin, hphase, hen, decide_true, Bool.and_self, Bool.not_true, Bool.false_eq_true, if_false, if_true, ne_eq,
    not_true_eq_false]

/-! ### Capsules and their data (R187, R188, R190, R193) -/

/-- A capsule without data joins its queue. -/
theorem Block.capsule_noData {qc : Nat} (e : Sqe) (ddgst : W32) (hx : b.sess n = some x) (hqc : x.qc = some qc)
    (hen : qSqEn (b.qc qc) = true) : b.capsule n e 0 0 ddgst true =
      (b.qcF qc 160 175 ((qSqTail (b.qc qc) + 1) % (qSqSize (b.qc qc) + 1))).onFp (fun z =>
        { z with capsules := z.capsules ++ [(qc, { e with data := none }, none)] }) := by
  simp [Block.capsule, hx, hqc, hen]

/-- A session's R2T `r` has moved past `len` bytes, and left it where none remain. -/
def passR2t (r : R2t) (len : Nat) (z : Sess) : Sess :=
  { z with
    r2ts := (z.r2ts.map (fun t => if t = r then { t with off := t.off + len, len := t.len - len } else t)).filter (fun t => decide (t.len ≠ 0)) }

/-- Data of an R2T lands in its piece, at the bytes' place in the piece. -/
theorem Block.h2c_lands {cid off len : Nat} {data : List (Nat × Byte)} {r : R2t} {c : Cmd} {p : Piece} (ddgst : W32) (hx : b.sess n = some x)
    (hr : b.r2tFor n cid off len = some (r, c)) (hlen : len ≤ 65536) (hdigest : x.digests.2 = false)
    (hp : (b.modSess n (passR2t r len)).piece r.seq r.piece = some p) : b.h2c n cid off len data ddgst true =
      (let z := b.modSess n (passR2t r len)
       (z.land (z.portOf r.seq) r.seq r.piece (off - (p.off - z.cmdStart c)) len (mkBytes (data.filter (fun d => decide (d.1 < len))))).issueAll
         n r.seq) := by
  have hgood : x.digestOk data len ddgst = true := by simp [Sess.digestOk, hdigest]
  unfold passR2t at hp ⊢
  simp only [Block.h2c, hx, hr, hgood, Nat.not_lt.mpr hlen, hp, decide_false, Bool.not_true, Bool.or_self, Bool.false_eq_true, if_false]

/-! ### Timers (R199) -/

theorem Block.icreqLate_waiting (hx : b.sess n = some x) (hphase : x.phase = .icreq ∨ x.phase = .tls) :
    b.icreqLate n = (b.elapseTo (x.since + 100000 * b.rdF (pgFp + 0x104) 12 19)).closeSess n := by
  simp only [Block.icreqLate, hx, hphase, if_true]

theorem Block.h2cLate_waiting {r : R2t} {rs : List R2t} (hx : b.sess n = some x) (hr : x.r2ts = r :: rs) : b.h2cLate n =
    (let z := b.elapseTo (r.sent + 100000 * b.rdF (pgFp + 0x104) 20 27)
     (z.free.2.send (.termReq n (z.free.1.toNat % 65536))).closeSess n) := by
  simp only [Block.h2cLate, hx, hr]

theorem Block.kaLate_runs {cntlid : Nat} (hkato : (b.ctlr cntlid).kato ≠ 0) :
    b.kaLate cntlid = (b.elapseTo ((b.ctlr cntlid).kaAt + 100000 * (b.ctlr cntlid).kato)).endAssoc cntlid := if_neg hkato

/-- While a retry remains, the timer sends again and waits twice as long. -/
theorem Block.rtoExpires_retries (hx : b.sess n = some x) (hleft : x.retries < b.rdF (pgFp + 0x104) 8 11) : b.rtoExpires n =
    ((b.elapse x.rto).send (.resend n)).modSess n (fun z => { z with retries := z.retries + 1, rto := min (2 * z.rto) 1000000 }) := by
  have hleft' : x.retries < (b.elapse x.rto).rdF (pgFp + 0x104) 8 11 := hleft
  simp only [Block.rtoExpires, hx, hleft', if_true]

/-! ### Ethernet links (R206) -/

section
variable {p l : Nat} (hport : b.has .fpPort p = true)
include hport

theorem Block.ethDown_up (hup : b.rdF (pgFpP p + 0x104) l l = 1) : b.ethDown p l =
    (((b.wrF (pgFpP p + 0x104) l l 0).wrF (pgFpP p + 0x104) (8 + l) (8 + l) 0).raise (pgFpP p) 1) := by
  simp [Block.ethDown, hport, hup]

theorem Block.fecBad_up (hup : b.rdF (pgFpP p + 0x104) l l = 1) :
    b.fecBad p l = (b.wrF (pgFpP p + 0x104) (8 + l) (8 + l) 1).raise (pgFpP p) 2 := by
  simp [Block.fecBad, hport, hup]

/-- A link of an enabled logical port that holds its ticket comes up. -/
theorem Block.ethUp_down (hdown : b.rdF (pgFpP p + 0x104) l l = 0) (hticket : b.holds (.eth p l) = true)
    (hen : b.rdF (pgFpP p + 0x100) (5 + l) (5 + l) = 1) :
    b.ethUp p l = ((b.wrF (pgFpP p + 0x104) l l 1).pllOn (12 + p)).raise (pgFpP p) 0 := by
  simp [Block.ethUp, hport, hdown, hticket, hen]

end

end Sys2Proof.Machine

namespace Sys2Proof.Claims
open Sys2Proof.Machine

/-- Settles O12: each command by the case of its meaning that its conditions name. -/
theorem fabricPortCommands : Obligations.FabricPortCommands := by
  intro q b n x f fr opts offer irs iss sq ack sl kind tenant tls hd dd keys acl pfv hpda maxR2t cid cntlid kato ctx rec v e qc r rs c k i cmd
    pc o len data p l hdark
  refine ⟨fun hunit hin hnone => ?unlisted, fun hunit hin hsome => ?listed, fun hdrop => ⟨?synDropped, ?segmentDropped⟩,
    fun hunit hfail hnew hcool hacc hopts hroom hplace => ?install, fun hunit hin => ?fragment,
    fun hunit hin hname hx hflow hkind hkept => ?segment, fun hx hphase hfail => ⟨fun hsuite => ?keyed, fun hsuite => ?noSuite, ?noKeys⟩,
    fun hx hfree hkept => ?pdu, fun hheld hx => ?held, ?resume, ?close, fun hc => ?reuse, fun hx hphase => ?icreqLate, fun hx hr => ?h2cLate,
    fun hkato => ?keepAlive, fun hx hleft => ?resend, fun hport hup => ⟨?down, ?fec⟩, fun hport hdown hticket hen => ?up⟩
  case unlisted => exact answers_run hdark rfl (b.syn_unlisted hunit hin (Prod.ext hnone rfl))
  case listed =>
    have hlook : b.lookup 4 (aclKey f) = (some acl, (b.lookup 4 (aclKey f)).2) := Prod.ext hsome rfl
    exact ⟨fun hact => answers_run hdark rfl (b.syn_dropAction hunit hin hlook hact),
      fun hact => answers_run hdark rfl (b.syn_resetAction hunit hin hlook hact),
      fun hact hsess hqc => answers_run hdark rfl (b.syn_accepted hunit hin hlook hact hsess hqc),
      fun hact hsess => answers_run hdark rfl (b.syn_noSession hunit hin hlook hact hsess)⟩
  case synDropped => exact answers_run hdark rfl (b.syn_dropped hdrop)
  case segmentDropped => exact answers_run hdark rfl (b.receive_dropped kind hdrop)
  case install => exact answers_run hdark rfl (b.install_accepted irs iss tls hunit hfail hnew hcool hacc hopts hroom hplace)
  case fragment => exact answers_run hdark rfl (b.receive_fragment hunit hin)
  case segment =>
    have harrives {kind : SegKind} (hkind : kind ≠ .fragment) :
        b.receive f fr kind = (b.sessOf (connKey f)).2.arrive n.toNat (.segment kind fr.ce) :=
      b.receive_session hunit hin (Prod.ext hname rfl) hx hflow hkind
    have htaken (hfree : x.held = false) {kind : SegKind} (hkind : kind ≠ .fragment) :
        b.receive f fr kind = (b.sessOf (connKey f)).2.segment n.toNat kind fr.ce :=
      (harrives hkind).trans (Block.arrive_taken _ hx hfree hkept (Bool.and_false _))
    exact ⟨fun hfree => answers_run hdark rfl ((htaken hfree (by simp)).trans (Block.segment_good _ sq ack sl fr.ce hx)),
      fun hfree => answers_run hdark rfl ((htaken hfree (by simp)).trans (Block.segment_badPdu _ fr.ce hx)),
      fun hheld => answers_run hdark rfl ((harrives hkind).trans (Block.arrive_held _ hx hheld))⟩
  case keyed => exact answers_run hdark rfl (b.handshake_keyed hx hphase hfail hsuite)
  case noSuite => exact answers_run hdark rfl (b.handshake_fails hx hphase hfail (by simp [TlsKeys.ok, hsuite]))
  case noKeys => exact answers_run hdark rfl (b.handshake_fails hx hphase hfail rfl)
  case pdu =>
    have htaken {m : Instr} {a : Pdu} {b' : Block} (hmeans : exec m ⟨q, b⟩ = State.run ⟨q, b⟩ (fun z => z.arrive n.toNat a))
        (hgo : (b.fetchStop && a.isAdmin) = false) (hpdu : b.pdu n.toNat a = b') : Answers m q b b' :=
      answers_run hdark hmeans ((b.arrive_taken hx hfree hkept hgo).trans hpdu)
    have hadminPath {z : Bool} (hstop : b.fetchStop = false) : (b.fetchStop && z) = false := by rw [hstop, Bool.false_and]
    refine ⟨fun hphase hpad => htaken rfl (Bool.and_false _) (b.icreq_answered hd dd hx hphase hpad),
      fun hphase hbad => htaken rfl (Bool.and_false _) (b.icreq_malformed hd dd hx hphase (hbad.imp_left BitVec.toNat_ne.mp)),
      fun hstop hphase hnew hok => htaken rfl (hadminPath hstop) (b.connect_admin kato.toNat hx hphase hnew hok),
      fun hstop hadmin hphase hen => htaken rfl (hadminPath hstop) (b.property_enables cid.toNat hx hadmin hphase hen),
      fun hqc hen => htaken rfl (Bool.and_false _) (b.capsule_noData e 0 hx hqc hen),
      fun hr hlen hdigest hp => htaken rfl (Bool.and_false _) (b.h2c_lands 0 hx hr hlen hdigest hp),
      fun hnone hsuite => answers_run hdark rfl (b.tlsResume_rekeyed hnone hsuite)⟩
  case held => exact answers_run hdark rfl (b.arrive_held hx hheld)
  case resume => exact answers_run hdark rfl rfl
  case close => exact answers_run hdark rfl rfl
  case reuse => exact answers_run hdark rfl (b.cooled_cooling hc)
  case icreqLate => exact answers_run hdark rfl (b.icreqLate_waiting hx hphase)
  case h2cLate => exact answers_run hdark rfl (b.h2cLate_waiting hx hr)
  case keepAlive => exact answers_run hdark rfl (b.kaLate_runs hkato)
  case resend => exact answers_run hdark rfl (b.rtoExpires_retries hx hleft)
  case down => exact answers_run hdark rfl (b.ethDown_up hport hup)
  case fec => exact answers_run hdark rfl (b.fecBad_up hport hup)
  case up => exact answers_run hdark rfl (b.ethUp_down hport hdown hticket hen)

end Sys2Proof.Claims
end

section
/-! Flash translation in the background: compression and placement (R214, R217, R229, R365), verify and reclaim (R235-R240, R254, R255), the
map's checkpoint and rebuild (R245-R248) and sanitize (R272-R275). -/
namespace Sys2Proof.Machine

variable (b : Block) {k : Nat}

/-! ### Compression, page fill and commit (R214, R217, R229, R365) -/

section
variable {nsx unit : Nat} {u : Staged} (hrun : b.ftRuns = true)
  (hu : b.ft.staged.reverse.find? (fun u => u.nsx == nsx && u.unit == unit && decide (u.phase = .staged)) = some u)
include hrun hu

/-- A unit of zeros without a poisoned LBA is not stored (R214). -/
theorem Block.compressUnit_zeros (hdata : zeroLbas (b.lbaSize nsx) (b.stagedMask u) (b.stagedBytes u) = []) (hmask : b.stagedMask u = 0) :
    b.compressUnit nsx unit =
      ((b.bufRead ftPort 1 (BitVec.ofNat 6 (b.nsTenant nsx)) u.pages u.skip 16384).zeroPoison u (b.stagedMask u)).modStaged u.seq u.idx u.unit
        (fun v => { v with phase := .noStore, loc := locZero }) := by
  rw [Block.compressUnit, hu]
  exact (if_neg (by simp [hrun])).trans (if_pos (by rw [hdata, hmask]; rfl))

/-- Any other unit goes to a compression lane (R365). -/
theorem Block.compressUnit_submits
    (hkept : zeroLbas (b.lbaSize nsx) (b.stagedMask u) (b.stagedBytes u) ≠ [] ∨ b.stagedMask u ≠ 0) : b.compressUnit nsx unit =
      (let m := b.stagedMask u
       let data := zeroLbas (b.lbaSize nsx) m (b.stagedBytes u)
       let y := (b.bufRead ftPort 1 (BitVec.ofNat 6 (b.nsTenant nsx)) u.pages u.skip 16384).zeroPoison u m
       (y.modStaged u.seq u.idx u.unit (fun v => { v with phase := .compressing, data := data, pmask := m })).submitJob
         (mkDesc [(0, y.rdF (pgCz + 0x108) 0 3 * 32 + y.nsTenant nsx * 8192 + 524288), (192, 16384), (224, 16383)])
         (.ftCompress u.seq u.idx nsx unit)) := by
  rw [Block.compressUnit, hu]
  exact (if_neg (by simp [hrun])).trans (if_neg (by simpa [imp_iff_not_or] using hkept))

end

/-- A page filled in part is programmed with padding, and its block closes where that was its last page. -/
theorem Block.pageFill_pads (hopen : (b.fblk k).st = .opened) (hpart : (b.fblk k).fill % 64 ≠ 0) (hgo : b.ft.frozen = false) : b.pageFill k =
    (let n := (b.fblk k).fill / 64 + 1
     let w := (b.elapseTo ((b.fblk k).lastFill + 2000)).modBlk k (fun z => { z with fill := 64 * n })
     let y := w.postPages k n (w.streamCls (b.fblk k).stream)
     if y.blkSlots k ≤ 64 * n then y.closeBlk k (y.streamCls (b.fblk k).stream) else y) :=
  if_neg (by simp [hopen, hpart, hgo])

theorem Block.pieceCommit_committable {seq idx : Nat} {p : Piece} (hp : b.piece seq idx = some p) (hok : b.committable p = true) :
    b.pieceCommit seq idx = b.commitPiece p := by
  simp only [Block.pieceCommit, hp, hok, if_true]

/-! ### Verify (R235, R236, R239, R244) -/

theorem Block.verifyBlock_reads (hv : b.verifies k = true) (hnew : (b.fblk k).readBack = false) (hboot : b.ft.bootVerify = []) :
    b.verifyBlock k = b.readBack k (b.verifyCls k) :=
  if_pos (by simp [hv, hnew, hboot])

section
variable (rebuilt : Bool) (hv : b.verifies k = true) (hback : (b.fblk k).readBack = true) (hidle : b.readingBack k = false)
  (hgood : b.badSlots k [] = [])
include hv hback hidle hgood

/-- A host block that reads back whole is verified, and goes on to reclaim where its booth drains. -/
theorem Block.verifyDone_host (hstream : (b.fblk k).stream ≠ .reclaim) : b.verifyDone k [] rebuilt =
    (let y := ((b.modBlk k (fun y => { y with st := .verified })).releaseGroups).placeAll
     if y.boothSt (boothOf (k / 4096)) = 3 then y.copyBlk k 1 else y) := by
  simp only [Block.verifyDone, hv, hback, hidle, hgood, hstream, Bool.not_true, Bool.or_self, Bool.false_eq_true, if_false, List.isEmpty_nil,
    if_true, Block.onIf, beq_iff_eq]

/-- The map entries of a reclaim block move once the block reads back whole (R239). -/
theorem Block.verifyDone_reclaim (hstream : (b.fblk k).stream = .reclaim) : b.verifyDone k [] rebuilt =
    (((((b.moveEntries k).modBlk k (fun y => { y with st := .verified })).freeSources.retireEmpty).releaseGroups).refreshMode) := by
  simp only [Block.verifyDone, hv, hback, hidle, hgood, hstream, Bool.not_true, Bool.or_self, Bool.false_eq_true, if_false, List.isEmpty_nil,
    if_true]

end

/-- No unit lies in a bad slot where no slot is bad. -/
theorem Block.unitsAt_nil : b.unitsAt k [] = [] := by simp [Block.unitsAt]

section
variable (named : List Nat) (hwaits : b.ft.bootVerify.contains k = true) (hrun : b.ftRuns = true) (hidle : b.readingBack k = false)
include hwaits hrun hidle

theorem Block.bootVerify_reads (hnew : (b.fblk k).readBack = false) : b.bootVerify k named = b.readBack k 1 := by
  simp only [Block.bootVerify, hwaits, hrun, hidle, hnew, Bool.not_true, Bool.not_false, Bool.or_self, Bool.false_eq_true, if_false, if_true]

/-- A host block that reads back whole after a boot is verified where it was open or closed (R244). -/
theorem Block.bootVerify_host (hback : (b.fblk k).readBack = true) (hgood : b.badSlots k named = []) (hstream : (b.fblk k).stream = .host) :
    b.bootVerify k named =
      (let y := (b.onFt (fun t => { t with bootVerify := t.bootVerify.filter (· ≠ k) })).loseUnits []
       (((y.modBlk k (fun z => { z with
         st := if z.st = .opened ∨ z.st = .closed then .verified else z.st })).freeSources).retireEmpty).refreshMode) := by
  have hnotReclaim : (Stream.host == Stream.reclaim) = false := rfl
  have hnotPloss : (Stream.host == Stream.ploss) = false := rfl
  simp only [Block.bootVerify, hwaits, hrun, hidle, hback, hgood, hstream, Block.unitsAt_nil, List.map_nil, hnotReclaim, hnotPloss,
    Block.onIf_false, Bool.not_true, Bool.or_self, Bool.false_eq_true, if_false]

end

/-! ### Reclaim, erase and age (R240, R254, R255, R263) -/

theorem Block.reclaimSelect_source {src : Nat} (hrun : b.ftRuns = true) (hclass : b.rclass ≠ 0) (hboot : b.ft.bootVerify = [])
    (hsrc : b.reclaimSource = some src) : b.reclaimSelect = b.copyBlk src b.rclCls := by
  simp [Block.reclaimSelect, hrun, hclass, hboot, hsrc]

section
variable (hdone : (b.fblk k).st = .verified ∨ (b.fblk k).st = .closed ∧ (b.fblk k).failed = true) (hempty : b.validOf k = 0)
  (hsettled : b.blkPending k = false) (hidle : ∀ o ∈ b.fc.ops, o.die * 4096 + o.block = k → o.kind ≠ .erase) (hrun : b.ftRuns = true)
  (hlife : b.ft.eol = false)
include hdone hempty hsettled hidle hrun hlife

/-- A block that nothing valid is on is erased, or retired where it is doomed or worn out. -/
theorem Block.sourceErase_empty : b.sourceErase k =
    if (b.fblk k).doomed = true ∨ b.eraseLimit k ≤ (b.fblk k).erases then b.retireBlk k
    else b.postErase k (if b.rclass = 2 then 1 else 3) := by
  have hnone : b.fc.ops.any (fun o => o.die * 4096 + o.block == k && decide (o.kind = .erase)) = false := by simpa using hidle
  have hmay : (decide ((b.fblk k).st = .verified) || decide ((b.fblk k).st = .closed) && (b.fblk k).failed) = true := by simpa using hdone
  simp only [Block.sourceErase, hnone, hmay, hempty, hsettled, hrun, hlife, Bool.not_true, bne_self_eq_false, Bool.or_self,
    Bool.false_eq_true, if_false, ge_iff_le, Bool.or_eq_true, decide_eq_true_eq]

theorem Block.sourceErase_erases (hkept : (b.fblk k).doomed = false) (hfresh : (b.fblk k).erases < b.eraseLimit k) :
    b.sourceErase k = b.postErase k (if b.rclass = 2 then 1 else 3) :=
  (b.sourceErase_empty hdone hempty hsettled hidle hrun hlife).trans (if_neg (by simp [hkept, hfresh]))

theorem Block.sourceErase_retires (hworn : (b.fblk k).doomed = true ∨ b.eraseLimit k ≤ (b.fblk k).erases) : b.sourceErase k = b.retireBlk k :=
  (b.sourceErase_empty hdone hempty hsettled hidle hrun hlife).trans (if_pos hworn)

end

/-! ### The map (R245, R246, R248) -/

/-- Metadata that lost no copy leaves none on record as lost. -/
theorem Block.metaCopies_zero : b.metaCopies 0 = b.onFt (fun t => { t with metaLost := 0 }) := rfl

theorem Block.checkpoint_journal {e : JEnt} {es : List JEnt} (hrun : b.ftRuns = true) (hj : b.ft.journal = e :: es) :
    b.checkpoint 0 = (b.ckptOne.metaPage).onFt (fun t => { t with metaLost := 0 }) := by
  simp only [Block.checkpoint, hrun, hj, Bool.not_true, List.isEmpty_cons, Bool.false_eq_true, if_false, Block.metaCopies_zero]

section
variable (hmode : b.rdF (pgFt + 0x100) 0 2 = 5)
include hmode

/-- The map is rebuilt from its checkpoint and the part of the journal that is intact. -/
theorem Block.mapRebuild_rebuilding (intact : Nat) : b.mapRebuild intact 0 =
    (let js := b.ft.journal.take intact
     let y := b.onFt (fun t => { t with map := t.ckpt, journal := js, endMark := false, frozen := false, loaded := true })
     let y := y.each b.ft.ckpt (fun z e => z.mapStore e.1 e.2)
     ((y.each js Block.applyEntry).wrSat (pgFt + 0x180) 8 23 y.journalMib).onFt (fun t => { t with metaLost := 0 })) :=
  (if_neg (not_not_intro hmode)).trans (Block.metaCopies_zero _)

theorem Block.rebuildDone_loaded (hloaded : b.ft.loaded = true) (hfmt : b.ft.fmt = none) : b.rebuildDone =
    (let y := b.wrSat (pgFt + 0x10C) 0 22 (b.ft.retireInit - (b.ft.blks.filter (fun e => decide (e.2.st = .retired))).length)
     (((y.wrF (pgFt + 0x100) 0 2 0).metaRefresh.retarget).refreshMode).raise pgFt 9) := by
  simp only [Block.rebuildDone, hmode, hloaded, hfmt, ne_eq, not_true_eq_false, Bool.not_true, Bool.false_eq_true, or_self, if_false]

end

/-! ### Sanitize (R272-R275) -/

section
variable {x : San} (hx : b.ft.san = some x) (hgo : b.ft.frozen = false)
include hx hgo

/-- A step of the cursor, which the record store holds after each 64 (R273, R274). -/
theorem Block.sanStep_wave (hact : x.act ≠ .crypto) (hleft : x.cursor < x.total) : b.sanStep =
    (let last := decide (x.cursor / 4096 + 1 = x.passes)
     let ovw := decide (x.act = .overwrite)
     let y := b.eraseWave (x.cursor % 4096) (if ovw && last then 2 else 1) (if ovw && !last then some x.passPattern else none)
     let due := decide (x.recorded + 64 ≤ x.cursor + 1)
     let v := y.onFt (fun t => { t with san := some { x with cursor := x.cursor + 1, recorded := if due then x.cursor + 1 else x.recorded } })
     if due then v.recUpdate id else v) := by
  rw [Block.sanStep, hx]
  exact if_neg (by simp [hact, hleft, hgo])

variable {failed : List Nat}

/-- A sanitize fails where its failed erases outrun the retire reserve (R275). -/
theorem Block.sanDone_fails (hout : b.retireLeft < (b.sanErased x failed).length) :
    b.sanDone failed = (b.each (b.sanErased x failed) Block.sanRetire).sanFail := by
  rw [Block.sanDone, hx]
  exact (if_neg (by simp [hgo])).trans (if_pos (decide_eq_true hout))

variable (hroom : (b.sanErased x failed).length ≤ b.retireLeft)
include hroom

/-- The blocks whose erase failed retire while the cursor has not run through. -/
theorem Block.sanDone_goesOn (hact : x.act ≠ .crypto) (hleft : x.cursor < x.total) :
    b.sanDone failed = b.each (b.sanErased x failed) Block.sanRetire := by
  rw [Block.sanDone, hx]
  exact (if_neg (by simp [hgo])).trans ((if_neg (by simpa using hroom)).trans (if_pos ⟨hact, hleft⟩))

/-- At the end of a sanitize every map entry is gone, and for a crypto erase its keys too (R272). -/
theorem Block.sanDone_ends (hend : x.act = .crypto ∨ x.total ≤ x.cursor) : b.sanDone failed =
    (let u := b.each (b.sanErased x failed) Block.sanRetire
     let y := (if x.act = .crypto then u.newKeys else u).unmapAll (u.ft.map.map (·.1))
     let z := y.onFt (fun t => { t with map := [], ckpt := [], journal := [], pieces := [], staged := [], san := none, sanFailed := false })
     (((((z.wrSat (pgFt + 0x180) 8 23 0).retarget.metaRefresh).metaPage).refreshMode).raise pgFt 8).recUpdate id) := by
  have hkeys (u : Block) : u.onIf (x.act == .crypto) Block.newKeys = if x.act = .crypto then u.newKeys else u := by
    simp only [Block.onIf, beq_iff_eq]
  have hover : ¬ (x.act ≠ .crypto ∧ x.cursor < x.total) := by simpa [imp_iff_not_or] using hend
  simp only [← hkeys]
  rw [Block.sanDone, hx]
  exact (if_neg (by simp [hgo])).trans ((if_neg (by simpa using hroom)).trans (if_neg hover))

end

end Sys2Proof.Machine

namespace Sys2Proof.Claims
open Sys2Proof.Machine

/-- Settles O13: each command by the case of its meaning that its conditions name. -/
theorem flashTranslationCommands : Obligations.FlashTranslationCommands := by
  intro q b nsx die unit seq intact piece block rebuilt readable failed u p e es x src hdark k f
  refine ⟨fun hu hrun => ⟨fun hdata hmask => ?zeros, fun hkept => ?submits⟩, fun hopen hpart hgo => ?pageFill, fun hp hok => ?commit,
    fun hv hnew hboot => ?verify, fun hv hback hidle hgood => ⟨fun hstream => ?verified, fun hstream => ?moved⟩,
    fun hrun hclass hboot hsrc => ?reclaim,
    fun hdone hempty hsettled hidle hrun hlife => ⟨fun hkept hfresh => ?erase, fun hworn => ?retire⟩, fun hworn hgo => ?retireDie,
    fun hrun hj => ?checkpoint, fun hmode => ⟨?rebuild, fun hloaded hfmt => ?rebuilt⟩, fun hwaits hrun hidle hnew => ?bootReads,
    fun hwaits hrun hidle hback hgood hstream => ?bootVerified, ?wear,
    fun hx hgo => ⟨fun hact hleft => ?wave, fun hout => ?fails, fun hact hleft hroom => ?goesOn, fun hend hroom => ?ends⟩, fun hst => ?age⟩
  case zeros => exact answers_run hdark rfl (b.compressUnit_zeros hrun hu hdata hmask)
  case submits => exact answers_run hdark rfl (b.compressUnit_submits hrun hu hkept)
  case pageFill => exact answers_run hdark rfl (b.pageFill_pads hopen hpart hgo)
  case commit => exact answers_run hdark rfl (b.pieceCommit_committable hp hok)
  case verify => exact answers_run hdark rfl (b.verifyBlock_reads hv hnew hboot)
  case verified => exact answers_run hdark rfl (b.verifyDone_host rebuilt hv hback hidle hgood hstream)
  case moved => exact answers_run hdark rfl (b.verifyDone_reclaim rebuilt hv hback hidle hgood hstream)
  case reclaim => exact answers_run hdark rfl (b.reclaimSelect_source hrun hclass hboot hsrc)
  case erase => exact answers_run hdark rfl (b.sourceErase_erases hdone hempty hsettled hidle hrun hlife hkept hfresh)
  case retire => exact answers_run hdark rfl (b.sourceErase_retires hdone hempty hsettled hidle hrun hlife hworn)
  case retireDie => exact answers_run hdark rfl (if_neg (by simp [hworn, hgo]))
  case checkpoint => exact answers_run hdark rfl (b.checkpoint_journal hrun hj)
  case rebuild => exact answers_run hdark rfl (b.mapRebuild_rebuilding hmode intact.toNat)
  case rebuilt => exact answers_run hdark rfl (b.rebuildDone_loaded hmode hloaded hfmt)
  case bootReads => exact answers_run hdark rfl (b.bootVerify_reads [] hwaits hrun hidle hnew)
  case bootVerified => exact answers_run hdark rfl (b.bootVerify_host [] hwaits hrun hidle hback hgood hstream)
  case wear => exact answers_run hdark rfl rfl
  case wave => exact answers_run hdark rfl (b.sanStep_wave hx hgo hact hleft)
  case fails => exact answers_run hdark rfl (b.sanDone_fails hx hgo hout)
  case goesOn => exact answers_run hdark rfl (b.sanDone_goesOn hx hgo hroom hact hleft)
  case ends => exact answers_run hdark rfl (b.sanDone_ends hx hgo hroom hend)
  case age => exact answers_run hdark rfl (if_pos hst)

end Sys2Proof.Claims
end

section
/-! Power, resets and housekeeping: the power-loss sequence (R708-R710), VDD_AON and boot (R707, R711-R717), board inputs (R700-R702) and the
record store (R706). -/
namespace Sys2Proof.Machine

variable (b : Block)

/-! ### Power loss (R708-R710) -/

/-- The fall of PWRFAIL# begins the sequence, unless one runs or the part has tripped. -/
theorem Block.pwrfail_begins (htrip : (b.setLevel 1 false).hk.tripped = false) (hst : (b.setLevel 1 false).plossSt = 0) :
    b.pwrfail = ((b.setLevel 1 false).raise pgHk 6).plossStart :=
  if_neg (by simp [htrip, hst])

/-- The sequence ends in the power-fail-safe state, which PWRFAIL# may end where it is neither stuck nor masked. -/
theorem Block.plossEnd_safe (hst : b.plossSt = 1) (htrip : b.hk.tripped = false) (hgood : b.plossFinish.pwrfailBad = false) :
    b.plossEnd = b.plossFinish.setPloss 2 :=
  (if_neg (by simp [hst, htrip])).trans (if_neg (Bool.eq_false_iff.mp hgood))

theorem Block.plossResume_stable {t : Nat} (hst : b.plossSt = 2) (hok : b.hk.okSince = some t) :
    b.plossResume = (b.elapseTo (t + b.rdF (pgHk + 0x158) 0 7 * 1000)).deviceReset 2 := by
  rw [Block.plossResume, hst, hok]
  rfl

/-! ### VDD_AON and boot (R711-R717) -/

/-- VDD_AON rises on what its fall has left. -/
theorem Block.aonRise_aonFall (jtagEn : Bool) : b.aonFall.aonRise jtagEn =
    ((b.aonFall.onHk (fun h => { h with off := false })).onDbg (fun d => { d with jtagEn := jtagEn })).boothsKept :=
  if_pos rfl

/-- A boot that finds a slot at the first try, and so falls back from none, enters its firmware. -/
theorem Block.boot_enters {ok0 ok1 one : Bool} {f : FwSlots} (bar2 : Nat) (route : W32) (hnew : b.hk.booted = false) (hdark : b.dark = false)
    (hcool : b.bootCool = true) (hpower : (b.inp 1).level = true) (hslot : b.bootRead.bootSlot ok0 ok1 = (some one, f, false)) :
    b.boot ok0 ok1 bar2 route =
      (let z := (b.bootRead.onHk (fun h => { h with next := { h.next with fw := f } })).showFw
       ((z.wrF (pgHk + 0x148) 0 7 z.hk.fused).recUpdate id).bootEnter one bar2 route) := by
  simp only [Block.boot, hnew, hdark, hcool, hpower, hslot, Bool.not_true, Bool.or_self, Bool.false_eq_true, if_false, Block.onIf_false]

/-! ### Housekeeping and the board inputs (R694, R700-R702) -/

theorem Block.holdEnd_held {t : Nat} (hhold : b.hk.hold = some t) : b.holdEnd = (b.elapseTo t).onHk (fun h => { h with hold := none }) := by
  rw [Block.holdEnd, hhold]

section
variable {i : Nat} (hi : i < 15)
include hi

/-- An edge of an input without a chatter count has its effect alone. -/
theorem Block.inputEdge_effect {level : Bool} (hclear : (b.inp i).masked = false) (hedge : (b.inp i).level ≠ level)
    (hcount : fld (((b.modInp i (fun z => { z with edges := b.usec :: z.edges.take 63 })).inputEffect i level).inCfg i) 20 25 = 0) :
    b.inputEdge i level = (b.modInp i (fun z => { z with edges := b.usec :: z.edges.take 63 })).inputEffect i level :=
  (if_neg (by simp [hi, hclear, hedge])).trans (if_neg (fun hchatters => hchatters.1 hcount))

/-- An input beyond its stuck limit is recorded; only PWRFAIL# has a policy besides (R701). -/
theorem Block.inputStuck_recorded (hlimit : fld (b.inCfg i) 8 19 ≠ 0) (hnew : (b.inp i).stuck = false)
    (hactive : (b.inp i).level = activeLevel i) (hother : i ≠ 1) : b.inputStuck i =
      ((((b.elapseTo ((b.inp i).since + fld (b.inCfg i) 8 19 * 1000)).modInp i (fun z => { z with stuck := true })).hkRecord
        0x0212 .corrected i).raise pgHk 4) :=
  (if_neg (by simp [hi, hlimit, hnew, hactive])).trans (if_pos (.inl hother))

end

/-! ### The record store (R706) -/

theorem Block.recStart_writes (hmore : b.hk.more = true) (hfree : b.hk.writing = none) : b.recStart = b.recWrite :=
  if_pos (by simp [hmore, hfree])

section
variable {x : Img} {one : Bool} {n : Nat} (hw : b.hk.writing = some (x, one, n))
include hw

theorem Block.recReadback_matches : b.recReadback true = (b.elapse 400).recIdle := by
  rw [Block.recReadback, hw]
  rfl

/-- The first read-back that does not match has the image written again. -/
theorem Block.recReadback_retries (hn : n = 0) : b.recReadback false =
    ((b.elapse 400).putBank one (some x)).onHk (fun h => { h with writing := some (x, one, 1) }) := by
  rw [Block.recReadback, hw]
  exact if_pos hn

/-- The second leaves the bank without a valid image. -/
theorem Block.recReadback_fails (hn : n ≠ 0) : b.recReadback false =
    ((((b.elapse 400).putBank one none).recIdle).hkRecord 0x0210 .deferred 0).raise pgHk 8 := by
  rw [Block.recReadback, hw]
  exact if_neg hn

end

end Sys2Proof.Machine

namespace Sys2Proof.Claims
open Sys2Proof.Machine

/-- A command of the always-on domain whose meaning makes `b'` of the block answers `b'` while VDD_AON is held (R678). -/
theorem answers_aon {c : Instr} {q : List Instr} {b b' : Block} {f : Block → Block} (hon : b.hk.off = false)
    (hmeans : exec c ⟨q, b⟩ = State.runAon ⟨q, b⟩ f) (hf : f b = b') : Answers c q b b' := by
  rw [Answers, hmeans, State.runAon_on _ _ hon, hf]

/-- Settles O25: each command by the case of its meaning that its conditions name. -/
theorem powerCommands : Obligations.PowerCommands := by
  intro q b jtagEn ok0 ok1 level bar2 route temp chans i t k x one f hon
  refine ⟨fun htrip hst => ?pwrfail, fun hst htrip hgood => ?done, fun hst hok => ?resume, ?fall, ?rise,
    fun hnew hdark hcool hpower hslot => ?boot, fun hdark => ?shutdown, ?round, fun hhold => ?holdEnd, fun hi hclear hedge hcount => ?edge,
    fun hi hlimit hnew hactive hother => ?stuck, fun hmore hfree => ?update, fun hw => ⟨?readBack, fun hn => ?again, fun hn => ?lost⟩⟩
  case pwrfail => exact answers_aon hon rfl (b.pwrfail_begins htrip hst)
  case done => exact answers_aon hon rfl (b.plossEnd_safe hst htrip hgood)
  case resume => exact answers_aon hon rfl (b.plossResume_stable hst hok)
  case fall => exact answers_aon hon rfl rfl
  case rise => exact congrArg (fun y : Block => Host.Outcome.next (State.mk q y)) (b.aonRise_aonFall jtagEn)
  case boot => exact answers_aon hon rfl (b.boot_enters bar2.toNat route hnew hdark hcool hpower hslot)
  case shutdown => exact answers_run hdark rfl rfl
  case round => exact answers_aon hon rfl rfl
  case holdEnd => exact answers_aon hon rfl (b.holdEnd_held hhold)
  case edge => exact answers_aon hon rfl (b.inputEdge_effect hi hclear hedge hcount)
  case stuck => exact answers_aon hon rfl (b.inputStuck_recorded hi hlimit hnew hactive hother)
  case update => exact answers_aon hon rfl (b.recStart_writes hmore hfree)
  case readBack => exact answers_aon hon rfl (b.recReadback_matches hw)
  case again => exact answers_aon hon rfl (b.recReadback_retries hw hn)
  case lost => exact answers_aon hon rfl (b.recReadback_fails hw hn)

end Sys2Proof.Claims
end

section
/-! The command registers of the media channels and of compression (R292, R309, R326-R338, R351-R354). -/
namespace Sys2Proof.Machine

variable (b : Block)

/-! ### FC.PROF_CMD (R292, R293) -/

theorem profCmd_toNat (slot : BitVec 4) {op : Nat} (h : op < 4) : (BitVec.ofNat 32 (slot.toNat + 16 * op)).toNat = slot.toNat + 16 * op := by
  rw [BitVec.toNat_ofNat]
  omega

theorem fld_profCmd_slot (slot : BitVec 4) {op : Nat} (h : op < 4) : fld (BitVec.ofNat 32 (slot.toNat + 16 * op)) 0 3 = slot.toNat := by
  rw [fld, profCmd_toNat slot h, Nat.shiftRight_zero]
  omega

theorem fld_profCmd_op (slot : BitVec 4) {op : Nat} (h : op < 4) : fld (BitVec.ofNat 32 (slot.toNat + 16 * op)) 4 5 = op := by
  rw [fld, profCmd_toNat slot h, Nat.shiftRight_eq_div_pow]
  omega

/-- PROF_CMD with OP 1 starts the load of a profile into the slot beside it. -/
theorem Block.effect_profLoad (old : Block) (port : BitVec 8) (slot : BitVec 4) :
    b.effect old port .fcCtl 0 0x108 (BitVec.ofNat 32 (slot.toNat + 16)) =
      (b.onFc (fun e => { e with profLoad := some slot.toNat })).profStatus true 0 := by
  have hslot := fld_profCmd_slot slot (show 1 < 4 by decide)
  have hop := fld_profCmd_op slot (show 1 < 4 by decide)
  exact (if_pos hop).trans (congrArg (fun n => (b.onFc (fun e => { e with profLoad := some n })).profStatus true 0) hslot)

/-- PROF_CMD with OP 2 empties the slot beside it. -/
theorem Block.effect_profEmpty (old : Block) (port : BitVec 8) (slot : BitVec 4) :
    b.effect old port .fcCtl 0 0x108 (BitVec.ofNat 32 (slot.toNat + 32)) =
      (b.onFc (fun e => { e with profs := smErase e.profs slot.toNat })).profReg slot.toNat := by
  have hslot := fld_profCmd_slot slot (show 2 < 4 by decide)
  have hop := fld_profCmd_op slot (show 2 < 4 by decide)
  exact (if_neg (hop.trans_ne (by decide))).trans
    (congrArg (fun n => (b.onFc (fun e => { e with profs := smErase e.profs n })).profReg n) hslot)

/-! ### BOOTH_CMD (R326) -/

/-- What OP of BOOTH_CMD commands at a booth. -/
def Block.boothCmd (b : Block) (k : Nat) : Nat → Block
  | 1 => b.bringUp k
  | 2 => b.drain k
  | 3 => b.abortDrain k
  | 4 => b.powerOff k
  | _ => b.forget k

theorem Block.effect_boothCmd (old : Block) (port : BitVec 8) (k : Nat) (d : W32) :
    b.effect old port .fcBooth k 0x100 d = b.boothCmd k (fld d 0 3) := rfl

/-! ### CZ.TBL_CMD (R351, R352) -/

/-- TBL_CMD with OP 1 puts a legal image into its set. -/
theorem Block.tblCmd_commits (hok : tblResult b.tblData = 0) : b.tblCmd 1 =
    (let set := b.rdF (pgCz + 0x130) 0 3
     let x := b.wrF (pgCz + 0x138) 1 2 0
     ((x.holdImage set).onCz (fun e => { e with tables := smPut e.tables set b.tblData })).raise pgCz 1) := by
  simp only [Block.tblCmd, hok, OfNat.one_ne_ofNat, if_false, if_true]

/-- It reports an illegal image and leaves the set as it was. -/
theorem Block.tblCmd_refuses (hbad : tblResult b.tblData ≠ 0) :
    b.tblCmd 1 = (b.wrF (pgCz + 0x138) 1 2 (tblResult b.tblData)).raise pgCz 2 := by
  simp only [Block.tblCmd, hbad, OfNat.one_ne_ofNat, if_false]

theorem Block.effect_tblCmd (old : Block) (port : BitVec 8) (d : W32) : b.effect old port .czCtl 0 0x134 d = b.tblCmd (fld d 0 1) := by
  have hunit : ¬ 0x134 < 0x100 := by decide
  rw [Block.effect, if_neg hunit, Block.effFlash]

end Sys2Proof.Machine

namespace Sys2Proof.Claims
open Sys2Proof.Machine

/-- A command that is a taken write of BOOTH_CMD does at its booth what the code beside the key says. -/
theorem Takes.answers_boothCmd {m : Instr} {q : List Instr} {b : Block} {port : BitVec 6} {k code : Nat} {key : BitVec 16}
    (h : Takes b (pgBooth k + 0x100) (keyed key code) .fcBooth k) (hdark : b.dark = false)
    (hmeans : exec m ⟨q, b⟩ = State.onReg ⟨q, b⟩ (pgBooth k + 0x100) (fun x => x.regWrite4 port (pgBooth k + 0x100) (keyed key code)))
    (hcode : code < 16) : Answers m q b (b.boothCmd k code) :=
  h.answers_effect hdark hmeans (pageBase_add_mod _ _ (by decide)) (by decide) rfl (by decide) (by decide)
    ((b.effect_boothCmd b _ k _).trans (congrArg (b.boothCmd k) (fld_keyed_kind key hcode)))

/-- Settles O5: each command is a write of one register, which commands alone but for KEY_EPOCH, whose word it stores. -/
theorem flashSideRegisterCommands : Obligations.FlashSideRegisterCommands := by
  intro q b port slot k v key hdark
  refine ⟨fun h => ?load, fun h => ?unload, fun h => ?generate, fun h => ?unwrap, fun h => ?wrapOut, fun h => ?clear, fun h => ?epoch,
    fun h => ?bringUp, fun h => ?drain, fun h => ?abort, fun h => ?off, fun h => ?forget, fun h hok => ?commit, fun h hbad => ?refuse,
    fun h => ?empty, fun h => ?job⟩
  case load => exact h.answers_effect hdark rfl rfl (by decide) rfl (by decide) (by decide) (b.effect_profLoad b _ slot)
  case unload => exact h.answers_effect hdark rfl rfl (by decide) rfl (by decide) (by decide) (b.effect_profEmpty b _ slot)
  case generate | unwrap | wrapOut | clear => exact h.answers_effect hdark rfl rfl (by decide) rfl (by decide) (by decide) rfl
  case epoch => exact h.answers hdark rfl rfl (by decide) rfl
  case bringUp | drain | abort | off | forget => exact h.answers_boothCmd hdark rfl (by decide)
  case commit =>
    exact h.answers_effect hdark rfl rfl (by decide) rfl (by decide) (by decide) ((b.effect_tblCmd b _ 1).trans (b.tblCmd_commits hok))
  case refuse =>
    exact h.answers_effect hdark rfl rfl (by decide) rfl (by decide) (by decide) ((b.effect_tblCmd b _ 1).trans (b.tblCmd_refuses hbad))
  case empty | job => exact h.answers_effect hdark rfl rfl (by decide) rfl (by decide) (by decide) rfl

end Sys2Proof.Claims
end

section
/-! Booths from presence to removal, and the end of a profile load (R292, R301, R327, R328, R334, R339, R780, R781). -/
namespace Sys2Proof.Machine

variable (b : Block) {k : Nat}

/-! ### Presence and bring-up (R327, R328, R780) -/

/-- A cartridge in an empty booth: the booth comes up by itself where its AUTO bit asks for it. -/
theorem Block.presUp_asserts (hbooth : b.variant.hasBooth k = true) (habsent : b.boothPres k = false) : b.presUp k =
    (let x := ((b.wrF (pgBooth k + 0x104) 4 4 1).raise (pgBooth k) 0).setLevel (2 + k) false
     let y := x.onFc (fun e => { e with presAt := smPut e.presAt k x.usec })
     if y.rdF (pgBooth k + 0x108) 0 0 = 1 ∧ (y.boothSt k = 0 ∨ y.boothSt k = 5) then
       (y.onFc (fun e => { e with bringFrom := smPut e.bringFrom k (y.boothSt k) })).setBooth k 1 else y) := by
  simp only [Block.presUp, hbooth, habsent, Bool.not_false, Bool.and_self, if_true, Block.presAssert, Block.bringUp, Block.onIf,
    Bool.and_eq_true, Bool.or_eq_true, beq_iff_eq]

/-- Where profiles are held, a booth whose inrush ticket is granted gets its power. -/
theorem Block.inrushAsk_granted (hprofs : b.fc.profs ≠ [])
    (hgranted : (b.ticket ⟨.booth k, .inrush k, b.inrushMw, 1, b.usec, false, false, false, false⟩).1 = .granted) :
    b.inrushAsk k = (b.ticket ⟨.booth k, .inrush k, b.inrushMw, 1, b.usec, false, false, false, false⟩).2.powerRise k := by
  have hheld : b.fc.profs.isEmpty = false := by simpa using hprofs
  simp only [Block.inrushAsk, hheld, Bool.false_eq_true, if_false]
  generalize b.ticket _ = answer at *
  obtain ⟨a, y⟩ := answer
  subst hgranted
  rfl

theorem Block.presStable_asks (hup : b.boothSt k = 1) (hpres : b.boothPres k = true) (hpwr : b.boothPwr k = false)
    (hnew : b.holds (.inrush k) = false) : b.presStable k = (b.elapseTo ((smFind b.fc.presAt k).getD 0 + 100000)).inrushAsk k :=
  if_pos (by simp [hup, hpres, hpwr, hnew])

theorem Block.inrushEnd_goesOn {t : Nat} (cart : Cart) (ht : smFind b.fc.inrush k = some t)
    (hup : (((b.elapseTo (t + 20000)).untick (.inrush k)).onFc (fun e => { e with inrush := smErase e.inrush k })).boothSt k = 1) :
    b.inrushEnd k cart =
      (((b.elapseTo (t + 20000)).untick (.inrush k)).onFc (fun e => { e with inrush := smErase e.inrush k })).bringRest k cart := by
  rw [Block.inrushEnd, ht]
  exact if_pos hup

/-! ### Removal and drain (R334, R339, R781) -/

theorem Block.presLost_surprises (hpres : b.boothPres k = true) (hlive : b.boothSt k = 1 ∨ b.boothUp k = true) : b.presLost k = b.surprise k :=
  if_pos (by simpa [hpres] using hlive)

theorem Block.presGone_removed (hpres : b.boothPres k = true) (hrest : b.boothSt k ≠ 1) (hdown : b.boothUp k = false) :
    b.presGone k = b.removedIn k :=
  if_pos (by simp [hpres, hrest, hdown])

/-- A drain ends once nothing of the booth is mapped, kept as metadata or under way. -/
theorem Block.drainEnds_drained (hdrains : b.boothSt k = 3) (hempty : b.boothValid k = 0) (hmeta : b.metaBooths.contains k = false)
    (hidle : ∀ o ∈ b.fc.ops, boothOf o.die ≠ k ∧ o.why ≠ .page .meta_) : b.drainEnds k = (b.setBooth k 4).raise (pgBooth k) 5 := by
  have hboothIdle : b.fc.ops.any (fun o => boothOf o.die == k) = false := by simpa using fun o ho => (hidle o ho).1
  have hmetaIdle : b.fc.ops.any (fun o => decide (o.why = .page .meta_)) = false := by simpa using fun o ho => (hidle o ho).2
  simp only [Block.drainEnds, hdrains, hempty, hmeta, hboothIdle, hmetaIdle, decide_true, beq_self_eq_true, Bool.not_false, Bool.and_self, if_true]

/-! ### The end of a profile load (R292) -/

/-- How the load of a slot ends whose checks answered `x`. -/
def loadResult (slot : Nat) (body : ProfBody) (x : Nat × Block) : Block :=
  let y := x.2.onFc (fun e => { e with profLoad := none })
  if x.1 = 0 then (((y.onFc (fun e => { e with profs := smPut e.profs slot (y.profOf body) })).profReg slot).profStatus false 0).raise pgFc 0
  else ((((y.onFc (fun e => { e with profs := smErase e.profs slot })).profReg slot).profStatus false x.1).record
    pgFc { code := 0x0106, sev := .corrected }).raise pgFc 1

theorem loadResult_passed {slot : Nat} {body : ProfBody} {x : Nat × Block} (hok : x.1 = 0) : loadResult slot body x =
    (let y := x.2.onFc (fun e => { e with profLoad := none })
     (((y.onFc (fun e => { e with profs := smPut e.profs slot (y.profOf body) })).profReg slot).profStatus false 0).raise pgFc 0) :=
  if_pos hok

theorem loadResult_failed {slot : Nat} {body : ProfBody} {x : Nat × Block} (hbad : x.1 ≠ 0) : loadResult slot body x =
    (let y := x.2.onFc (fun e => { e with profLoad := none })
     ((((y.onFc (fun e => { e with profs := smErase e.profs slot })).profReg slot).profStatus false x.1).record
       pgFc { code := 0x0106, sev := .corrected }).raise pgFc 1) :=
  if_neg hbad

/-- Stated of the function, and proved over an abstract answer, so that the kernel never evaluates the checks of the image. -/
theorem Block.loadEnds_eq :
    Block.loadEnds = fun b slot signed fabricErr body => loadResult slot body (b.profResult signed fabricErr body) := by
  delta Block.loadEnds
  funext b slot signed fabricErr body
  generalize b.profResult signed fabricErr body = x
  obtain ⟨r, y⟩ := x
  rfl

theorem Block.profLoaded_running {slot : Nat} (signed fabricErr : Bool) (body : ProfBody) (hload : b.fc.profLoad = some slot) :
    b.profLoaded signed fabricErr body = loadResult slot body (b.profResult signed fabricErr body) := by
  rw [Block.profLoaded, hload, Block.loadEnds_eq]

end Sys2Proof.Machine

namespace Sys2Proof.Claims
open Sys2Proof.Machine

/-- Settles O15: each command by the case of its meaning that its conditions name. -/
theorem boothCommands : Obligations.BoothCommands := by
  intro q b k cart signed fabricErr body t slot hdark n
  refine ⟨fun hbooth habsent => ?assert, fun hup hpres hpwr hnew hprofs hgranted => ?stable, fun ht _ hup => ?hold,
    fun hpres => ⟨fun hlive => ?surprise, fun hrest hdown => ?removed⟩, fun hdrains hempty hmeta hidle => ?drained,
    fun hload => ⟨fun hok => ?loaded, fun hbad => ?failed⟩⟩
  case assert => exact answers_run hdark rfl (b.presUp_asserts hbooth habsent)
  case stable => exact answers_run hdark rfl ((b.presStable_asks hup hpres hpwr hnew).trans (Block.inrushAsk_granted _ hprofs hgranted))
  case hold => exact answers_run hdark rfl (b.inrushEnd_goesOn cart ht hup)
  case surprise => exact answers_run hdark rfl (b.presLost_surprises hpres hlive)
  case removed => exact answers_run hdark rfl (b.presGone_removed hpres hrest hdown)
  case drained => exact answers_run hdark rfl (b.drainEnds_drained hdrains hempty hmeta hidle)
  case loaded => exact answers_run hdark rfl ((b.profLoaded_running signed fabricErr body hload).trans (loadResult_passed hok))
  case failed => exact answers_run hdark rfl ((b.profLoaded_running signed fabricErr body hload).trans (loadResult_failed hbad))

end Sys2Proof.Claims
end

section
/-! Flash operations from their posting to their end at the die (R17, R296-R302, R308, R314-R316), channels that retrain (R290), parity
groups (R318) and key operations (R313). -/
namespace Sys2Proof.Machine

variable (b : Block)

/-! ### Posting (R240, R296, R300, R308) -/

section
variable {d blk page : Nat}

theorem Block.postProgram_runs (cls : Nat) (hpage : b.pageOk d blk page = true) (hgo : b.ft.frozen = false) :
    b.postProgram d blk page cls = b.postOp d blk page .program (b.fblk (d * 4096 + blk)).slc cls 0 .direct :=
  if_pos (by simp [hpage, hgo])

theorem Block.postRaw_overwrites {x : San} (hpage : b.pageOk d blk page = true) (hsan : b.ft.san = some x) (hact : x.act = .overwrite) :
    b.postRaw d blk page = b.postOp d blk page .rawProgram (b.fblk (d * 4096 + blk)).slc 3 0 (.raw x.passPattern) := by
  rw [Block.postRaw, hsan]
  exact if_pos (by simp [hpage, hact])

theorem Block.postEraseOf_empty (cls : Nat) (hpage : b.pageOk d blk 0 = true) (hgo : b.ft.frozen = false)
    (hunmapped : b.mappedOn (d * 4096 + blk) = []) (hsettled : b.blkPending (d * 4096 + blk) = false)
    (hclosed : (b.fblk (d * 4096 + blk)).st ≠ .opened) : b.postEraseOf d blk cls = b.postErase (d * 4096 + blk) cls :=
  if_pos (by simp [hpage, hgo, hunmapped, hsettled, hclosed])

theorem Block.postReset_answered (hdie : (b.die d).answered = true) (hup : b.boothUp (boothOf d) = true) :
    b.postReset d = b.postOp d 0 0 .dieReset false 0 0 .direct :=
  if_pos (by simp [hdie, hup])

end

/-! ### Issue (R297, R298, R301, R302) -/

variable {o : FlashOp}

/-- An operation of the list that holds `o`, once `o` has been issued at `now`. -/
def FlashOp.whenIssued (o : FlashOp) (now : Nat) (p : FlashOp) : FlashOp :=
  if p.id = o.id then { p with stage := .issued, issued := now } else p

/-- Where no operation is at a die, one that starts suspends none. -/
theorem Block.startOp_alone (hqueued : b.fc.ops.all (fun p => decide (p.stage = .queued)) = true) (hwhy : o.why = .direct) :
    b.startOp o = b.onFc (fun e => { e with ops := e.ops.map (o.whenIssued b.usec) }) := by
  have hstage : ∀ p ∈ b.fc.ops, p.stage = .queued := by simpa using hqueued
  have hops : b.fc.ops.map (fun p =>
      if p.id = o.id then { p with stage := .issued, issued := b.usec }
      else if p.die = o.die ∧ p.stage = .issued then { p with stage := .suspended, suspends := p.suspends + 1 } else p) =
      b.fc.ops.map (o.whenIssued b.usec) :=
    List.map_congr_left (fun p hp => by simp [FlashOp.whenIssued, hstage p hp])
  have hnone : (b.fc.ops.map (o.whenIssued b.usec)).filter
      (fun p => p.die == o.die && decide (p.stage = .suspended) && decide (p.id ≠ o.id)) = [] := by
    rw [List.filter_eq_nil_iff]
    intro p hp
    obtain ⟨z, hz, rfl⟩ := List.mem_map.mp hp
    by_cases hid : z.id = o.id <;> simp [FlashOp.whenIssued, hid, hstage z hz]
  simp only [Block.startOp, Block.onFc, hops, hnone, hwhy, List.length_nil, Nat.lt_irrefl, decide_false, Bool.and_false, Block.onIf_false]

/-- The media ticket of a READ. -/
def Block.readTicket (b : Block) (o : FlashOp) : Ticket :=
  ⟨.booth (boothOf o.die), .flashOp o.id, b.opMw o, o.cls, o.born, true, decide (o.why = .page .reclaim), false, false⟩
/-- The transfer ticket of a READ. -/
def Block.readTransfer (b : Block) (o : FlashOp) : Ticket :=
  ⟨.chip, .transfer (chOf o.die), transferMw (b.rdF (pgCh (chOf o.die) + 0x100) 1 6), o.cls, o.born, true, false, false, false⟩

section
variable (hread : o.kind = .read) (hmedia : (b.ticket (b.readTicket o)).1 = .granted)
  (htransfer : ((b.ticket (b.readTicket o)).2.ticket ((b.ticket (b.readTicket o)).2.readTransfer o)).1 = .granted)
include hread hmedia htransfer

/-- A READ starts once both of its tickets are granted. -/
theorem Block.askOp_read : b.askOp o =
    (true, ((b.ticket (b.readTicket o)).2.ticket ((b.ticket (b.readTicket o)).2.readTransfer o)).2.startOp o) := by
  have hdata : ¬ (o.kind = .erase ∨ o.kind = .dieReset) := by simp [hread]
  have hisRead : decide (o.kind = .read) = true := decide_eq_true hread
  simp only [Block.askOp, hisRead, hdata, if_false]
  unfold Block.readTransfer Block.readTicket at *
  generalize b.ticket _ = x at *
  obtain ⟨_, x⟩ := x
  subst hmedia
  dsimp only at htransfer ⊢
  generalize x.ticket _ = y at *
  obtain ⟨_, y⟩ := y
  subst htransfer
  rfl

/-- A channel issues the first operation of its order where its die and its page are in service. -/
theorem Block.issueNext_read {ch : Nat} {os : List FlashOp} (horder : b.opOrder ch = o :: os) (hserves : (b.die o.die).stopped = false)
    (hpage : b.pageReset (pgCh (chOf o.die)) = 0) (hwhy : o.why = .direct) : b.issueNext ch =
      ((b.ticket (b.readTicket o)).2.ticket ((b.ticket (b.readTicket o)).2.readTransfer o)).2.startOp o := by
  have hroom : b.pageRoom o = true := by rw [Block.pageRoom, hwhy]
  simp only [Block.issueNext, horder, Block.issueFrom, List.contains_nil, hserves, hpage, hroom, b.askOp_read hread hmedia htransfer, ne_eq,
    not_true_eq_false, Bool.not_true, Bool.false_eq_true, if_false]

end

/-- A suspended operation goes on where its die runs none and no READ of class C0 or C1 waits there (R298). -/
theorem Block.resumeOp_goesOn {d : Nat}
    (hfirst : (b.fc.ops.filter (fun z => z.die == d)).find? (fun z => decide (z.stage = .suspended)) = some o)
    (hidle : ∀ z ∈ b.fc.ops, z.die = d → z.stage ≠ .issued ∧ (z.kind = .read → z.stage = .queued → 1 < b.opCls z)) :
    b.resumeOp d = b.modOp o.id (fun z => { z with stage := .issued, resumed := b.usec }) := by
  have hfree : (b.fc.ops.filter (fun z => z.die == d)).any (fun z => decide (z.stage = .issued) ||
      (decide (z.kind = .read) && decide (z.stage = .queued) && decide (b.opCls z ≤ 1))) = false := by
    simpa using hidle
  simp only [Block.resumeOp, hfirst, hfree, Bool.false_eq_true, if_false]

/-! ### The end at the die (R17, R300, R314-R316) -/

section
variable {id : Nat} (hop : b.op id = some o) (hout : o.stage = .issued)
include hop hout

theorem Block.opComplete_issued {res : FlashRes} (hfits : resFits o.kind res = true) : b.opComplete id res = (b.opEnds o res).afterOp := by
  rw [Block.opComplete, hop]
  exact if_pos (by simp [hout, hfits])

theorem Block.ladderTimeout_read (rung : Nat) (lost : Bool) (hread : o.kind = .read) : b.ladderTimeout id rung lost =
    (let top := min rung (b.lastRung o.die)
     (((b.elapseTo (o.issued + b.rdF (pgFc + 0x1C0) 0 15)).noteRung o top).ladderFail o top lost).afterOp) := by
  rw [Block.ladderTimeout, hop]
  exact if_pos (by simp [hout, hread])

theorem Block.dieTimeout_issued : b.dieTimeout id = (b.opTimeout o).afterOp := by
  rw [Block.dieTimeout, hop]
  exact if_pos hout

end

/-- A READ that decoded has its codewords counted and its page passed on, unless it serves a rebuild, which `hwhy` rules out; the soft
decoder, where it was needed, has had its ticket. -/
theorem Block.opEnds_decoded {n0 n12 nr r : Nat} (hread : o.kind = .read) (hticket : r = 0 ∨ (b.softTicket o).1 = .granted)
    (hwhy : ∀ i, o.why ≠ .rebuild i) : b.opEnds o (.decoded n0 n12 nr r) =
      (let pg := pgCh (chOf o.die)
       let y := if r = 0 then b else (b.softTicket o).2
       let x := ((y.addSat (pg + 0x110) 0 31 n0).addSat (pg + 0x114) 0 31 n12).addSat (pg + 0x118) 0 31 nr
       let top := min r (x.lastRung o.die)
       ((x.noteRung o top).dropOp o.id).pageRead o top) := by
  have hanswer : (if r = 0 then (TicketAns.granted, b) else b.softTicket o) = (.granted, if r = 0 then b else (b.softTicket o).2) := by
    split
    · rfl
    next hsoft => exact Prod.ext (hticket.resolve_left hsoft) rfl
  unfold Block.opEnds
  rw [hread]
  simp only [hanswer]

/-- A READ that no rung decoded. -/
theorem Block.opEnds_failedLadder (lost : Bool) (hread : o.kind = .read) (hticket : (b.softTicket o).1 = .granted) :
    b.opEnds o (.failedLadder lost) =
      ((b.softTicket o).2.noteRung o ((b.softTicket o).2.lastRung o.die)).ladderFail o ((b.softTicket o).2.lastRung o.die) lost := by
  have hanswer : b.softTicket o = (.granted, (b.softTicket o).2) := Prod.ext hticket rfl
  unfold Block.opEnds
  rw [hread, hanswer]

theorem Block.opEnds_rawProgram_done (h : o.kind = .rawProgram) : b.opEnds o .done = b.rawDone o := by
  unfold Block.opEnds
  rw [h]
theorem Block.opEnds_program_done (h : o.kind = .program) : b.opEnds o .done = b.progDone o := by
  unfold Block.opEnds
  rw [h]
theorem Block.opEnds_program_failed (h : o.kind = .program) : b.opEnds o .failed = b.progFail o := by
  unfold Block.opEnds
  rw [h]
theorem Block.opEnds_erase_done (h : o.kind = .erase) : b.opEnds o .done = b.eraseDone o := by
  unfold Block.opEnds
  rw [h]
theorem Block.opEnds_erase_failed (h : o.kind = .erase) : b.opEnds o .failed = b.eraseFail o := by
  unfold Block.opEnds
  rw [h]

/-! ### Training and parity groups (R290, R318) -/

/-- A channel in service retrains under its ticket, by its interval unless the diode has moved. -/
theorem Block.retrain_granted {ch t : Nat} {p : Profile} (rates : List Nat) (ht : smFind b.fc.trainedAt ch = some t)
    (hp : b.prof (ch / 8) = some p) (hup : b.boothUp (ch / 8) = true) (hpower : b.plossSt = 0) (hserves : b.rdF (pgCh ch + 0x100) 7 7 = 1) :
    let x := if b.retrainMoved ch then b else b.elapseTo (t + b.rdF (pgFc + 0x1C4) 0 15 * 1000000)
    let y := x.ticket ⟨.chip, .training ch, 450, 1, x.usec, false, false, false, false⟩
    y.1 = .granted → b.retrain ch rates = ((y.2.trainCh ch p.body rates).chDies ch).untick (.training ch) := by
  intro x y hgranted
  rw [Block.retrain, ht, hp]
  exact (if_neg (by simp [hup, hpower, hserves])).trans (if_pos hgranted)

theorem Block.groupTimeout_closes {id : Nat} {g : ParGrp} (hg : b.fc.grps.find? (fun z => z.id == id) = some g) (hopen : g.closed = false) :
    b.groupTimeout id = ((b.elapseTo (g.first + 10000)).onFc (fun e => { e with
      grps := e.grps.map (fun z => if z.id = id then { z with closed := true } else z) })).parityUsed := by
  rw [Block.groupTimeout, hg]
  exact if_neg (by simp [hopen])

/-! ### Keys (R313) -/

section
variable {s : Nat} {key : KeySlot}

/-- An UNWRAP that found its key. -/
theorem Block.keyEnds_unwrapped (h : b.fc.keyOp = some (s, key, some false)) : b.keyEnds =
    ((((b.onFc (fun e => { e with keyOp := none, keys := smSet {} e.keys s key })).wrF (pgFc + 0x158) 0 0 0).wrF (pgFc + 0x158) 2 2 0).raise
      pgFc 2) := by
  rw [Block.keyEnds, h]
  rfl

/-- An UNWRAP that failed. -/
theorem Block.keyEnds_unwrapFailed (h : b.fc.keyOp = some (s, key, some true)) : b.keyEnds =
    (((((b.onFc (fun e => { e with keyOp := none, keys := smSet {} e.keys s key })).wrF (pgFc + 0x158) 0 0 0).record pgFc
      { code := 0x0108, sev := .corrected, detail := fcDetail 0 0 0 s 0 }).wrF (pgFc + 0x158) 2 2 1).raise pgFc 2) := by
  rw [Block.keyEnds, h]
  rfl

/-- Any other key operation. -/
theorem Block.keyEnds_plain (h : b.fc.keyOp = some (s, key, none)) : b.keyEnds =
    (((b.onFc (fun e => { e with keyOp := none, keys := smSet {} e.keys s key })).wrF (pgFc + 0x158) 0 0 0).raise pgFc 2) := by
  rw [Block.keyEnds, h]
  rfl

end

end Sys2Proof.Machine

namespace Sys2Proof.Claims
open Sys2Proof.Machine

/-- FLASH_OP_COMPLETE for an issued operation, with a result that fits its kind (R17). -/
theorem answers_opComplete {q : List Instr} {b b' : Block} {id : W32} {o : FlashOp} {res : FlashRes} (hdark : b.dark = false)
    (hop : b.op id.toNat = some o) (hout : o.stage = .issued) (hfits : resFits o.kind res = true) (hends : b.opEnds o res = b') :
    Answers (.flashOpComplete id res) q b b'.afterOp :=
  answers_run hdark rfl ((b.opComplete_issued hop hout hfits).trans (congrArg Block.afterOp hends))

/-- Settles O14: each command by the case of its meaning that its conditions name. -/
theorem flashOperationCommands : Obligations.FlashOperationCommands := by
  intro q b die block page cls rung ch id o san n0 n12 nr r lost rates g t p s key hdark k slc pg
  refine ⟨fun hpage => ⟨?read, fun hgo => ?program, fun hsan hact => ?raw⟩,
    fun hpage hgo hunmapped hsettled hclosed => ?erase, fun hdie hup => ?reset,
    fun os horder hread hserves hpage hmedia htransfer hqueued hwhy => ?issue, fun hfirst hidle => ?resume,
    fun hop hout => ⟨fun hread hticket hwhy => ?decoded, fun hread hticket => ?ladder, fun hraw => ?rawDone, fun hprog => ?progDone,
      fun hprog => ?progFailed, fun herase => ?eraseDone, fun herase => ?eraseFailed, fun hread => ?ladderTimeout, ?dieTimeout⟩,
    fun ht hp hup hpower hserves hgranted => ?retrain, fun hg hopen => ?group, fun hkey => ?unwrapped, fun hkey => ?unwrapFailed,
    fun hkey => ?plain⟩
  case read => exact answers_run hdark rfl (if_pos hpage)
  case program => exact answers_run hdark rfl (b.postProgram_runs _ hpage hgo)
  case raw => exact answers_run hdark rfl (b.postRaw_overwrites hpage hsan hact)
  case erase => exact answers_run hdark rfl (b.postEraseOf_empty _ hpage hgo hunmapped hsettled hclosed)
  case reset => exact answers_run hdark rfl (b.postReset_answered hdie hup)
  case issue =>
    exact answers_run hdark rfl ((b.promoteAged.issueNext_read hread hmedia htransfer horder hserves hpage hwhy).trans
      (Block.startOp_alone _ hqueued hwhy))
  case resume => exact answers_run hdark rfl (b.resumeOp_goesOn hfirst hidle)
  case decoded => exact answers_opComplete hdark hop hout (by rw [hread]; rfl) (b.opEnds_decoded hread hticket hwhy)
  case ladder => exact answers_opComplete hdark hop hout (by rw [hread]; rfl) (b.opEnds_failedLadder lost hread hticket)
  case rawDone => exact answers_opComplete hdark hop hout (by rw [hraw]; rfl) (b.opEnds_rawProgram_done hraw)
  case progDone => exact answers_opComplete hdark hop hout (by rw [hprog]; rfl) (b.opEnds_program_done hprog)
  case progFailed => exact answers_opComplete hdark hop hout (by rw [hprog]; rfl) (b.opEnds_program_failed hprog)
  case eraseDone => exact answers_opComplete hdark hop hout (by rw [herase]; rfl) (b.opEnds_erase_done herase)
  case eraseFailed => exact answers_opComplete hdark hop hout (by rw [herase]; rfl) (b.opEnds_erase_failed herase)
  case ladderTimeout => exact answers_run hdark rfl (b.ladderTimeout_read hop hout rung.toNat lost hread)
  case dieTimeout => exact answers_run hdark rfl (b.dieTimeout_issued hop hout)
  case retrain => exact answers_run hdark rfl (b.retrain_granted rates ht hp hup hpower hserves hgranted)
  case group => exact answers_run hdark rfl (b.groupTimeout_closes hg hopen)
  case unwrapped => exact answers_run hdark rfl (b.keyEnds_unwrapped hkey)
  case unwrapFailed => exact answers_run hdark rfl (b.keyEnds_unwrapFailed hkey)
  case plain => exact answers_run hdark rfl (b.keyEnds_plain hkey)

end Sys2Proof.Claims
end

section
/-! Compression lanes (R346, R350, R354-R363, R371, R378): a job from its submission to its end, and what the report of an independent
job says of the bytes it read and wrote. -/
namespace Sys2Proof.Machine

variable (b : Block) {decomp : Bool} {n : Nat} {j : LaneJob}

theorem Block.onIf_not (c : Bool) (f : Block → Block) : b.onIf (!c) f = if c then b else f b := by cases c <;> rfl

/-! ### Submission and grant (R354-R356, R358, R362) -/

theorem Block.submitJob_valid {d : BitVec 512} {who : Submitter} (hok : (b.queueJob d who).badJob d = false) :
    b.submitJob d who = b.queueJob d who := by
  simp only [Block.submitJob, hok, Bool.false_eq_true, if_false]
  split <;> rfl

theorem Block.submitJob_bad {d : BitVec 512} {who : Submitter} (hbad : (b.queueJob d who).badJob d = true)
    (hj : (b.queueJob d who).cz.jobs.find? (fun z => z.id == b.cz.nextJob) = some j) :
    b.submitJob d who = (b.queueJob d who).jobEndsEarly j 0x20 := by
  simp only [Block.submitJob, hj, hbad, if_true]

section
variable {k : Nat} (hj : b.nextLaneJob decomp = some j) (hk : b.freeLane decomp = some k)
include hj hk

theorem Block.grantLane_starts (hok : b.grantCheck j.desc = none) : b.grantLane decomp =
    (b.unqueue j.id).modLane decomp k (fun l => { l with job := some j, image := smFind b.cz.tables (jTable j.desc) }) := by
  simp only [Block.grantLane, hj, hk, hok]

theorem Block.grantLane_ends {st : Nat} (hbad : b.grantCheck j.desc = some st) : b.grantLane decomp = b.jobEndsEarly j st := by
  simp only [Block.grantLane, hj, hk, hbad]

end

/-! ### Waking and gating (R361, R362) -/

theorem Block.wakeLane_wakes (hticket : b.holds (laneHolder decomp n) = true) (hgated : (b.lane decomp n).awake = false)
    (hpresent : n < b.lanesOf decomp) : b.wakeLane decomp n =
    (let x := (b.elapse (b.wakeTime 7)).pllOn 7
     x.modLane decomp n (fun l => { l with awake := true, idle := x.usec })) :=
  if_pos (by simp [hticket, hgated, hpresent])

theorem Block.gateLane_gates (hawake : (b.lane decomp n).awake = true) (hidle : (b.lane decomp n).job = none)
    (hwarm : (if decomp then b.rdF (pgCz + 0x104) 14 20 else b.rdF (pgCz + 0x104) 8 13) < b.awake decomp) : b.gateLane decomp n =
    (((b.elapseTo ((b.lane decomp n).idle + b.rdF (pgCz + 0x104) 0 7)).modLane decomp n (fun l => { l with awake := false })).untick
      (laneHolder decomp n)) :=
  if_pos (by simp only [hawake, hidle, Option.isNone_none, Bool.and_self, Bool.true_and, decide_eq_true_eq]; exact hwarm)

/-! ### The end of a job (R357, R371, R378) -/

theorem Block.laneJobEnds_agreed {r : JobRes} (hj : (b.lane decomp n).job = some j) (hok : endOk j.desc j.who.isFt r = true)
    (hagrees : b.laneAgrees decomp n j.desc j.who.isFt r = true) : b.laneJobEnds decomp n r =
    (let e := b.mkEnd decomp n j.desc r
     let key := b.finderKey n j.desc
     let w := if !decomp && !j.who.isFt && ranOut r then
       b.onCz (fun z => { z with finder := (key, r) :: z.finder.filter (fun x => decide (x.1 ≠ key)) }) else b
     let v := w.each (if jRestores j.desc && !j.who.isFt then w.slotReqs decomp n j.desc (w.slot (jSlot j.desc)) else [])
       (fun z a => (z.busRead a []).2.2)
     let x := (v.freeTheLane decomp n).laneCount (pgLane decomp n) e.inUsed e.outUsed
     let y := if j.who.isFt then x else x.laneData decomp n j.desc r
     (y.slotEnd decomp n j.desc r (b.laneInput decomp n j.desc)).jobEnds (pgLane decomp n) j e (b.endAddr decomp n j.desc r)) := by
  have hallowed : ¬(!(endOk j.desc j.who.isFt r && b.laneAgrees decomp n j.desc j.who.isFt r)) = true := by simp [hok, hagrees]
  rw [Block.laneJobEnds, hj]
  refine (if_neg hallowed).trans ?_
  simp only [Block.onIf_not]
  rfl

/-! ### Reports of independent jobs (R346, R350, R363) -/

section
variable {d : BitVec 512} {r : JobRes} (hsingle : jStream d = false)
include hsingle

/-- An independent job goes on with no stream. -/
theorem Block.slotBase_independent : b.slotBase d = {} := by simp [Block.slotBase, hsingle]

theorem Block.decodeFor_independent (inp : List Byte) :
    b.decodeFor d inp = ((decodeStream (jFormat d) true inp []).out.reverse, decodeStream (jFormat d) true inp []) := by
  simp [Block.decodeFor, b.slotBase_independent hsingle, hsingle]

variable (hok : r.status = 0)
include hok

/-- An independent job restores no slot, so the report of its end with OK is one that its format allows. -/
theorem Block.laneAgrees_independent (hagrees : b.laneAgrees decomp n d false r = true) :
    (if decomp then b.decompAgrees n d r else b.compAgrees n d r) = true := by
  have hst : r.status.toNat = 0 := by rw [hok]; rfl
  have hclean : b.restorePoison d = false := by simp [Block.restorePoison, jRestores, hsingle]
  simp only [Block.laneAgrees, hst, hclean, OfNat.zero_ne_ofNat, Bool.false_or, Bool.false_eq_true, if_false] at hagrees
  rw [Bool.and_eq_true, Bool.and_eq_true, Bool.and_eq_true] at hagrees
  obtain ⟨⟨⟨_, hformat⟩, _⟩, _⟩ := hagrees
  exact hformat

/-- What an independent compress job that ends with OK wrote decodes to what it read (R350). -/
theorem Block.compAgrees_decodes (hagrees : b.compAgrees n d r = true) :
    (decodeStream (jFormat d) true (denseBytes (mkBytes r.out) r.outUsed.toNat) []).out.reverse =
      ((b.laneInput false n d).take (b.cleanInput d)).take r.inUsed.toNat := by
  have hst : r.status.toNat = 0 := by rw [hok]; rfl
  simp only [Block.compAgrees, b.slotBase_independent hsingle, hsingle, hst, List.nil_append, Bool.false_and, Bool.not_false,
    Bool.false_eq_true, if_false, Bool.and_eq_true, beq_iff_eq] at hagrees
  obtain ⟨⟨⟨_, ⟨⟨⟨hdecodes, _⟩, _⟩, _⟩, _⟩, _⟩, _⟩ := hagrees
  exact hdecodes

/-- What an independent decompress job that ends with OK wrote is what its input decodes to (R363). -/
theorem Block.decompAgrees_decodes (hagrees : b.decompAgrees n d r = true) :
    denseBytes (mkBytes r.out) r.outUsed.toNat =
      (decodeStream (jFormat d) true ((b.laneInput true n d).take (b.cleanInput d)) []).out.reverse := by
  have hst : r.status.toNat = 0 := by rw [hok]; rfl
  simp only [Block.decompAgrees, b.decodeFor_independent hsingle, hst, Bool.and_eq_true, beq_iff_eq] at hagrees
  obtain ⟨⟨⟨⟨_, ⟨⟨⟨hdecodes, _⟩, _⟩, _⟩, _⟩, _⟩, _⟩, _⟩ := hagrees
  exact hdecodes

end

end Sys2Proof.Machine

namespace Sys2Proof.Claims
open Sys2Proof.Machine

/-- Settles O16: each command by the case of its meaning that its conditions name, and an independent job by what its report has to agree
with. -/
theorem laneCommands : Obligations.LaneCommands := by
  intro q b port n desc decomp j k st r hdark
  refine ⟨fun hport => ⟨fun hvalid => ?submitted, fun hbad hj => ?badJob⟩, fun hj hk => ⟨fun hok => ?granted, fun hbad => ?refused⟩,
    fun hticket hgated hpresent => ?wakes, fun hawake hidle hwarm => ?gates, fun hj hok hagrees => ?completes,
    fun hsingle hok hagrees => ⟨fun hkind => ?compressed, fun hkind => ?decompressed⟩⟩
  case submitted => exact answers_run hdark rfl ((if_pos hport).trans (b.submitJob_valid hvalid))
  case badJob => exact answers_run hdark rfl ((if_pos hport).trans (b.submitJob_bad hbad hj))
  case granted => exact answers_run hdark rfl (b.promoteAged.grantLane_starts hj hk hok)
  case refused => exact answers_run hdark rfl (b.promoteAged.grantLane_ends hj hk hbad)
  case wakes => exact answers_run hdark rfl (b.wakeLane_wakes hticket hgated hpresent)
  case gates => exact answers_run hdark rfl (b.gateLane_gates hawake hidle hwarm)
  case completes => exact answers_run hdark rfl (b.laneJobEnds_agreed hj hok hagrees)
  case compressed =>
    subst hkind
    exact b.compAgrees_decodes hsingle hok (b.laneAgrees_independent hsingle hok hagrees)
  case decompressed =>
    subst hkind
    exact b.decompAgrees_decodes hsingle hok (b.laneAgrees_independent hsingle hok hagrees)

end Sys2Proof.Claims
end

section
/-! Faults and spares: fatal errors and what recovery makes of them (R380, R468, R506, R652-R656), failover of control cores
(R660-R669), and self-test and aging in service (R671-R673). -/
namespace Sys2Proof.Machine

variable (b : Block)

/-! ### Fatal errors (R652-R656) -/

theorem Block.deviceFatalAt_present {pg code i : Nat} {c : PageClass} (hpage : presentPageAt b.variant pg = some (c, i)) :
    b.deviceFatalAt pg code = b.fatalError pg { code := code, sev := .deviceFatal } := by
  simp only [Block.deviceFatalAt, hpage]

/-- The instance once its fatal error is recorded and struck, its work has ended, and its page shows recovery. -/
def Block.fatalNoted (b : Block) (pg code : Nat) (c : PageClass) (i : Nat) : Block :=
  (((if Claims.fatalOwn b c i then b else b.record pg { code := code, sev := .unitFatal }).addStrike pg).fatalWork c i).wrF (pg + 0x00C) 8 11 1

section
variable {pg code i : Nat} {c : PageClass} (testOk spareOk : Bool) (hpage : presentPageAt b.variant pg = some (c, i))
  (hruns : b.pageReset pg = 0) (hunit : 5 < c.unit)
include hpage hruns hunit

/-- UNIT_FATAL of an instance that runs and whose unit is none of those that the whole device falls with. -/
theorem Block.unitFatal_running (again : Bool) : b.unitFatal pg code again testOk spareOk =
    (let x := (b.fatalNoted pg code c i).onIf again (fun y => (y.record pg { code := code, sev := .unitFatal }).addStrike pg)
     if x.rdF (pgHk + 0x400) 0 0 = 0 then ((x.setPageReset pg 3).raise pgHk 20).heldOff c i
     else if again || uncovered c then x.goOffline c i
     else x.recover c i testOk spareOk) := by
  rw [Block.unitFatal, hpage]
  refine (if_neg (not_not.mpr hruns)).trans ?_
  exact if_neg (Nat.not_le.mpr hunit)

theorem Block.unitFatal_recovers (hauto : (b.fatalNoted pg code c i).rdF (pgHk + 0x400) 0 0 = 1) (hcovered : uncovered c = false) :
    b.unitFatal pg code false testOk spareOk = (b.fatalNoted pg code c i).recover c i testOk spareOk := by
  simp only [b.unitFatal_running testOk spareOk hpage hruns hunit, Block.onIf_false, hauto, hcovered, Nat.one_ne_zero, Bool.or_self,
    Bool.false_eq_true, if_false]

theorem Block.unitFatal_uncovered (hauto : (b.fatalNoted pg code c i).rdF (pgHk + 0x400) 0 0 = 1) (hbare : uncovered c = true) :
    b.unitFatal pg code false testOk spareOk = (b.fatalNoted pg code c i).goOffline c i := by
  simp only [b.unitFatal_running testOk spareOk hpage hruns hunit, Block.onIf_false, hauto, hbare, Nat.one_ne_zero, Bool.or_true, if_false,
    if_true]

theorem Block.unitFatal_again
    (hauto : (((b.fatalNoted pg code c i).record pg { code := code, sev := .unitFatal }).addStrike pg).rdF (pgHk + 0x400) 0 0 = 1) :
    b.unitFatal pg code true testOk spareOk =
      (((b.fatalNoted pg code c i).record pg { code := code, sev := .unitFatal }).addStrike pg).goOffline c i := by
  simp only [b.unitFatal_running testOk spareOk hpage hruns hunit, Block.onIf_true, hauto, Nat.one_ne_zero, Bool.true_or, if_false, if_true]

end

/-- A lane with a job and a spare that passes its self-test: the job ends with LANE_FAULT, and the spare takes the lane's number (R380). -/
theorem Block.laneFault_replaced {decomp : Bool} {n : Nat} (hpresent : n < b.lanesOf decomp) (halive : (b.lane decomp n).dead = false)
    (hjob : ((b.lane decomp n).job).isSome = true)
    (hspare : (((b.stopJob decomp n 0x30).addStrike (pgLane decomp n)).raise (pgLane decomp n) 0).spareReady (laneKind decomp) n = true) :
    b.laneFault decomp n true =
    (let x := ((b.stopJob decomp n 0x30).addStrike (pgLane decomp n)).raise (pgLane decomp n) 0
     let y := (x.spareIn (laneKind decomp) n (pgLane decomp n)).freeTest
     (y.2.testReplaced (laneKind decomp) n (x.physOf (laneKind decomp) n) (pgLane decomp n) y.1).raise pgCz 5) := by
  have hserves : ¬(n ≥ b.lanesOf decomp ∨ (b.lane decomp n).dead = true) := by simp [halive, hpresent]
  simp only [Block.laneFault, hserves, hjob, hspare, Bool.not_true, Bool.false_eq_true, if_false, if_true]

theorem Block.bankFault_serving {k : Nat} (permanent : Bool) (hpresent : b.has .seBank k = true) (hserves : b.bankServes k = true) :
    b.bankFault k permanent = b.unitFatal (pgSeB k) 0x0106 false (!permanent) false :=
  if_neg (by simp [hpresent, hserves])

/-! ### Failover of cores (R657, R660-R669) -/

/-- A running control core that is active misses its deadline (R660). -/
theorem Block.heartbeatMiss_running {l : Nat} (hbooted : b.hk.booted = true) (hnone : b.hk.failover = none)
    (hfree : (b.core (96 + l)).halted = none) (hruns : (b.core (96 + l)).stopped = false)
    (hactive : b.rdF (pgHk + 0x40C) (b.kphys l) (b.kphys l) = 1) : b.heartbeatMiss l =
    (b.elapseTo (smGet 0 b.hk.khb l + b.rdF (pgHk + 0x404) 0 9 + 1)).failStart l := by
  have hmisses : ¬((!b.hk.booted) = true ∨ b.hk.failover.isSome = true ∨ (b.core (96 + l)).halted.isSome = true ∨
      b.rdF (pgHk + 0x40C) (b.kphys l) (b.kphys l) = 0) := by simp [hbooted, hnone, hfree, hactive]
  simp only [Block.heartbeatMiss, hmisses, hruns, Bool.false_eq_true, if_false]

/-- With a standby, the failover gives the failed core's lines to it and starts it at the firmware's failover entry (R662). -/
theorem Block.kFailover_standby {l p at_ : Nat} (hfailed : b.hk.failover = some (l, p, at_)) (hstandby : b.standby ≠ 7) : b.kFailover =
    (let x := (b.onHk (fun h => { h with failover := none, kTest := some p })).answerHeld
     let y := (x.setStandby 7).setActive b.standby true
     let z := y.onHk (fun h => { h with kphys := smSet l h.kphys l b.standby, khb := smPut h.khb l x.usec })
     let w := (z.free.2.setCore (96 + l) { (z.free.2.core (96 + l)).renew (96 + l) with
       stopped := false
       pc := z.free.1
       st := 5
       resetAt := z.free.2.usec }).setSpared (pgKc l) true
     (((w.addSat (pgHk + 0x40C) 8 15 1).noteSubst .coreK l false).spareRec 0x0201 .corrected (pgKc l) b.standby).raise pgHk 16) := by
  rw [Block.kFailover, hfailed]
  exact if_neg hstandby

section
variable {p : Nat} (hp : b.hk.kTest = some p)
include hp

theorem Block.failoverTest_passed : b.failoverTest true = (b.onHk (fun h => { h with kTest := none })).setStandby p := by
  rw [Block.failoverTest, hp]
  rfl

theorem Block.failoverTest_failed : b.failoverTest false =
    ((((b.onHk (fun h => { h with kTest := none })).noteSubst .coreK p true).spareRec 0x0203 .corrected (pgKc 0) p).setStandby 7).raise
      pgHk 18 := by
  rw [Block.failoverTest, hp]
  rfl

end

theorem Block.sFailover_spare {s : Nat} {rest : List Nat} (hspare : b.spares .coreS 0 = s :: rest) : b.sFailover =
    (let x := (b.spareIn .coreS 0 pgHk).free
     let y := (x.2.setCore 100 { (x.2.core 100).renew 100 with pc := x.1, resetAt := x.2.usec }).freeTest
     y.2.testReplaced .coreS 0 (b.physOf .coreS 0) pgHk y.1) := by
  rw [Block.sFailover, hspare]

/-- The block with the record of a self-check that failed; a core that stopped on a double trap has its record (R669). -/
def Block.checkNoted (b : Block) (i : Nat) : Block := if (b.core i).stopped then b else b.coreRec i 0x185 .unitFatal 0

/-- A control core that fails its self-check fails over, unless another one does so already (R669). -/
theorem Block.coreCheck_control {i : Nat} (testOk : Bool) (hcore : b.hasCore i = true) (hkind : coreKind i = .k)
    (hnone : (b.checkNoted i).hk.failover = none) : b.coreCheck i testOk = (b.checkNoted i).failStart (i - 96) := by
  simp only [Block.checkNoted] at hnone ⊢
  simp only [Block.coreCheck, hcore, hkind, hnone, Bool.not_true, Bool.false_eq_true, reduceCtorEq, decide_false, Block.onIf_false,
    Option.isSome_none, if_false]

/-! ### Self-test and aging in service (R671-R673) -/

/-- The spare swaps with the next idle instance of its kind, which passes its test and is the spare from then on (R671). -/
theorem Block.rotate_passed {kind n pg p : Nat} {k : SpKind} {rest : List Nat} (hon : b.rdF (pgHk + 0x420) 16 16 = 1)
    (hnext : n = b.rotNext kind) (hidle : b.rotIdle kind n = true) (hkind : rotKind kind n = some (k, pg))
    (hspare : b.spares k n = p :: rest) : b.rotate kind n true =
    (let x := b.elapseTo (smGet 0 b.hk.rotAt kind + b.rdF (pgHk + 0x420) 0 15 * 3600000000)
     let y := (((x.setPhys k n p).setSpares k n rest).setSpared pg true).noteSubst k n false
     let z := if kind = 0 then (y.setCore n { (y.core n).renew n with resetAt := y.usec }).idleCore n else y
     (z.setSpares k n (z.spares k n ++ [x.physOf k n])).rotTested kind n) := by
  have hruns : ¬(b.rdF (pgHk + 0x420) 16 16 = 0 ∨ n ≠ b.rotNext kind ∨ (!b.rotIdle kind n) = true) := by
    simp [hon, hidle, ← hnext]
  rw [Block.rotate]
  refine (if_neg hruns).trans ?_
  simp only [hkind, hspare, if_true]

/-- A change under a Boolean condition is one under the proposition that it decides. -/
theorem Block.onIf_of_iff {p : Prop} [Decidable p] {c : Bool} (h : c = true ↔ p) (f : Block → Block) : b.onIf c f = if p then f b else b :=
  if_congr h rfl rfl

/-- The request to the regulator where the supply has to change and the regulator is driven (R672, R720). -/
def Block.agingAsk (b : Block) (old mv : Nat) (sent : Bool) : Block :=
  if mv = old ∨ b.rdF (pgHk + 0x160) 7 7 = 0 then b
  else if sent then (b.onHk (fun h => { h with sentMv := mv })).send (.pmbus mv) else b.raise pgHk 10

theorem Block.aging_eq (slow short : List Nat) (sent : Bool) : b.aging slow short sent =
    (let x := (b.elapse (3600000000 - b.usec % 3600000000)).onHk (fun h =>
       { h with slow := (slow.take 16).zipIdx.foldl (fun m z => smSet 0 m z.2 z.1) h.slow })
     let worst := (x.hk.slow.map (·.2)).foldl max 0
     let old := x.rdF (pgHk + 0x448) 0 9
     let mv := max old (min 850 (750 + 5 * (worst / 50)))
     let y := (x.wrF (pgHk + 0x448) 0 9 mv).wrF (pgHk + 0x448) 10 10 (if mv = 850 then 1 else 0)
     let z := if mv = 850 ∧ short.isEmpty = false then (y.each short Block.lowerMax).raise pgHk 21 else y
     z.agingAsk old mv sent) := by
  have hlowers (mv : Nat) : (mv == 850 && !short.isEmpty) = true ↔ mv = 850 ∧ short.isEmpty = false := by simp
  exact congrArg (fun z : Block => z.agingAsk _ _ sent) (Block.onIf_of_iff _ (hlowers _) _)

end Sys2Proof.Machine

namespace Sys2Proof.Claims
open Sys2Proof.Machine

/-- Settles O23: each command by the case of its meaning that its conditions name. -/
theorem faultCommands : Obligations.FaultCommands := by
  intro q b page code ok testOk spareOk decomp sent n bank kind core rn kc slow short c i l p at_ s rest k pg hdark pgU
  refine ⟨fun hpage => ⟨?deviceFatal,
      fun hruns hunit => ⟨fun hauto => ⟨fun hcovered => ?recovers, fun hbare => ?bare⟩, fun hauto => ?again⟩⟩,
    fun hpresent halive hjob hspare => ?laneFault, fun hpresent hserves => ?bankFault, ?channelFault,
    fun hbooted hnone hfree hruns hactive => ?heartbeat, fun hfailed hstandby => ?failover, fun hp => ⟨?passed, ?failed⟩,
    fun hspare => ?sFailover, fun hcore hkind hnone => ?coreCheck, fun hon hnext hidle hkind hspare => ?rotation, ?aging⟩
  case deviceFatal => exact answers_runAon hdark rfl (b.deviceFatalAt_present hpage)
  case recovers => exact answers_runAon hdark rfl (b.unitFatal_recovers testOk spareOk hpage hruns hunit hauto hcovered)
  case bare => exact answers_runAon hdark rfl (b.unitFatal_uncovered testOk spareOk hpage hruns hunit hauto hbare)
  case again => exact answers_runAon hdark rfl (b.unitFatal_again testOk spareOk hpage hruns hunit hauto)
  case laneFault => exact answers_run hdark rfl (b.laneFault_replaced hpresent halive hjob hspare)
  case bankFault => exact answers_run hdark rfl (b.bankFault_serving ok hpresent hserves)
  case channelFault => exact answers_run hdark rfl rfl
  case heartbeat => exact answers_run hdark rfl (b.heartbeatMiss_running hbooted hnone hfree hruns hactive)
  case failover => exact answers_run hdark rfl (b.kFailover_standby hfailed hstandby)
  case passed => exact answers_run hdark rfl (b.failoverTest_passed hp)
  case failed => exact answers_run hdark rfl (b.failoverTest_failed hp)
  case sFailover => exact answers_runAon hdark rfl (b.sFailover_spare hspare)
  case coreCheck =>
    have hlit : core.toNat = 100 ∨ (!b.dark) = true := Or.inr (by rw [hdark]; rfl)
    exact answers_runAon hdark rfl ((if_pos hlit).trans (b.coreCheck_control testOk hcore hkind hnone))
  case rotation => exact answers_run hdark rfl (b.rotate_passed hon hnext hidle hkind hspare)
  case aging => exact answers_runAon hdark rfl (b.aging_eq _ _ sent)

end Sys2Proof.Claims
end

section
/-! The command registers of the memory system, the DMA engine, the search engine, the compute service and housekeeping (R408, R409, R458,
R460, R480, R483, R635, R716, R718). -/
namespace Sys2Proof.Machine

variable (b old : Block) (port : BitVec 8)

/-- A command put into its field reads back. -/
theorem fld_withOp (v : W32) {lo hi op : Nat} (hle : lo ≤ hi) (hhi : hi < 32) (hop : op < 2 ^ (hi - lo + 1)) : fld (withOp v lo hi op) lo hi = op :=
  (fld_setFld v op hle hhi).trans (Nat.mod_eq_of_lt hop)

/-! ### REGION_CTL and PART_CFG (R408, R409, R480) -/

/-- REGION_CTL with OP 1 starts the selected region on its way to ON. -/
theorem Block.effect_regionEnable (v : W32) :
    b.effect old port .msCtl 0 0x13C (withOp v 9 10 1) = b.regionStart b.selRegion .on := by
  simp [Block.effect, Block.effData, fld_withOp]

/-- REGION_CTL with OP 2 starts it on its way to OFF. -/
theorem Block.effect_regionDisable (v : W32) :
    b.effect old port .msCtl 0 0x13C (withOp v 9 10 2) = b.regionStart b.selRegion .off := by
  simp [Block.effect, Block.effData, fld_withOp]

/-- PART_CFG with OP 1 enables the selected partition. -/
theorem Block.effect_partitionEnable (k : Nat) (v : W32) :
    b.effect old port .seBank k 0x104 (withOp v 8 9 1) = b.partEnable k (b.selPart k) := by
  simp [Block.effect, Block.effData, fld_withOp]

/-- PART_CFG with OP 2 begins to clear it. -/
theorem Block.effect_partitionDisable (k : Nat) (v : W32) :
    b.effect old port .seBank k 0x104 (withOp v 8 9 2) = b.startClear false k (b.selPart k) := by
  simp [Block.effect, Block.effData, fld_withOp]

/-! ### REQ_SW and REQ_SWC (R458) -/

theorem pgDm_add_mod {base k : Nat} (h : base + 4 * k < 0x1000) : (pgDm + base + 4 * k) % 0x1000 = base + 4 * k := by
  rw [Nat.add_assoc]
  exact pageBase_add_mod .dmCtl 0 h

theorem regAtPage_reqSw (v : Variant) (i : Nat) {k : Nat} (hk : k < 8) :
    regAtPage v .dmCtl i (0x120 + 4 * k) = some (regN 0x120 8 [⟨0, 31, .w1s, 0, 0, 0xFFFFFFFF, 0⟩]) := by
  interval_cases k <;> rfl

theorem regAtPage_reqSwc (v : Variant) (i : Nat) {k : Nat} (hk : k < 8) :
    regAtPage v .dmCtl i (0x160 + 4 * k) = some (regN 0x160 8 [fWo 0 31 0 0xFFFFFFFF]) := by
  interval_cases k <;> rfl

/-- REQ_SW asserts the lines its word names. -/
theorem Block.effect_reqSw {k : Nat} (hk : k < 8) (v : W32) :
    b.effect old port .dmCtl 0 (0x120 + 4 * k) v = b.each (b.swLines k v) Block.lineSet := by
  interval_cases k <;> rfl

/-- REQ_SWC deasserts them. -/
theorem Block.effect_reqSwc {k : Nat} (hk : k < 8) (v : W32) :
    b.effect old port .dmCtl 0 (0x160 + 4 * k) v = b.each (b.swLines k v) Block.lineClr := by
  interval_cases k <;> rfl

/-! ### OP_CMD (R483) -/

/-- OP_CMD with GO makes its unit busy and sends the request in OP_REQ. -/
theorem Block.effect_opCmd : b.effect old port .seCtl 0 0x180 1 = (b.wrF (pgSe + 0x184) 0 0 1).seRequest .fw 0 0xFF b.opReq false := by
  simp [Block.effect, Block.effData]

/-! ### CL_DLV (R635) -/

/-- CL_DLV with EN starts delivery where it was off. -/
theorem Block.effect_dlvStart {n : Nat} {v : W32} (hen : v.getLsbD 14 = true) (hoff : old.dlvOn n = false) :
    b.effect old port .cxCluster n 0x108 v = b.dlvStart n := by
  simp [Block.effect, Block.effCx, hen, hoff]

/-! ### FW_CMD and DEV_RESET (R716, R718) -/

theorem fld_keyed_op (key : BitVec 16) {code : Nat} (h : code < 65536) : fld (keyed key code) 0 1 = code % 4 := by
  rw [fld, keyed_toNat key h, Nat.shiftRight_zero]
  omega

theorem keyed_getLsbD (key : BitVec 16) {code k : Nat} (h : code < 65536) (hk : k < 16) : (keyed key code).getLsbD k = code.testBit k := by
  have hlow : (key.toNat * 65536 + code) % 2 ^ 16 = code := by omega
  calc
    (keyed key code).getLsbD k = (key.toNat * 65536 + code).testBit k := by rw [BitVec.getLsbD, keyed_toNat key h]
    _ = ((key.toNat * 65536 + code) % 2 ^ 16).testBit k := by rw [Nat.testBit_mod_two_pow, decide_eq_true hk, Bool.true_and]
    _ = code.testBit k := by rw [hlow]

/-- FW_CMD does what the code beside its key says, with the slot of bit 2. -/
theorem Block.effect_fwCmd (key : BitVec 16) {code : Nat} (h : code < 65536) :
    b.effect old port .hk 0 0x144 (keyed key code) = b.fwCmd (code % 4) (code.testBit 2) := by
  rw [← fld_keyed_op key h, ← keyed_getLsbD key h (by decide : 2 < 16)]
  rfl

theorem Block.effect_devReset (v : W32) (hheard : b.devResetIgnored .hk 0x150 = false) : b.effect old port .hk 0 0x150 v = b.deviceReset 5 := by
  simp [Block.effect, Block.effAon, hheard]

end Sys2Proof.Machine

namespace Sys2Proof.Claims
open Sys2Proof.Machine

/-- A command of chapter 9 that is a write of one command register answers, where the write is taken, what the register commands. -/
theorem Takes.answers_effect_run {b b' : Block} {c : PageClass} {i o off : Nat} {d : W32} {m : Instr} {q : List Instr} {port : BitVec 6} {r : Reg}
    (h : Takes b off d c i) (hdark : b.dark = false) (hmeans : exec m ⟨q, b⟩ = State.run ⟨q, b⟩ (fun x => x.regWrite4 port off d))
    (ho : off % 0x1000 = o) (hsize : o % 4 = 0) (hr : regAtPage b.variant c i o = some r) (hen : o ≠ 0x014)
    (hfields : r.flds.any (fun f => decide (f.ty = .rw ∨ f.ty = .rwl)) = false) (heffect : b.effect b (port.setWidth 8) c i o d = b') :
    Answers m q b b' :=
  answers_run hdark hmeans ((h.regWrite4 port ho hsize).trans (by rw [Block.takeWrite, b.putWord_command d hr hen hfields, heffect]))

/-- Settles O6: each command is a write of one register, with the fields it stores and the effect it has. -/
theorem dataSideRegisterCommands : Obligations.DataSideRegisterCommands := by
  intro q b port ch k n v key slot hdark
  refine ⟨fun h => ?regionOn, fun h => ?regionOff, fun h => ?cfg, fun h => ?budget, fun h => ?start, fun h => ?stop, fun h => ?resume,
    fun h => ?reqSw, fun h => ?reqSwc, fun h => ?partOn, fun h => ?partOff, fun h => ?opCmd, fun h hen hoff => ?delivery, fun h => ?khb,
    fun h => ?masked, fun h => ?pending, fun h => ?confirm, fun h => ?clear, fun h hheard => ?devReset⟩
  case regionOn => exact h.answers hdark rfl rfl (by decide) (Block.effect_regionEnable _ b _ v)
  case regionOff => exact h.answers hdark rfl rfl (by decide) (Block.effect_regionDisable _ b _ v)
  case cfg | budget => exact h.answers hdark rfl rfl (by decide) rfl
  case start | stop | resume =>
    exact h.answers_effect_run hdark rfl (pageBase_add_mod _ _ (by decide)) (by decide) rfl (by decide) (by decide) rfl
  case reqSw =>
    exact h.answers_effect_run hdark rfl (pgDm_add_mod (by omega)) (by omega)
      (regAtPage_reqSw _ 0 k.isLt) (by omega) (by decide) (b.effect_reqSw b _ k.isLt v)
  case reqSwc =>
    exact h.answers_effect_run hdark rfl (pgDm_add_mod (by omega)) (by omega)
      (regAtPage_reqSwc _ 0 k.isLt) (by omega) (by decide) (b.effect_reqSwc b _ k.isLt v)
  case partOn => exact h.answers hdark rfl (pageBase_add_mod _ _ (by decide)) (by decide) (Block.effect_partitionEnable _ b _ k.toNat v)
  case partOff => exact h.answers hdark rfl (pageBase_add_mod _ _ (by decide)) (by decide) (Block.effect_partitionDisable _ b _ k.toNat v)
  case opCmd => exact h.answers_effect hdark rfl rfl (by decide) rfl (by decide) (by decide) (b.effect_opCmd b _)
  case khb | masked => exact h.answers_effect hdark rfl rfl (by decide) rfl (by decide) (by decide) rfl
  case delivery => exact h.answers hdark rfl (pageBase_add_mod _ _ (by decide)) (by decide) (Block.effect_dlvStart _ b _ hen hoff)
  case pending =>
    have hcode : (if slot then 5 else 1) < 65536 := by cases slot <;> decide
    have hslot : b.fwCmd ((if slot then 5 else 1) % 4) ((if slot then 5 else 1).testBit 2) = b.fwCmd 1 slot := by cases slot <;> rfl
    exact h.answers_effect hdark rfl rfl (by decide) rfl (by decide) (by decide) ((b.effect_fwCmd b _ key hcode).trans hslot)
  case confirm | clear =>
    exact h.answers_effect hdark rfl rfl (by decide) rfl (by decide) (by decide) (b.effect_fwCmd b _ key (by decide))
  case devReset =>
    exact h.answers_effect hdark rfl rfl (by decide) rfl (by decide) (by decide) (b.effect_devReset b _ v hheard)

end Sys2Proof.Claims
end

section
/-! The memory system at work: bring-up, rows that close, scrubbers, the imbalance monitor and the zeroing of regions (R387, R388, R393,
R397, R398, R409, R413, R417, R421, R779). -/
namespace Sys2Proof.Machine

variable (b : Block)

/-! ### Bring-up (R387, R388, R417) -/

section
variable {reached : List (Option (BitVec 3))} (hdown : b.dramReady = false) (hall : reached.length = b.variant.drams)
include hdown hall

/-- Where every channel trains, all run at the lowest rate reached, the repair map is applied, and DRAM reads zero. -/
theorem Block.dramTraining_trains (soft : List Nat) (hgood : b.trainBad reached = []) : b.dramTraining reached soft =
    (let rate := b.rdF (pgMs + 0x100) 0 2
     let low := reached.foldl (fun m r => match r with | some x => min m x.toNat | none => m) rate
     let x := b.each b.msChans (fun y c => (y.wrF (pgMsCh c + 0x100) 0 0 1).wrF (pgMsCh c + 0x100) 1 1 0)
     let y := ((x.each x.msChans (Block.bootRepairs · soft)).bootMap soft).zeroSpan 0 (2 ^ 39)
     let z := (y.onMs (fun m => { m with openRows := [], wq := [], paused := [], stopped := false }))
     let w := (z.wrF (pgMs + 0x104) 0 0 1).wrF (pgMs + 0x104) 1 3 low
     (w.wrF (pgMs + 0x104) 4 13 z.dramGib).raise pgMs 0) := by
  have hgo : ¬ (b.dramReady = true ∨ reached.length ≠ b.variant.drams ∨ (!(b.trainBad reached).isEmpty) = true) := by
    simp [hdown, hall, hgood]
  have hask : (b.dramReady || reached.length != b.variant.drams) = false := by simp [hdown, hall]
  calc
    b.dramTraining reached soft = b.trainDram reached soft := by
      simp only [Block.dramTraining, hask, hgood, Bool.false_eq_true, if_false]
    _ = _ := if_neg hgo

/-- The first channel that fails to train ends the bring-up with a DEVICE_FATAL error. -/
theorem Block.dramTraining_fails (soft : List Nat) {c : Nat} {cs : List Nat} (hbad : b.trainBad reached = c :: cs) :
    b.dramTraining reached soft = b.fatalError (pgMsCh c) { code := 0x109, sev := .deviceFatal } := by
  have hask : (b.dramReady || reached.length != b.variant.drams) = false := by simp [hdown, hall]
  simp only [Block.dramTraining, hask, hbad, Bool.false_eq_true, if_false]

end

/-! ### Rows that close (R397, R398) -/

theorem Block.rowCloses_present {ch : Nat} (sub rank bg bank : Nat) (hch : ch < b.variant.drams) (hup : b.dramReady = true) :
    b.rowCloses ch sub rank bg bank = b.closeRow (bankKey ch sub rank bg bank) := by
  simp [Block.rowCloses, hch, hup]

theorem Block.refreshBank_serving (ch sub rank bg bank : Nat) (hserves : b.ms.stopped = false) :
    b.refreshBank ch sub rank bg bank = b.rowCloses ch sub rank bg bank := by
  simp [Block.refreshBank, hserves]

/-! ### The patrol scrubber (R413) -/

/-- The scrubber of DRAM reads the line it stands at, and moves on or ends its lap. -/
theorem Block.patrol_reads (errs : List CodeErr) (hup : b.dramReady = true) (hserves : b.ms.stopped = false)
    (hon : b.rdF (pgMs + 0x10C) 8 8 = 1) (hidle : b.ctlQueue (b.dramRow (b.ms.scrubAt * 64)).subKey = []) : b.patrol errs =
    (let at_ := b.ms.scrubAt * 64
     let y := b.drained at_
     let x := y.each (y.readOrder y.dramGrain (errsIn errs at_ 64)) (Block.dramErr 0 0xFF)
     if at_ + 64 < x.dramCap then x.onMs (fun m => { m with scrubAt := m.scrubAt + 1 })
     else
       let y := x.wrSat (pgMs + 0x110) 0 31 ((x.usec - x.ms.lapStart) / 1000000)
       y.onMs (fun m => { m with scrubAt := 0, lapStart := y.usec, lapLate := false, seen := [] })) :=
  if_neg (by simp [hup, hserves, hon, hidle])

theorem Block.lapOverdue_runs (hnew : b.ms.lapLate = false) (hserves : b.ms.stopped = false) (hon : b.rdF (pgMs + 0x10C) 8 8 = 1) :
    b.lapOverdue =
      (((b.elapseTo (b.ms.lapStart + b.rdF (pgMs + 0x10C) 0 7 * 3600000000 + 1)).onMs (fun m => { m with lapLate := true })).raise pgMs 2) :=
  if_neg (by simp [hnew, hserves, hon])

/-! ### The imbalance monitor (R393, R779) -/

/-- The monitor reports the busiest channel where its share is above the threshold, and forgets the window. -/
theorem Block.imbWindow_eq : b.imbWindow =
    (let reqs := fun c => smGet 0 b.ms.reqs c
     let cs := List.range b.variant.drams
     let total := (cs.map reqs).sum
     let top := cs.foldl (fun (m : Nat × Nat) c => if m.2 < reqs c then (c, reqs c) else m) (0, 0)
     let y := b.onMs (fun m => { m with reqs := [], reqWin := b.usec / 1000 })
     if b.rdF (pgMs + 0x118) 0 7 * total < top.2 * 16 * b.variant.drams then
       ((y.wrF (pgMs + 0x11C) 0 2 top.1).wrF (pgMs + 0x11C) 8 15 (top.2 * 100 / total)).raise pgMs 1
     else y) := by
  simp only [Block.imbWindow, decide_eq_true_eq, gt_iff_lt]

/-! ### Regions (R409) -/

theorem Block.regionEnds_zeroed {i : Nat} (hinit : (b.region i).st = .init) (hserves : b.ms.stopped = false) : b.regionEnds i =
    (let r := b.region i
     ((b.zeroSpan (r.base * 2 ^ 20) ((r.base + r.size) * 2 ^ 20)).setRegion i { r with st := r.goal }).raise pgMs 3) :=
  if_neg (by simp [hinit, hserves])

/-! ### The staging scrubber (R421) -/

/-- The scrubber of staging reads the line it stands at, and moves on or ends its lap. -/
theorem Block.stgPatrol_reads (errs : List CodeErr) (hserves : b.ms.stopped = false) : b.stgPatrol errs =
    (let o := b.ms.stScrubAt * 64
     let x := b.each (b.readOrder (fun _ => 8) (errsIn errs (stgBase + o) 64)) (Block.stgErr 0 0xFF)
     if o + 64 < stgSize then x.onMs (fun m => { m with stScrubAt := m.stScrubAt + 1 })
     else
       let y := x.wrSat (pgStg + 0x104) 16 31 ((x.usec - x.ms.stLapStart) / 1000)
       y.onMs (fun m => { m with stScrubAt := 0, stLapStart := y.usec, stLapLate := false })) :=
  if_neg (by simp [hserves])

theorem Block.stgLapOverdue_runs (hnew : b.ms.stLapLate = false) (hserves : b.ms.stopped = false) : b.stgLapOverdue =
    (((b.elapseTo (b.ms.stLapStart + b.rdF (pgStg + 0x104) 0 15 * 1000000 + 1)).onMs (fun m => { m with stLapLate := true })).raise pgStg 1) :=
  if_neg (by simp [hnew, hserves])

end Sys2Proof.Machine

namespace Sys2Proof.Claims
open Sys2Proof.Machine

/-! ### Accesses to a place (R19, R34, R404) -/

section
variable {b : Block} {t : Txn} {p : Place}

/-- A write that its place accepts is taken and answered OK. -/
theorem serve_write (be : BitVec 256) (errs : List CodeErr) {age : Nat} {promoted : Bool} (hwrite : t.write = true)
    (hcheck : b.busCheck (txnReq t age promoted) true = .ok) (hplace : b.placeAt t.addr.toNat (txnLen t) = some p) :
    b.serve t be errs age promoted = (b.writePlace (txnReq t age promoted) errs be t.data p).send (.fabResp t.id .ok 0 0 0) := by
  have hat : b.placeAt (txnReq t age promoted).addr (txnReq t age promoted).len = some p := hplace
  simp only [Block.serve, hwrite, hcheck, hat, if_true]

/-- A read that DRAM or staging accepts returns the bytes as the read leaves them, with their poison mask. -/
theorem serve_memRead (be : BitVec 256) (errs : List CodeErr) {age : Nat} {promoted : Bool} (hread : t.write = false)
    (hcheck : b.busCheck (txnReq t age promoted) false = .ok) (hplace : b.placeAt t.addr.toNat (txnLen t) = some p)
    (hmem : p = .dram ∨ p = .staging) : b.serve t be errs age promoted = readAnswer (b.memServe (txnReq t age promoted) errs p) t := by
  have hat : b.placeAt (txnReq t age promoted).addr (txnReq t age promoted).len = some p := hplace
  have hserve : b.readServe (txnReq t age promoted) errs p =
      (let x := b.memServe (txnReq t age promoted) errs p
       (if x.anyPoison t.addr.toNat (txnLen t) then .poison else .ok, x.load t.addr.toNat (txnLen t), x)) := by
    rcases hmem with rfl | rfl <;> rfl
  simp only [Block.serve, readAnswer, hread, hcheck, hat, hserve, Bool.false_eq_true, if_false]
  cases (b.memServe (txnReq t age promoted) errs p).anyPoison t.addr.toNat (txnLen t) <;> rfl

/-- What a place answers to a request does not depend on the transactions that are open. -/
theorem busCheck_goneThrough (be : BitVec 256) (q : BusReq) (write : Bool) : (goneThrough b t be).busCheck q write = b.busCheck q write := rfl

theorem placeAt_goneThrough (be : BitVec 256) (x len : Nat) : (goneThrough b t be).placeAt x len = b.placeAt x len := rfl

/-- An accepted transaction of a row that names its place goes through to its target, which accepts it there. -/
theorem accepted.serveIn {be : BitVec 256} {write : Bool} (h : accepted b t be p write) (want : Place → Bool) (hwant : want p = true)
    (errs : List CodeErr) : b.serveIn want write t be errs = (goneThrough b t be).serve t be errs 0 false := by
  obtain ⟨hwrite, hport, hlive, hnew, htime, haged, hnext, hfree, hturn, hplace, -⟩ := h
  have hnamed : (t.write = write && (b.placeAt t.addr.toNat (txnLen t)).any want) = true := by simp [hwrite, hplace, hwant]
  rw [Block.serveIn, if_pos hnamed]
  exact goTxn_served be errs hport hlive hnew htime haged hnext hfree hturn

/-- An accepted write goes through to its place, which takes it. -/
theorem accepted.write {be : BitVec 256} (h : accepted b t be p true) (want : Place → Bool) (hwant : want p = true) (errs : List CodeErr) :
    b.serveIn want true t be errs =
      ((goneThrough b t be).writePlace (txnReq t 0 false) errs be t.data p).send (.fabResp t.id .ok 0 0 0) := by
  have hserve := h.serveIn want hwant errs
  obtain ⟨hwrite, -, -, -, -, -, -, -, -, hplace, hcheck⟩ := h
  exact hserve.trans (serve_write be errs hwrite ((busCheck_goneThrough be _ _).trans hcheck) ((placeAt_goneThrough be _ _).trans hplace))

/-- An accepted read goes through to DRAM or staging, which serves it. -/
theorem accepted.read {be : BitVec 256} (h : accepted b t be p false) (want : Place → Bool) (hwant : want p = true) (errs : List CodeErr)
    (hmem : p = .dram ∨ p = .staging) :
    b.serveIn want false t be errs = readAnswer ((goneThrough b t be).memServe (txnReq t 0 false) errs p) t := by
  have hserve := h.serveIn want hwant errs
  obtain ⟨hread, -, -, -, -, -, -, -, -, hplace, hcheck⟩ := h
  exact hserve.trans (serve_memRead be errs hread ((busCheck_goneThrough be _ _).trans hcheck) ((placeAt_goneThrough be _ _).trans hplace) hmem)

end

/-- Settles O17: each command by the case of its meaning that its conditions name. -/
theorem memoryCommands : Obligations.MemoryCommands := by
  intro q b t be errs reached soft ch bg sub rank bank idx hdark port a n req
  refine ⟨fun hdown hall hgood => ?trains, fun hdown hall c cs hbad => ?fails, fun h => ?read, fun h hline hwhole => ?write, fun h => ?partWrite,
    fun hch hup => ⟨?idle, fun hserves => ?refresh⟩, fun hup hserves hon hidle => ?patrol, fun hnew hserves hon => ?lap, ?imbalance,
    fun hinit hserves => ?region, fun h => ?stgRead, fun h => ?stgWrite, fun hserves => ⟨?stgScrub, fun hnew => ?stgLap⟩⟩
  case trains => exact answers_run hdark rfl (b.dramTraining_trains hdown hall _ hgood)
  case fails => exact answers_run hdark rfl (b.dramTraining_fails hdown hall _ hbad)
  case read => exact answers_run hdark rfl (h.read _ rfl errs (.inl rfl))
  case write => exact answers_run hdark rfl ((if_pos ⟨hline, hwhole⟩).trans (h.write _ rfl []))
  case partWrite => exact answers_run hdark rfl (h.write _ rfl errs)
  case idle => exact answers_run hdark rfl (b.rowCloses_present _ _ _ _ hch hup)
  case refresh => exact answers_run hdark rfl ((b.refreshBank_serving _ _ _ _ _ hserves).trans (b.rowCloses_present _ _ _ _ hch hup))
  case patrol => exact answers_run hdark rfl (b.patrol_reads errs hup hserves hon hidle)
  case lap => exact answers_run hdark rfl (b.lapOverdue_runs hnew hserves hon)
  case imbalance => exact answers_run hdark rfl (Block.imbWindow_eq _)
  case region => exact answers_run hdark rfl (b.regionEnds_zeroed hinit hserves)
  case stgRead =>
    have hread : t.write = false := h.1
    exact answers_run hdark rfl ((congrArg (b.serveIn _ · t be errs) hread).trans (h.read _ rfl errs (.inr rfl)))
  case stgWrite =>
    have hwrite : t.write = true := h.1
    exact answers_run hdark rfl ((congrArg (b.serveIn _ · t be errs) hwrite).trans (h.write _ rfl errs))
  case stgScrub => exact answers_run hdark rfl (b.stgPatrol_reads errs hserves)
  case stgLap => exact answers_run hdark rfl (b.stgLapOverdue_runs hnew hserves)

end Sys2Proof.Claims
end

section
/-! The programs of DMA channels: what makes an instruction run to its end, and what each leaves (R437-R448, R451-R459, R466). -/
namespace Sys2Proof.Machine

variable (b : Block) (n : Nat) (i : BitVec 128)

/-! ### Transactions that succeed (R440, R442, R445, R448) -/

theorem Block.moveRun_moved {left a : Nat} {tmo : Option W32} {z : Block} (f : Block → Block)
    (hmoved : Block.movePieces n i (tmo.map (·.toNat)) (left + 1) b 0 left = (0, a, z)) : b.moveRun n i left tmo f = f z := by
  simp only [Block.moveRun, hmoved, ne_eq, not_true_eq_false, if_false]

theorem Block.chStore_written {op a len v : Nat} {tmo : Bool} {z : Block} (f : Block → Block) (hwrite : b.chWrite n a len v tmo = (0, z)) :
    b.chStore n op a len v tmo f = f z := by
  simp only [Block.chStore, hwrite, if_true]

/-- The block once a descriptor of bytes `xs` is submitted: its job is outstanding, and SRC and DST have advanced (R442). -/
def Block.zjobSent (b : Block) (n : Nat) (i : BitVec 128) (xs : List Byte) : Block :=
  let c := b.chan n
  let out := (List.range 64).map (fun k => xs[swapIx (dSwap i) k]?.getD 0)
  let w := b.setChan n { c with
    jobs := c.jobs ++ [(b.cz.nextJob, c.dst)]
    crc := if dCrc i then b.chCrcOver n c.crc xs else c.crc
    moved := 64
    remain := 0
    spin := 0
    src := if dSinc i then advance c.srcWrap c.src 64 else c.src
    dst := if dDinc i then advance c.dstWrap c.dst 32 else c.dst }
  w.submitJob (w.zjobDesc n (bytesNat out)) (.dma n)

theorem Block.zjobGo_read {tmo : Option W32} {a : Nat} {xs : List Byte} {z : Block} (f : Block → Block)
    (hread : b.pieceData n i 64 tmo.isSome = (0, a, xs, z)) : b.zjobGo n i tmo f = f (z.zjobSent n i xs) := by
  simp only [Block.zjobGo, hread, ne_eq, not_true_eq_false, if_false, Block.zjobSent]

/-- The completion of an ended job is written at the DST of its submission (R442). -/
theorem Block.dmZjobDone_written {a : Nat} {w : BitVec 256} {rest : List (Nat × BitVec 256)} {tmo : Option W32} {z : Block}
    (hended : (b.chan n).ended = (a, w) :: rest)
    (hwrite : (b.setChan n { b.chan n with ended := rest }).chWrite n a 32 w.toNat tmo.isSome = (0, z)) :
    b.dmZjobDone n tmo = (z.dlvLands n a (w.toNat % 256)).chBoundary n := by
  simp only [Block.dmZjobDone, hended, hwrite, ne_eq, not_true_eq_false, if_false]

/-- The line of a paced MOVE that waits is asserted: one burst moves, and the request is acknowledged (R456). -/
theorem Block.dmBurst_moved {x z : Block} {a : Nat} {tmo : Option W32} (late : Bool) (hlive : b.chLive n = true)
    (hmid : (b.chan n).mid = true) (hwaits : (b.chan n).waiting = true) (hfetch : b.chFetch n = (0, i, x)) (hlegal : b.chIllegal n i = false)
    (hop : dOp i = 1) (hpaced : dPaced i = true) (hcopy : dZjob i = false) (hline : b.lineUp (dReq i) = true)
    (hmoved : Block.movePieces n i (tmo.map (·.toNat)) (min (dBurst i) (b.chan n).remain + 1) x 0 (min (dBurst i) (b.chan n).remain) = (0, a, z)) :
    b.dmBurst n late tmo = (let w := z.chAck n (dReq i) late
      if (w.chan n).remain = 0 then w.chNext n else w) := by
  simp [Block.dmBurst, hlive, hmid, hwaits, hfetch, hlegal, hop, hpaced, hcopy, hline, x.moveRun_moved n i _ hmoved]

/-- The channel is DONE, with its event where END asks for it (R448). -/
def Block.chFinish (n : Nat) (i : BitVec 128) (b : Block) : Block :=
  let w := b.modChan n (fun c => { c with st := 2, mid := false, waiting := false, pc := (c.pc + 16) % 2 ^ 48, ahead := [] })
  if i.getLsbD 9 then (w.raise (pgDmCh n) 0).chWakes n else w

/-! ### Memory WAITs (R444) -/

/-- Only a WAIT has a kind of WAIT, and its condition is the kind's. -/
theorem dCond_of_waitEq {i : BitVec 128} (hkind : dKind i = some .waitEq) : dCond i = 2 := by
  unfold dKind at hkind
  split at hkind <;> grind

theorem dCond_of_waitGe {i : BitVec 128} (hkind : dKind i = some .waitGe) : dCond i ≠ 2 := by
  unfold dKind at hkind
  split at hkind <;> grind

theorem waitTrue_of_waitEq {i : BitVec 128} (v : W32) (hkind : dKind i = some .waitEq) :
    waitTrue i v = (v == BitVec.ofNat 32 (dWord i)) :=
  if_pos (dCond_of_waitEq hkind)

theorem waitTrue_of_waitGe {i : BitVec 128} (v : W32) (hkind : dKind i = some .waitGe) :
    waitTrue i v = decide (0 ≤ (v - BitVec.ofNat 32 (dWord i)).toInt) :=
  if_neg (dCond_of_waitGe hkind)

section
variable {v : Nat} {tmo : Bool} {z : Block} (haligned : dAddr i % 4 = 0)
include haligned

/-- The word is read: the WAIT ends or goes on by its condition on it, and the time of the read is noted. -/
theorem Block.waitRead_read (hread : b.chRead n (dAddr i) 4 0 tmo = (0, v, z)) :
    b.waitRead n i tmo = (z.modChan n (fun c => { c with polled := z.usec })).waitOn n (waitTrue i (BitVec.ofNat 32 v)) := by
  simp [Block.waitRead, haligned, hread]

/-- A memory WAIT looks again 1 µs after its last read. -/
theorem Block.dmPoll_read {x : Block} {t : Option W32} (hlive : b.chLive n = true) (hwaits : (b.chan n).waiting = true)
    (hfetch : b.chFetch n = (0, i, x)) (hkind : dKind i = some .waitEq ∨ dKind i = some .waitGe)
    (hread : (x.elapseTo ((b.chan n).polled + 1)).chRead n (dAddr i) 4 0 t.isSome = (0, v, z)) :
    b.dmPoll n t = (z.modChan n (fun c => { c with polled := z.usec })).waitOn n (waitTrue i (BitVec.ofNat 32 v)) := by
  have hwait : (dKind i == some .waitEq || dKind i == some .waitGe) = true := by simpa using hkind
  simp [Block.dmPoll, hfetch, hlive, hwaits, hwait, Block.waitRead_read _ n i haligned hread]

end

end Sys2Proof.Machine

namespace Sys2Proof.Claims
open Sys2Proof.Machine

variable {b x : Block} {n : Nat} {i : BitVec 128} {k : DmKind}

/-! ### From the fetch to the effect (R437, R438, R440, R451, R466) -/

theorem dmReady.kind (h : dmReady b n k i x) : dKind i = some k := by
  obtain ⟨-, -, -, hkind⟩ := h
  exact hkind

/-- A channel whose next instruction is ready executes it. -/
theorem dmReady.chExec (h : dmReady b n k i x) (f : Block → BitVec 128 → Block) : b.chExec n k f = f x i := by
  obtain ⟨hlive, hfetch, hlegal, hkind⟩ := h
  simp only [Block.chExec, hlive, hfetch, hlegal, hkind, Bool.not_true, Bool.false_eq_true, ne_eq, not_true_eq_false, if_false, if_true]

/-- Below SPIN_LIMIT an instruction is counted and has its effect. -/
theorem spinOk.chCount (h : spinOk x n) (op : Nat) (f : Block → Block) : x.chCount n op f = f (dmCounted x n) :=
  if_neg (Nat.not_le.mpr h)

/-- A WAIT on arrival is counted, and the channel waits. -/
theorem spinOk.waitStart (h : spinOk x n) (hnew : (x.chan n).waiting = false) (f : Block → Block) :
    x.waitStart n f = f ((dmCounted x n).modChan n (fun c => { c with waiting := true })) :=
  (if_neg (by simp [hnew])).trans (h.chCount 3 _)

/-- A MOVE that passes its checks begins. -/
theorem moveReady.moveStart (h : moveReady x n i) (f : Block → Block) : x.moveStart n i f = f (moveBegun x n i) := by
  obtain ⟨-, hnew, hlen, hline, haligned, hfits⟩ := h
  have hmine : (dPaced i && !(dmCounted x n).chLineOk n (dReq i)) = false := by
    cases hpaced : dPaced i with
    | false => rfl
    | true => simp [hline hpaced]
  simp only [Block.moveStart, hnew, hlen, hmine, haligned, hfits, Bool.false_eq_true, if_false, moveBegun]

/-! ### The instructions (R440-R448) -/

section
variable {tmo : Option W32} (hmove : moveReady x n i)
include hmove

/-- An unpaced MOVE whose pieces all move copies its bytes and is complete. -/
theorem dmMove_copies {a : Nat} {z : Block} (h : dmReady b n .move i x) (hwhole : dPaced i = false)
    (hmoved : Block.movePieces n i (tmo.map (·.toNat)) (((moveBegun x n i).chan n).remain + 1) (moveBegun x n i) 0
      ((moveBegun x n i).chan n).remain = (0, a, z)) : b.dmMove n tmo = z.chNext n := by
  have hnew : (x.chan n).waiting = false := hmove.1
  simp only [Block.dmMove, h.chExec, hnew, hmove.moveStart, hwhole, Bool.false_and, Bool.false_eq_true, if_false,
    Block.moveRun_moved _ _ _ _ hmoved]

/-- A paced MOVE begins and waits for its line. -/
theorem dmMove_waits (h : dmReady b n .move i x) (hpaced : dPaced i = true) (hleft : ((moveBegun x n i).chan n).remain ≠ 0) :
    b.dmMove n tmo = (moveBegun x n i).modChan n (fun c => { c with waiting := true }) := by
  have hnew : (x.chan n).waiting = false := hmove.1
  simp only [Block.dmMove, h.chExec, hnew, hmove.moveStart, hpaced, bne_iff_ne.mpr hleft, Bool.and_self, Bool.false_eq_true, if_false,
    if_true]

/-- An unpaced ZJOB MOVE with fewer than eight jobs outstanding submits its descriptor. -/
theorem dmZjob_sends {a : Nat} {xs : List Byte} {z : Block} (h : dmReady b n .zjob i x) (hwhole : dPaced i = false)
    (hroom : ((moveBegun x n i).chan n).jobsOut < 8) (hread : (moveBegun x n i).pieceData n i 64 tmo.isSome = (0, a, xs, z)) :
    b.dmZjob n tmo = (z.zjobSent n i xs).chNext n := by
  simp only [Block.dmZjob, h.chExec, hmove.moveStart, hwhole, decide_eq_false (Nat.not_le.mpr hroom), Bool.or_self, Bool.false_eq_true,
    if_false, Block.zjobGo_read _ _ _ _ hread]

end

section
variable (hspin : spinOk x n)
include hspin

/-- A memory WAIT on arrival reads its word. -/
theorem dmWaitMem_reads {v : Nat} {tmo : Option W32} {z : Block} (h : dmReady b n k i x) (hnew : (x.chan n).waiting = false)
    (haligned : dAddr i % 4 = 0)
    (hread : ((dmCounted x n).modChan n (fun c => { c with waiting := true })).chRead n (dAddr i) 4 0 tmo.isSome = (0, v, z)) :
    b.dmWaitMem n k tmo = (z.modChan n (fun c => { c with polled := z.usec })).waitOn n (waitTrue i (BitVec.ofNat 32 v)) := by
  simp only [Block.dmWaitMem, h.chExec, hnew, hspin.waitStart hnew, Block.waitRead_read _ _ _ haligned hread, Bool.false_eq_true, if_false]

/-- WAIT REQ on arrival, on a line that the channel may use, looks at the line. -/
theorem dmWaitReq_looks (h : dmReady b n .waitReq i x) (hnew : (x.chan n).waiting = false)
    (hline : ((dmCounted x n).modChan n (fun c => { c with waiting := true })).chLineOk n (dReq i) = true) : b.dmWaitReq n =
    (let y := (dmCounted x n).modChan n (fun c => { c with waiting := true })
     y.waitOn n (y.lineUp (dReq i))) := by
  simp only [Block.dmWaitReq, h.chExec, hspin.waitStart hnew, hline, Bool.not_true, Bool.false_eq_true, if_false]

/-- An addition to SRC that stays within 2^48, or has a wrap, advances it as a MOVE would (R446, R452). -/
theorem dmSet_advancesSrc (h : dmReady b n .set i x) (hadds : i.getLsbD 11 = true) (hr : dReg i = 0)
    (hfits : ((dmCounted x n).chan n).srcWrap ≠ 0 ∨ ((dmCounted x n).chan n).src + dVal i ≤ 2 ^ 48) : b.dmSet n =
    (let c := (dmCounted x n).chan n
     ((dmCounted x n).setChan n { c with src := advance c.srcWrap c.src (dVal i) }).chNext n) := by
  have hbelow : ¬(((dmCounted x n).chan n).srcWrap = 0 ∧ 2 ^ 48 < ((dmCounted x n).chan n).src + dVal i) := by omega
  simp only [Block.dmSet, h.chExec, hspin.chCount, hadds, hr, Chan.regOf, Chan.setReg, hbelow, true_or, if_true, if_false]

/-- An addition to DST advances it in the same way. -/
theorem dmSet_advancesDst (h : dmReady b n .set i x) (hadds : i.getLsbD 11 = true) (hr : dReg i = 1)
    (hfits : ((dmCounted x n).chan n).dstWrap ≠ 0 ∨ ((dmCounted x n).chan n).dst + dVal i ≤ 2 ^ 48) : b.dmSet n =
    (let c := (dmCounted x n).chan n
     ((dmCounted x n).setChan n { c with dst := advance c.dstWrap c.dst (dVal i) }).chNext n) := by
  have hbelow : ¬(((dmCounted x n).chan n).dstWrap = 0 ∧ 2 ^ 48 < ((dmCounted x n).chan n).dst + dVal i) := by omega
  simp only [Block.dmSet, h.chExec, hspin.chCount, hadds, hr, Chan.regOf, Chan.setReg, hbelow, or_true, Nat.one_ne_zero, if_true, if_false]

/-- An addition to any other register is modulo its width. -/
theorem dmSet_adds (h : dmReady b n .set i x) (hadds : i.getLsbD 11 = true) (hother : 2 ≤ dReg i) : b.dmSet n =
    ((dmCounted x n).setChan n (((dmCounted x n).chan n).setReg (dReg i)
      ((((dmCounted x n).chan n).regOf (dReg i) + dVal i) % 2 ^ dRegBits 64 (dReg i)))).chNext n := by
  have hdata : ¬(dReg i = 0 ∨ dReg i = 1) := by omega
  simp only [Block.dmSet, h.chExec, hspin.chCount, hadds, hdata, if_true, if_false]

/-- END with no job outstanding stores the CRC where it asks for that, and the channel is DONE. -/
theorem dmEnd_counted (tmo : Option W32) (h : dmReady b n .end_ i x) (hnew : (x.chan n).mid = false)
    (hjobs : ((dmCounted x n).chan n).jobsOut = 0) : b.dmEnd n tmo =
    (let y := dmCounted x n
     let len := x.chCrcBits n / 8
     if i.getLsbD 8 then
       if dAddr i % len ≠ 0 then y.chHalt n 0x15 6 0 (dAddr i)
       else y.chStore n 6 (dAddr i) len (crcStored (y.chan n).crc len (i.getLsbD 10)) tmo.isSome (Block.chFinish n i)
     else Block.chFinish n i y) := by
  simp only [Block.dmEnd, h.chExec, hnew, hspin.chCount, hjobs, ne_eq, not_true_eq_false, Bool.false_eq_true, if_false]
  rfl

end

/-- Settles O22: each instruction by the case of its meaning that its conditions name. -/
theorem channelProgramCommands : Obligations.ChannelProgramCommands := by
  intro q b x ch i tmo late hdark n done y
  refine ⟨fun h hmove hwhole a z hmoved => ?copies, fun h hmove hpaced hleft => ?waits, fun h hmove hwhole hroom a xs z hread => ?sends,
    fun a w rest z hended hwrite => ?completes,
    fun hlive hmid hwaits hfetch hlegal hop hpaced hcopy hline a z hmoved => ?burst,
    fun h hspin => ⟨fun halways => ?always, fun hcounts hzero => ?falls, fun hcounts hleft => ?jumps⟩,
    fun hspin hnew => ⟨fun h => ?jobs, fun h hline => ?req, fun v z haligned hread => ⟨fun h => ?memEq, fun h => ?memGe⟩⟩,
    fun hlive hwaits hfetch hkind haligned v z hread => ?poll,
    fun h hspin => ⟨fun hquiet => ?signal, fun hwrites haligned z hwrite => ?signalWrite⟩,
    fun h hspin => ⟨fun hloads => ?load, fun hadds hr hfits => ?addSrc, fun hadds hr hfits => ?addDst, fun hadds hr => ?add⟩,
    fun h hspin hnew hjobs => ⟨fun hquiet => ?ends, fun hstores haligned z hwrite => ?endStore⟩⟩
  case copies => exact answers_run hdark rfl (dmMove_copies hmove h hwhole hmoved)
  case waits => exact answers_run hdark rfl (dmMove_waits hmove h hpaced hleft)
  case sends => exact answers_run hdark rfl (dmZjob_sends hmove h hwhole hroom hread)
  case completes => exact answers_run hdark rfl (b.dmZjobDone_written n hended hwrite)
  case burst => exact answers_run hdark rfl (b.dmBurst_moved n i late hlive hmid hwaits hfetch hlegal hop hpaced hcopy hline hmoved)
  case always => exact answers_run hdark rfl ((h.chExec _).trans ((hspin.chCount _ _).trans (if_pos halways)))
  case falls =>
    exact answers_run hdark rfl ((h.chExec _).trans ((hspin.chCount _ _).trans ((if_neg (ne_true_of_eq_false hcounts)).trans (if_pos hzero))))
  case jumps =>
    exact answers_run hdark rfl ((h.chExec _).trans ((hspin.chCount _ _).trans ((if_neg (ne_true_of_eq_false hcounts)).trans (if_neg hleft))))
  case jobs => exact answers_run hdark rfl ((h.chExec _).trans (hspin.waitStart hnew _))
  case req => exact answers_run hdark rfl (dmWaitReq_looks hspin h hnew hline)
  case memEq => exact answers_run hdark rfl ((dmWaitMem_reads hspin h hnew haligned hread).trans (congrArg _ (waitTrue_of_waitEq _ h.kind)))
  case memGe => exact answers_run hdark rfl ((dmWaitMem_reads hspin h hnew haligned hread).trans (congrArg _ (waitTrue_of_waitGe _ h.kind)))
  case poll => exact answers_run hdark rfl (b.dmPoll_read n i haligned hlive hwaits hfetch hkind hread)
  case signal => exact answers_run hdark rfl ((h.chExec _).trans ((hspin.chCount _ _).trans (if_neg (ne_true_of_eq_false hquiet))))
  case signalWrite =>
    exact answers_run hdark rfl ((h.chExec _).trans ((hspin.chCount _ _).trans ((if_pos hwrites).trans
      ((if_neg (not_not.mpr haligned)).trans (Block.chStore_written _ _ _ hwrite)))))
  case load => exact answers_run hdark rfl ((h.chExec _).trans ((hspin.chCount _ _).trans (if_neg (ne_true_of_eq_false hloads))))
  case addSrc => exact answers_run hdark rfl (dmSet_advancesSrc hspin h hadds hr hfits)
  case addDst => exact answers_run hdark rfl (dmSet_advancesDst hspin h hadds hr hfits)
  case add => exact answers_run hdark rfl (dmSet_adds hspin h hadds hr)
  case ends => exact answers_run hdark rfl ((dmEnd_counted hspin tmo h hnew hjobs).trans (if_neg (ne_true_of_eq_false hquiet)))
  case endStore =>
    exact answers_run hdark rfl ((dmEnd_counted hspin tmo h hnew hjobs).trans ((if_pos hstores).trans
      ((if_neg (not_not.mpr haligned)).trans (Block.chStore_written _ _ _ hwrite))))

end Sys2Proof.Claims
end

section
/-! The search engine: the slot of a request and its wait for one, and the partitions, wakes and mirror check of a bank (R480, R482, R485,
R487, R490, R492, R494, R499, R502). -/
namespace Sys2Proof.Machine

variable (b : Block) {k : Nat}

/-! ### The shadow of an entry (R498) -/

/-- A fold of steps that leave the search engine alone leaves it alone. -/
theorem Block.each_se {α : Type} (xs : List α) {f : Block → α → Block} (hf : ∀ b x, (f b x).se = b.se) : (b.each xs f).se = b.se := by
  induction xs generalizing b with
  | nil => rfl
  | cons x xs ih => exact (ih (f b x)).trans (hf b x)

@[simp] theorem Block.putShadow_se (k i : Nat) (e : SeEnt) : (b.putShadow k i e).se = b.se :=
  (Block.each_se _ _ (fun y w => y.setPoison_se w false)).trans (b.each_se _ (fun y _ => y.setByte_se _ _))

theorem Block.seQueue_putShadow (i j : Nat) (e : SeEnt) : (b.putShadow i j e).seQueue k = b.seQueue k := by
  simp only [Block.seQueue, Block.putShadow_se]

/-! ### Requests and their slots (R485, R487, R490, R492, R494) -/

/-- A request in a row of the opcode table that its operation names, from a present port, arrives. -/
theorem Block.seFrom_arrives {op : Nat} {port : BitVec 6} {d : BitVec 512} (tag : BitVec 6) (hold : Bool)
    (hport : portPresent b.variant port.toNat = true) (hop : qOp d = op) (hlisted : op = 1 ∨ op = 2 ∨ op = 3 ∨ op = 4) :
    b.seFrom op port tag d hold = b.seRequest (.port port) tag port.toNat d hold := by
  have hkind : (if qOp d = 2 ∨ qOp d = 3 ∨ qOp d = 4 then qOp d else 1) = op := by subst hop; split <;> omega
  simp only [Block.seFrom, hkind, hport, decide_true, Bool.and_self, if_true]

section
variable {q : SeReq}

/-- A SEARCH or READ takes its slot where none waits before it. -/
theorem Block.seTake_reads (hread : qOp q.req ≠ 2 ∧ qOp q.req ≠ 3) (hidle : b.seQueue (qBank q.req) = []) : b.seTake q false = b.seSlot q := by
  simp [Block.seTake, hread, hidle]

/-- A SEARCH or READ that finds the slot taken waits; where none waits before it, it is the queue. -/
theorem Block.seTake_waits (hread : qOp q.req ≠ 2 ∧ qOp q.req ≠ 3) (hidle : b.seQueue (qBank q.req) = []) :
    b.seTake q true = b.setSeQueue (qBank q.req) [q] := by
  simp [Block.seTake, Block.seEnqueue, hread, hidle]

/-- A WRITE or INVALIDATE whose shadow line DRAM takes has its slot after that line is written. -/
theorem Block.seTake_updates (hupd : qOp q.req = 2 ∨ qOp q.req = 3)
    (hline : b.lineCode (b.shadowAt (qBank q.req) (qIx q.req)) = .ok) (hidle : b.seQueue (qBank q.req) = []) : b.seTake q false =
    (b.putShadow (qBank q.req) (qIx q.req) (if qOp q.req = 2 then writeEnt q.req else {})).seSlot q := by
  simp [Block.seTake, hupd, hline, hidle, Block.seQueue_putShadow]

theorem Block.seSlot_search (hop : qOp q.req = 1) : b.seSlot q =
    (b.inc (pgSeB (qBank q.req) + 0x118)).seAnswer q.who (b.searchRsp (qBank q.req) q.req) := by
  simp only [Block.seSlot, hop]

theorem Block.seSlot_write (hop : qOp q.req = 2) : b.seSlot q =
    ((b.inc (pgSeB (qBank q.req) + 0x11C)).setEnt (qBank q.req) (qIx q.req) (writeEnt q.req)).seAnswer q.who (seRsp q.req 0 []) := by
  simp only [Block.seSlot, hop]

theorem Block.seSlot_invalidate (hop : qOp q.req = 3) : b.seSlot q =
    ((b.inc (pgSeB (qBank q.req) + 0x11C)).setEnt (qBank q.req) (qIx q.req) {}).seAnswer q.who (seRsp q.req 0 []) := by
  simp only [Block.seSlot, hop]

theorem Block.seSlot_read (hop : qOp q.req = 4) : b.seSlot q =
    b.seAnswer q.who (readRsp q.req (b.seEnt (qBank q.req) (qIx q.req))) := by
  simp only [Block.seSlot, hop]

end

/-! ### Slot grants (R490, R494) -/

/-- A bank gives its slot to the next request, or to the first that names the same index where both are kept in order. -/
theorem Block.seGrant_next {r first : SeReq} (hnext : b.seNext (b.seQueue k) = some r)
    (hfirst : ((b.seQueue k).find? (fun z => qOp r.req != 1 && qOp z.req != 1 && qIx z.req == qIx r.req)).getD r = first) :
    b.seGrant k = (b.setSeQueue k ((b.seQueue k).erase first)).seSlot first := by
  subst hfirst
  simp only [Block.seGrant, hnext]

/-! ### Partitions and power (R480, R482) -/

theorem Block.ifBank_present {k : BitVec 3} (hbank : b.variant.hasBank k.toNat = true) (f : Block → Block) : b.ifBank k f = f b := if_pos hbank

theorem Block.partCleared_clearing {p : Nat} (hst : (b.sePart k p).st = .clearing) : b.partCleared k p =
    (let x := b.sePart k p
     (((b.clearRange k x.base x.size).setPart k p { x with st := if x.toOn then .on else .off, toOn := false }).raise (pgSeB k) 4).bankGates k) :=
  if_neg (not_not.mpr hst)

theorem Block.bankWakes_gated (hticket : b.holds (.bank k) = true) (hgated : b.se.awake.contains k = false) : b.bankWakes k =
    (let x := ((b.elapse (b.wakeTime 8)).pllOn 8).onSe (fun s => { s with awake := s.awake ++ [k], waking := smErase s.waking k })
     ((x.wrF (pgSeB k + 0x110) 15 15 0).setPower (pgSeB k) 2).each (smGet [] b.se.waking k) (fun y p =>
      if y.partRefused k p then y else y.startClear true k p)) :=
  if_pos (by rw [hticket, hgated]; rfl)

/-! ### The mirror check (R499, R502) -/

/-- A row that agrees with its shadow ends a run of mismatches. -/
theorem Block.mirrorVisit_agrees (hon : b.rdF (pgSe + 0x108) 0 0 = 1) (hserves : b.bankServes k = true) (hawake : b.se.awake.contains k = true)
    (hidle : b.seQueue k = []) (hlive : b.deadRow k (smGet 0 b.se.mirAt k) = false)
    (hline : b.lineCode (b.shadowAt k (smGet 0 b.se.mirAt k)) = .ok) (hclean : b.anyPoison (b.shadowAt k (smGet 0 b.se.mirAt k)) 64 = false)
    (hagrees : b.seEnt k (smGet 0 b.se.mirAt k) = b.getShadow k (smGet 0 b.se.mirAt k)) : b.mirrorVisit k false =
    (b.onSe (fun s => { s with mism := s.mism.filter (· ≠ entKey k (smGet 0 b.se.mirAt k)) })).mirrorNext k := by
  have hruns : ¬(b.rdF (pgSe + 0x108) 0 0 = 0 ∨ (!b.bankServes k) = true ∨ (!b.se.awake.contains k) = true) := by
    rw [hon, hserves, hawake]; decide
  rw [Block.mirrorVisit]
  refine (if_neg hruns).trans ?_
  simp [hidle, hlive, hline, hclean, hagrees]

theorem Block.seLapLate_runs (hnew : b.se.mirLate.contains k = false) (hon : b.rdF (pgSe + 0x108) 0 0 = 1) : b.seLapLate k =
    (((b.elapseTo (smGet 0 b.se.mirStart k + b.rdF (pgSe + 0x108) 1 16 * 1000000 + 1)).onSe (fun s =>
      { s with mirLate := s.mirLate ++ [k] })).raise (pgSeB k) 3) :=
  if_neg (by rw [hnew, hon]; decide)

end Sys2Proof.Machine

namespace Sys2Proof.Claims
open Sys2Proof.Machine

/-- The request of a message that arrives now. -/
abbrev arriving (b : Block) (who : SeWho) (tag : BitVec 6) (d : BitVec 512) : SeReq := ⟨d, tag, who, b.usec, qCls d, false⟩

theorem seReady.idle {b : Block} {tag : BitVec 6} {d : BitVec 512} (h : seReady b tag d) : b.seQueue (qBank d) = [] := by
  obtain ⟨-, -, -, -, hidle⟩ := h
  exact hidle

/-- A request that passes the checks before its slot has its slot, or waits for it, once the waiting requests are reissued. -/
theorem seReady.seRequest {b : Block} {tag : BitVec 6} {d : BitVec 512} (h : seReady b.seReissues tag d) (who : SeWho) (port : Nat)
    (hold : Bool) : b.seRequest who tag port d hold = b.seReissues.seTake (arriving b.seReissues who tag d) hold := by
  obtain ⟨hunit, -, hadmits, hearly, hidle⟩ := h
  simp [Block.seRequest, hunit, hadmits, hearly, hidle]

section
variable {b : Block} {port tag : BitVec 6} {d : BitVec 512} (hport : portPresent b.variant port.toNat = true)
  (h : seReady b.seReissues tag d)
include hport h

/-- A request of a present port that passes the checks has its slot, or waits for it. -/
theorem seFrom_takes {op : Nat} (hold : Bool) (hop : qOp d = op) (hlisted : op = 1 ∨ op = 2 ∨ op = 3 ∨ op = 4) :
    b.seFrom op port tag d hold = b.seReissues.seTake (arriving b.seReissues (.port port) tag d) hold :=
  (b.seFrom_arrives tag hold hport hop hlisted).trans (h.seRequest _ _ hold)

theorem seFrom_search (hop : qOp d = 1) : b.seFrom 1 port tag d false =
    (b.seReissues.inc (pgSeB (qBank d) + 0x118)).send (.seResp port (b.seReissues.searchRsp (qBank d) d)) := by
  rw [seFrom_takes hport h false hop (by decide), Block.seTake_reads _ (by simp [hop]) h.idle, Block.seSlot_search _ hop]
  rfl

theorem seFrom_waits (hop : qOp d = 1) : b.seFrom 1 port tag d true =
    b.seReissues.setSeQueue (qBank d) [arriving b.seReissues (.port port) tag d] := by
  rw [seFrom_takes hport h true hop (by decide), Block.seTake_waits _ (by simp [hop]) h.idle]

theorem seFrom_write (hop : qOp d = 2) (hline : b.seReissues.lineCode (b.seReissues.shadowAt (qBank d) (qIx d)) = .ok) :
    b.seFrom 2 port tag d false =
      (((b.seReissues.putShadow (qBank d) (qIx d) (writeEnt d)).inc (pgSeB (qBank d) + 0x11C)).setEnt (qBank d) (qIx d) (writeEnt d)).send
        (.seResp port (seRsp d 0 [])) := by
  rw [seFrom_takes hport h false hop (by decide), Block.seTake_updates (q := arriving ..) _ (.inl hop) hline h.idle, if_pos hop,
    Block.seSlot_write _ hop]
  rfl

theorem seFrom_invalidate (hop : qOp d = 3) (hline : b.seReissues.lineCode (b.seReissues.shadowAt (qBank d) (qIx d)) = .ok) :
    b.seFrom 3 port tag d false =
      (((b.seReissues.putShadow (qBank d) (qIx d) {}).inc (pgSeB (qBank d) + 0x11C)).setEnt (qBank d) (qIx d) {}).send
        (.seResp port (seRsp d 0 [])) := by
  have hother : qOp d ≠ 2 := by omega
  rw [seFrom_takes hport h false hop (by decide), Block.seTake_updates (q := arriving ..) _ (.inr hop) hline h.idle, if_neg hother,
    Block.seSlot_invalidate _ hop]
  rfl

theorem seFrom_read (hop : qOp d = 4) : b.seFrom 4 port tag d false =
    b.seReissues.send (.seResp port (readRsp d (b.seReissues.seEnt (qBank d) (qIx d)))) := by
  rw [seFrom_takes hport h false hop (by decide), Block.seTake_reads _ (by simp [hop]) h.idle, Block.seSlot_read _ hop]
  rfl

end

/-- A command of a present bank whose work there makes `b'` of the block answers `b'` while its clocks run. -/
theorem answers_bank {c : Instr} {q : List Instr} {b b' : Block} {k : BitVec 3} {f : Block → Block} (hdark : b.dark = false)
    (hbank : b.variant.hasBank k.toNat = true) (hmeans : exec c ⟨q, b⟩ = State.run ⟨q, b⟩ (fun x => x.ifBank k f)) (hf : f b = b') :
    Answers c q b b' :=
  answers_run hdark hmeans ((b.ifBank_present hbank f).trans hf)

/-- Settles O18: each command by the case of its meaning that its conditions name. -/
theorem searchCommands : Obligations.SearchCommands := by
  intro q b port tag d k p r first hdark n who x late
  refine ⟨fun hport h => ⟨fun hop => ⟨?search, ?waits⟩, fun hop hline => ?write, fun hop hline => ?invalidate, fun hop => ?read⟩,
    fun hbank => ⟨fun hnext hfirst => ?grant, fun hst => ?cleared, fun hticket hgated => ?wake,
      fun hon hserves hawake hidle hlive hline hclean hagrees => ?mirror, fun hnew hon => ?lap⟩⟩
  case search => exact answers_run hdark rfl (seFrom_search hport h hop)
  case waits => exact answers_run hdark rfl (seFrom_waits hport h hop)
  case write => exact answers_run hdark rfl (seFrom_write hport h hop hline)
  case invalidate => exact answers_run hdark rfl (seFrom_invalidate hport h hop hline)
  case read => exact answers_run hdark rfl (seFrom_read hport h hop)
  case grant => exact answers_bank hdark hbank rfl (Block.seGrant_next _ hnext hfirst)
  case cleared => exact answers_bank hdark hbank rfl (b.partCleared_clearing hst)
  case wake => exact answers_bank hdark hbank rfl (b.bankWakes_gated hticket hgated)
  case mirror => exact answers_bank hdark hbank rfl (b.mirrorVisit_agrees hon hserves hawake hidle hlive hline hclean hagrees)
  case lap => exact answers_bank hdark hbank rfl (b.seLapLate_runs hnew hon)

end Sys2Proof.Claims
end

section
/-! The bytes of an Eowift instruction: each part that the encoder writes is read back by its part of the decoder, and what the decoder
reads is what the encoder writes (R560-R573). -/
namespace Sys2Proof.Machine

/-! ### Numbers, least significant byte first (R562) -/

theorem takeLe_leBytes (n v : Nat) (r : List Byte) : takeLe n (leBytes n v ++ r) = some (v % 256 ^ n, r) := by
  induction n generalizing v with
  | zero => simp [takeLe, leBytes, Nat.mod_one]
  | succ n ih =>
    have hdigit : v % 256 ^ (n + 1) = v % 256 + 256 * (v / 256 % 256 ^ n) := by rw [Nat.pow_succ', Nat.mod_mul]
    simp only [leBytes, List.cons_append, takeLe, ih, BitVec.toNat_ofNat, hdigit]

theorem leBytes_of_takeLe {n v : Nat} {bs r : List Byte} (h : takeLe n bs = some (v, r)) : leBytes n v ++ r = bs ∧ v < 256 ^ n := by
  induction n generalizing bs v with
  | zero =>
    simp only [takeLe, Option.some.injEq, Prod.mk.injEq] at h
    obtain ⟨rfl, rfl⟩ := h
    exact ⟨rfl, by decide⟩
  | succ n ih =>
    cases bs with
    | nil => simp [takeLe] at h
    | cons x bs =>
      cases hrest : takeLe n bs with
      | none => simp [takeLe, hrest] at h
      | some p =>
        obtain ⟨u, r'⟩ := p
        simp only [takeLe, hrest, Option.some.injEq, Prod.mk.injEq] at h
        obtain ⟨rfl, rfl⟩ := h
        obtain ⟨hbytes, hlt⟩ := ih hrest
        have hx := x.isLt
        refine ⟨?_, by rw [Nat.pow_succ']; omega⟩
        have hlow : BitVec.ofNat 8 (x.toNat + 256 * u) = x := by
          apply BitVec.eq_of_toNat_eq
          rw [BitVec.toNat_ofNat]
          omega
        have hhigh : (x.toNat + 256 * u) / 256 = u := by omega
        rw [leBytes, hlow, hhigh, List.cons_append, hbytes]

@[simp] theorem length_leBytes (n v : Nat) : (leBytes n v).length = n := by
  induction n generalizing v with
  | zero => rfl
  | succ n ih => rw [leBytes, List.length_cons, ih]

/-! ### Prefixes -/

theorem takePfx_append (pre : List Byte) {x : Byte} (r : List Byte) (hpre : pre.all (fun x => (pfxGroup x).isSome) = true)
    (hx : pfxGroup x = none) : takePfx (pre ++ x :: r) = (pre, x :: r) := by
  induction pre with
  | nil => simp [takePfx, hx]
  | cons y pre ih =>
    rw [List.all_cons, Bool.and_eq_true] at hpre
    simp [takePfx, hpre.1, ih hpre.2]

theorem append_of_takePfx {bs pre r : List Byte} (h : takePfx bs = (pre, r)) :
    pre ++ r = bs ∧ pre.all (fun x => (pfxGroup x).isSome) = true := by
  induction bs generalizing pre r with
  | nil =>
    obtain ⟨rfl, rfl⟩ := Prod.mk.inj h
    exact ⟨rfl, rfl⟩
  | cons x bs ih =>
    rw [takePfx] at h
    split at h
    case isTrue hx =>
      obtain ⟨rfl, rfl⟩ := Prod.mk.inj h
      obtain ⟨happ, hall⟩ := ih (Prod.mk.eta (p := takePfx bs)).symm
      exact ⟨congrArg (x :: ·) happ, by rw [List.all_cons, hx, hall]; rfl⟩
    case isFalse =>
      obtain ⟨rfl, rfl⟩ := Prod.mk.inj h
      exact ⟨rfl, rfl⟩

/-! ### Opcodes (R563, R592) -/

/-- The instruction has an opcode in the tables (R570, R575). -/
def EwOp.listed (o : EwOp) : Bool :=
  match o with
  | .reserved _ => false
  | .bcc k _ => decide (k ≤ 13)
  | _ => true

/-- The opcode's bytes. -/
def opBytes (o : EwOp) : List Byte := (if onEscape o then [0xE0] else []) ++ [opByte o]

theorem tableOp_opByte {o : EwOp} (h : o.listed = true) :
    (if onEscape o then escapeOp (opByte o).toNat else mainOp (opByte o).toNat) = some o := by
  cases o with
  | reserved _ => cases h
  | bcc k long =>
    have hk : k ≤ 13 := of_decide_eq_true h
    cases long <;> (interval_cases k <;> rfl)
  | jmp long => cases long <;> rfl
  | alu o => cases o <;> rfl
  | imm o => cases o <;> rfl
  | load o => cases o <;> rfl
  | rmw o => cases o <;> rfl
  | acc o => cases o <;> rfl
  | str o => cases o <;> rfl
  | _ => rfl

/-- Opcodes of the one-byte page lie below 0xE0, where the escape bytes and the prefixes begin. -/
theorem mainOp_some {x : Nat} {o : EwOp} (h : mainOp x = some o) :
    x < 0xE0 ∧ o.listed = true ∧ onEscape o = false ∧ opByte o = BitVec.ofNat 8 x := by
  unfold mainOp at h
  split at h <;> cases h <;> exact ⟨by decide, rfl, rfl, rfl⟩

theorem escapeOp_some {x : Nat} {o : EwOp} (h : escapeOp x = some o) :
    o.listed = true ∧ onEscape o = true ∧ opByte o = BitVec.ofNat 8 x := by
  unfold escapeOp at h
  split at h <;> cases h <;> exact ⟨rfl, rfl, rfl⟩

theorem takeOp_opBytes {o : EwOp} (h : o.listed = true) (r : List Byte) : takeOp (opBytes o ++ r) = some (o, r) := by
  have htable := tableOp_opByte h
  cases hesc : onEscape o
  case true =>
    simp only [hesc, if_true] at htable
    simp [opBytes, hesc, takeOp, htable]
  case false =>
    simp only [hesc, Bool.false_eq_true, if_false] at htable
    have hlow : (opByte o).toNat / 16 ≠ 0xE := by have := (mainOp_some htable).1; omega
    simp [opBytes, hesc, takeOp, htable, hlow]

theorem opBytes_of_takeOp {bs r : List Byte} {o : EwOp} (h : takeOp bs = some (o, r)) (hmain : o ≠ .reserved false)
    (hescape : o ≠ .reserved true) : opBytes o ++ r = bs ∧ o.listed = true := by
  cases bs with
  | nil => cases h
  | cons x bs =>
    by_cases hx : x.toNat / 16 = 0xE
    case neg =>
      simp only [takeOp, hx, if_false] at h
      obtain ⟨ho, rfl⟩ := Prod.mk.inj (Option.some.inj h)
      cases htable : mainOp x.toNat with
      | none => rw [htable] at ho; exact absurd ho.symm hmain
      | some o' =>
        rw [htable] at ho
        obtain rfl : o' = o := ho
        obtain ⟨_, hlisted, hesc, hbyte⟩ := mainOp_some htable
        exact ⟨by simp [opBytes, hesc, hbyte], hlisted⟩
    case pos =>
      cases bs with
      | nil => simp only [takeOp, hx, if_true] at h; cases h
      | cons y bs =>
        simp only [takeOp, hx, if_true] at h
        obtain ⟨ho, rfl⟩ := Prod.mk.inj (Option.some.inj h)
        cases htable : (if x = 0xE0 then escapeOp y.toNat else none) with
        | none => rw [htable] at ho; exact absurd ho.symm hescape
        | some o' =>
          rw [htable] at ho
          obtain rfl : o' = o := ho
          obtain ⟨rfl, htable⟩ := Option.ite_none_right_eq_some.mp htable
          obtain ⟨hlisted, hesc, hbyte⟩ := escapeOp_some htable
          exact ⟨by simp [opBytes, hesc, hbyte], hlisted⟩

/-- The first byte of an opcode is none of the prefixes. -/
theorem opBytes_head {o : EwOp} (h : o.listed = true) : ∃ x r, opBytes o = x :: r ∧ pfxGroup x = none := by
  cases hesc : onEscape o
  case true => exact ⟨0xE0, [opByte o], by simp [opBytes, hesc], by decide⟩
  case false =>
    refine ⟨opByte o, [], by simp [opBytes, hesc], ?_⟩
    have htable := tableOp_opByte h
    simp only [hesc, Bool.false_eq_true, if_false] at htable
    have hlow := (mainOp_some htable).1
    have hne (k : Byte) (hk : 0xE0 ≤ k.toNat) : opByte o ≠ k := fun he => by rw [he] at hlow; omega
    simp [pfxGroup, hne]

/-! ### The bytes after the opcode (R560, R573) -/

/-- A byte that stands only in some forms. -/
def byteIf (has : Bool) (x : Byte) : List Byte := if has then [x] else []

theorem takeByte_byteIf {has : Bool} {x : Byte} (h : has = true ∨ x = 0) (r : List Byte) : takeByte has (byteIf has x ++ r) = some (x, r) := by
  cases has with
  | true => rfl
  | false =>
    obtain rfl : x = 0 := h.resolve_left Bool.false_ne_true
    cases r <;> rfl

theorem byteIf_of_takeByte {has : Bool} {x : Byte} {bs r : List Byte} (h : takeByte has bs = some (x, r)) :
    byteIf has x ++ r = bs ∧ (has = true ∨ x = 0) := by
  cases has with
  | false =>
    cases bs <;> cases h <;> exact ⟨rfl, .inr rfl⟩
  | true =>
    cases bs <;> cases h
    exact ⟨rfl, .inl rfl⟩

/-- Bytes of the displacement: those that the mode byte calls for where the form has one. -/
def dispLen (o : EwOp) (mode : Byte) : Nat := if formMode (formOf o) then dispBytes mode else 0

/-- The bytes of an instruction after its opcode. -/
def tailOf (o : EwOp) (e : Enc) : List Byte :=
  byteIf (formReg (formOf o)) e.reg ++ (byteIf (formMode (formOf o)) e.mode ++
    (leBytes (dispLen o e.mode) e.disp.toNat ++ leBytes (immBytes o (widthOf e.pre)) e.imm.toNat))

theorem encodeEowift_eq (o : EwOp) (e : Enc) : encodeEowift o e = e.pre ++ (opBytes o ++ tailOf o e) := by
  cases hm : formMode (formOf o) <;> simp [encodeEowift, opBytes, tailOf, byteIf, dispLen, hm, leBytes]

/-- Nothing stands in a part that the form has not, and the displacement and the immediate fit in their bytes. -/
structure TailFits (o : EwOp) (e : Enc) : Prop where
  reg : formReg (formOf o) = true ∨ e.reg = 0
  mode : formMode (formOf o) = true ∨ e.mode = 0
  disp : e.disp.toNat < 256 ^ dispLen o e.mode
  imm : e.imm.toNat < 256 ^ immBytes o (widthOf e.pre)

theorem encWf_iff (o : EwOp) (e : Enc) :
    encWf o e = true ↔ pfxBytes e = true ∧ ewLen o e ≤ 15 ∧ TailFits o e ∧ o.listed = true := by
  have hdef : encWf o e = (pfxBytes e && decide (ewLen o e ≤ 15) && (formReg (formOf o) || e.reg == 0) &&
      (formMode (formOf o) || e.mode == 0) && decide (e.disp.toNat < 256 ^ dispLen o e.mode) &&
      decide (e.imm.toNat < 256 ^ immBytes o (widthOf e.pre)) && o.listed) := rfl
  simp only [hdef, Bool.and_eq_true, Bool.or_eq_true, decide_eq_true_eq, beq_iff_eq]
  constructor
  · rintro ⟨⟨⟨⟨⟨⟨hpfx, hlen⟩, hreg⟩, hmode⟩, hdisp⟩, himm⟩, hlisted⟩
    exact ⟨hpfx, hlen, ⟨hreg, hmode, hdisp, himm⟩, hlisted⟩
  · rintro ⟨hpfx, hlen, ⟨hreg, hmode, hdisp, himm⟩, hlisted⟩
    exact ⟨⟨⟨⟨⟨⟨hpfx, hlen⟩, hreg⟩, hmode⟩, hdisp⟩, himm⟩, hlisted⟩

theorem takeTail_tailOf {o : EwOp} {e : Enc} (h : TailFits o e) (hpar : e.par = false) (herrs : e.errs = []) (hcut : e.cut = none)
    (r : List Byte) : takeTail o e.pre (tailOf o e ++ r) = some (e, r) := by
  obtain ⟨hreg, hmode, hdisp, himm⟩ := h
  rw [dispLen] at hdisp
  simp only [takeTail, tailOf, dispLen, List.append_assoc, takeByte_byteIf hreg, takeByte_byteIf hmode, takeLe_leBytes,
    Nat.mod_eq_of_lt hdisp, Nat.mod_eq_of_lt himm, BitVec.ofNat_toNat, BitVec.setWidth_eq]
  rw [← hpar, ← herrs, ← hcut]

theorem dispBytes_le (m : Byte) : dispBytes m ≤ 4 := by
  unfold dispBytes
  split <;> decide

theorem dispLen_le (o : EwOp) (m : Byte) : dispLen o m ≤ 4 := by
  unfold dispLen
  split
  · exact dispBytes_le m
  · decide

theorem widthOf_le (pre : List Byte) : widthOf pre ≤ 64 := by
  have hfold (w : Nat) (hw : w ≤ 64) :
      pre.foldl (fun w x => if x = 0xF0 then 8 else if x = 0xF1 then 16 else if x = 0xF2 then 32 else w) w ≤ 64 := by
    induction pre generalizing w with
    | nil => exact hw
    | cons x pre ih => exact ih _ (by dsimp only; split_ifs <;> omega)
  exact hfold 64 (Nat.le_refl 64)

theorem immBytes_le (o : EwOp) (pre : List Byte) : immBytes o (widthOf pre) ≤ 8 := by
  have hw := widthOf_le pre
  unfold immBytes
  split <;> omega

theorem tailOf_of_takeTail {o : EwOp} {pre bs r : List Byte} {e : Enc} (h : takeTail o pre bs = some (e, r)) :
    e.pre = pre ∧ tailOf o e ++ r = bs ∧ TailFits o e := by
  unfold takeTail at h
  split at h
  · cases h
  split at h
  · cases h
  split at h
  · cases h
  split at h
  · cases h
  rename_i reg bs₁ hreg _ mode bs₂ hmode _ d bs₃ hdisp _ k bs₄ himm
  obtain ⟨rfl, rfl⟩ := Prod.mk.inj (Option.some.inj h)
  obtain ⟨rfl, hr⟩ := byteIf_of_takeByte hreg
  obtain ⟨rfl, hm⟩ := byteIf_of_takeByte hmode
  obtain ⟨rfl, hd⟩ := leBytes_of_takeLe hdisp
  obtain ⟨rfl, hk⟩ := leBytes_of_takeLe himm
  have hd32 : d < 2 ^ 32 := hd.trans_le (Nat.pow_le_pow_right (by decide) (dispLen_le o mode))
  have hk64 : k < 2 ^ 64 := hk.trans_le (Nat.pow_le_pow_right (by decide) (immBytes_le o pre))
  have hdv : (BitVec.ofNat 32 d).toNat = d := by rw [BitVec.toNat_ofNat, Nat.mod_eq_of_lt hd32]
  have hkv : (BitVec.ofNat 64 k).toNat = k := by rw [BitVec.toNat_ofNat, Nat.mod_eq_of_lt hk64]
  refine ⟨rfl, ?_, hr, hm, hdv.symm ▸ hd, hkv.symm ▸ hk⟩
  simp only [tailOf, hdv, hkv, dispLen, List.append_assoc]

/-- The forms without an immediate. -/
theorem immBytes_eq_zero {o : EwOp} (h : formOf o = .z ∨ formOf o = .r ∨ formOf o = .rm) (w : Nat) : immBytes o w = 0 := by
  unfold immBytes
  split <;> simp_all [formOf]

theorem length_tailOf (o : EwOp) (e : Enc) : (tailOf o e).length = tailBytes o e := by
  have hnone := immBytes_eq_zero (o := o) (w := widthOf e.pre)
  simp only [tailOf, byteIf, dispLen, List.length_append, length_leBytes, tailBytes]
  cases hf : formOf o <;> simp [formReg, formMode, hnone, hf] <;> omega

theorem length_encodeEowift (o : EwOp) (e : Enc) : (encodeEowift o e).length = ewLen o e := by
  have hop : (opBytes o).length = if onEscape o then 2 else 1 := by
    unfold opBytes
    split <;> rfl
  rw [encodeEowift_eq, List.length_append, List.length_append, hop, length_tailOf, ewLen, Nat.add_assoc]

/-- What is prefixes, a listed opcode and the rest of a decodable instruction decodes to that instruction. -/
theorem decodeEowift_parts {o : EwOp} {e : Enc} {bs r : List Byte} (hpfx : pfxBytes e = true) (hlisted : o.listed = true)
    (htail : takeTail o e.pre bs = some (e, r)) (hlen : ewLen o e ≤ 15) : decodeEowift (e.pre ++ (opBytes o ++ bs)) = .ok (o, e, r) := by
  obtain ⟨x, xs, hop, hx⟩ := opBytes_head hlisted
  have hsplit : takePfx (e.pre ++ (opBytes o ++ bs)) = (e.pre, opBytes o ++ bs) := by
    rw [hop]
    exact takePfx_append e.pre (xs ++ bs) hpfx hx
  have hshort : ¬15 ≤ e.pre.length := by rw [ewLen] at hlen; split at hlen <;> omega
  simp only [decodeEowift, hsplit, if_neg hshort, takeOp_opBytes hlisted, htail, if_neg (Nat.not_lt.mpr hlen)]

/-- What decodes is prefixes, an opcode and the rest of a decodable instruction. -/
theorem parts_of_decodeEowift {o : EwOp} {e : Enc} {bs r : List Byte} (h : decodeEowift bs = .ok (o, e, r)) :
    ∃ pre bs₁ bs₂, takePfx bs = (pre, bs₁) ∧ takeOp bs₁ = some (o, bs₂) ∧ takeTail o pre bs₂ = some (e, r) ∧ ewLen o e ≤ 15 := by
  cases hpfx : takePfx bs with
  | mk pre bs₁ =>
  simp only [decodeEowift, hpfx] at h
  split at h
  · cases h
  split at h
  · cases h
  split at h
  · cases h
  split at h
  · cases h
  rename_i o' bs₂ hop _ e' r' htail hlen
  obtain ⟨rfl, rfl, rfl⟩ : o' = o ∧ e' = e ∧ r' = r := by simpa using h
  exact ⟨pre, bs₁, bs₂, rfl, hop, htail, Nat.not_lt.mp hlen⟩

end Sys2Proof.Machine

namespace Sys2Proof.Claims
open Sys2Proof.Machine

/-- Settles O37: the decoder's parts read back the encoder's parts. -/
theorem eowiftRoundTrip : Obligations.EowiftRoundTrip := by
  intro o e r hwf hpar herrs hcut
  obtain ⟨hpfx, hlen, hfits, hlisted⟩ := (encWf_iff o e).mp hwf
  rw [encodeEowift_eq, List.append_assoc, List.append_assoc]
  exact decodeEowift_parts hpfx hlisted (takeTail_tailOf hfits hpar herrs hcut r) hlen

/-- Settles O38: what each part of the decoder takes off the bytes is what the encoder writes for it. -/
theorem eowiftDecodingIsExact : Obligations.EowiftDecodingIsExact := by
  intro bs r o e h hmain hescape
  obtain ⟨pre, bs₁, bs₂, hpre, hop, htail, hlen⟩ := parts_of_decodeEowift h
  obtain ⟨rfl, hpfx⟩ := append_of_takePfx hpre
  obtain ⟨rfl, hlisted⟩ := opBytes_of_takeOp hop hmain hescape
  obtain ⟨rfl, rfl, hfits⟩ := tailOf_of_takeTail htail
  refine ⟨(encWf_iff o e).mpr ⟨hpfx, hlen, hfits, hlisted⟩, ?_, length_encodeEowift o e, hlen⟩
  rw [encodeEowift_eq, List.append_assoc, List.append_assoc]

/-- Settles O39: the decoder is run on each example. -/
theorem eowiftExampleBytes : Obligations.EowiftExampleBytes :=
  ⟨rfl, rfl, rfl, rfl, rfl, rfl, rfl, rfl, rfl, rfl, rfl, rfl, rfl⟩

end Sys2Proof.Claims
end

section
/-! Results and flags of the Eowift arithmetic at width w (R571, R578-R582), the conditions of branches (R575), masks and pointers (R515,
R516), and the CRC step of SCRC (R598). -/
namespace Sys2Proof.Machine

/-! ### The bits of fl -/

@[simp] theorem flZ_mkFl (z n c v : Bool) : flZ (mkFl z n c v) = z := by revert z n c v; decide
@[simp] theorem flN_mkFl (z n c v : Bool) : flN (mkFl z n c v) = n := by revert z n c v; decide
@[simp] theorem flC_mkFl (z n c v : Bool) : flC (mkFl z n c v) = c := by revert z n c v; decide
@[simp] theorem flV_mkFl (z n c v : Bool) : flV (mkFl z n c v) = v := by revert z n c v; decide

theorem bitOf_eq_testBit (v k : Nat) : bitOf v k = v.testBit k := by
  rw [Nat.testBit_eq_decide_div_mod_eq]
  rfl

@[simp] theorem flZ_flOf (w r : Nat) (c v : Bool) : flZ (flOf w r c v) = (r % 2 ^ w == 0) := flZ_mkFl ..
@[simp] theorem flN_flOf (w r : Nat) (c v : Bool) : flN (flOf w r c v) = r.testBit (w - 1) := (flN_mkFl ..).trans (bitOf_eq_testBit ..)
@[simp] theorem flC_flOf (w r : Nat) (c v : Bool) : flC (flOf w r c v) = c := flC_mkFl ..
@[simp] theorem flV_flOf (w r : Nat) (c v : Bool) : flV (flOf w r c v) = v := flV_mkFl ..

/-! ### Signed numbers of w bits -/

section
variable {w : Nat} (hw : 0 < w)
include hw

theorem two_pow_pred : (2 : Nat) ^ w = 2 * 2 ^ (w - 1) := by
  rw [← Nat.pow_succ', Nat.succ_eq_add_one, Nat.sub_add_cancel hw]

/-- The top bit of w is 1 in the upper half of the w-bit numbers. -/
theorem testBit_top (a : Nat) : a.testBit (w - 1) = decide (2 ^ (w - 1) ≤ a % 2 ^ w) := by
  have hpow := two_pow_pred hw
  have hlt : a % 2 ^ w < 2 ^ w := Nat.mod_lt a (by positivity)
  have hbit : a.testBit (w - 1) = (a % 2 ^ w).testBit (w - 1) := by rw [Nat.testBit_mod_two_pow]; simp [hw]
  have hdiv : a % 2 ^ w / 2 ^ (w - 1) < 2 := Nat.div_lt_of_lt_mul (by omega)
  rw [hbit, Nat.testBit_eq_decide_div_mod_eq, decide_eq_decide, Nat.mod_eq_of_lt hdiv]
  calc
    a % 2 ^ w / 2 ^ (w - 1) = 1 ↔ 1 ≤ a % 2 ^ w / 2 ^ (w - 1) := by omega
    _ ↔ 2 ^ (w - 1) ≤ a % 2 ^ w := by rw [Nat.le_div_iff_mul_le (by positivity), Nat.one_mul]

/-- A signed number counts down from 2^w in the upper half. -/
theorem sgn_eq (a : Nat) : sgn w a = if a.testBit (w - 1) then ((a % 2 ^ w : Nat) : Int) - 2 * (2 ^ (w - 1) : Nat) else (a % 2 ^ w : Nat) := by
  have hpow : (2 : Int) ^ w = 2 * (2 ^ (w - 1) : Nat) := by exact_mod_cast two_pow_pred hw
  rw [sgn, testBit_top hw, hpow]
  simp only [decide_eq_true_eq]
  split_ifs <;> omega

theorem sgn_bounds (a : Nat) : -(2 ^ (w - 1) : Nat) ≤ sgn w a ∧ sgn w a < (2 ^ (w - 1) : Nat) := by
  have hpow := two_pow_pred hw
  have hlt : a % 2 ^ w < 2 ^ w := Nat.mod_lt a (by positivity)
  rw [sgn_eq hw, testBit_top hw]
  simp only [decide_eq_true_eq]
  split_ifs <;> omega

omit hw in
theorem fits_iff (x : Int) : fits w x = true ↔ -(2 ^ (w - 1) : Nat) ≤ x ∧ x < (2 ^ (w - 1) : Nat) := by
  rw [fits, decide_eq_true_iff]
  push_cast
  rfl

/-- A number that fits is the sum of its w bits and a multiple of 2^w. -/
theorem ofSgn_of_fits {x : Int} (h : fits w x = true) :
    (ofSgn w x : Int) = if x < 0 then x + 2 * (2 ^ (w - 1) : Nat) else x := by
  have hpow : (2 : Int) ^ w = 2 * (2 ^ (w - 1) : Nat) := by exact_mod_cast two_pow_pred hw
  obtain ⟨hlo, hhi⟩ := (fits_iff x).mp h
  have hmod : x % (2 * (2 ^ (w - 1) : Nat)) = if x < 0 then x + 2 * (2 ^ (w - 1) : Nat) else x := by
    split_ifs with hneg
    · rw [← Int.add_emod_right, Int.emod_eq_of_lt (by omega) (by omega)]
    · exact Int.emod_eq_of_lt (by omega) (by omega)
  rw [ofSgn, hpow, hmod]
  split_ifs <;> omega

omit hw in
theorem ofSgn_lt (x : Int) : ofSgn w x < 2 ^ w := by
  have hpos : (0 : Int) < 2 ^ w := by positivity
  have hlt := Int.emod_lt_of_pos x hpos
  have hnonneg := Int.emod_nonneg x hpos.ne'
  zify
  rw [ofSgn, Int.toNat_of_nonneg hnonneg]
  exact hlt

theorem sgn_ofSgn {x : Int} (h : fits w x = true) : sgn w (ofSgn w x) = x := by
  have hpow := two_pow_pred hw
  obtain ⟨hlo, hhi⟩ := (fits_iff x).mp h
  have hval := ofSgn_of_fits hw h
  rw [sgn_eq hw, testBit_top hw, Nat.mod_eq_of_lt (ofSgn_lt x)]
  simp only [decide_eq_true_eq]
  split_ifs at hval ⊢ <;> omega

/-! ### Sums and differences -/

omit hw in
/-- A sum of two w-bit numbers and a carry loses at most one 2^w. -/
theorem mod_of_lt_two_mul {n m : Nat} (h : n < 2 * m) : n % m = if n < m then n else n - m := by
  split_ifs with hlt
  · exact Nat.mod_eq_of_lt hlt
  · rw [Nat.mod_eq_sub_mod (by omega), Nat.mod_eq_of_lt (by omega)]

theorem addFl_overflow_iff (a b : Nat) (cin : Bool) : flV (addFl w a b cin).2 = true ↔
    a.testBit (w - 1) = b.testBit (w - 1) ∧ (addFl w a b cin).1.testBit (w - 1) ≠ a.testBit (w - 1) := by
  have hpow := two_pow_pred hw
  have ha : a % 2 ^ w < 2 ^ w := Nat.mod_lt a (by positivity)
  have hb : b % 2 ^ w < 2 ^ w := Nat.mod_lt b (by positivity)
  have hr := mod_of_lt_two_mul (n := a % 2 ^ w + b % 2 ^ w + cin.toNat) (m := 2 ^ w) (by cases cin <;> simp <;> omega)
  have hres : (addFl w a b cin).1 = (a % 2 ^ w + b % 2 ^ w + cin.toNat) % 2 ^ w := by cases cin <;> rfl
  have hv : flV (addFl w a b cin).2 = !fits w (sgn w a + sgn w b + cin.toNat) := by cases cin <;> exact flV_flOf ..
  have hcin := Bool.toNat_le cin
  rw [hv, hres, Bool.not_eq_true', ← Bool.not_eq_true, fits_iff, sgn_eq hw, sgn_eq hw]
  simp only [testBit_top hw, Nat.mod_mod, ne_eq, decide_eq_decide, decide_eq_true_eq]
  rw [hr]
  generalize cin.toNat = k at *
  generalize a % 2 ^ w = x at *
  generalize b % 2 ^ w = y at *
  split_ifs <;> omega

omit hw in
theorem ofSgn_sub_pow (n : Nat) : ofSgn w ((n : Int) - 2 ^ (w + 1)) = n % 2 ^ w := by
  have hpow : (2 : Int) ^ (w + 1) = (2 : Int) ^ w * 2 := pow_succ 2 w
  rw [ofSgn, hpow, Int.sub_mul_emod_self_left]
  exact_mod_cast Int.toNat_natCast (n % 2 ^ w)

omit hw in
theorem subFl_result (a b : Nat) (cin : Bool) : (subFl w a b cin).1 = (a % 2 ^ w + 2 ^ (w + 1) - b % 2 ^ w - cin.toNat) % 2 ^ w := by
  have hb : b % 2 ^ w < 2 ^ w := Nat.mod_lt b (by positivity)
  have hpow : 2 ^ (w + 1) = 2 ^ w * 2 := pow_succ 2 w
  have hcin := Bool.toNat_le cin
  have hnat : ((a % 2 ^ w : Nat) : Int) - (b % 2 ^ w : Nat) - cin.toNat =
      ((a % 2 ^ w + 2 ^ (w + 1) - b % 2 ^ w - cin.toNat : Nat) : Int) - 2 ^ (w + 1) := by
    rw [Nat.cast_sub (by omega), Nat.cast_sub (by omega)]
    push_cast
    ring
  rw [← ofSgn_sub_pow, ← hnat]
  cases cin <;> rfl

theorem subFl_overflow_iff (a b : Nat) (cin : Bool) : flV (subFl w a b cin).2 = true ↔
    a.testBit (w - 1) ≠ b.testBit (w - 1) ∧ (subFl w a b cin).1.testBit (w - 1) ≠ a.testBit (w - 1) := by
  have hpow := two_pow_pred hw
  have hpow' : 2 ^ (w + 1) = 2 ^ w * 2 := pow_succ 2 w
  have ha : a % 2 ^ w < 2 ^ w := Nat.mod_lt a (by positivity)
  have hb : b % 2 ^ w < 2 ^ w := Nat.mod_lt b (by positivity)
  have hcin := Bool.toNat_le cin
  have hborrow : (a % 2 ^ w + 2 ^ (w + 1) - b % 2 ^ w - cin.toNat) % 2 ^ w = (a % 2 ^ w + 2 ^ w - b % 2 ^ w - cin.toNat) % 2 ^ w := by
    rw [Nat.mod_eq_sub_mod (by omega)]
    congr 1
    omega
  have hr := mod_of_lt_two_mul (n := a % 2 ^ w + 2 ^ w - b % 2 ^ w - cin.toNat) (m := 2 ^ w) (by omega)
  have hv : flV (subFl w a b cin).2 = !fits w (sgn w a - sgn w b - cin.toNat) := by cases cin <;> exact flV_flOf ..
  rw [hv, subFl_result, hborrow, Bool.not_eq_true', ← Bool.not_eq_true, fits_iff, sgn_eq hw, sgn_eq hw]
  simp only [testBit_top hw, Nat.mod_mod, ne_eq, decide_eq_decide, decide_eq_true_eq]
  rw [hr]
  generalize cin.toNat = k at *
  generalize a % 2 ^ w = x at *
  generalize b % 2 ^ w = y at *
  split_ifs <;> omega

end

theorem addFl_result (w a b : Nat) (cin : Bool) : (addFl w a b cin).1 = (a % 2 ^ w + b % 2 ^ w + cin.toNat) % 2 ^ w := by cases cin <;> rfl

theorem addFl_flags (w a b : Nat) (cin : Bool) : (addFl w a b cin).2 =
    flOf w (addFl w a b cin).1 (decide (2 ^ w ≤ a % 2 ^ w + b % 2 ^ w + cin.toNat)) (flV (addFl w a b cin).2) := by
  cases cin <;> simp [addFl, lowBits]

theorem subFl_flags (w a b : Nat) (cin : Bool) : (subFl w a b cin).2 =
    flOf w (subFl w a b cin).1 (decide (a % 2 ^ w < b % 2 ^ w + cin.toNat)) (flV (subFl w a b cin).2) := by
  cases cin <;> simp [subFl, lowBits]

theorem subFl_lt (w a b : Nat) (cin : Bool) : (subFl w a b cin).1 < 2 ^ w := ofSgn_lt _

/-! ### Logic, shifts and rotates -/

theorem lowBits_testBit (w a k : Nat) : (lowBits w a).testBit k = (decide (k < w) && a.testBit k) := Nat.testBit_mod_two_pow a w k

theorem sgn_eq_toInt {w : Nat} (hw : 0 < w) (a : Nat) : sgn w a = (BitVec.ofNat w a).toInt := by
  have hpow := two_pow_pred hw
  rw [BitVec.toInt_eq_toNat_cond, BitVec.toNat_ofNat, sgn]
  push_cast
  split_ifs <;> omega

theorem ofSgn_toInt {w : Nat} (x : BitVec w) : ofSgn w x.toInt = x.toNat := by
  have h := congrArg BitVec.toNat (BitVec.ofInt_toInt (x := x))
  rw [BitVec.toNat_ofInt] at h
  rw [← h, ofSgn]
  push_cast
  rfl

/-- An arithmetic shift to the right of the w bits. -/
theorem sar_result {w : Nat} (hw : 0 < w) (a n : Nat) : (shiftFl .sar w a n).1 = ((BitVec.ofNat w a).sshiftRight n).toNat := by
  have hval : sgn w (lowBits w a) / 2 ^ n = ((BitVec.ofNat w a).sshiftRight n).toInt := by
    have hlow : BitVec.ofNat w (lowBits w a) = BitVec.ofNat w a := BitVec.eq_of_toNat_eq (by simp [lowBits])
    rw [BitVec.toInt_sshiftRight, Int.shiftRight_eq_div_pow, sgn_eq_toInt hw, hlow]
    push_cast
    rfl
  exact (congrArg (ofSgn w) hval).trans (ofSgn_toInt _)

section
variable {w n k : Nat} (a : Nat) (hpos : 0 < n) (hn : n < w) (hk : k < w)

include hn hk in
theorem testBit_shl : (shiftFl .shl w a n).1.testBit k = (decide (n ≤ k) && a.testBit (k - n)) := by
  have hlow : k - n < w := by omega
  have hres : (shiftFl .shl w a n).1 = lowBits w a * 2 ^ n % 2 ^ w := rfl
  rw [hres, Nat.testBit_mod_two_pow, Nat.testBit_mul_two_pow, lowBits_testBit]
  simp [hk, hlow]

theorem testBit_shr : (shiftFl .shr w a n).1.testBit k = (decide (k + n < w) && a.testBit (k + n)) := by
  have hres : (shiftFl .shr w a n).1 = lowBits w a / 2 ^ n := rfl
  rw [hres, Nat.testBit_div_two_pow, lowBits_testBit, Nat.add_comm]

include hk in
theorem testBit_sar : (shiftFl .sar w a n).1.testBit k = a.testBit (min (k + n) (w - 1)) := by
  rw [sar_result (by omega), ← BitVec.getLsbD, BitVec.getLsbD_sshiftRight]
  have hmsb : (BitVec.ofNat w a).msb = a.testBit (w - 1) := by
    rw [BitVec.msb_eq_getLsbD_last, BitVec.getLsbD_ofNat]
    simp; omega
  split_ifs with hin
  · have hmin : min (k + n) (w - 1) = n + k := by omega
    rw [BitVec.getLsbD_ofNat, hmin]
    simp [hk, hin]
  · have hmin : min (k + n) (w - 1) = w - 1 := by omega
    simp [hk, hmsb, hmin]

include hn in
/-- A rotate to the left: the low bits above the high bits. -/
theorem rol_result : (shiftFl .rol w a n).1 = 2 ^ n * (lowBits w a % 2 ^ (w - n)) + lowBits w a / 2 ^ (w - n) := by
  have hpow : 2 ^ w = 2 ^ (w - n) * 2 ^ n := by rw [← pow_add, Nat.sub_add_cancel hn.le]
  have hres : (shiftFl .rol w a n).1 = lowBits w a * 2 ^ n % 2 ^ w + lowBits w a / 2 ^ (w - n) := rfl
  have hmod : lowBits w a * 2 ^ n % 2 ^ w = lowBits w a % 2 ^ (w - n) * 2 ^ n := by rw [hpow, Nat.mul_mod_mul_right]
  rw [hres, hmod, Nat.mul_comm]

include hn in
theorem rol_high_lt : lowBits w a / 2 ^ (w - n) < 2 ^ n := by
  have hpow : 2 ^ (w - n) * 2 ^ n = 2 ^ w := by rw [← pow_add, Nat.sub_add_cancel hn.le]
  exact Nat.div_lt_of_lt_mul (hpow ▸ Nat.mod_lt a (by positivity))

include hpos hn hk in
theorem testBit_rol : (shiftFl .rol w a n).1.testBit k = a.testBit ((k + (w - n)) % w) := by
  rw [rol_result a hn, Nat.testBit_two_pow_mul_add _ (rol_high_lt a hn)]
  split_ifs with hlow
  · have hplace : (k + (w - n)) % w = w - n + k := by rw [Nat.mod_eq_of_lt (by omega), Nat.add_comm]
    rw [Nat.testBit_div_two_pow, lowBits_testBit, hplace, decide_eq_true (by omega), Bool.true_and, Nat.add_comm]
  · have hplace : (k + (w - n)) % w = k - n := by
      rw [Nat.mod_eq_sub_mod (by omega), Nat.mod_eq_of_lt (by omega)]
      omega
    rw [Nat.testBit_mod_two_pow, lowBits_testBit, hplace, decide_eq_true (by omega), decide_eq_true (by omega), Bool.true_and,
      Bool.true_and]

include hn in
theorem shiftFl_lt (o : ShOp) : (shiftFl o w a n).1 < 2 ^ w := by
  have hlow : lowBits w a < 2 ^ w := Nat.mod_lt a (by positivity)
  cases o with
  | shl => exact Nat.mod_lt _ (by positivity)
  | shr => exact (Nat.div_le_self _ _).trans_lt hlow
  | sar => exact ofSgn_lt _
  | rol =>
    have hpow : 2 ^ w = 2 ^ n * 2 ^ (w - n) := by rw [← pow_add, Nat.add_sub_cancel' hn.le]
    have hmod : lowBits w a % 2 ^ (w - n) < 2 ^ (w - n) := Nat.mod_lt _ (by positivity)
    rw [rol_result a hn, hpow]
    calc
      2 ^ n * (lowBits w a % 2 ^ (w - n)) + lowBits w a / 2 ^ (w - n) < 2 ^ n * (lowBits w a % 2 ^ (w - n)) + 2 ^ n :=
        Nat.add_lt_add_left (rol_high_lt a hn) _
      _ = 2 ^ n * (lowBits w a % 2 ^ (w - n) + 1) := by ring
      _ ≤ 2 ^ n * 2 ^ (w - n) := Nat.mul_le_mul_left _ hmod

end

/-- The bit that a shift moves out last. -/
def shiftOut (o : ShOp) (w a n : Nat) : Bool :=
  match o with
  | .shl | .rol => a.testBit (w - n)
  | .shr | .sar => a.testBit (n - 1)

theorem shiftFl_flags {w n : Nat} (a : Nat) (hpos : 0 < n) (hn : n < w) (o : ShOp) :
    (shiftFl o w a n).2 = flOf w (shiftFl o w a n).1 (shiftOut o w a n) false := by
  have hleft : bitOf (lowBits w a) (w - n) = a.testBit (w - n) := by
    rw [bitOf_eq_testBit, lowBits_testBit, decide_eq_true (by omega), Bool.true_and]
  have hright : bitOf (lowBits w a) (n - 1) = a.testBit (n - 1) := by
    rw [bitOf_eq_testBit, lowBits_testBit, decide_eq_true (by omega), Bool.true_and]
  cases o <;> simp only [shiftFl, shiftOut, hleft, hright]

/-! ### Products and divisions (R580, R582) -/

theorem ofSgn_dvd_sub (w : Nat) (x : Int) : (2 ^ w : Int) ∣ (ofSgn w x : Int) - x := by
  have hnonneg := Int.emod_nonneg x (show (2 : Int) ^ w ≠ 0 by positivity)
  rw [ofSgn, Int.toNat_of_nonneg hnonneg]
  exact ⟨-(x / 2 ^ w), by rw [Int.emod_def]; ring⟩

theorem not_fits_iff (w : Nat) (x : Int) : (!fits w x) = true ↔ (x < -2 ^ (w - 1) ∨ 2 ^ (w - 1) ≤ x) := by
  rw [Bool.not_eq_true', ← Bool.not_eq_true, fits_iff]
  push_cast
  omega

section
variable {w a b : Nat} (hw : 0 < w)
include hw

omit hw in
theorem two_le_natAbs_div {x y : Int} {m : Nat} (hx : x.natAbs ≤ m) (hm : 0 < m) (hy : 2 ≤ y.natAbs) : (x.tdiv y).natAbs < m := by
  rw [Int.natAbs_tdiv]
  have hhalf : x.natAbs.div y.natAbs ≤ x.natAbs / 2 := Nat.div_le_div_left hy (by decide)
  omega

/-- The quotient leaves the w-bit range only where the lowest number is divided by -1. -/
theorem fits_tdiv (hmost : ¬(sgn w a = -2 ^ (w - 1) ∧ sgn w b = -1)) : fits w ((sgn w a).tdiv (sgn w b)) = true := by
  have hbounds := sgn_bounds hw a
  have hpos : 0 < 2 ^ (w - 1) := by positivity
  have hmost : ¬(sgn w a = -(2 ^ (w - 1) : Nat) ∧ sgn w b = -1) := by exact_mod_cast hmost
  rw [fits_iff]
  generalize 2 ^ (w - 1) = m at *
  generalize sgn w a = x at *
  generalize sgn w b = y at *
  rcases lt_or_ge y.natAbs 2 with hsmall | hlarge
  · obtain rfl | rfl | rfl : y = 0 ∨ y = 1 ∨ y = -1 := by omega
    · rw [Int.tdiv_zero]; omega
    · rw [Int.tdiv_one]; omega
    · rw [Int.tdiv_neg, Int.tdiv_one]; omega
  · have := two_le_natAbs_div (x := x) (by omega) hpos hlarge
    omega

theorem sgn_ne_zero (hb : b % 2 ^ w ≠ 0) : sgn w b ≠ 0 := by
  have hpow := two_pow_pred hw
  have hlt : b % 2 ^ w < 2 ^ w := Nat.mod_lt b (by positivity)
  rw [sgn_eq hw]
  split_ifs <;> omega

omit hw in
theorem natAbs_tmod_lt {x y : Int} (hy : y ≠ 0) : (x.tmod y).natAbs < y.natAbs := by
  rw [Int.natAbs_tmod]
  exact Nat.mod_lt _ (Int.natAbs_pos.mpr hy)

theorem fits_tmod (hb : b % 2 ^ w ≠ 0) : fits w ((sgn w a).tmod (sgn w b)) = true := by
  have hbounds := sgn_bounds hw b
  have hlt := natAbs_tmod_lt (x := sgn w a) (sgn_ne_zero hw hb)
  rw [fits_iff]
  omega

omit hw in
/-- The remainder has the dividend's sign. -/
theorem tmod_sign (x y : Int) : x.tmod y = 0 ∨ (x.tmod y < 0 ↔ x < 0) := by
  rcases lt_or_ge x 0 with hneg | hnonneg
  · have hopp := Int.tmod_nonneg y (show 0 ≤ -x by omega)
    rw [Int.neg_tmod] at hopp
    omega
  · have := Int.tmod_nonneg y hnonneg
    omega

/-- The lowest number divided by -1 gives itself again. -/
theorem sgn_ofSgn_half : sgn w (ofSgn w (2 ^ (w - 1))) = -2 ^ (w - 1) := by
  have hlt : 2 ^ (w - 1) < 2 ^ w := Nat.pow_lt_pow_right (by decide) (by omega)
  have hpow' : (2 : Int) ^ w = 2 * 2 ^ (w - 1) := by exact_mod_cast two_pow_pred hw
  have hpos : (0 : Int) < 2 ^ (w - 1) := by positivity
  have hval : ofSgn w (2 ^ (w - 1)) = 2 ^ (w - 1) := by
    rw [ofSgn, hpow', Int.emod_eq_of_lt hpos.le (by omega)]
    exact_mod_cast Int.toNat_natCast (2 ^ (w - 1))
  rw [hval, sgn_eq hw, testBit_top hw, Nat.mod_eq_of_lt hlt, decide_eq_true (Nat.le_refl _), if_pos rfl]
  push_cast
  ring

end

end Sys2Proof.Machine

namespace Sys2Proof.Claims
open Sys2Proof.Machine

theorem opWidth.pos {w : Nat} (h : opWidth w) : 0 < w := by
  rcases h with rfl | rfl | rfl | rfl <;> decide

/-- Settles O40: overflow is where the signed sum or difference leaves the w-bit range. -/
theorem addSubFlags : Obligations.AddSubFlags := by
  intro w a b cin hwidth
  have hw := hwidth.pos
  refine ⟨⟨addFl_result w a b cin, ?_, ?_, ?_, addFl_overflow_iff hw a b cin⟩,
    subFl_result a b cin, ?_, ?_, ?_, subFl_overflow_iff hw a b cin⟩
  · rw [addFl_flags, flZ_flOf, addFl_result, Nat.mod_mod, beq_iff_eq]
  · rw [addFl_flags, flN_flOf]
  · rw [addFl_flags, flC_flOf, decide_eq_true_iff]
  · rw [subFl_flags, flZ_flOf, Nat.mod_eq_of_lt (subFl_lt w a b cin), beq_iff_eq]
  · rw [subFl_flags, flN_flOf]
  · rw [subFl_flags, flC_flOf, decide_eq_true_iff]

/-- Settles O41: each shift bit by bit, and its flags as those of its result with the bit moved out last. -/
theorem logicAndShiftFlags : Obligations.LogicAndShiftFlags := by
  intro w a n k hwidth hpos hn hk
  have hout (o : ShOp) : flC (shiftFl o w a n).2 = shiftOut o w a n := by rw [shiftFl_flags a hpos hn, flC_flOf]
  refine ⟨⟨rfl, ?_, flN_flOf .., flC_flOf .., flV_flOf ..⟩, ⟨testBit_shl a hn hk, hout .shl⟩, ⟨testBit_shr a, hout .shr⟩,
    ⟨testBit_sar a hk, hout .sar⟩, ⟨testBit_rol a hpos hn hk, hout .rol⟩, fun o => ⟨shiftFl_lt a hn o, ?_, ?_, ?_⟩⟩
  · exact (Bool.eq_iff_iff.mp (flZ_flOf ..)).trans beq_iff_eq
  · rw [shiftFl_flags a hpos hn, flV_flOf]
  · rw [shiftFl_flags a hpos hn, flZ_flOf, Nat.mod_eq_of_lt (shiftFl_lt a hn o), beq_iff_eq]
  · rw [shiftFl_flags a hpos hn, flN_flOf]

/-- Settles O42: division truncates, and its quotient fits in w bits but for the lowest number divided by -1. -/
theorem productsAndDivisions : Obligations.ProductsAndDivisions := by
  intro w a b hwidth
  have hw := hwidth.pos
  refine ⟨⟨ofSgn_dvd_sub w _, ofSgn_lt _, ?_, (flV_flOf ..).trans (flC_flOf ..).symm⟩,
    fun hb => ⟨⟨fun hmost => ?law, fun ha hneg => ?overflow⟩, ?unsigned, fun o => ?carry⟩⟩
  · exact (Bool.eq_iff_iff.mp (flC_flOf ..)).trans (not_fits_iff w _)
  case law =>
    have hq : sgn w (divFl .div w a b).1 = (sgn w a).tdiv (sgn w b) := sgn_ofSgn hw (fits_tdiv hw hmost)
    have hr : sgn w (divFl .rem w a b).1 = (sgn w a).tmod (sgn w b) := sgn_ofSgn hw (fits_tmod hw hb)
    rw [hq, hr]
    refine ⟨?_, natAbs_tmod_lt (sgn_ne_zero hw hb), tmod_sign _ _, (flV_flOf ..).trans (decide_eq_false hmost),
      (flV_flOf ..).trans (decide_eq_false hmost)⟩
    rw [Int.mul_comm]
    exact (Int.mul_tdiv_add_tmod _ _).symm
  case overflow =>
    have hmost : sgn w a = -2 ^ (w - 1) ∧ sgn w b = -1 := ⟨ha, hneg⟩
    have hq : (divFl .div w a b).1 = ofSgn w (2 ^ (w - 1)) := by
      show ofSgn w ((sgn w a).tdiv (sgn w b)) = _
      rw [ha, hneg, Int.tdiv_neg, Int.tdiv_one, Int.neg_neg]
    have hr : (divFl .rem w a b).1 = ofSgn w 0 := by
      show ofSgn w ((sgn w a).tmod (sgn w b)) = _
      rw [hneg, Int.tmod_neg, Int.tmod_one]
    have hpos : 0 < 2 ^ (w - 1) := by positivity
    have hzero : sgn w (ofSgn w 0) = 0 := sgn_ofSgn hw ((fits_iff 0).mpr (by omega))
    rw [hq, hr, sgn_ofSgn_half hw, ha]
    exact ⟨rfl, hzero, (flV_flOf ..).trans (decide_eq_true hmost), (flV_flOf ..).trans (decide_eq_true hmost)⟩
  case unsigned =>
    exact ⟨(Nat.div_add_mod' (a % 2 ^ w) (b % 2 ^ w)).symm, Nat.mod_lt _ (Nat.pos_of_ne_zero hb), flV_flOf .., flV_flOf ..⟩
  case carry => cases o <;> exact flC_flOf ..

end Sys2Proof.Claims
end

section
/-! Branch conditions (R575), the masks and pointers of the banks (R515, R516), and the CRC step of SCRC (R598). -/
namespace Sys2Proof.Machine

/-! ### Masks and pointers -/

theorem maskOfWrite_zero : maskOfWrite 0 = 0 := by decide

theorem maskOfWrite_toNat {v : BitVec 17} {n : Nat} (hlo : 2 ^ n ≤ v.toNat) (hhi : v.toNat < 2 ^ (n + 1)) :
    (maskOfWrite v).toNat = 2 ^ (n + 1) - 1 := by
  have hpos : 0 < 2 ^ n := by positivity
  have hne : v ≠ 0 := fun h => by rw [h] at hlo; simp at hlo
  have hlog : Nat.log2 v.toNat = n := (Nat.log2_eq_iff (by omega)).mpr ⟨hlo, hhi⟩
  have hn : n < 17 := (Nat.pow_lt_pow_iff_right (by decide : 1 < 2)).mp (hlo.trans_lt v.isLt)
  have hle : 2 ^ (n + 1) ≤ 2 ^ 17 := Nat.pow_le_pow_right (by decide) hn
  rw [maskOfWrite, if_neg hne, hlog, BitVec.toNat_ofNat, Nat.mod_eq_of_lt (by omega)]

variable (c : Core)

theorem Core.xm_wr_xm (v : BitVec 80) : (c.wr .xm v).xm = maskOfWrite (v.setWidth 17) := rfl
theorem Core.ym_wr_ym (v : BitVec 80) : (c.wr .ym v).ym = maskOfWrite (v.setWidth 17) := rfl

@[simp] theorem Core.getPtr_setPtr_same (n : Nat) (v : W32) : (c.setPtr n v).getPtr n = v := smGet_smSet_same 0 c.ptr n v
theorem Core.getPtr_setPtr_ne {n k : Nat} (v : W32) (h : k ≠ n) : (c.setPtr n v).getPtr k = c.getPtr k := smGet_smSet_ne 0 c.ptr n k v h

/-- ADDP of a bank pointer steps it under the mask of its bank. -/
theorem Core.addp_pointer {s : Nat} (n : Nat) (hs : s < 8) :
    c.addp s n = (c.killLoads (.ptr s)).setPtr s (ptrStep (c.getPtr s) (c.maskOf s) n) := by
  have hwhole : ((ptrStep (c.getPtr s) (c.maskOf s) n).setWidth 80).setWidth 32 = ptrStep (c.getPtr s) (c.maskOf s) n :=
    (BitVec.setWidth_setWidth_of_le _ (by decide)).trans (BitVec.setWidth_eq _)
  rw [Core.addp, if_pos (by omega), Core.wr, Core.setDst, hwhole]

theorem ptrStep_eq (p : W32) (m : BitVec 17) (n : Nat) : ptrStep p m n =
    if m.setWidth 32 = 0 then p + BitVec.ofNat 32 n else (p &&& ~~~m.setWidth 32) ||| ((p + BitVec.ofNat 32 n) &&& m.setWidth 32) := by
  have hzero : m.setWidth 32 = 0 ↔ m = 0 := by
    rw [← BitVec.toNat_inj, ← BitVec.toNat_inj, BitVec.toNat_setWidth, Nat.mod_eq_of_lt (m.isLt.trans (by decide))]
    rfl
  exact (if_congr hzero rfl rfl).symm

/-! ### The CRC step -/

theorem elementBytes_eq (s n : Nat) : Claims.elementBytes s n = (List.range n).map (natByte s) := by
  induction n generalizing s with
  | zero => rfl
  | succ n ih =>
    have hnext (k : Nat) : natByte (s / 256) k = natByte s (k + 1) := by
      rw [natByte, natByte, Nat.div_div_eq_div_mul, Nat.mul_succ, Nat.add_comm, pow_add]
      rfl
    rw [Claims.elementBytes, ih, List.range_succ_eq_map, List.map_cons, List.map_map]
    exact congrArg₂ _ (congrArg _ (Nat.div_one s).symm) (List.map_congr_left (fun k _ => hnext k))

theorem poly32c_eq : poly32c = 0x82F63B78 := by
  simp [poly32c, reflect, BitVec.reverse, BitVec.msb_eq_decide, BitVec.concat]

theorem crc32cByte_eq (c : W32) (x : Byte) : Claims.crc32cByte c x = crcByte poly32c c x := by
  rw [poly32c_eq]
  rfl

end Sys2Proof.Machine

namespace Sys2Proof.Claims
open Sys2Proof.Machine

/-- Settles O43: a write of a mask stores `maskOfWrite`, and ADDP stores `ptrStep`. -/
theorem masksAndPointers : Obligations.MasksAndPointers := by
  intro c v n s k
  refine ⟨fun hzero => ?zero, fun hlo hhi => ?mask, fun hs => ⟨?step, fun j hj => ?others⟩⟩
  case zero => rw [Core.xm_wr_xm, Core.ym_wr_ym, hzero, maskOfWrite_zero]; exact ⟨rfl, rfl⟩
  case mask =>
    have hmask : (maskOfWrite (v.setWidth 17)).toNat = 2 ^ (n + 1) - 1 :=
      maskOfWrite_toNat (by rwa [BitVec.toNat_setWidth]) (by rwa [BitVec.toNat_setWidth])
    exact ⟨hmask, hmask, hmask, hmask⟩
  case step =>
    rw [c.addp_pointer k hs, Core.getPtr_setPtr_same, ptrStep_eq]
    rfl
  case others => rw [c.addp_pointer k hs, Core.getPtr_setPtr_ne _ _ hj]; rfl

theorem crcStep_eq (c : W32) (s n : Nat) : crcStep c s n = (elementBytes s n).foldl crc32cByte c := by
  rw [elementBytes_eq, funext₂ crc32cByte_eq]
  rfl

/-- Settles O44: the model's step folds the same bytes with the same polynomial. -/
theorem crcStepOfScrc : Obligations.CrcStepOfScrc := by
  refine ⟨crcStep_eq, ?_⟩
  rw [crcStep_eq]
  simp [elementBytes, crc32cByte, crc32cBit]

/-- Settles O45: each condition on each value of the four flags. -/
theorem branchConditions : Obligations.BranchConditions := by
  unfold Obligations.BranchConditions
  decide

end Sys2Proof.Claims
end

section
/-! A core's registers and status: what each operation on them leaves in every one (R513-R559), traps and returns (R545-R551), system
registers (R533, R591), and the windows of a context (R520). -/
namespace Sys2Proof.Machine

/-! ### Cores of the block -/

section
variable (b : Block) {i j : Nat}

@[simp] theorem Block.core_setCore_same (i : Nat) (c : Core) : (b.setCore i c).core i = c := smGet_smSet_same (coreReset i) b.cx.cores i c

theorem Block.core_setCore_ne (c : Core) (h : j ≠ i) : (b.setCore i c).core j = b.core j := by
  simp only [Block.core, smGet, Block.setCore, Block.onCx_cx, smFind_smSet_ne _ _ _ h]

@[simp] theorem Block.core_modCore_same (i : Nat) (f : Core → Core) : (b.modCore i f).core i = f (b.core i) := b.core_setCore_same i _

theorem Block.core_modCore_ne (f : Core → Core) (h : j ≠ i) : (b.modCore i f).core j = b.core j := b.core_setCore_ne _ h

@[simp] theorem Block.core_modCtx (k : Nat) (f : Ctx → Ctx) (i : Nat) : (b.modCtx k f).core i = b.core i := rfl
@[simp] theorem Block.modCtx_mem (k : Nat) (f : Ctx → Ctx) : (b.modCtx k f).mem = b.mem := rfl
@[simp] theorem Block.modCtx_usec (k : Nat) (f : Ctx → Ctx) : (b.modCtx k f).usec = b.usec := rfl
@[simp] theorem Block.setCore_mem (i : Nat) (c : Core) : (b.setCore i c).mem = b.mem := rfl
@[simp] theorem Block.modCore_mem (i : Nat) (f : Core → Core) : (b.modCore i f).mem = b.mem := rfl
@[simp] theorem Block.modCore_regs (i : Nat) (f : Core → Core) : (b.modCore i f).regs = b.regs := rfl
@[simp] theorem Block.modCore_usec (i : Nat) (f : Core → Core) : (b.modCore i f).usec = b.usec := rfl

end

/-! ### General registers and load delays (R536-R538) -/

section
variable (c : Core)

@[simp] theorem Core.getG_setG_same (n : Nat) (v : W64) : (c.setG n v).getG n = v := smGet_smSet_same 0 c.g n v
theorem Core.getG_setG_ne {n k : Nat} (v : W64) (h : k ≠ n) : (c.setG n v).getG k = c.getG k := smGet_smSet_ne 0 c.g n k v h

theorem Core.killLoads_nil (d : LDst) (h : c.loads = []) : c.killLoads d = c := by
  obtain ⟨⟩ := c
  subst h
  rfl

theorem ofNat_setWidth_64 (v : Nat) : (BitVec.ofNat 80 v).setWidth 64 = BitVec.ofNat 64 v := by
  apply BitVec.eq_of_toNat_eq
  rw [BitVec.toNat_setWidth, BitVec.toNat_ofNat, BitVec.toNat_ofNat, Nat.mod_mod_of_dvd v (by decide)]

theorem Core.wrG_eq (n v : Nat) : c.wrG n v = (c.killLoads (.g n)).setG n (BitVec.ofNat 64 v) :=
  congrArg ((c.killLoads (.g n)).setG n) (ofNat_setWidth_64 v)

@[simp] theorem Core.getG_killLoads (d : LDst) (n : Nat) : (c.killLoads d).getG n = c.getG n := rfl
@[simp] theorem Core.getG_oneSlot (n : Nat) : c.oneSlot.getG n = c.getG n := rfl
@[simp] theorem Core.getG_wrG_same (n v : Nat) : (c.wrG n v).getG n = BitVec.ofNat 64 v := by rw [Core.wrG_eq, Core.getG_setG_same]
theorem Core.getG_wrG_ne {n k : Nat} (v : Nat) (h : k ≠ n) : (c.wrG n v).getG k = c.getG k := by
  rw [Core.wrG_eq, Core.getG_setG_ne _ _ h, Core.getG_killLoads]
theorem Core.loads_wrG (n v : Nat) : (c.wrG n v).loads = (c.killLoads (.g n)).loads := rfl

/-- The core with one load of a general register pending, whose data has come, as in R536: `dead` once another instruction has written the
register (R538). -/
def Core.awaits (c : Core) (n v slots : Nat) (pc a : W64) (dead : Bool) : Core :=
  { c with loads := [⟨.g n, BitVec.ofNat 80 v, slots, true, pc, a, none, none, dead⟩] }

variable {n v slots : Nat} {pc a : W64} {dead : Bool}

@[simp] theorem Core.getG_awaits (k : Nat) : (c.awaits n v slots pc a dead).getG k = c.getG k := rfl

theorem Core.settle_awaits : (c.awaits n v (slots + 1) pc a dead).settle = c.awaits n v (slots + 1) pc a dead := rfl

theorem Core.oneSlot_awaits : (c.awaits n v (slots + 1) pc a dead).oneSlot = c.awaits n v slots pc a dead := rfl

/-- With no slot left the load writes its register. -/
theorem Core.settle_awaits_over :
    (c.awaits n v 0 pc a false).settle = { c.setG n (BitVec.ofNat 64 v) with loads := [] } := by
  rw [← ofNat_setWidth_64]
  rfl

theorem Core.settle_awaits_dead : (c.awaits n v 0 pc a true).settle = { c with loads := [] } := rfl

theorem Core.wrG_awaits (w : Nat) : (c.awaits n v slots pc a dead).wrG n w = (c.setG n (BitVec.ofNat 64 w)).awaits n v slots pc a true := by
  rw [Core.wrG_eq]
  simp only [Core.killLoads, Core.awaits, List.map_cons, List.map_nil, if_true]
  rfl

end

/-! ### The status word (R517) -/

/-- Trap entry keeps QE, sets TH and the handler's mode, and clears the rest. -/
def enteredSt (st : W32) (i : Nat) : W32 := (st &&& 0x20) ||| 0x10 ||| BitVec.ofNat 32 (handlerMode i)

theorem handlerMode_cases (i : Nat) : handlerMode i = 1 ∨ handlerMode i = 2 := by
  unfold handlerMode
  split
  · exact .inr rfl
  · exact .inl rfl

theorem fld_enteredSt (st : W32) (i : Nat) : fld (enteredSt st i) 0 1 = handlerMode i := by
  have hlow : (enteredSt st i).setWidth 2 = BitVec.ofNat 2 (handlerMode i) := by
    unfold enteredSt
    rcases handlerMode_cases i with h | h <;> rw [h] <;> simp
  have hmode : (BitVec.ofNat 2 (handlerMode i)).toNat = handlerMode i := by
    rcases handlerMode_cases i with h | h <;> rw [h] <;> rfl
  exact (congrArg BitVec.toNat hlow).trans hmode

theorem getLsbD_enteredSt (st : W32) (i : Nat) : (enteredSt st i).getLsbD 2 = false ∧ (enteredSt st i).getLsbD 4 = true ∧
    (enteredSt st i).getLsbD 5 = st.getLsbD 5 ∧ (enteredSt st i).getLsbD 6 = false := by
  unfold enteredSt
  rcases handlerMode_cases i with h | h <;> rw [h] <;> simp

/-- TST of a trap: the status with PL as the trap gives it (R548). -/
def savedSt (st : W32) (pl : Bool) : W32 := if pl then st ||| 8 else st &&& ~~~8

theorem savedSt_others (st : W32) (pl : Bool) : savedSt st pl &&& ~~~8 = st &&& ~~~8 := by
  cases pl
  · exact (BitVec.and_assoc ..).trans (by simp)
  · exact (BitVec.and_or_distrib_right ..).trans (by simp)

theorem savedSt_pl (st : W32) (pl : Bool) : (savedSt st pl).getLsbD 3 = pl := by
  cases pl <;> simp [savedSt]

/-- A return restores the bits of the status other than PL (R550). -/
theorem savedSt_restored (st : W32) (pl : Bool) : savedSt st pl &&& 0x77 = st &&& 0x77 := by
  cases pl
  · exact (BitVec.and_assoc ..).trans (by simp)
  · exact (BitVec.and_or_distrib_right ..).trans (by simp)

/-! ### Traps and returns (R548-R551) -/

section
variable (b : Block) {i : Nat} {t : TrapIn}

/-- A trap is entered where TH is 0, an interrupt in any case: the core as entry leaves it, and memory as it was. -/
theorem Block.trap_entered (h : (b.core i).th = false ∨ t.intr = true) :
    (b.trap i t).core i = (b.core i).entered i t (b.sliceLeft i) ∧ (b.trap i t).mem = b.mem := by
  have hno : ¬((b.core i).th && !t.intr) = true := by rcases h with h | h <;> simp [h]
  simp only [Block.trap, hno]
  cases (b.core i).onCtx with
  | none => exact ⟨b.core_setCore_same i _, rfl⟩
  | some k => exact ⟨b.core_setCore_same i _, rfl⟩

theorem Block.trap_double (hth : (b.core i).th = true) (hintr : t.intr = false) :
    b.trap i t = (b.coreRec i 0x180 .unitFatal t.code).modCore i (fun c => { c with stopped := true }) :=
  if_pos (by simp [hth, hintr])

theorem Block.core_rett (i : Nat) :
    (b.rett i).core i = { b.core i with pc := (b.core i).tpc, st := (b.core i).tst &&& 0x77, sliceAt := b.usec } ∧ (b.rett i).mem = b.mem := by
  rw [Block.rett]
  cases (b.core i).onCtx with
  | none => exact ⟨b.core_setCore_same i _, rfl⟩
  | some k =>
    dsimp only
    split <;> exact ⟨b.core_setCore_same i _, rfl⟩

end

/-! ### System registers (R533, R591) -/

/-- A write of a system register reaches one core, and there nothing but its system registers and its cache. -/
theorem Block.sysWrite_keeps (b : Block) (i k : Nat) (v : W64) :
    (∀ j, j ≠ i → (b.sysWrite i k v).core j = b.core j) ∧ ((b.sysWrite i k v).core i).g = (b.core i).g ∧
      (b.sysWrite i k v).mem = b.mem ∧ (b.sysWrite i k v).regs = b.regs := by
  refine ⟨fun j hj => b.core_modCore_ne _ hj, ?_, rfl, rfl⟩
  rw [Block.sysWrite, Block.core_modCore_same]
  split <;> rfl

theorem toNat_and_page (v : W64) : (v &&& ~~~0xFFF).toNat = v.toNat / 4096 * 4096 := by
  have hones : (0xFFF : W64) = (BitVec.allOnes 12).setWidth 64 := rfl
  have hshift : v &&& ~~~(0xFFF : W64) = (v >>> 12) <<< 12 := by
    rw [hones]
    ext k hk
    simp only [BitVec.getElem_and, BitVec.getElem_not, BitVec.getElem_setWidth, BitVec.getLsbD_allOnes, BitVec.getElem_shiftLeft,
      BitVec.getElem_ushiftRight]
    by_cases hlow : k < 12
    · simp [hlow]
    · have hback : 12 + (k - 12) = k := by omega
      simp [hlow, hback, hk]
  have hv := v.isLt
  have hpow : (2 : Nat) ^ 12 = 4096 := rfl
  rw [hshift, BitVec.toNat_shiftLeft, BitVec.toNat_ushiftRight, Nat.shiftLeft_eq, Nat.shiftRight_eq_div_pow, hpow]
  omega

theorem toNat_and_half (v : W64) : (v.setWidth 32 &&& 0xFFFF : W32).toNat = v.toNat % 2 ^ 16 := by
  have hlow : (0xFFFF : W32).toNat = 2 ^ 16 - 1 := rfl
  rw [BitVec.toNat_and, hlow, Nat.and_two_pow_sub_one_eq_mod, BitVec.toNat_setWidth, Nat.mod_mod_of_dvd _ (by decide)]

/-- QTIMER counts down from what was written to it (R535). -/
theorem Block.qtimer_sysWrite (b : Block) (i : Nat) (v : W64) :
    (b.sysWrite i 9 v).qtimer ((b.sysWrite i 9 v).core i) = v.toNat % 2 ^ 32 := by
  have hw : (v.setWidth 32).toNat = v.toNat % 2 ^ 32 := BitVec.toNat_setWidth ..
  have hcore : ((b.sysWrite i 9 v).core i).qdue = if v.setWidth 32 = (0 : W32) then none else some (b.usec + (v.setWidth 32).toNat) :=
    congrArg Core.qdue (b.core_modCore_same i _)
  have husec : (b.sysWrite i 9 v).usec = b.usec := rfl
  rw [Block.qtimer, hcore, husec, ← hw]
  by_cases hzero : v.setWidth 32 = (0 : W32)
  · rw [if_pos hzero, hzero]; rfl
  · rw [if_neg hzero]; exact Nat.add_sub_cancel_left ..

/-! ### Windows (R520) -/

/-- The lowest-numbered window that matches counts. -/
theorem find?_of_first {α : Type} {p : α → Bool} {ws : List α} {n : Nat} {w : α} (hn : ws[n]? = some w) (hw : p w = true)
    (hfirst : ∀ m w', m < n → ws[m]? = some w' → p w' = false) : ws.find? p = some w := by
  obtain ⟨hlt, rfl⟩ := List.getElem?_eq_some_iff.mp hn
  refine List.find?_eq_some_iff_getElem.mpr ⟨hw, n, hlt, rfl, fun m hm => ?_⟩
  rw [hfirst m ws[m] hm (List.getElem?_eq_getElem (hm.trans hlt))]
  rfl

theorem translate_of_first {ws : List Win} {n p : Nat} {w : Win} (k : Acc) (hn : ws[n]? = some w) (hw : Claims.winMatches w p)
    (hfirst : ∀ m w', m < n → ws[m]? = some w' → ¬Claims.winMatches w' p) :
    translate ws p k = if w.allows k then .ok (w.fbase + (p - w.pbase)) else .perm := by
  have hfind : ws.find? (fun w => w.size != 0 && decide (w.pbase ≤ p ∧ p < w.pbase + 2 ^ w.size)) = some w :=
    find?_of_first hn (by simpa using hw) (fun m w' hm hw' => by simpa using hfirst m w' hm hw')
  rw [translate, hfind]

theorem translate_of_none {ws : List Win} {p : Nat} (k : Acc) (h : ∀ w ∈ ws, ¬Claims.winMatches w p) : translate ws p k = .none := by
  have hfind : ws.find? (fun w => w.size != 0 && decide (w.pbase ≤ p ∧ p < w.pbase + 2 ^ w.size)) = none :=
    List.find?_eq_none.mpr (fun w hw => by simpa using h w hw)
  rw [translate, hfind]

/-- A byte of far space in User mode, by what its translation gives. -/
theorem Block.operand_far_byte (b : Block) (i : Nat) (pc p : W64) (k : Acc) (huser : (b.core i).user = true) : b.operand i pc 2 p 1 [k] =
    match translate (b.core i).wins p.toNat k with
    | .ok f => .ok f
    | .none => .error (winFault pc p k 2 false, b)
    | .perm => .error (winFault pc p k 2 true, b) := by
  have haligned : ¬p.toNat % 1 ≠ 0 := by omega
  have hspace : (b.core i).spaceAt i 2 p k = translate (b.core i).wins p.toNat k := if_pos huser
  rw [Block.operand]
  refine (if_neg haligned).trans ?_
  cases htr : translate (b.core i).wins p.toNat k <;> simp [hspace, htr]

/-! ### The boundary after an instruction (R539, R578, R579) -/

theorem Core.checkWatch_quiet {c : Core} (hacc : c.acc = []) (hwatch : c.watch = none) : c.checkWatch = c := by
  obtain ⟨⟩ := c
  subst hacc hwatch
  rfl

theorem Core.settle_nil {c : Core} (h : c.loads = []) : c.settle = c := by
  obtain ⟨⟩ := c
  subst h
  rfl

/-- Where no halt waits, a boundary changes nothing. -/
theorem Block.boundary_quiet {b : Block} {i : Nat} (h : (b.core i).haltReq = none) : b.boundary i = b := by
  have htry : b.tryHalt i = b := by rw [Block.tryHalt, h]
  rw [Block.boundary, htry]
  exact if_neg (by cases (b.core i).halted.isSome <;> decide)

theorem Block.insEnd_untraced (b : Block) (i : Nat) (pc : W64) :
    b.insEnd i pc false = ((b.modCore i (fun c => { c with iters := 0 })).modCore i Core.settle).boundary i := rfl

/-- Of the block, at most the table of cores has changed. -/
def CoresAlone (b z : Block) : Prop := z = { b with cx := { b.cx with cores := z.cx.cores } }

theorem CoresAlone.modCore (b : Block) (i : Nat) (f : Core → Core) : CoresAlone b (b.modCore i f) := rfl

theorem CoresAlone.trans {b y z : Block} (hy : CoresAlone b y) (hz : CoresAlone y z) : CoresAlone b z :=
  Eq.trans hz (congrArg (fun x : Block => { x with cx := { x.cx with cores := z.cx.cores } }) hy)

/-- The boundary after an instruction of a core without loads, errors, watchpoints and halts that wait. -/
theorem Block.completes_quiet {b1 b2 : Block} {i : Nat} (hts : (b1.core i).ts = false) (hloads : (b2.core i).loads = [])
    (hwatch : (b2.core i).watch = none) (hacc : (b2.core i).acc = []) (hhalt : (b2.core i).haltReq = none) :
    Claims.completes b1 i b2 =
      ((b2.modCore i Core.checkWatch).modCore i (fun c => { c with iters := 0 })).modCore i Core.settle ∧
    (Claims.completes b1 i b2).core i = { b2.core i with iters := 0 } := by
  have hcore : (((b2.modCore i Core.checkWatch).modCore i (fun c => { c with iters := 0 })).modCore i Core.settle).core i =
      { b2.core i with iters := 0 } := by
    rw [Block.core_modCore_same, Block.core_modCore_same, Block.core_modCore_same, Core.checkWatch_quiet hacc hwatch]
    exact Core.settle_nil hloads
  have heq : Claims.completes b1 i b2 =
      ((b2.modCore i Core.checkWatch).modCore i (fun c => { c with iters := 0 })).modCore i Core.settle := by
    rw [Claims.completes, hts, Block.insEnd_untraced]
    exact Block.boundary_quiet (by rw [hcore]; exact hhalt)
  exact ⟨heq, heq ▸ hcore⟩

/-- A result changes its destination register and fl alone. -/
theorem Core.result_frame {c : Core} (a : Nat) (r : Option Nat) (f : Option (BitVec 4)) (h : c.loads = []) :
    c.result a r f = { c with g := (r.elim c (fun v => c.setG a (BitVec.ofNat 64 v))).g, fl := f.getD c.fl } := by
  have hwrite (v : Nat) : c.wrG a v = c.setG a (BitVec.ofNat 64 v) := by rw [Core.wrG_eq, Core.killLoads_nil c _ h]
  cases r with
  | none => cases f <;> rfl
  | some v =>
    simp only [Core.result, hwrite]
    cases f <;> rfl

end Sys2Proof.Machine

namespace Sys2Proof.Claims
open Sys2Proof.Machine

/-- Settles O46: a load's delay has two slots, and another write of its register kills it. -/
theorem loadDelaySlots : Obligations.LoadDelaySlots := by
  intro c n v w pc a hnone l c1 c2 c3
  have hl : l c = c.awaits n v 2 pc a false := by
    simp only [l, Core.killLoads_nil c _ hnone, hnone]
    rfl
  have h1 : c1 = c.awaits n v 2 pc a false := by rw [← Core.settle_awaits, ← hl]
  have h2 : c2 = c.awaits n v 1 pc a false := by rw [← Core.settle_awaits, ← Core.oneSlot_awaits, ← h1]
  have h3 : c3 = { c.setG n (BitVec.ofNat 64 v) with loads := [] } := by rw [← Core.settle_awaits_over, ← Core.oneSlot_awaits, ← h2]
  refine ⟨by rw [h1, Core.getG_awaits], by rw [h2, Core.getG_awaits], ?_, by rw [h3], fun k hk => ?_, ?_, ?_⟩
  · rw [h3]
    exact c.getG_setG_same n _
  · rw [h3]
    exact c.getG_setG_ne _ hk
  · rw [h1, Core.wrG_awaits, Core.oneSlot_awaits, Core.settle_awaits, Core.oneSlot_awaits, Core.settle_awaits_dead]
    exact c.getG_setG_same n _
  · rw [h2, Core.wrG_awaits, Core.oneSlot_awaits, Core.settle_awaits_dead]
    exact c.getG_setG_same n _

/-- Settles O47: a trap is entered as `Core.entered` gives, and a second synchronous one stops the core. -/
theorem trapEntry : Obligations.TrapEntry := by
  intro b i t c d
  refine ⟨fun h => ?_, fun hth hintr => b.trap_double hth hintr⟩
  obtain ⟨hcore, hmem⟩ := b.trap_entered h
  obtain ⟨hie, hth, hqe, hts⟩ := getLsbD_enteredSt c.st i
  have hd : d = c.entered i t (b.sliceLeft i) := hcore
  have hpc : BitVec.ofNat 64 (if t.intr then 0x400 else t.code * 0x40) = if t.intr then 0x400 else BitVec.ofNat 64 (t.code * 0x40) := by
    split <;> rfl
  rw [hd]
  exact ⟨congrArg (c.tvec + ·) hpc, rfl, rfl, rfl, rfl, savedSt_others c.st t.pl, savedSt_pl c.st t.pl, fld_enteredSt c.st i, hie, hth, hts,
    hqe, rfl, rfl, rfl, rfl, rfl, rfl, rfl, rfl, rfl, rfl, rfl, hmem⟩

/-- Settles O48: RETT stores pc and the status from TPC and TST, where a trap has put them. -/
theorem returnFromTrap : Obligations.ReturnFromTrap := by
  intro b i t c d r
  obtain ⟨hd, hmem⟩ := b.core_rett i
  have hd : d = _ := hd
  rw [hd]
  refine ⟨rfl, rfl, rfl, rfl, rfl, rfl, rfl, hmem, fun h => ?_⟩
  have hr : r = _ := ((b.trap i t).core_rett i).1
  rw [hr, (b.trap_entered h).1]
  exact ⟨rfl, savedSt_restored c.st t.pl, rfl, rfl, rfl, rfl, rfl⟩

/-- Settles O49: each register by its row of the tables of MTS and MFS. -/
theorem systemRegisters : Obligations.SystemRegisters := by
  intro b i k v y
  refine ⟨?tvec, ?words, ?tst, ?tcause, ?qtimer, ?readOnly, ?coreId, ?icinv, ?st, b.sysWrite_keeps i k v⟩
  case tvec =>
    rintro rfl
    have hcore : (y.core i).tvec = v &&& ~~~0xFFF := congrArg Core.tvec (b.core_modCore_same i _)
    exact (congrArg BitVec.toNat hcore).trans (toNat_and_page v)
  case words =>
    rintro (rfl | rfl | rfl | rfl | rfl)
    · exact congrArg (fun c : Core => c.tpc.toNat) (b.core_modCore_same i _)
    · exact congrArg (fun c : Core => c.taddr.toNat) (b.core_modCore_same i _)
    · exact congrArg (fun c : Core => c.tinfo.toNat) (b.core_modCore_same i _)
    · exact congrArg (fun c : Core => c.scratch.1.toNat) (b.core_modCore_same i _)
    · exact congrArg (fun c : Core => c.scratch.2.toNat) (b.core_modCore_same i _)
  case tst =>
    rintro rfl
    exact (congrArg (fun c : Core => c.tst.toNat) (b.core_modCore_same i _)).trans (BitVec.toNat_setWidth ..)
  case tcause =>
    rintro rfl
    exact (congrArg (fun c : Core => c.tcause.toNat) (b.core_modCore_same i _)).trans (toNat_and_half v)
  case qtimer =>
    rintro rfl
    exact b.qtimer_sysWrite i v
  case readOnly => rintro (rfl | rfl | rfl) <;> exact b.core_modCore_same i _
  case coreId =>
    rintro rfl
    rfl
  case icinv =>
    rintro rfl
    exact ⟨congrArg Core.icache (b.core_modCore_same i _), rfl⟩
  case st =>
    rintro rfl
    exact congrArg Core.st (b.core_modCore_same i _)

/-- Settles O60: an access follows the translation of its address, and the first window that matches decides it. -/
theorem windowTranslation : Obligations.WindowTranslation := by
  intro b i n pc p k w c fault huser
  refine ⟨fun hn hw hfirst => ⟨fun hallows => ?_, fun hallows => ?_⟩, fun hnone => ?_, rfl, rfl, rfl⟩
  · rw [b.operand_far_byte i pc p k huser, translate_of_first k hn hw hfirst, hallows]
    rfl
  · rw [b.operand_far_byte i pc p k huser, translate_of_first k hn hw hfirst, hallows]
    rfl
  · rw [b.operand_far_byte i pc p k huser, translate_of_none k hnone]
    rfl

/-- Settles O50: a result is a write of one register and of fl, and a quiet boundary changes the core's iteration count alone. -/
theorem instructionFrame : Obligations.InstructionFrame := by
  refine ⟨?result, ?boundary⟩
  case result =>
    intro c a r f hloads d
    have hd : d = _ := Core.result_frame a r f hloads
    rw [hd]
    refine ⟨fun n hn => ?_, ?_, ?_, rfl, rfl⟩
    · cases r with
      | none => rfl
      | some v => exact c.getG_setG_ne _ hn
    · rintro rfl
      rfl
    · rintro v rfl
      exact c.getG_setG_same a _
  case boundary =>
    intro b1 b2 i c hts hloads _ hwatch hacc hhalt z
    obtain ⟨hz, hcore⟩ := Block.completes_quiet (b1 := b1) hts hloads hwatch hacc hhalt
    have hz : z = _ := hz
    refine ⟨hcore, fun j hj => ?_, hz ▸ ((CoresAlone.modCore ..).trans (.modCore ..)).trans (.modCore ..)⟩
    rw [hz, Block.core_modCore_ne _ _ hj, Block.core_modCore_ne _ _ hj, Block.core_modCore_ne _ _ hj]

end Sys2Proof.Claims
end

section
/-! One instruction of an Eowift core: how it starts, what its checks refuse, and where its effect goes (R545-R547, R563, R568-R570). -/
namespace Sys2Proof.Machine

variable {b b1 b2 : Block} {i : Nat} {op : EwOp} {e : Enc}

/-! ### Starting -/

/-- What an instruction does once its bytes have been checked: its effect, or the trap that the check found. -/
def Block.checked (b0 : Block) (i : Nat) (op : EwOp) (e : Enc) : EwM Block → Block
  | .error x => x.2.insTrap i (b0.core i) x.1
  | .ok y => y.insRun i op e

theorem Block.checked_eq (b0 : Block) (r : EwM Block) : b0.checked i op e r =
    match r with
    | .error (t, y) => y.insTrap i (b0.core i) t
    | .ok y => y.insRun i op e := by
  cases r <;> rfl

/-- An instruction that starts meets its checks on the core as the boundary leaves it. -/
theorem Block.ew_starts (op : EwOp) (h : Claims.starts b i e) : b.ew i op e =
    (b.setCore i (Claims.atBoundary (b.core i) e)).checked i op e ((b.setCore i (Claims.atBoundary (b.core i) e)).insCheck i op e) := by
  obtain ⟨hlive, hwfi, hpfx, hlate, hwatch, hbp⟩ := h
  have hgoes : ¬(!b.coreLive i || (b.core i).wfi || !pfxBytes e) = true := by simp [hlive, hwfi, hpfx]
  have hhit : ¬(if b.mayHalt i = true then (b.core i).bpHit else none).isSome = true := by
    split
    · rw [hbp ‹_›]; decide
    · decide
  have hquiet : ¬((if repOf e.pre = .none then b.core i else (b.core i).endDelay).stall.watch).isSome = true := by
    split <;> simp [Core.stall, Core.endDelay, hwatch]
  rw [Block.ew]
  refine (if_neg hgoes).trans ?_
  dsimp only
  rw [hlate]
  exact (if_neg hquiet).trans ((if_neg hhit).trans (Block.checked_eq _ _).symm)

/-! ### The checks of the bytes -/

/-- The trap of bytes that are no legal instruction. -/
abbrev illTrap (c : Core) (code : Nat) : TrapIn := { code := code, tpc := c.pc, taddr := c.pc }

section
variable (hfetch : b.fetchIns i (min 15 (ewLen op e)) e.par = .ok b1)
include hfetch

theorem Block.insCheck_long (hlen : 15 < ewLen op e) : b.insCheck i op e = .error (illTrap (b.core i) 3, b1) := by
  rw [Block.insCheck, hfetch]
  exact if_pos hlen

variable (hlen : ewLen op e ≤ 15)
include hlen

theorem Block.insCheck_illegal (hill : fieldsLegal op e = false ∨ ((b.core i).user = true ∧ privileged op = true) ∨
    (coreKind i = .s ∧ absentOnS op e = true) ∨ (op = .rett ∧ rettLegal i (b.core i).tst = false)) :
    b.insCheck i op e = .error (illTrap (b.core i) 1, b1) := by
  rw [Block.insCheck, hfetch]
  refine (if_neg (Nat.not_lt.mpr hlen)).trans (if_pos ?_)
  rcases hill with h | ⟨h, h'⟩ | ⟨h, h'⟩ | ⟨h, h'⟩
  · simp [h]
  all_goals simp [h, h']

variable (hfields : fieldsLegal op e = true) (huser : (b.core i).user = true → privileged op = false)
  (hs : coreKind i = .s → absentOnS op e = false) (hrett : op = .rett → rettLegal i (b.core i).tst = true)
include hfields huser hs hrett

theorem Block.insCheck_legal : b.insCheck i op e = if !pfxLegal op e then .error (illTrap (b.core i) 2, b1) else .ok b1 := by
  have hlegal : ¬(!fieldsLegal op e || ((b.core i).user && privileged op) || (coreKind i == .s && absentOnS op e) ||
      (op == .rett && !rettLegal i (b.core i).tst)) = true := by
    simp only [hfields, Bool.not_true, Bool.false_or, Bool.or_eq_true, Bool.and_eq_true, beq_iff_eq, Bool.not_eq_true']
    rintro ((⟨h, h'⟩ | ⟨h, h'⟩) | ⟨h, h'⟩)
    · rw [huser h] at h'; cases h'
    · rw [hs h] at h'; cases h'
    · rw [hrett h] at h'; cases h'
  rw [Block.insCheck, hfetch]
  exact (if_neg (Nat.not_lt.mpr hlen)).trans (if_neg hlegal)

end

/-! ### The effect -/

/-- What an instruction without a repeat ends in, by what its effect is. -/
def Block.effected (b1 : Block) (i : Nat) : EwM EwDone → Block
  | .error (t, y) => Claims.trapped b1 i t y
  | .ok (y, some t) => (y.modCore i (fun c => { c with iters := 0 })).takeTrap i t (Claims.pcOf b1 i)
  | .ok (y, none) => Claims.completes b1 i y

theorem Block.insRun_plain (h : (repeatable op && repOf e.pre != .none) = false) : b1.insRun i op e =
    b1.effected i ((Claims.running b1 i op e).insDo i (Claims.pcOf b1 i) (Claims.nextOf b1 i op e) op e) := by
  have hrun : b1.modCore i (fun c => { c.oneSlot with pc := Claims.nextOf b1 i op e }) = Claims.running b1 i op e := rfl
  rw [Block.insRun]
  refine (if_neg (Bool.eq_false_iff.mp h)).trans ?_
  rw [← hrun]
  unfold Claims.nextOf Claims.pcOf
  generalize Block.insDo _ _ _ _ _ _ = r
  obtain ⟨t, y⟩ | ⟨y, _ | t⟩ := r <;> rfl

section
variable {x : Block} {pc next : W64}

theorem Block.insDo_alu {o : AluOp} {r : Option Nat} {f : Option (BitVec 4)}
    (hres : aluRes o (widthOf e.pre) ((x.core i).getG (encA e)).toNat ((x.core i).getG (encB e)).toNat (x.core i).fl = some (r, f)) :
    x.insDo i pc next (.alu o) e = .ok (x.modCore i (fun c => c.result (encA e) r f), none) := by
  simp only [Block.insDo, hres]
  rfl

/-- A division by zero has no result, and every other register-register instruction has one (R582). -/
theorem aluRes_eq_none_iff (o : AluOp) (w a d : Nat) (f : BitVec 4) :
    aluRes o w a d f = none ↔ (o = .div ∨ o = .divu ∨ o = .rem ∨ o = .remu) ∧ d % 2 ^ w = 0 := by
  by_cases hd : d % 2 ^ w = 0 <;> cases o <;> simp [aluRes, lowBits, hd]

theorem Block.insDo_byZero {o : AluOp} (ho : o = .div ∨ o = .divu ∨ o = .rem ∨ o = .remu)
    (hzero : ((x.core i).getG (encB e)).toNat % 2 ^ widthOf e.pre = 0) :
    x.insDo i pc next (.alu o) e = .error ({ code := 8, tpc := pc, taddr := pc }, x) := by
  simp only [Block.insDo, (aluRes_eq_none_iff ..).mpr ⟨ho, hzero⟩]

/-! ### Accesses of memory -/

variable {y z : Block} {sp n f v : Nat} {a : W64} {errs : List CodeErr}

theorem Block.readNow_ok (hf : x.operand i pc sp a n [.rd] = .ok f) (hv : x.readAt i sp a f n errs = (v, none, y)) :
    x.readNow i pc sp a n errs = .ok (v, y) := by
  simp only [Block.readNow, hf, hv, bind, Except.bind]

theorem Block.writeNow_ok (hf : x.operand i pc sp a n [.wr] = .ok f) (hy : x.writeAt i pc sp a f n v errs = .ok y) :
    x.writeNow i pc sp a n v errs = .ok y := by
  simp only [Block.writeNow, hf, hy, bind, Except.bind]

/-! ### Control transfer (R574-R577, R586) -/

theorem Block.insDo_rett (h : rettLegal i (x.core i).tst = true) : x.insDo i pc next .rett e = .ok (x.rett i, none) := if_pos h

/-- What WFI waits for has come (R586). -/
def Block.wfiDue (x : Block) (i : Nat) : Bool :=
  (x.core i).quantum || x.dispDue i || (coreKind i == .s && x.cx.sIrq) || (coreKind i == .k && !x.cx.kInts.isEmpty)

theorem Block.insDo_wfi_due (h : x.wfiDue i = true) : x.insDo i pc next .wfi e = .ok (x, none) := if_pos h

theorem Block.insDo_wfi_waits (h : x.wfiDue i = false) :
    x.insDo i pc next .wfi e = .ok (x.modCore i (fun c => { c.arriveAll with wfi := true, pc := pc }), none) :=
  if_neg (Bool.eq_false_iff.mp h)

section
variable {k : Nat} {long : Bool}

theorem Block.insDo_bcc_taken (h : condHolds k (x.core i).fl = true) : x.insDo i pc next (.bcc k long) e =
    .ok (x.modCore i (fun c => { c with pc := next + BitVec.ofNat 64 (immSext (.bcc k long) e 64) }), none) := if_pos h

theorem Block.insDo_bcc_not (h : condHolds k (x.core i).fl = false) : x.insDo i pc next (.bcc k long) e = .ok (x, none) :=
  if_neg (Bool.eq_false_iff.mp h)

end

theorem Block.insDo_ret (hf : x.operand i pc (Claims.stackOf e) ((x.core i).getG 15) 8 [.rd] = .ok f)
    (hv : x.readAt i (Claims.stackOf e) ((x.core i).getG 15) f 8 e.errs = (v, none, y)) : x.insDo i pc next .ret e =
    .ok (y.modCore i (fun c => { c.wrG 15 ((x.core i).getG 15 + 8).toNat with pc := BitVec.ofNat 64 v }), none) :=
  congrArg (fun r : EwM (Nat × Block) => r >>= fun p =>
    p.2.coreDone i (fun c => { c.wrG 15 ((x.core i).getG 15 + 8).toNat with pc := BitVec.ofNat 64 p.1 })) (Block.readNow_ok hf hv)

/-- A call pushes the return address and jumps. -/
theorem Block.callTo_ok {dest : W64} (hf : x.operand i pc (Claims.stackOf e) ((x.core i).getG 15 - 8) 8 [.wr] = .ok f)
    (hy : x.writeAt i pc (Claims.stackOf e) ((x.core i).getG 15 - 8) f 8 next.toNat e.errs = .ok y) : x.callTo i pc next dest e =
    .ok (y.modCore i (fun c => { c.wrG 15 ((x.core i).getG 15 - 8).toNat with pc := dest }), none) :=
  congrArg (fun r : EwM Block => r >>= fun b =>
    b.coreDone i (fun c => { c.wrG 15 ((x.core i).getG 15 - 8).toNat with pc := dest })) (Block.writeNow_ok hf hy)

end

/-! ### Repeats (R601-R607) -/

section
variable (hrep : repeatable op = true) (hpre : repOf e.pre ≠ .none)
include hrep hpre

/-- Where a repeat has ended, the instruction completes with pc at the next one. -/
theorem Block.insRun_repeat_ended {y : Block} (h : b1.repDo i (Claims.pcOf b1 i) (Claims.nextOf b1 i op e) op e = .ok (true, y)) :
    b1.insRun i op e = y.insEnd i (Claims.pcOf b1 i) (b1.core i).ts := by
  unfold Claims.pcOf Claims.nextOf at h
  rw [Block.insRun]
  refine (if_pos (by simp [hrep, hpre])).trans ?_
  rw [h]
  rfl

/-- Where it has not, the core stands at a boundary between two iterations. -/
theorem Block.insRun_repeat_open {y : Block} (h : b1.repDo i (Claims.pcOf b1 i) (Claims.nextOf b1 i op e) op e = .ok (false, y)) :
    b1.insRun i op e = y.boundary i := by
  unfold Claims.pcOf Claims.nextOf at h
  rw [Block.insRun]
  refine (if_pos (by simp [hrep, hpre])).trans ?_
  rw [h]

end

theorem Block.repDo_zero {pc next : W64} (h : (b.core i).ct = 0) :
    b.repDo i pc next op e = .ok (true, b.modCore i (fun c => { c with pc := next })) := by
  have hct : (b.core i).ct.toNat = 0 := by rw [h]; rfl
  rw [Block.repDo]
  exact if_pos hct

theorem Block.repDo_loop {pc next : W64} {ended : Bool} {y : Block} (hct : (b.core i).ct ≠ 0) (hcut : e.cut = none)
    (hloop : Block.repLoop i pc op e (b.core i).ct.toNat b = .ok (ended, y)) :
    b.repDo i pc next op e = .ok (ended, if ended then y.modCore i (fun c => { c with pc := next }) else y) := by
  have hct : ¬(b.core i).ct.toNat = 0 := fun h => hct (BitVec.eq_of_toNat_eq h)
  rw [Block.repDo]
  refine (if_neg hct).trans ?_
  rw [hcut]
  dsimp only
  rw [hloop]

end Sys2Proof.Machine

namespace Sys2Proof.Claims
open Sys2Proof.Machine

variable {c : Instr} {q : List Instr} {b b1 : Block} {core : BitVec 7} {op : EwOp} {e : Enc}

theorem exec_of_ewOf (h : ewOf c = some (core, op, e)) (s : State) : exec c s = s.onCore core (fun b => b.ew core.toNat op e) := by
  cases c with
  | ewIcinv core' e' =>
    simp only [ewOf, Option.ite_none_right_eq_some, Option.some.injEq, Prod.mk.injEq] at h
    obtain ⟨hreg, rfl, rfl, rfl⟩ := h
    exact congrArg (s.onCore core') (funext fun b => if_pos hreg)
  | ewBxfrLoad core' e' =>
    simp only [ewOf, Option.ite_none_left_eq_some, Option.some.injEq, Prod.mk.injEq] at h
    obtain ⟨hdir, rfl, rfl, rfl⟩ := h
    exact congrArg (s.onCore core') (funext fun b => if_neg hdir)
  | ewBxfrStore core' e' =>
    simp only [ewOf, Option.ite_none_left_eq_some, Option.some.injEq, Prod.mk.injEq] at h
    obtain ⟨hdir, rfl, rfl, rfl⟩ := h
    exact congrArg (s.onCore core') (funext fun b => if_neg hdir)
  | _ => cases h <;> rfl

/-- A command to a core whose supply is up answers what the core makes of its instruction. -/
theorem answers_ew {b' : Block} (hpower : powered b core) (hop : ewOf c = some (core, op, e)) (hew : b.ew core.toNat op e = b') :
    Answers c q b b' := by
  rw [Answers, exec_of_ewOf hop, State.onCore, ← hew]
  unfold powered at hpower
  split
  case isTrue h => exact State.runAon_on ⟨q, b⟩ _ (by rwa [if_pos h] at hpower)
  case isFalse h => exact State.run_lit ⟨q, b⟩ _ (by rwa [if_neg h] at hpower)

theorem issues.insCheck {i : Nat} (h : issues b i op e b1) : (b.setCore i (atBoundary (b.core i) e)).insCheck i op e = .ok b1 := by
  obtain ⟨_, hfetch, hlen, hfields, huser, hs, hrett, hpfx⟩ := h
  rw [Block.insCheck_legal hfetch hlen hfields huser hs hrett, hpfx]
  rfl

/-- An instruction that issues answers what it makes of the block its fetch left. -/
theorem answers_issued {b' : Block} (hpower : powered b core) (hop : ewOf c = some (core, op, e)) (h : issues b core.toNat op e b1)
    (hrun : b1.insRun core.toNat op e = b') : Answers c q b b' := by
  refine answers_ew hpower hop ?_
  rw [Block.ew_starts op h.1, h.insCheck]
  exact hrun

section
variable (hpower : powered b core) (hop : ewOf c = some (core, op, e)) (h : issues b core.toNat op e b1)
  (hplain : (repeatable op && repOf e.pre != .none) = false) {t : TrapIn} {y : Block}
include hpower hop h hplain

/-- An instruction without a repeat answers what its effect ends in: its completion, -/
theorem answers_done (hdo : (running b1 core.toNat op e).insDo core.toNat (pcOf b1 core.toNat) (nextOf b1 core.toNat op e) op e = .ok (y, none)) :
    Answers c q b (completes b1 core.toNat y) :=
  answers_issued hpower hop h (by rw [Block.insRun_plain hplain, hdo]; rfl)

/-- a trap that is its effect, -/
theorem answers_trapEffect
    (hdo : (running b1 core.toNat op e).insDo core.toNat (pcOf b1 core.toNat) (nextOf b1 core.toNat op e) op e = .ok (y, some t)) :
    Answers c q b ((y.modCore core.toNat (fun c => { c with iters := 0 })).takeTrap core.toNat t (pcOf b1 core.toNat)) :=
  answers_issued hpower hop h (by rw [Block.insRun_plain hplain, hdo]; rfl)

/-- or a trap before it has any. -/
theorem answers_trapped
    (hdo : (running b1 core.toNat op e).insDo core.toNat (pcOf b1 core.toNat) (nextOf b1 core.toNat op e) op e = .error (t, y)) :
    Answers c q b (trapped b1 core.toNat t y) :=
  answers_issued hpower hop h (by rw [Block.insRun_plain hplain, hdo]; rfl)

end

/-- Settles O28: the first check that fails gives the trap. -/
theorem illegalInstructionsTrap : Obligations.IllegalInstructionsTrap := by
  intro q b b1 c core op e esc i b0 ill hpower hstarts
  have hchecked {c : Instr} {op : EwOp} {t : TrapIn} (hop : ewOf c = some (core, op, e)) (hcheck : b0.insCheck i op e = .error (t, b1)) :
      Answers c q b (b1.insTrap i (b0.core i) t) := by
    refine answers_ew hpower hop ?_
    rw [Block.ew_starts op hstarts, hcheck]
    rfl
  refine ⟨fun hop hfetch => ⟨fun hlen => ?_, fun hlen hill => ?_, fun hlen hfields huser hs hrett hpfx => ?_⟩, fun hfetch hlen => ?_⟩
  · exact hchecked hop (Block.insCheck_long hfetch hlen)
  · exact hchecked hop (Block.insCheck_illegal hfetch hlen hill)
  · exact hchecked hop (by rw [Block.insCheck_legal hfetch hlen hfields huser hs hrett, hpfx]; rfl)
  · exact hchecked rfl (Block.insCheck_illegal hfetch hlen (.inl rfl))

/-- Settles O29: the effect of each instruction is its result and flags. -/
theorem arithmeticInstructions : Obligations.ArithmeticInstructions := by
  intro q b b1 c core e o m r f i hpower
  refine ⟨fun hop h => ⟨fun hres => ?result, fun ho hzero => ?byZero, fun hsome => ?total⟩, fun hop h => ?immediate⟩
  case result => exact answers_done hpower hop h rfl (Block.insDo_alu hres)
  case byZero => exact answers_trapped hpower hop h rfl (Block.insDo_byZero ho hzero)
  case total =>
    rw [Option.isSome_iff_ne_none, ne_eq, aluRes_eq_none_iff]
    rintro ⟨ho, hzero⟩
    rcases hsome with ⟨hdiv, hdivu, hrem, hremu⟩ | hnonzero
    · exact ho.elim hdiv (·.elim hdivu (·.elim hrem hremu))
    · exact hnonzero hzero
  case immediate => exact answers_done hpower hop h rfl rfl

/-- Settles O30: the effect of each instruction under the condition that names it. -/
theorem controlInstructions : Obligations.ControlInstructions := by
  intro q b b1 y c core e op long k f v i x rel sp hpower hop h
  refine ⟨?nop, ?fence, ?rett, ?wfi, ?brk, ?syscall, ?jmp, ?jmpr, ?bcc, ?ret, ?calls⟩
  case nop => rintro rfl; exact answers_done hpower hop h rfl rfl
  case fence => rintro rfl; exact answers_done hpower hop h rfl rfl
  case rett => rintro rfl hlegal; exact answers_done hpower hop h rfl (Block.insDo_rett hlegal)
  case wfi =>
    rintro rfl
    exact ⟨fun hdue => answers_done hpower hop h rfl (Block.insDo_wfi_due hdue),
      fun hdue => answers_done hpower hop h rfl (Block.insDo_wfi_waits hdue)⟩
  case brk => rintro rfl; exact answers_trapEffect hpower hop h rfl rfl
  case syscall => rintro rfl; exact answers_trapEffect hpower hop h rfl rfl
  case jmp => rintro rfl; exact answers_done hpower hop h rfl rfl
  case jmpr => rintro rfl; exact answers_done hpower hop h rfl rfl
  case bcc =>
    rintro rfl
    exact ⟨fun hcond => answers_done hpower hop h rfl (Block.insDo_bcc_taken hcond),
      fun hcond => answers_done hpower hop h rfl (Block.insDo_bcc_not hcond)⟩
  case ret => rintro hf hv rfl; exact answers_done hpower hop h rfl (Block.insDo_ret hf hv)
  case calls =>
    intro hf hy
    exact ⟨by rintro rfl; exact answers_done hpower hop h rfl (Block.callTo_ok hf hy),
      by rintro rfl; exact answers_done hpower hop h rfl (Block.callTo_ok hf hy)⟩

/-- Settles O32: the effect of each instruction is a change of the core's registers. -/
theorem registerMoveInstructions : Obligations.RegisterMoveInstructions := by
  intro q b b1 c core e op o i x gb n hpower hop h
  refine ⟨?get, ?put, ?addp, ?acc, ?mfs, ?mts, ?icinv⟩
  case get => rintro rfl; exact answers_done hpower hop h rfl rfl
  case put =>
    rintro rfl
    exact ⟨fun ha => answers_done hpower hop h rfl (if_pos ha), fun ha => answers_done hpower hop h rfl (if_neg ha)⟩
  case addp => rintro rfl; exact answers_done hpower hop h rfl rfl
  case acc => rintro rfl; exact answers_done hpower hop h rfl rfl
  case mfs => rintro rfl; exact answers_done hpower hop h rfl rfl
  case mts => rintro rfl; exact answers_done hpower hop h rfl rfl
  case icinv =>
    rintro rfl hn
    have hcmd : ewOf (.ewIcinv core e) = some (core, .mts, e) := if_pos hn
    have hreg : immRaw .mts e = 11 := hn
    exact answers_done hpower hcmd h rfl (by simp only [Block.insDo, hreg]; rfl)

/-- Settles O33: one iteration unrepeated, and under a repeat the loop until it ends or stays open. -/
theorem repeatableInstructions : Obligations.RepeatableInstructions := by
  intro q b b1 y c core e op i hpower hop h hkind
  have hrep : repeatable op = true := by rcases hkind with rfl | rfl | ⟨o, rfl⟩ <;> rfl
  refine ⟨fun hpre hiter => ?once, fun hpre hct => ?zero, fun hpre hct hcut => ⟨fun hloop => ?ended, fun hloop => ?stays⟩⟩
  case once =>
    refine answers_done hpower hop h (by rw [hpre, hrep]; rfl) ?_
    have hdo : (running b1 i op e).insDo i (pcOf b1 i) (nextOf b1 i op e) op e =
        (running b1 i op e).iterate i (pcOf b1 i) op e >>= done := by
      rcases hkind with rfl | rfl | ⟨o, rfl⟩ <;> rfl
    rw [hdo, hiter]
    rfl
  case zero => exact answers_issued hpower hop h (Block.insRun_repeat_ended hrep hpre (Block.repDo_zero hct))
  case ended => exact answers_issued hpower hop h (Block.insRun_repeat_ended hrep hpre (Block.repDo_loop hct hcut hloop))
  case stays => exact answers_issued hpower hop h (Block.insRun_repeat_open hrep hpre (Block.repDo_loop hct hcut hloop))

end Sys2Proof.Claims
end

section
/-! POP marked FAR (0xF9) reads far space, so its load still waits for data when the instruction ends; O31 asks for a load that has its
data already. -/
namespace Sys2Proof.Machine

/-- POP of g1 marked FAR. -/
def farPop : Enc := Claims.enc [0xF9] 0x10 0 0 0
/-- Control core 0 runs in Supervisor mode out of the boot ROM, and its stack pointer is a far address in the boot ROM. -/
def farPopBlock : Block := { cx := { cores := [(96, { pc := 0x031000040000, g := [(15, 0x031000000040)] })] } }
/-- The block after the fetch of the POP, and where the fetch succeeds. -/
def farPopFetched : EwM Block :=
  (farPopBlock.setCore 96 (Claims.atBoundary (farPopBlock.core 96) farPop)).fetchIns 96 (min 15 (ewLen .pop farPop)) farPop.par
/-- The block after the fetch, the stack pointer's fabric address, and what the read there gives. -/
def farPopRead (b1 : Block) : Nat × Option Resp × Block :=
  (Claims.running b1 96 .pop farPop).readAt 96 2 0x031000000040 0x031000000040 8 []
/-- Whether each pending load of control core 0 has its data. -/
def loadsArrived (b : Block) : List Bool := (b.core 96).loads.map (·.arrived)
/-- The block that O31 asks for after the POP. -/
def farPopClaimed (b1 : Block) : Block :=
  Claims.completes b1 96 (Claims.loading ((farPopRead b1).2.2.modCore 96 (fun c => c.wrG 15 (0x031000000040 + 8 : W64).toNat))
    96 (.g 1) (farPopRead b1).1 (Claims.pcOf b1 96) 0x031000000040 none)

/-- A fetch that succeeds, with what holds of the block after it. -/
def okWith (r : EwM Block) (p : Block → Bool) : Bool := match r with | .ok b => p b | .error _ => false

/-- An operand translates to a fabric address. -/
def okAt (r : EwM Nat) (f : Nat) : Bool := match r with | .ok a => a == f | .error _ => false

theorem eq_of_okAt {r : EwM Nat} {f : Nat} (h : okAt r f = true) : r = .ok f := by
  cases r with
  | ok a => exact congrArg _ (eq_of_beq h)
  | error t => cases h

theorem exists_of_okWith {r : EwM Block} {p : Block → Bool} (h : okWith r p = true) : ∃ b, r = .ok b ∧ p b = true := by
  cases r with
  | ok b => exact ⟨b, rfl, h⟩
  | error t => cases h

open Claims

theorem farPop_starts : powered farPopBlock 96 ∧ starts farPopBlock 96 farPop := by decide +kernel

theorem farPop_legal : ewLen .pop farPop ≤ 15 ∧ fieldsLegal .pop farPop = true ∧ privileged .pop = false ∧
    coreKind 96 ≠ .s ∧ pfxLegal .pop farPop = true := by decide +kernel

/-- The POP is fetched, its operand translates and is read; and the load that the model begins has no data yet, where O31 says it has. -/
theorem farPop_runs : okWith farPopFetched (fun b1 =>
    decide (((running b1 96 .pop farPop).core 96).getG 15 = 0x031000000040) &&
    okAt ((running b1 96 .pop farPop).operand 96 (pcOf b1 96) 2 0x031000000040 8 [.rd]) 0x031000000040 &&
    (farPopRead b1).2.1.isNone && loadsArrived (farPopClaimed b1) == [true]) = true := by decide +kernel

/-- Whether the pending loads of control core 0 have their data after a command. -/
def loadsAfter : Host.Outcome State Fault Refusal → List Bool
  | .next s => loadsArrived s.blk
  | _ => []

theorem farPop_leaves : loadsAfter (exec (.ewPop 96 farPop) ⟨[], farPopBlock⟩) = [false] := by decide +kernel

theorem farPop_issues {b1 : Block} (h : farPopFetched = .ok b1) : issues farPopBlock 96 .pop farPop b1 := by
  obtain ⟨hlen, hfields, hpriv, hs, hpfx⟩ := farPop_legal
  exact ⟨farPop_starts.2, h, hlen, hfields, fun _ => hpriv, fun hk => absurd hk hs, nofun, hpfx⟩

end Sys2Proof.Machine

namespace Sys2Proof.Claims
open Sys2Proof.Machine

/-- Refutes O31: the POP clause begins a load whose data is there, also where the FAR mark makes it a load from far space, which has to
wait for its data (R537). -/
theorem not_memoryInstructions : ¬ Obligations.MemoryInstructions := by
  intro hall
  obtain ⟨b1, hfetch, hruns⟩ := exists_of_okWith farPop_runs
  simp only [Bool.and_eq_true, decide_eq_true_eq, beq_iff_eq, Option.isNone_iff_eq_none] at hruns
  obtain ⟨⟨⟨hsp, hoperand⟩, hread⟩, hclaimed⟩ := hruns
  obtain ⟨-, -, -, -, -, -, -, -, hpop⟩ := hall [] farPopBlock b1 (farPopRead b1).2.2 farPopBlock (.ewPop 96 farPop) 96 farPop .pop
    0x031000000040 (farPopRead b1).1 .addm farPop_starts.1 rfl (farPop_issues hfetch)
  have hans : Answers (.ewPop 96 farPop) [] farPopBlock (farPopClaimed b1) := by
    have := hpop rfl
    rw [show ((running b1 (96 : BitVec 7).toNat .pop farPop).core (96 : BitVec 7).toNat).getG 15 = 0x031000000040 from hsp] at this
    exact this (eq_of_okAt hoperand) (Prod.ext rfl (Prod.ext hread rfl))
  have hleaves := farPop_leaves
  rw [hans] at hleaves
  exact absurd (hclaimed.symm.trans hleaves) (by decide)

end Sys2Proof.Claims
end

section
/-! Delivery and clusters (R609, R636, R638), and what happens to a core between instructions (R535-R544, R550, R553-R558, R631, R632). -/
namespace Sys2Proof.Machine

variable {b : Block} {i n : Nat}

/-! ### Delivery (R636, R638) -/

theorem Block.deliver_staged {c : Cmd} {s : Staged} {ctx seq u rung : Nat} {xo : Option Ext} (hcmd : b.cmd seq = some c)
    (hsrc : c.src = .localQ ctx) (hready : c.ready.find? (fun r => r.1 == u) = some (u, xo, rung))
    (hstaged : b.newest (c.nsid - 1) u = some s) (hclean : b.stagedMask s = 0) : b.deliver seq u =
    (b.modCmd seq (fun y => { y with ready := y.ready.filter (fun r => r.1 ≠ u) })).copyUnit seq u
      (c.buf + 16384 * (u - (c.ranges.head?).elim 0 (fun r => (unitsOf (b.byteRange (c.nsid - 1) r).1 (b.byteRange (c.nsid - 1) r).2).1)))
      (b.stagedBytes s) := by
  simp only [Block.deliver, hcmd, hsrc, hready, hstaged]
  exact if_neg (not_not_intro hclean)

/-- A halted delivery channel is the one that DLV_RESTART starts again. -/
theorem Block.dlvRestarts (hon : b.dlvOn n = true) (hhalted : 0x10 ≤ (b.chan (b.dlvCh n)).st) :
    ¬(!b.dlvOn n ∨ (b.chan (b.dlvCh n)).st < 0x10) := by
  simp [hon, hhalted]

/-! ### Steps of a cluster (R609) -/

theorem Block.stepUp_granted (hup : b.clUp n = true) (hbelow : b.clStep n < min (b.rdF (pgCl n + 0x104) 0 2) (smGet 4 b.cx.avsCap n))
    (hready : b.readyOn n ≠ []) (hticket : (b.stepTicket n (b.clStep n + 1)).1 = .granted) :
    b.stepUp n = (b.stepTicket n (b.clStep n + 1)).2.setStep n (b.clStep n + 1) := by
  have hgoes : ¬(!b.clUp n || decide (min (b.rdF (pgCl n + 0x104) 0 2) (smGet 4 b.cx.avsCap n) ≤ b.clStep n) || (b.readyOn n).isEmpty) = true := by
    simp [hup, Nat.not_le.mpr hbelow, hready]
  exact (if_neg hgoes).trans (if_pos hticket)

theorem Block.stepDown_lower (h : 1 < b.clStep n) : b.stepDown n = (b.untick (.cluster n (b.clStep n))).setStep n (b.clStep n - 1) :=
  if_neg (Nat.not_le.mpr h)

theorem Block.clGate_empty (hon : b.clStep n ≠ 0) (hempty : b.cx.ctxs.any (fun e => e.2.cluster == n) = false) (hhas : b.has .cxCluster n = true) :
    b.clGate n = (((b.elapseTo (smGet 0 b.cx.emptyAt n + b.rdF (pgCl n + 0x104) 3 10)).each [1, 2, 3, 4]
      (fun y k => y.untick (.cluster n k))).setStep n 0) :=
  if_neg (by simp [hon, hempty, hhas])

/-! ### A core between instructions -/

section
variable (hlive : b.coreLive i = true)
include hlive

theorem Block.loadArrival_live : b.loadArrival i =
    (b.modCore i (fun c => { c with loads := onFirstLoad (fun l => { l with arrived := true }) c.loads }.settle)).boundary i :=
  if_neg (by simp [hlive])

theorem Block.ctxSwitch_none (hc : coreKind i = .c) (hloads : (b.core i).loads = []) (hctx : (b.core i).onCtx = none) {k : Nat} {z : Block}
    (hpick : b.pickCtx (i / 8) = some (k, z)) : b.ctxSwitch i = (z.switchIn i k).showReady (i / 8) := by
  rw [Block.ctxSwitch, if_neg (by simp [hc, hlive])]
  simp [hctx, hloads, hpick]

/-- A context whose slice has ended at a boundary with nothing else due. -/
theorem Block.ctxSwitch_some {k : Nat} (hc : coreKind i = .c) (hloads : (b.core i).loads = []) (hctx : (b.core i).onCtx = some k)
    (huser : (b.core i).user = true) (hlates : (b.core i).lates = []) (hwatch : (b.core i).watch = none) (hslice : b.sliceLeft i = 0)
    (hquantum : (b.core i).quantum = false) (hdisp : b.dispDue i = false ∨ (b.core i).ie = false) : b.ctxSwitch i =
    match b.pickCtx (i / 8) with
    | some (m, y) => (((y.switchOut i k).makeReady k).switchIn i m).showReady (i / 8)
    | none => b.modCore i (fun c => { c with slice := b.rdF (pgCxT (b.coreTenant i).toNat + 0x104) 8 23, sliceAt := b.usec }) := by
  have hdue : (b.dispDue i && (b.core i).ie) = false := by rcases hdisp with h | h <;> simp [h]
  rw [Block.ctxSwitch, if_neg (by simp [hc, hlive])]
  simp only [hctx]
  refine if_neg ?_
  simp [huser, hloads, hlates, hwatch, hslice, hquantum, hdue]

theorem Block.sliceEnd_switches (hc : coreKind i = .c) (hctx : (b.core i).onCtx.isSome = true) (huser : (b.core i).user = true) :
    b.sliceEnd i = (b.elapse (b.sliceLeft i)).ctxSwitch i :=
  if_neg (by simp [hc, hlive, huser, Option.isSome_iff_ne_none.mp hctx])

variable (hwfi : (b.core i).wfi = false)
include hwfi

theorem Block.lateUncorr_late {t : TrapIn} {c' : Core}
    (hlate : Core.lateOf { b.core i with loads := (b.core i).loads.map (fun (l : Delay) => if l.err.isSome then { l with arrived := true } else l) } =
      some (t, c')) : b.lateUncorr i false = (b.setCore i c').takeTrap i t (b.core i).pc := by
  rw [Block.lateUncorr, if_neg (by simp [hlive, hwfi])]
  simp only [Bool.false_eq_true, if_false, hlate]

omit hlive in
theorem Block.wake_running : b.wake i = b := by simp [Block.wake, hwfi]

theorem Block.qtimerEnd_running {u : Nat} (hdue : (b.core i).qdue = some u) :
    b.qtimerEnd i = (b.elapseTo u).modCore i (fun c => { c with qdue := none, quantum := c.quantum || c.qe }) := by
  have hstill : (((b.elapseTo u).modCore i (fun c => { c with qdue := none, quantum := c.quantum || c.qe })).core i).wfi = false := by
    rw [Block.core_modCore_same]
    exact hwfi
  simp only [Block.qtimerEnd, hdue, hlive, Bool.not_true, Bool.false_eq_true, if_false, Block.wake_running hstill, ite_self]

variable (haccepts : (b.core i).accepts = true)
include haccepts

theorem Block.takeQuantum_accepted (hquantum : (b.core i).quantum = true) : b.takeQuantum i =
    ((b.modCore i (fun c => { c with quantum := false })).trap i
      { code := 0x0C, tpc := (b.core i).pc, inRpt := decide (0 < (b.core i).iters) }).boundary i :=
  if_neg (by simp [hlive, hquantum, hwfi, haccepts])

variable (hquantum : (b.core i).quantum = false)
include hquantum

omit hwfi in
/-- Nothing keeps the core from its interrupt. -/
theorem Block.intr_goes : ¬(!b.coreLive i || !(b.core i).accepts || (b.core i).quantum) = true := by simp [hlive, haccepts, hquantum]

theorem Block.acceptIntr_k {l t : Nat} (hk : coreKind i = .k) (hint : b.cx.kInts.contains (l, t) = true) :
    b.acceptIntr i l t = (b.onCx (fun x => { x with kInts := x.kInts.erase (l, t) })).enterIntr i (l + t * 256) := by
  simp only [Block.acceptIntr, hk]
  rw [if_neg (by rw [hlive, hint]; decide), Block.wake_running hwfi]
  exact if_neg (Block.intr_goes hlive haccepts hquantum)

theorem Block.acceptIntr_s {l t : Nat} (hs : coreKind i = .s) (hint : b.cx.sIrq = true) :
    b.acceptIntr i l t = (b.onCx (fun x => { x with sIrq := false })).enterIntr i 0 := by
  simp only [Block.acceptIntr, hs]
  rw [if_neg (by simp [hlive, hint]), Block.wake_running hwfi]
  exact if_neg (Block.intr_goes hlive haccepts hquantum)

theorem Block.dispatch_idle (hdue : b.dispDue i = true) (hctx : (b.core i).onCtx = none) : b.dispatch i = b.enterIntr i 0 := by
  rw [Block.dispatch, if_neg (by simp [hlive, hdue]), Block.wake_running hwfi]
  refine (if_neg (Block.intr_goes hlive haccepts hquantum)).trans ?_
  simp only [hctx]

end

end Sys2Proof.Machine

namespace Sys2Proof.Claims
open Sys2Proof.Machine

/-- A core's event with the always-on supply or the clocks that it needs. -/
theorem answers_onCore {c : Instr} {q : List Instr} {b b' : Block} {core : BitVec 7} {f : Block → Block} (hdark : b.dark = false)
    (hmeans : exec c ⟨q, b⟩ = State.onCore ⟨q, b⟩ core f) (hf : f b = b') : Answers c q b b' := by
  rw [Answers, hmeans, State.onCore, State.run_lit _ _ hdark, State.runAon_on _ _ (b.on_of_lit hdark), hf, ite_self]

/-- Settles O21: each event by the case of its meaning that its conditions name. -/
theorem clusterAndCoreEvents : Obligations.ClusterAndCoreEvents := by
  intro q b cluster core seq unit line tenant c s ctx k u m xo rung t c' z hdark
  refine ⟨fun hcmd hsrc hready hstaged hclean => answers_run hdark rfl (Block.deliver_staged hcmd hsrc hready hstaged hclean),
    fun hhas hon hhalted => answers_run hdark rfl ((if_pos hhas).trans (if_neg (Block.dlvRestarts hon hhalted))),
    fun hup hbelow hready hticket => answers_run hdark rfl (Block.stepUp_granted hup hbelow hready hticket),
    fun hstep => answers_run hdark rfl (Block.stepDown_lower hstep),
    fun hon hempty hhas => answers_run hdark rfl (Block.clGate_empty hon hempty hhas),
    fun hlive => ⟨?loads, ?late, ?interrupts, ?qtimer, ?quantum, ?switch, ?slice⟩⟩
  case loads => exact answers_onCore hdark rfl (Block.loadArrival_live hlive)
  case late => exact fun hwfi hlate => answers_onCore hdark rfl (Block.lateUncorr_late hlive hwfi hlate)
  case interrupts =>
    refine fun hwfi hquantum haccepts => ⟨fun hk hint => ?_, fun hs hint => ?_, fun hc hdue hctx => ?_⟩
    · exact answers_onCore hdark rfl (Block.acceptIntr_k hlive hwfi haccepts hquantum hk hint)
    · exact answers_onCore hdark rfl (Block.acceptIntr_s hlive hwfi haccepts hquantum hs hint)
    · have hidle := Block.dispatch_idle hlive hwfi haccepts hquantum hdue hctx
      exact ⟨answers_onCore hdark rfl (by simp only [Block.acceptIntr, hc]; exact hidle), answers_run hdark rfl hidle⟩
  case qtimer => exact fun hdue hwfi => answers_onCore hdark rfl (Block.qtimerEnd_running hlive hwfi hdue)
  case quantum => exact fun hquantum hwfi haccepts => answers_onCore hdark rfl (Block.takeQuantum_accepted hlive hwfi haccepts hquantum)
  case switch =>
    refine fun hc hloads => ⟨fun hctx hpick => answers_run hdark rfl (Block.ctxSwitch_none hlive hc hloads hctx hpick), ?_⟩
    intro hctx huser hlates hwatch hslice hquantum hdisp
    have hswitch := Block.ctxSwitch_some hlive hc hloads hctx huser hlates hwatch hslice hquantum hdisp
    exact ⟨fun hpick => answers_run hdark rfl (by rw [hswitch, hpick]), fun hpick => answers_run hdark rfl (by rw [hswitch, hpick])⟩
  case slice => exact fun hc hctx huser => answers_run hdark rfl (Block.sliceEnd_switches hlive hc hctx huser)

end Sys2Proof.Claims
end

section
/-! System calls of contexts, their endings, and the stores to their service areas (R626-R630, R633, R641-R643). -/
namespace Sys2Proof.Machine

variable {b : Block} {c i : Nat} {x : Ctx}

/-! ### System calls (R629, R630) -/

theorem Block.sysExit_ok (hcall : b.inSyscall c 0 = some i) (hcode : (b.core i).getG 2 = 0) :
    b.sysExit c = b.ctxEnd c (some (((b.core i).getG 1).setWidth 32, stOk)) := by
  simp only [Block.sysExit, hcall]
  exact if_pos hcode

theorem Block.sysExit_failed (hcall : b.inSyscall c 0 = some i) (hcode : (b.core i).getG 2 = 1) :
    b.sysExit c = b.ctxEnd c (some (0, stat 7 0xC1 true)) := by
  simp only [Block.sysExit, hcall]
  exact (if_neg (by rw [hcode]; decide)).trans (if_pos hcode)

theorem Block.sysExit_unlisted (hcall : b.inSyscall c 0 = some i) (h0 : (b.core i).getG 2 ≠ 0) (h1 : (b.core i).getG 2 ≠ 1) :
    b.sysExit c = (b.cxRec c 0x0101 .contained 0 (b.core i).taddr).ctxEnd c (some (0, stat 7 0xC3 false)) := by
  simp only [Block.sysExit, hcall]
  exact (if_neg h0).trans (if_neg h1)

theorem Block.sysYield_called (hcall : b.inSyscall c 1 = some i) : b.sysYield c = ((b.rett i).switchOut i c).makeReady c := by
  simp only [Block.sysYield, hcall]

theorem Block.sysWait_called (hcall : b.inSyscall c 2 = some i) : b.sysWait c =
    if b.pendEvents c &&& ((b.core i).getG 1).toNat % 8 ≠ 0 then
      ((b.modCore i (fun k => k.setG 1 (BitVec.ofNat 64 (b.pendEvents c)))).clearEvents c).rett i
    else ((b.rett i).switchOut i c).modCtx c (fun z => { z with
      st := .waiting
      mask := ((b.core i).getG 1).toNat % 8
      until_ := if ((b.core i).getG 2).toNat = 0 then none else some (((b.rett i).switchOut i c).usec + ((b.core i).getG 2).toNat) }) := by
  simp only [Block.sysWait, hcall]

/-- What XLATE returns in g1: the fabric address that g1 translates to, or all ones (R629). -/
def Core.xlated (r : Core) : W64 :=
  match translate r.wins (r.getG 1).toNat (if r.getG 2 = 0 then .rd else .wr) with
  | .ok a => BitVec.ofNat 64 a
  | _ => BitVec.allOnes 64

theorem Block.sysXlate_called (hcall : b.inSyscall c 4 = some i) :
    b.sysXlate c = (b.modCore i (fun k => k.setG 1 (b.core i).xlated)).rett i := by
  simp only [Block.sysXlate, hcall]
  rfl

/-- The return of a system call DMA with an answer in g1. -/
abbrev dmaAnswer (i : Nat) (y : Block) (v : W64) : Block := (y.modCore i (fun k => k.setG 1 v)).rett i

section
variable (hcall : b.inSyscall c 3 = some i) (hctx : b.ctx c = some x)
include hcall hctx

theorem Block.sysDma_noChannel (hch : 64 ≤ ((b.core i).getG 1).toNat) : b.sysDma c = dmaAnswer i b 1 := by
  simp only [Block.sysDma, hcall, hctx]
  exact if_pos hch

variable (hch : ((b.core i).getG 1).toNat < 64)
include hch

theorem Block.sysDma_foreign (htenant : b.chTenant ((b.core i).getG 1).toNat ≠ x.tenant.toNat) :
    b.sysDma c = dmaAnswer i (b.startRefused ((b.core i).getG 1).toNat c x.tenant) 1 := by
  simp only [Block.sysDma, hcall, hctx]
  exact (if_neg (Nat.not_le.mpr hch)).trans (if_pos htenant)

theorem Block.sysDma_accepted (htenant : b.chTenant ((b.core i).getG 1).toNat = x.tenant.toNat) (hop : ((b.core i).getG 2).toNat ≠ 1)
    (haccepts : b.chAccepts ((b.core i).getG 1).toNat ((b.core i).getG 2).toNat = true) :
    b.sysDma c = dmaAnswer i (b.chCommand ((b.core i).getG 1).toNat ((b.core i).getG 2).toNat (some c)) 0 := by
  simp only [Block.sysDma, hcall, hctx]
  exact (if_neg (Nat.not_le.mpr hch)).trans ((if_neg (not_not_intro htenant)).trans ((if_neg hop).trans (if_pos haccepts)))

end

/-! ### Events and endings (R633, R641-R643) -/

section
variable (hctx : b.ctx c = some x)
include hctx

theorem Block.waitTimeout_due {u : Nat} (hst : x.st = .waiting) (huntil : x.until_ = some u) :
    b.waitTimeout c = (b.elapseTo u).wakeCtx c ((b.elapseTo u).pendEvents c + 8) := by
  simp only [Block.waitTimeout, hctx, hst, huntil]

theorem Block.ctxReady_event {ev : Nat} (hst : x.st = .waiting) (hpend : b.pendEvents c / 2 ^ ev % 2 = 1) (hmask : x.mask / 2 ^ ev % 2 = 1) :
    b.ctxReady c ev = b.wakeCtx c (b.pendEvents c) := by
  simp only [Block.ctxReady, hctx]
  exact if_pos ⟨hst, hpend, hmask⟩

theorem Block.ctxEnds_reset (hcmd : b.cmd x.seq = none) : b.ctxEnds c = b.ctxEnd c none := by
  simp only [Block.ctxEnds, hctx, hcmd, Option.isNone_none, if_true]

/-- A DATA_UNCORR of the fetch that came again at the same instruction is not resolved. -/
theorem Block.ctxEnds_again (hcmd : (b.cmd x.seq).isSome = true) (hst : x.st = .supervisor) (hcore : x.core = some i)
    (hcause : (b.core i).tcause = 0x04) (htried : x.tried = some (4, (b.core i).tpc)) :
    b.ctxEnds c = (b.cxRec c 0x0101 .contained 4 (b.core i).tpc).ctxEnd c (some (0, stat 7 0xC2 true)) := by
  have hgoing : ¬(b.cmd x.seq).isNone = true := by simpa [Option.isSome_iff_ne_none] using hcmd
  have hcode : fld (0x04 : W32) 0 7 = 4 := by decide
  simp only [Block.ctxEnds, hctx, hst, hcore, hcause, htried, hcode, if_neg hgoing]
  rw [if_neg (by simp), if_neg (by simp), if_neg (by simp), if_pos (by simp)]

theorem Block.ctxFree_ended (hst : x.st = .ending) (hcore : x.core = none) (hidle : b.lqBusy c = false) : b.ctxFree c =
    (let y := b.onCx (fun e => { e with ctxs := smErase e.ctxs c })
     if y.cx.ctxs.any (fun e => e.2.cluster == x.cluster) then y
     else y.onCx (fun e => { e with emptyAt := smPut e.emptyAt x.cluster y.usec })) := by
  simp only [Block.ctxFree, hctx]
  exact if_pos ⟨hst, by simp [hidle], hcore⟩

/-! ### The service area's doorbells (R626-R628) -/

variable {v : W32}

theorem Block.searchBell_taken (hslot : v.toNat < 8) (hfree : (b.svcWord c 0xC04).getLsbD v.toNat = false) : b.searchBell c v =
    (let y := b.setSvc c 0xC04 (b.svcWord c 0xC04 ||| BitVec.ofNat 32 (2 ^ v.toNat))
     let d := y.load (y.svc c + 0x800 + 64 * v.toNat) 64
     let d := d - d / 2 ^ 12 % 4 * 2 ^ 12 + 2 * 2 ^ 12
     let d := d - d / 2 ^ 384 % 2 ^ 64 * 2 ^ 384 + v.toNat * 2 ^ 384
     y.seRequest (.ctx c v.toNat) x.tenant (28 + x.cluster / 2) (BitVec.ofNat 512 d) false) := by
  simp only [Block.searchBell, hctx]
  exact if_neg (by simp [hfree, hslot])

theorem Block.searchBell_refused (h : 8 ≤ v.toNat ∨ (b.svcWord c 0xC04).getLsbD v.toNat = true) :
    b.searchBell c v = b.setSvc c 0xC04 (b.svcWord c 0xC04 ||| 0x10000) := by
  simp only [Block.searchBell, hctx]
  exact if_pos h

theorem Block.searchArrives_next {n : Nat} {d : BitVec 512} (hresp : b.se.resps.find? (fun z => z.1 == c) = some (c, n, d)) :
    b.searchArrives c =
      (let y := b.onSe (fun s => { s with resps := s.resps.erase (c, n, d) })
       let z := (y.store (y.svc c + 0xA00 + 64 * n) 64 d).poisonSpan (y.svc c + 0xA00 + 64 * n) 64 false
       z.setSvc c 0xC04 (z.svcWord c 0xC04 ||| BitVec.ofNat 32 (2 ^ (8 + n)))) := by
  simp only [Block.searchArrives, hresp, hctx]

theorem Block.searchClear_held : b.searchClear c v =
    (let ns := (List.range 8).filter (fun n => v.getLsbD (8 + n))
     let off := ns.foldl (fun m n => m ||| BitVec.ofNat 32 (2 ^ n + 2 ^ (8 + n))) (if v.getLsbD 16 then (0x10000 : W32) else 0)
     b.setSvc c 0xC04 (b.svcWord c 0xC04 &&& ~~~off)) :=
  if_neg (by simp [hctx])

theorem Block.lineBell_own (hsmall : v.toNat < 512) (hsrc : b.lineSrc (fld v 0 7) = 2) (htenant : b.lineTenant (fld v 0 7) = x.tenant.toNat) :
    b.lineBell c v = if v.getLsbD 8 then b.lineClr (fld v 0 7) else b.lineSet (fld v 0 7) := by
  simp only [Block.lineBell, hctx]
  exact if_neg (by simp [hsmall, hsrc, htenant])

theorem Block.lineBell_refused (h : 512 ≤ v.toNat ∨ b.lineSrc (fld v 0 7) ≠ 2 ∨ b.lineTenant (fld v 0 7) ≠ x.tenant.toNat) :
    b.lineBell c v = b.setSvc c 0xC14 (b.svcWord c 0xC14 ||| 1) := by
  simp only [Block.lineBell, hctx]
  exact if_pos h

theorem Block.lineOk_held : b.lineOk c = b.setSvc c 0xC14 0 := if_neg (by simp [hctx])

end

end Sys2Proof.Machine

namespace Sys2Proof.Claims
open Sys2Proof.Machine

/-- Settles O20: each command by the case of its meaning that its conditions name. -/
theorem contextCommands : Obligations.ContextCommands := by
  intro q b ctx ev v x i u n d hdark
  refine ⟨fun hcall => ⟨?ok, ?failed, ?unlisted⟩, fun hcall => answers_run hdark rfl (Block.sysYield_called hcall),
    fun hcall => ⟨?event, ?waits⟩, fun hcall hctx => ⟨?noChannel, ?foreign, ?accepted⟩,
    fun hcall => answers_run hdark rfl (Block.sysXlate_called hcall),
    fun hctx => ⟨?timeout, ?ready, ?reset, ?again, ?free, ?bell, ?bellRefused, ?response, ?clear, ?line, ?lineRefused, ?status⟩⟩
  case ok => exact fun h => answers_run hdark rfl (Block.sysExit_ok hcall h)
  case failed => exact fun h => answers_run hdark rfl (Block.sysExit_failed hcall h)
  case unlisted => exact fun h0 h1 => answers_run hdark rfl (Block.sysExit_unlisted hcall h0 h1)
  case event => exact fun h => answers_run hdark rfl ((Block.sysWait_called hcall).trans (if_pos h))
  case waits => exact fun h => answers_run hdark rfl ((Block.sysWait_called hcall).trans (if_neg (not_not_intro h)))
  case noChannel => exact fun h => answers_run hdark rfl (Block.sysDma_noChannel hcall hctx h)
  case foreign => exact fun h ht => answers_run hdark rfl (Block.sysDma_foreign hcall hctx h ht)
  case accepted => exact fun h ht hop ha => answers_run hdark rfl (Block.sysDma_accepted hcall hctx h ht hop ha)
  case timeout => exact fun hst hu => answers_run hdark rfl (Block.waitTimeout_due hctx hst hu)
  case ready => exact fun hst hp hm => answers_run hdark rfl (Block.ctxReady_event hctx hst hp hm)
  case reset => exact fun h => answers_run hdark rfl (Block.ctxEnds_reset hctx h)
  case again => exact fun hcmd hst hcore hcause htried => answers_run hdark rfl (Block.ctxEnds_again hctx hcmd hst hcore hcause htried)
  case free => exact fun hst hcore hidle => answers_run hdark rfl (Block.ctxFree_ended hctx hst hcore hidle)
  case bell => exact fun hslot hfree => answers_run hdark rfl (Block.searchBell_taken hctx hslot hfree)
  case bellRefused => exact fun h => answers_run hdark rfl (Block.searchBell_refused hctx h)
  case response => exact fun h => answers_run hdark rfl (Block.searchArrives_next hctx h)
  case clear => exact answers_run hdark rfl (Block.searchClear_held hctx)
  case line => exact fun hs hsrc ht => answers_run hdark rfl (Block.lineBell_own hctx hs hsrc ht)
  case lineRefused => exact fun h => answers_run hdark rfl (Block.lineBell_refused hctx h)
  case status => exact answers_run hdark rfl (Block.lineOk_held hctx)

end Sys2Proof.Claims
end

section
/-! The Ticket Office: what a request and a return leave held and waiting, and the power states and gates (R680-R691, R719, R724, R785). -/
namespace Sys2Proof.Machine

variable {b : Block} {t : Ticket}

/-! ### A request (R683-R685) -/

section
variable (hnew : b.holds t.who = false)
include hnew

theorem Block.ticket_over (hover : b.poolBudget t.pool < t.mw) : b.ticket t =
    (.refused, { b with pa := { b.pa with waiting := b.pa.waiting.filter (fun w => w.who ≠ t.who) } }.countRefusal) := by
  rw [Block.ticket, if_neg (Bool.eq_false_iff.mp hnew)]
  exact if_pos hover

variable (hmw : t.mw ≤ b.poolBudget t.pool)
include hmw

theorem Block.ticket_asked (hwaits : b.pa.waiting.any (fun w => w.who == t.who) = true) : b.ticket t = (.delayed, b) := by
  rw [Block.ticket, if_neg (Bool.eq_false_iff.mp hnew), if_neg (Nat.not_lt.mpr hmw)]
  exact if_pos hwaits

variable (hfirst : b.pa.waiting.any (fun w => w.who == t.who) = false)
include hfirst

/-- A request within its pool's budget that is new is answered by the float of its window, or by its pool. -/
theorem Block.ticket_new : b.ticket t =
    if b.floatFits t then (.granted, b.drawFloat t)
    else if b.ticketFits t && !b.pa.waiting.any (fun w => w.pool == t.pool && b.before w.cls w.born t.cls t.born) then
      (.granted, { b with pa := { b.pa with held := b.pa.held ++ [t] } })
    else (.delayed, { b with pa := { b.pa with waiting := b.pa.waiting ++ [t] } }) := by
  rw [Block.ticket, if_neg (Bool.eq_false_iff.mp hnew), if_neg (Nat.not_lt.mpr hmw)]
  exact if_neg (Bool.eq_false_iff.mp hfirst)

theorem Block.ticket_float (hfits : b.floatFits t = true) : b.ticket t = (.granted, b.drawFloat t) := by
  rw [Block.ticket_new hnew hmw hfirst, if_pos hfits]

variable (hfloat : b.floatFits t = false)
include hfloat

theorem Block.ticket_pool (hfits : b.ticketFits t = true)
    (hturn : ∀ w ∈ b.pa.waiting, w.pool = t.pool → b.before w.cls w.born t.cls t.born = false) :
    b.ticket t = (.granted, { b with pa := { b.pa with held := b.pa.held ++ [t] } }) := by
  have hnone : b.pa.waiting.any (fun w => w.pool == t.pool && b.before w.cls w.born t.cls t.born) = false := by
    simpa using hturn
  rw [Block.ticket_new hnew hmw hfirst, if_neg (Bool.eq_false_iff.mp hfloat), if_pos (by rw [hfits, hnone]; rfl)]

theorem Block.ticket_delayed (hfull : b.ticketFits t = false) :
    b.ticket t = (.delayed, { b with pa := { b.pa with waiting := b.pa.waiting ++ [t] } }) := by
  rw [Block.ticket_new hnew hmw hfirst, if_neg (Bool.eq_false_iff.mp hfloat), if_neg (by simp [hfull])]

end

/-! ### Refusal, starvation and time (R685, R719, R724) -/

theorem Block.refuseTicket_never {k : Nat} (hwaits : b.pa.waiting[k]? = some t) (hover : b.poolBudget t.pool < t.mw) :
    b.refuseTicket k = ((b.untick t.who).countRefusal).refusedHolder t true := by
  simp only [Block.refuseTicket, hwaits, gt_iff_lt, hover, decide_true, true_or, if_true]

theorem Block.refuseTicket_late {k : Nat} (hwaits : b.pa.waiting[k]? = some t) (hmw : t.mw ≤ b.poolBudget t.pool) (hrefusable : t.refusable = true)
    (hfull : { b with pa := { b.pa with floats := [] } }.ticketFits t = false) : b.refuseTicket k =
      (((b.elapseTo (t.born + b.rdF (pgPa + 0x11C) 0 7 * 1000)).untick t.who).countRefusal).refusedHolder t false := by
  simp only [Block.refuseTicket, hwaits, gt_iff_lt, Nat.not_lt.mpr hmw, decide_false, hrefusable, hfull, Bool.not_false, and_self, or_true,
    if_true, Bool.false_eq_true, if_false]

theorem Block.rclStarved_waits {k : Nat}
    (hwaits : b.pa.waiting.find? (fun t => t.pool == .booth k && t.rcl && !b.pa.starved.contains t.who) = some t) : b.rclStarved k =
    (let x := b.elapseTo (t.born + 10001)
     { x with pa := { x.pa with starved := x.pa.starved ++ [t.who] } }.raise (pgPaBooth k) 0) := by
  simp only [Block.rclStarved, hwaits]

/-! ### Gating (R680, R681) -/

theorem Block.pllStop_idle {p : Nat} (hidle : b.pllIdle p = true) (hruns : b.hk.pllOff.contains p = false) (hp : p ≤ 9) : b.pllStop p =
    (let x := b.elapse (b.rdF (pgHk + 0x118) 0 7 * 1000)
     x.onHk (fun h => { h with pllOff := h.pllOff ++ [p] })) := by
  have hgoes : ¬(!b.pllIdle p || b.hk.pllOff.contains p) = true := by rw [hidle, hruns]; decide
  refine (if_neg hgoes).trans ?_
  rw [if_pos hp]

theorem Block.unitWake_cluster {pg n : Nat} (hpg : presentPageAt b.variant pg = some (.cxCluster, n)) (hgated : b.clStep n = 0)
    (hticket : b.holds (.cluster n 1) = true) : b.unitWake pg = (b.elapse (b.wakeTime (1 + n / 2))).setStep n 1 := by
  simp only [Block.unitWake, hpg]
  exact if_pos (by simp [hgated, hticket])

theorem Block.unitWake_tenant {pg n : Nat} (hpg : presentPageAt b.variant pg = some (.cxTenant, n)) (hpower : b.rdF (pg + 0x00C) 1 3 ≠ 2) :
    b.unitWake pg = b.setPower pg 2 := by
  simp only [Block.unitWake, hpg]
  exact if_neg hpower

/-! ### Tickets held and budgets (R682) -/

theorem Block.poolUsed_grant (p : Pool) (x : PaSt) (hx : x.held = b.pa.held ++ [t]) :
    ({ b with pa := x } : Block).poolUsed p = b.poolUsed p + if t.pool = p then t.mw else 0 := by
  simp only [Block.poolUsed, hx, List.filter_append, List.map_append, List.sum_append, List.filter_singleton]
  split <;> simp [*]

theorem Block.poolUsed_untick_le (w : Holder) (p : Pool) : (b.untick w).poolUsed p ≤ b.poolUsed p :=
  ((List.filter_sublist.filter _).map _).sum_le_sum (fun _ _ => Nat.zero_le _)

/-- The budget of a pool is the same where the power state, the cap of a power loss and the registers are. -/
theorem Block.poolBudget_congr {b' : Block} (hfuses : b'.fuses = b.fuses) (hps : b'.pa.ps = b.pa.ps) (hploss : b'.pa.plossMw = b.pa.plossMw)
    (hregs : ∀ c k o, (o = 0x100 ∨ o = 0x104 ∨ o = 0x108 ∨ o = 0x114) → b'.rd (pageBase c k + o) = b.rd (pageBase c k + o)) (p : Pool) :
    b'.poolBudget p = b.poolBudget p := by
  have hchip : b'.bChip = b.bChip := by
    simp only [Block.bChip, Block.rdF, Block.variant, hfuses, hps, hploss, pgPa, hregs .paCtl 0 0x114 (by simp), hregs .paCtl 0 0x104 (by simp)]
  cases p with
  | chip => simp only [Block.poolBudget, hchip, Block.rdF, pgPa, hregs .paCtl 0 0x108 (by simp)]
  | booth k => simp only [Block.poolBudget, hps, Block.rdF, pgPaBooth, hregs .paBooth k 0x100 (by simp)]

theorem Block.poolBudget_onTickets (x : PaSt) (hps : x.ps = b.pa.ps) (hploss : x.plossMw = b.pa.plossMw) (p : Pool) :
    ({ b with pa := x } : Block).poolBudget p = b.poolBudget p :=
  Block.poolBudget_congr (b := b) (b' := { b with pa := x }) rfl hps hploss (fun _ _ _ _ => rfl) p

/-- A refusal counts in PA and raises an event there: no limit or budget register changes. -/
theorem Block.poolBudget_countRefusal (p : Pool) : b.countRefusal.poolBudget p = b.poolBudget p := by
  refine Block.poolBudget_congr (by simp [Block.countRefusal, Block.inc, Block.addSat, Block.wrSat]) ?_ ?_ (fun c k o ho => ?_) p
  · simp [Block.countRefusal, Block.inc, Block.addSat, Block.wrSat]
  · simp [Block.countRefusal, Block.inc, Block.addSat, Block.wrSat]
  · have hpg := pageBase_mod c k
    have hpa : pgPa % 0x1000 = 0 := pageBase_mod .paCtl 0
    have hchip : pgChip = 0 := rfl
    rw [Block.countRefusal, Block.raise, Block.rd_raiseMask_ne _ _ (by omega) (by omega) (by omega), Block.rd_inc_ne _ (by omega)]

/-- The tickets held from every pool are within its budget. -/
def Block.inBudget (b : Block) : Prop := ∀ p, b.poolUsed p ≤ b.poolBudget p

theorem Block.inBudget.untick (h : b.inBudget) (w : Holder) : (b.untick w).inBudget := fun p =>
  (Block.poolUsed_untick_le w p).trans ((h p).trans (Nat.le_of_eq (Block.poolBudget_onTickets _ rfl rfl p).symm))

/-- A grant of a ticket that fits its pool. -/
theorem Block.inBudget.grant (h : b.inBudget) (x : PaSt) (hx : x.held = b.pa.held ++ [t]) (hps : x.ps = b.pa.ps) (hploss : x.plossMw = b.pa.plossMw)
    (hfits : b.poolUsed t.pool + t.mw ≤ b.poolBudget t.pool) : ({ b with pa := x } : Block).inBudget := by
  intro p
  rw [Block.poolUsed_grant p x hx, Block.poolBudget_onTickets x hps hploss]
  split
  case isTrue hp => exact hp ▸ hfits
  case isFalse => exact h p

theorem Block.inBudget.refusal (h : b.inBudget) (x : PaSt) (hx : x.held = b.pa.held) (hps : x.ps = b.pa.ps) (hploss : x.plossMw = b.pa.plossMw) :
    ({ b with pa := x } : Block).countRefusal.inBudget := by
  intro p
  rw [Block.poolBudget_countRefusal, Block.poolBudget_onTickets x hps hploss]
  refine Nat.le_trans (Nat.le_of_eq ?_) (h p)
  simp [Block.poolUsed, Block.countRefusal, Block.inc, Block.addSat, Block.wrSat, hx]

theorem Block.inBudget.ticket (h : b.inBudget) (t : Ticket) : (b.ticket t).2.inBudget := by
  by_cases hnew : b.holds t.who = true
  · rw [Block.ticket, if_pos hnew]; exact h
  rw [Bool.not_eq_true] at hnew
  by_cases hover : b.poolBudget t.pool < t.mw
  · rw [Block.ticket_over hnew hover]; exact h.refusal _ rfl rfl rfl
  rw [Nat.not_lt] at hover
  by_cases hfirst : b.pa.waiting.any (fun w => w.who == t.who) = true
  · rw [Block.ticket_asked hnew hover hfirst]; exact h
  rw [Bool.not_eq_true] at hfirst
  rw [Block.ticket_new hnew hover hfirst]
  split
  case isTrue hfits =>
    simp only [Block.floatFits, Bool.and_eq_true, decide_eq_true_eq] at hfits
    exact h.grant _ rfl rfl rfl hfits.2
  case isFalse =>
    split
    case isTrue hfits =>
      simp only [Block.ticketFits, Bool.and_eq_true, decide_eq_true_eq] at hfits
      obtain ⟨⟨hroom, -⟩, -⟩ := hfits
      exact h.grant _ rfl rfl rfl (by omega)
    case isFalse => exact h

end Sys2Proof.Machine

namespace Sys2Proof.Claims
open Sys2Proof.Machine

/-- What a command answers is one block. -/
theorem eq_of_answers_run {c : Instr} {q : List Instr} {b b' : Block} {f : Block → Block} (hmeans : exec c ⟨q, b⟩ = State.run ⟨q, b⟩ f)
    (h : Answers c q b b') : b' = b.lit f := by
  rw [Answers, hmeans, State.run] at h
  injection h with h
  injection h with _ h
  exact h.symm

/-- Settles O59: a request is granted where it fits its pool's budget, and no other outcome adds to the tickets held. -/
theorem ticketsStayInBudget : Obligations.TicketsStayInBudget := by
  intro q b b' booth id mw cls refusable rcl hbudget h
  have hlit {f : Block → Block} (hf : (f b).inBudget) : (b.lit f).inBudget := by
    rw [Block.lit]
    split
    · exact hbudget
    · exact hf
  rcases h with h | h
  · rw [eq_of_answers_run rfl h]
    exact hlit (Block.inBudget.ticket hbudget _)
  · rw [eq_of_answers_run rfl h]
    exact hlit (Block.inBudget.untick hbudget _)

/-- Settles O24: each command by the case of its meaning that its conditions name. -/
theorem ticketCommands : Obligations.TicketCommands := by
  intro q b booth id k mw cls refusable rcl bk t p page n hdark
  refine ⟨fun hnew hmw hfirst => ⟨?float, ?pool, ?delayed⟩, answers_run hdark rfl rfl, answers_run hdark rfl rfl, fun hwaits => ⟨?never, ?late⟩,
    answers_run hdark rfl rfl, answers_run hdark rfl rfl, answers_run hdark rfl rfl,
    fun hwaits => answers_run hdark rfl (Block.rclStarved_waits hwaits), fun hps => answers_run hdark rfl (if_pos hps),
    fun hidle hruns hp => answers_run hdark rfl (Block.pllStop_idle hidle hruns hp),
    fun hpg hgated hticket => answers_run hdark rfl (Block.unitWake_cluster hpg hgated hticket),
    fun hpg hpower => answers_run hdark rfl (Block.unitWake_tenant hpg hpower)⟩
  case float => exact fun hfits => answers_run hdark rfl (congrArg Prod.snd (Block.ticket_float hnew hmw hfirst hfits))
  case pool => exact fun hfloat hfits hturn => answers_run hdark rfl (congrArg Prod.snd (Block.ticket_pool hnew hmw hfirst hfloat hfits hturn))
  case delayed => exact fun hfloat hfull => answers_run hdark rfl (congrArg Prod.snd (Block.ticket_delayed hnew hmw hfirst hfloat hfull))
  case never => exact fun hover => answers_run hdark rfl (Block.refuseTicket_never hwaits hover)
  case late => exact fun hmw hrefusable hfull => answers_run hdark rfl (Block.refuseTicket_late hwaits hmw hrefusable hfull)

end Sys2Proof.Claims
end

section
/-! The frames of the Llyn port and its authentication (R725-R733). -/
namespace Sys2Proof.Machine

variable {b x : Block} {r : Nat} {tag : BitVec 3} {v w : W64}

/-! ### The reply before a frame acts (R727, R730, R732) -/

theorem Block.earlyReply_acts {d : Option W64} (h : Claims.frameActs b r d) : b.earlyReply r d = none := by
  obtain ⟨hcheck, hcrc, hopen⟩ := h
  rcases hopen with hopen | hopen <;> simp [Block.earlyReply, hcheck, hcrc, hopen]

/-- A frame of STATUS acts also while CRC_ERR is 1. -/
theorem Block.earlyReply_status {d : Option W64} (hcheck : b.dbg.checking = none) : b.earlyReply 1 d = none := by
  simp [Block.earlyReply, hcheck, openReg]

theorem Block.earlyReply_holds {d : Option W64} (h : b.dbg.checking.isSome = true) : b.earlyReply r d = some llynHold := if_pos h

theorem Block.earlyReply_crc {d : Option W64} (hcheck : b.dbg.checking = none) (hcrc : b.dbg.crcErr = true) (hr : r ≠ 1) :
    b.earlyReply r d = some llynRefuse := by
  simp [Block.earlyReply, hcheck, hcrc, hr]

theorem Block.earlyReply_closed {d : Option W64} (hcheck : b.dbg.checking = none) (hlevel : b.dbg.level = false) (hreg : openReg r d = false) :
    b.earlyReply r d = some llynRefuse := by
  simp [Block.earlyReply, hcheck, hlevel, hreg]

/-! ### Read frames (R725) -/

theorem Block.readFrame_early {f : Block → PortRes} {c : Nat} (h : b.earlyReply r none = some c) : b.readFrame r tag f = b.reply c tag 0 := by
  simp only [Block.readFrame, h]

theorem Block.readFrame_answers {f : Block → PortRes} (h : b.earlyReply r none = none) : b.readFrame r tag f =
    (f b).2.2.reply (if (f b).1 then llynAccept else llynRefuse) tag (f b).2.1 := by
  simp only [Block.readFrame, h]

theorem Block.readFrame_accepted {f : Block → PortRes} (h : b.earlyReply r none = none) (hf : f b = (true, w, x)) :
    b.readFrame r tag f = x.reply 5 tag w := by
  rw [Block.readFrame_answers h, hf]
  rfl

theorem Block.readFrame_refused {f : Block → PortRes} (h : b.earlyReply r none = none) (hf : f b = (false, w, x)) :
    b.readFrame r tag f = x.reply 10 tag w := by
  rw [Block.readFrame_answers h, hf]
  rfl

/-! ### Write frames (R726, R727) -/

theorem Block.writeFrame_early {ok : Bool} {c : Nat} (h : b.earlyReply r (some v) = some c) : b.writeFrame r tag v ok = b.reply c tag 0 := by
  simp only [Block.writeFrame, h]

section
variable (h : b.earlyReply r (some v) = none)
include h

theorem Block.writeFrame_corrupt : b.writeFrame r tag v false = (b.onDbg (fun d => { d with crcErr := true })).reply 5 tag 0 := by
  simp only [Block.writeFrame, h]
  rfl

theorem Block.writeFrame_again (hlast : b.dbg.last = some (r, tag.toNat, v)) : b.writeFrame r tag v true = b.reply 5 tag 0 := by
  simp only [Block.writeFrame, h]
  exact if_pos hlast

variable (hlast : b.dbg.last ≠ some (r, tag.toNat, v))
include hlast

theorem Block.writeFrame_new : b.writeFrame r tag v true =
    ((b.portWrite r v).2.2.onIf (b.portWrite r v).1 (fun y => y.onDbg (fun d => { d with last := some (r, tag.toNat, v) }))).reply
      (if (b.portWrite r v).1 then llynAccept else llynRefuse) tag 0 := by
  simp only [Block.writeFrame, h]
  exact if_neg hlast

theorem Block.writeFrame_accepted (hw : b.portWrite r v = (true, w, x)) : b.writeFrame r tag v true = Claims.wrote x r tag v := by
  rw [Block.writeFrame_new h hlast, hw]
  rfl

theorem Block.writeFrame_refused (hw : b.portWrite r v = (false, w, x)) : b.writeFrame r tag v true = x.reply 10 tag 0 := by
  rw [Block.writeFrame_new h hlast, hw]
  rfl

end

/-! ### Challenge, response and CTRL (R730, R732, R733) -/

theorem Block.newNonce_eq (n : BitVec 256) : b.newNonce n = (true, n.setWidth 64, b.onDbg (fun d => { d with nonce := some n })) := by
  have hword : BitVec.ofNat 64 (n.toNat % 2 ^ 64) = n.setWidth 64 := BitVec.eq_of_toNat_eq (by simp)
  rw [Block.newNonce, Block.yes, hword]

theorem Block.portRead_challenge : b.portRead 4 = (true, (Claims.nonceOf b.freeCtr).setWidth 64,
    { b with freeCtr := b.freeCtr + 4, dbg := { b.dbg with nonce := some (Claims.nonceOf b.freeCtr) } }) :=
  Block.newNonce_eq (b := { b with freeCtr := b.freeCtr + 4 }) (Claims.nonceOf b.freeCtr)

/-- RESPONSE5 holds the top 64 bits of the response. -/
theorem response_top (d : BitVec 384) : d &&& ~~~(BitVec.ofNat 384 ((2 ^ 64 - 1) * 2 ^ (64 * (0x0D - 8)))) = (d.setWidth 320).setWidth 384 := by
  refine BitVec.eq_of_getLsbD_eq (fun k hk => ?_)
  rw [BitVec.getLsbD_and, BitVec.getLsbD_not, BitVec.getLsbD_ofNat, Nat.testBit_mul_two_pow, Nat.testBit_two_pow_sub_one,
    BitVec.getLsbD_setWidth, BitVec.getLsbD_setWidth]
  by_cases hlow : k < 320
  · simp [hlow, hk]
  · have hin : k - 320 < 64 := by omega
    simp [hlow, hk, hin, Nat.not_lt.mp hlow]

/-- RESPONSE0-5 hold the response, lowest first; RESPONSE5 starts the check. -/
theorem Block.putResponse_last : b.putResponse (0x0D - 8) v =
    (true, (0 : W64), (let y := (b.dbg.response.setWidth 320).setWidth 384 ||| (v.setWidth 384 <<< 320)
      b.onDbg (fun d => { d with response := y, checking := some (d.nonce, y), nonce := none }))) := by
  rw [← response_top, Block.putResponse]
  exact congrArg (fun z => (true, (0 : W64), z)) rfl

theorem Block.portWrite_response5 : b.portWrite 0x0D v = b.putResponse (0x0D - 8) v := rfl

theorem Block.portWrite_relock : b.portWrite 2 1 = (true, 0, b.onDbg (fun d => { d with level := false })) := rfl

theorem Block.portWrite_devReset : b.portWrite 2 0x5EED0002 = (true, 0, b.deviceReset 5) := rfl

/-! ### The check (R731) -/

/-- The port after a check that fails: the eighth locks it. -/
def DbgSt.checkFailed (d : DbgSt) : DbgSt :=
  { d with checking := none, fails := min 8 (d.fails + 1), lockout := d.lockout || decide (7 ≤ d.fails) }

theorem DbgSt.checkFailed_early {d : DbgSt} (hfails : d.fails < 7) : d.checkFailed = { d with checking := none, fails := d.fails + 1 } := by
  have hcount : min 8 (d.fails + 1) = d.fails + 1 := by omega
  have hopen : (d.lockout || decide (7 ≤ d.fails)) = d.lockout := by simp [hfails]
  rw [DbgSt.checkFailed, hcount, hopen]

section
variable {n : Option (BitVec 256)} {rs : BitVec 384} (hcheck : b.dbg.checking = some (n, rs))
include hcheck

/-- The check's test and the words of the statements. -/
theorem Block.authDone_eq : b.authDone =
    (let y := b.onDbg (fun d => { d with checking := none })
     if b.dbg.lockout = false ∧ n.map (fun m => Config.debugMac m b.fuses.uid) = some rs then
       (y.onDbg (fun d => { d with level := true })).raise pgDbg 0
     else
       let z := ((y.onDbg (fun d => { d with fails := min 8 (d.fails + 1), lockout := d.lockout || decide (7 ≤ d.fails) })).record pgDbg
         { code := 0x0101, sev := .corrected }).raise pgDbg 1
       z.onIf (z.dbg.lockout && !b.dbg.lockout) (fun z => z.record pgDbg { code := 0x0102, sev := .corrected })) := by
  have htest : (!b.dbg.lockout && n.any (fun m => Config.debugMac m b.fuses.uid == rs)) = true ↔
      b.dbg.lockout = false ∧ n.map (fun m => Config.debugMac m b.fuses.uid) = some rs := by
    cases n <;> simp
  simp only [Block.authDone, hcheck]
  exact if_congr htest rfl rfl

theorem Block.authDone_pass (hlock : b.dbg.lockout = false) (hgood : n.map (fun m => Config.debugMac m b.fuses.uid) = some rs) :
    b.authDone = ((b.onDbg (fun d => { d with checking := none })).onDbg (fun d => { d with level := true })).raise pgDbg 0 := by
  rw [Block.authDone_eq hcheck]
  exact if_pos ⟨hlock, hgood⟩

/-- A check that fails, before the record of the lockout: counted, recorded and raised. -/
def Block.authFailed (b : Block) : Block :=
  ((b.onDbg DbgSt.checkFailed).record pgDbg { code := 0x0101, sev := .corrected }).raise pgDbg 1

omit hcheck in
theorem Block.authFailed_dbg : b.authFailed.dbg = b.dbg.checkFailed := by
  rw [Block.authFailed, Block.raise_dbg, Block.record_dbg]
  rfl

omit hcheck in
theorem Block.authFailed_errQ : ∃ z : ErrRec, z.code = 0x0101 ∧ b.authFailed.errQ pgDbg = (b.errQ pgDbg).push z :=
  ⟨_, rfl, (Block.errQ_raise ..).trans (Block.errQ_record_same ..)⟩

theorem Block.authDone_fail (hbad : ¬(b.dbg.lockout = false ∧ n.map (fun m => Config.debugMac m b.fuses.uid) = some rs)) : b.authDone =
    b.authFailed.onIf (b.authFailed.dbg.lockout && !b.dbg.lockout) (fun z => z.record pgDbg { code := 0x0102, sev := .corrected }) := by
  rw [Block.authDone_eq hcheck]
  exact if_neg hbad

theorem Block.authDone_fail_dbg (hbad : ¬(b.dbg.lockout = false ∧ n.map (fun m => Config.debugMac m b.fuses.uid) = some rs)) :
    b.authDone.dbg = b.authFailed.dbg := by
  rw [Block.authDone_fail hcheck hbad, Block.onIf]
  split
  · exact Block.record_dbg ..
  · rfl

end

/-- Records are added at the end of a queue. -/
theorem ErrQ.push_recs_getElem? {q : ErrQ} (z : ErrRec) {k : Nat} (h : k < q.recs.length) : (q.push z).recs[k]? = q.recs[k]? := by
  rcases Nat.lt_or_ge q.recs.length 16 with hroom | hfull
  · rw [ErrQ.push_room z hroom]
    exact List.getElem?_append_left h
  · rw [ErrQ.push_full z hfull]

theorem ErrQ.push_recs_last {q : ErrQ} (z : ErrRec) (hroom : q.recs.length < 16) : (q.push z).recs[q.recs.length]? = some z := by
  rw [ErrQ.push_room z hroom]
  exact List.getElem?_concat_length

theorem Block.authDone_fail_record {n : Option (BitVec 256)} {rs : BitVec 384} (hcheck : b.dbg.checking = some (n, rs))
    (hbad : ¬(b.dbg.lockout = false ∧ n.map (fun m => Config.debugMac m b.fuses.uid) = some rs)) (hroom : (b.errQ pgDbg).recs.length < 16) :
    ((b.authDone.errQ pgDbg).recs[(b.errQ pgDbg).recs.length]?).map (·.code) = some 0x0101 := by
  obtain ⟨z, hz, hq⟩ := b.authFailed_errQ
  have hlast : (b.authFailed.errQ pgDbg).recs[(b.errQ pgDbg).recs.length]? = some z := by rw [hq, ErrQ.push_recs_last z hroom]
  have hin : (b.errQ pgDbg).recs.length < (b.authFailed.errQ pgDbg).recs.length := (List.getElem?_eq_some_iff.mp hlast).1
  have hkeeps : (b.authDone.errQ pgDbg).recs[(b.errQ pgDbg).recs.length]? = some z := by
    rw [Block.authDone_fail hcheck hbad, Block.onIf]
    split
    · rw [Block.errQ_record_same, ErrQ.push_recs_getElem? _ hin, hlast]
    · exact hlast
  rw [hkeeps, Option.map_some, hz]

end Sys2Proof.Machine

namespace Sys2Proof.Claims
open Sys2Proof.Machine

/-- Settles O58: a check ends in one of two ways, and every field of the port is given for each. -/
theorem debugAuthentication : Obligations.DebugAuthentication := by
  intro b n r hcheck
  refine ⟨?ends, fun hlock hgood => ?pass, fun hbad => ?fail, rfl, rfl, rfl⟩
  case ends =>
    by_cases hgood : b.dbg.lockout = false ∧ n.map (fun m => Config.debugMac m b.fuses.uid) = some r
    · rw [Block.authDone_pass hcheck hgood.1 hgood.2, Block.raise_dbg]
      rfl
    · rw [Block.authDone_fail_dbg hcheck hgood, Block.authFailed_dbg]
      rfl
  case pass =>
    rw [Block.authDone_pass hcheck hlock hgood, Block.raise_dbg, Block.errQ_raise]
    exact ⟨rfl, rfl, rfl⟩
  case fail =>
    have hbad' : ¬(b.dbg.lockout = false ∧ n.map (fun m => Config.debugMac m b.fuses.uid) = some r) := by
      rintro ⟨hlock, hgood⟩
      rcases hbad with h | h
      · rw [hlock] at h; cases h
      · exact h hgood
    rw [Block.authDone_fail_dbg hcheck hbad', Block.authFailed_dbg]
    exact ⟨rfl, rfl, by simp [DbgSt.checkFailed], fun hroom => Block.authDone_fail_record hcheck hbad' hroom⟩

theorem answers_readFrame {q : List Instr} {b b' : Block} {reg : BitVec 6} {tag : BitVec 3} (hon : b.hk.off = false)
    (h : b.readFrame reg.toNat tag (fun x => x.portRead reg.toNat) = b') : Answers (.llynReadFrame reg tag true) q b b' :=
  answers_aon hon rfl h

/-- Settles O26: each frame by what the port replies before it acts, or by what its register answers. -/
theorem debugFrameCommands : Obligations.DebugFrameCommands := by
  intro q b x reg tag v w nonce ok n r hon
  refine ⟨⟨?badRead, ?badWrite, ?resync⟩, fun hacts hf => ?readYes, fun hacts hf => ?readNo, fun hacts => ⟨?corrupt, fun hlast => ?again, fun hlast =>
    ⟨fun hw => ?writeYes, fun hw => ?writeNo⟩⟩, fun hcheck => ?hold, fun hcheck hcrc hreg => ?crc, fun hcheck hlevel =>
    ⟨fun hclosed => ?closedRead, fun hclosed => ?closedWrite⟩, fun hcheck hcrc => ?ctrl, fun hcheck hlast => ?status, fun hcheck => ⟨?pass, ?fail⟩⟩
  case badRead => exact answers_aon hon rfl rfl
  case badWrite => exact answers_aon hon rfl rfl
  case resync => exact answers_aon hon rfl rfl
  case readYes => exact answers_readFrame hon (Block.readFrame_accepted (Block.earlyReply_acts hacts) hf)
  case readNo => exact answers_readFrame hon (Block.readFrame_refused (Block.earlyReply_acts hacts) hf)
  case corrupt => exact answers_aon hon rfl (Block.writeFrame_corrupt (Block.earlyReply_acts hacts))
  case again => exact answers_aon hon rfl (Block.writeFrame_again (Block.earlyReply_acts hacts) hlast)
  case writeYes => exact answers_aon hon rfl (Block.writeFrame_accepted (Block.earlyReply_acts hacts) hlast hw)
  case writeNo => exact answers_aon hon rfl (Block.writeFrame_refused (Block.earlyReply_acts hacts) hlast hw)
  case hold =>
    exact ⟨answers_readFrame hon (Block.readFrame_early (Block.earlyReply_holds hcheck)),
      answers_aon hon rfl (Block.writeFrame_early (Block.earlyReply_holds hcheck))⟩
  case crc =>
    have hne : reg.toNat ≠ 1 := fun h => hreg (BitVec.eq_of_toNat_eq h)
    exact ⟨answers_readFrame hon (Block.readFrame_early (Block.earlyReply_crc hcheck hcrc hne)),
      answers_aon hon rfl (Block.writeFrame_early (Block.earlyReply_crc hcheck hcrc hne))⟩
  case closedRead => exact answers_readFrame hon (Block.readFrame_early (Block.earlyReply_closed hcheck hlevel hclosed))
  case closedWrite => exact answers_aon hon rfl (Block.writeFrame_early (Block.earlyReply_closed hcheck hlevel hclosed))
  case ctrl =>
    have hearly {r : Nat} {d : Option W64} (hopen : openReg r d = true) : b.earlyReply r d = none :=
      Block.earlyReply_acts ⟨hcheck, hcrc, .inr hopen⟩
    refine ⟨answers_aon hon rfl (Block.readFrame_accepted (hearly rfl) (Block.newNonce_eq nonce)), Block.portRead_challenge, fun hlast => ?_,
      fun hlast => ?_, fun hlevel hlast => ?_⟩
    · exact answers_aon hon rfl (Block.writeFrame_accepted (hearly rfl) hlast (Block.portWrite_response5.trans Block.putResponse_last))
    · exact answers_aon hon rfl (Block.writeFrame_accepted (hearly rfl) hlast Block.portWrite_relock)
    · exact answers_aon hon rfl (Block.writeFrame_accepted (Block.earlyReply_acts ⟨hcheck, hcrc, .inl hlevel⟩) hlast Block.portWrite_devReset)
  case status => exact answers_aon hon rfl (Block.writeFrame_accepted (Block.earlyReply_status hcheck) hlast rfl)
  case pass => exact fun hlock hgood => answers_aon hon rfl (Block.authDone_pass hcheck hlock hgood)
  case fail =>
    intro hbad hfails hlock
    refine answers_aon hon rfl ?_
    have hearly := DbgSt.checkFailed_early hfails
    have hlocks : (b.authFailed.dbg.lockout && !b.dbg.lockout) = false := by rw [Block.authFailed_dbg, hearly, Bool.and_not_self]
    rw [Block.authDone_fail hcheck (fun h => hbad h.2), hlocks, Block.onIf_false, Block.authFailed, Block.onDbg, hearly]
    rfl

end Sys2Proof.Claims
end

section
/-! What the debug port does to memory and cores, and the TAP (R734-R742, R745). -/
namespace Sys2Proof.Machine

variable {b : Block} {i : Nat}

/-! ### Memory (R734) -/

/-- The request of MEM_DATA: tenant tag 0, class C1, port 47. -/
def Block.memReq (b : Block) : BusReq := ⟨47, 1, 0, b.dbg.memAddr, if b.dbg.memCtl.getLsbD 0 then 8 else 4, 0, false⟩
/-- What an access of MEM_DATA comes to once the fabric has answered. -/
def memAnswer (r : Resp) (x : Nat) (y : Block) : PortRes :=
  if r = .ok then ((y.onDbg (fun d => { d with memAddr := d.nextAddr })).onDbg (fun d => { d with memData := BitVec.ofNat 64 x })).yes x
  else (false, 0, (y.onDbg (fun d => { d with memAddr := d.nextAddr })).onDbg (fun d => { d with accErr := true, resp := respCode r }))

/-- The reply to a read of MEM_DATA. -/
theorem memAnswer_read (r : Resp) (x : Nat) (y : Block) (tag : BitVec 3) :
    (memAnswer r x y).2.2.reply (if (memAnswer r x y).1 then llynAccept else llynRefuse) tag (memAnswer r x y).2.1 =
    if r = .ok then ((y.onDbg (fun d => { d with memAddr := d.nextAddr })).onDbg (fun d =>
      { d with memData := BitVec.ofNat 64 x })).reply 5 tag (BitVec.ofNat 64 x)
    else ((y.onDbg (fun d => { d with memAddr := d.nextAddr })).onDbg (fun d => { d with accErr := true, resp := respCode r })).reply 10 tag 0 := by
  unfold memAnswer
  by_cases h : r = .ok
  · rw [if_pos h, if_pos h]; rfl
  · rw [if_neg h, if_neg h]; rfl

/-- The reply to a write of MEM_DATA, remembered where it was accepted. -/
theorem memAnswer_write (r : Resp) (v : W64) (y : Block) (tag : BitVec 3) :
    ((memAnswer r v.toNat y).2.2.onIf (memAnswer r v.toNat y).1 (fun z => z.onDbg (fun d => { d with last := some (0x11, tag.toNat, v) }))).reply
      (if (memAnswer r v.toNat y).1 then llynAccept else llynRefuse) tag 0 =
    if r = .ok then Claims.wrote ((y.onDbg (fun d => { d with memAddr := d.nextAddr })).onDbg (fun d => { d with memData := v })) 0x11 tag v
    else ((y.onDbg (fun d => { d with memAddr := d.nextAddr })).onDbg (fun d => { d with accErr := true, resp := respCode r })).reply 10 tag 0 := by
  have hword : BitVec.ofNat 64 v.toNat = v := BitVec.ofNat_toNat 64 v
  unfold memAnswer
  by_cases h : r = .ok
  · rw [if_pos h, if_pos h, hword]; rfl
  · rw [if_neg h, if_neg h]; rfl

section
variable (hdark : b.dark = false) (hopen : b.rdF (pgDbg + 0x104) 3 3 = 1)
include hdark hopen

theorem Block.memAccess_read : b.memAccess false 0 =
    memAnswer (b.busRead b.memReq []).1 (b.busRead b.memReq []).2.1 (b.busRead b.memReq []).2.2 := by
  rw [Block.memAccess, if_neg (by rw [hopen]; decide)]
  simp only [hdark, Bool.false_eq_true, if_false]
  rfl

theorem Block.memAccess_write (v : W64) : b.memAccess true v =
    (let r := b.busWrite b.memReq [] (BitVec.ofNat 256 (2 ^ (if b.dbg.memCtl.getLsbD 0 then 8 else 4) - 1)) (v.setWidth 2048)
     memAnswer r.1 v.toNat r.2) := by
  rw [Block.memAccess, if_neg (by rw [hopen]; decide)]
  simp only [hdark, Bool.false_eq_true, if_false, if_true]
  rfl

end

/-! ### Cores (R735-R738, R742) -/

/-- The context on a core becomes the port's. -/
def Block.ownCtx (b : Block) (i : Nat) : Block :=
  match (b.core i).onCtx with
  | some k => b.modCtx k (fun x => { x with owned := true })
  | none => b

theorem Block.core_ownCtx (j : Nat) : (b.ownCtx i).core j = b.core j := by
  unfold Block.ownCtx
  split
  · exact Block.core_modCtx ..
  · rfl

section
variable (hsel : b.selCore = some i)
include hsel

theorem Block.coreCmd_halt (hmay : b.mayHalt i = true) (hruns : (b.core i).halted = none) (own : Bool) : b.coreCmd 1 own =
    (((b.onIf own (fun y => y.ownCtx i)).modCore i (fun c => { c with haltReq := some .request })).boundary i).yes 0 := by
  have hstill : ¬((b.onIf own (fun y => y.ownCtx i)).core i).halted.isSome = true := by
    cases own <;> simp [Block.core_ownCtx, hruns]
  simp only [Block.coreCmd, hsel]
  refine (if_neg (by decide)).trans ((if_neg (by simp [hmay])).trans ?_)
  exact congrArg (Block.yes · 0) (if_neg hstill)

theorem Block.coreCmd_step (hmay : b.mayHalt i = true) {z : HaltCause} (hhalted : (b.core i).halted = some z) :
    b.coreCmd 3 false = (b.unhalt i (some .step)).yes 0 := by
  simp only [Block.coreCmd, hsel]
  refine (if_neg (by decide)).trans ((if_neg (by simp [hmay])).trans ?_)
  exact congrArg (Block.yes · 0) (if_pos (by simp [hhalted]))

theorem Block.coreCmd_resume : b.coreCmd 2 false = (b.unhalt i none).yes 0 := by
  simp only [Block.coreCmd, hsel]
  exact (if_neg (by decide)).trans (if_neg (by simp))

theorem Block.coreRegWrite_halted {z : HaltCause} (hhalted : (b.core i).halted = some z) (v : W64) : b.coreRegWrite v =
    (if b.dbg.regSel.toNat < 256 then b.setCoreSlot i b.dbg.regSel.toNat v else b.sysWrite i (b.dbg.regSel.toNat - 256) v).yes 0 := by
  simp only [Block.coreRegWrite, hsel]
  exact if_neg (by simp [hhalted])

end

theorem Block.xtResume_eq (g : BitVec 8) : b.xtResume g =
    b.each b.coreList (fun y j => if (((y.core j).xt >>> 8) &&& g.setWidth 16) ≠ 0 then y.unhalt j none else y) :=
  congrArg (b.each b.coreList) (funext fun y => funext fun j => if_congr (by simp) rfl rfl)

/-! ### Breakpoints, watchpoints and owned contexts (R739, R741) -/

theorem Block.breakHit_due {k : Nat} (hlive : b.coreLive i = true) (hwfi : (b.core i).wfi = false) (hmay : b.mayHalt i = true)
    (hlates : (b.core i).lates = []) (hwatch : (b.core i).watch = none) (hbp : (b.core i).bpHit = some k) : b.breakHit i k = b.bpHalt i k :=
  if_pos (by simp [hlive, hwfi, hmay, hlates, hwatch, hbp])

theorem Block.watchAct_due {k : Nat} {a : W64} {w : Bool} (hlive : b.coreLive i = true) (hwatch : (b.core i).watch = some (k, a, w)) :
    b.watchAct i k a w = b.takeWatch i :=
  if_pos (by simp [hlive, hwatch])

theorem Block.ownedTrap_due {n m : Nat} (hctx : (b.core i).onCtx = some n) (hlive : b.coreLive i = true) (hmay : b.mayHalt i = true)
    (hsync : (b.core i).tcause.getLsbD 8 = false) (hcode : fld (b.core i).tcause 0 7 = m) (hlow : 9 ≤ m) (hhigh : m ≤ 11)
    (howned : ∃ x, b.ctx n = some x ∧ x.st = CtxSt.supervisor ∧ x.owned = true) :
    b.ownedTrap i = b.haltFire i .ownedTrap false 0 m := by
  obtain ⟨x, hx, hst, hown⟩ := howned
  simp only [Block.ownedTrap, hctx, hcode]
  exact if_pos (by rw [hlive, hmay, hsync]; simp [hlow, hhigh, hx, hst, hown])

/-! ### The TAP (R745) -/

theorem Block.tapIns_enabled (hen : b.dbg.jtagEn = true) (k len : Nat) (v : W64) :
    b.tapIns k len v = (b.onDbg (fun d => { d with tap := k })).send (.jtag len v) := if_pos hen

theorem Block.tapIns_held (hen : b.dbg.jtagEn = false) (k len : Nat) (v : W64) : b.tapIns k len v = b := if_neg (Bool.eq_false_iff.mp hen)

theorem Block.tapBoundary_enabled (hen : b.dbg.jtagEn = true) (k : Nat) : b.tapBoundary k =
    ({ b with freeCtr := b.freeCtr + 1 }.onDbg (fun d => { d with tap := k })).send (.jtag 0 (Config.freeValue b.freeCtr)) :=
  Block.tapIns_enabled (b := { b with freeCtr := b.freeCtr + 1 }) hen k 0 _

end Sys2Proof.Machine

namespace Sys2Proof.Claims
open Sys2Proof.Machine

variable {q : List Instr} {b x : Block} {tag : BitVec 3}

/-- The port is unlocked, with no check running and no frame to repeat. -/
abbrev portOpen (b : Block) : Prop := b.dbg.checking = none ∧ b.dbg.crcErr = false ∧ b.dbg.level = true

theorem earlyReply_open (h : portOpen b) (r : Nat) (d : Option W64) : b.earlyReply r d = none := by
  obtain ⟨hcheck, hcrc, hlevel⟩ := h
  exact Block.earlyReply_acts ⟨hcheck, hcrc, .inl hlevel⟩

/-- A write frame of an open port that its register takes. -/
theorem answers_wrote {c : Instr} {r : Nat} {v w : W64} (hon : b.hk.off = false) (h : portOpen b)
    (hmeans : exec c ⟨q, b⟩ = State.runAon ⟨q, b⟩ (fun y => y.writeFrame r tag v true)) (hlast : b.dbg.last ≠ some (r, tag.toNat, v))
    (hw : b.portWrite r v = (true, w, x)) : Answers c q b (wrote x r tag v) :=
  answers_aon hon hmeans (Block.writeFrame_accepted (earlyReply_open h r _) hlast hw)

/-- An event of a core that has the supply it needs. -/
theorem answers_onPowered {c : Instr} {core : BitVec 7} {f : Block → Block} (hpower : powered b core)
    (hmeans : exec c ⟨q, b⟩ = State.onCore ⟨q, b⟩ core f) (hf : f b = x) : Answers c q b x := by
  rw [Answers, hmeans, State.onCore]
  unfold powered at hpower
  split at hpower
  case isTrue hs => rw [if_pos hs, State.runAon_on _ _ hpower, hf]
  case isFalse hs => rw [if_neg hs, State.run_lit _ _ hpower, hf]

/-- Settles O27: each command by what the port's register answers, or by the case of its meaning that its conditions name. -/
theorem debugCoreCommands : Obligations.DebugCoreCommands := by
  intro q b tag v core k k1 write groups i n m z hon
  refine ⟨fun hcheck hcrc hlevel => ?port, fun hpower => ⟨?brk, ?watch⟩, ?owned, fun hen => ?tap, fun hen => ?held⟩
  case port =>
    have hport : portOpen b := ⟨hcheck, hcrc, hlevel⟩
    refine ⟨fun hdark hopen => ⟨?read, fun hlast => ?write⟩, fun hsel hmay => ⟨fun hruns => ⟨fun hlast => ?halt, fun hlast => ?own⟩, fun hhalted hlast => ?step⟩,
      fun hsel hhalted => ⟨fun hlast => ?resume, fun hlast => ?reg⟩, fun hlast => ?xt⟩
    case read =>
      have hread := Block.memAccess_read hdark hopen
      refine answers_aon hon rfl ((if_neg (by decide)).trans ?_)
      rw [Block.readFrame_answers (earlyReply_open hport ..), hread]
      exact memAnswer_read ..
    case write =>
      have hwrite : b.portWrite 0x11 v = _ := Block.memAccess_write hdark hopen v
      refine answers_aon hon rfl ((if_pos rfl).trans ?_)
      rw [Block.writeFrame_new (earlyReply_open hport ..) hlast, hwrite]
      exact memAnswer_write ..
    case halt => exact answers_wrote hon hport rfl hlast (Block.coreCmd_halt hsel hmay hruns false)
    case own => exact answers_wrote hon hport rfl hlast (Block.coreCmd_halt hsel hmay hruns true)
    case step => exact answers_wrote hon hport rfl hlast (Block.coreCmd_step hsel hmay hhalted)
    case resume => exact answers_wrote hon hport rfl hlast (Block.coreCmd_resume hsel)
    case reg => exact answers_wrote hon hport rfl hlast (Block.coreRegWrite_halted hsel hhalted v)
    case xt =>
      have hgroups : (groups.setWidth 64 : W64).setWidth 8 = groups := by simp
      have hw : b.portWrite 0x31 (groups.setWidth 64) = ((b.xtResume groups).yes 0) := by
        rw [← congrArg b.xtResume hgroups]; rfl
      rw [← Block.xtResume_eq]
      exact answers_wrote hon hport rfl hlast hw
  case brk =>
    intro hlive hwfi hmay hlates hwatch hbp
    exact answers_onPowered hpower rfl (Block.breakHit_due hlive hwfi hmay hlates hwatch hbp)
  case watch => exact fun hlive hwatch => answers_onPowered hpower rfl (Block.watchAct_due hlive hwatch)
  case owned =>
    exact fun hdark hctx hlive hmay hsync hcode hlow hhigh howned =>
      answers_run hdark rfl (Block.ownedTrap_due hctx hlive hmay hsync hcode hlow hhigh howned)
  case tap =>
    exact ⟨answers_aon hon rfl (Block.tapIns_enabled hen 1 1 0), answers_aon hon rfl (Block.tapIns_enabled hen 2 32 _),
      answers_aon hon rfl (Block.tapIns_enabled hen 5 1 0), answers_aon hon rfl (Block.tapIns_enabled hen 6 1 0),
      answers_aon hon rfl (Block.tapBoundary_enabled hen 3), answers_aon hon rfl (Block.tapBoundary_enabled hen 4)⟩
  case held =>
    exact ⟨answers_aon hon rfl (Block.tapIns_held hen 1 1 0), answers_aon hon rfl (Block.tapIns_held hen 2 32 _),
      answers_aon hon rfl (Block.tapIns_held hen 5 1 0), answers_aon hon rfl (Block.tapIns_held hen 6 1 0)⟩

end Sys2Proof.Claims
end
